-- ==== Sys2Proof/Word.lean ====
section
/-! DEFINITION. The word types of the module and their plainest arithmetic (R11, R19, R64). -/

namespace Sys2Proof

/-- One byte. -/
abbrev Byte := BitVec 8

/-- One register word (R11): 32 bits, bit 0 least significant. -/
abbrev Word := BitVec 32

/-- A tick number (R64): 32 bits, wrapping. -/
abbrev Tick := BitVec 32

/-- A fault, warning or event code (R22): 16 bits. -/
abbrev Code := BitVec 16

/-- Axis AXa, a = 0 to 63. -/
abbrev AxisId := Fin 64
/-- Doorway DWd, d = 0 to 15. -/
abbrev DoorId := Fin 16
/-- Knuckle port Ks, s = 0 to 31. -/
abbrev PortId := Fin 32
/-- Two-channel pair Pp, p = 0 to 31. -/
abbrev PairId := Fin 32
/-- Field channel Fc, c = 0 to 63. -/
abbrev ChanId := Fin 64
/-- Load switch Lc, c = 0 to 15. -/
abbrev LoadId := Fin 16
/-- Analogue input ANn, n = 0 to 3. -/
abbrev AnId := Fin 4
/-- CAN A is 0 and CAN B is 1. -/
abbrev BusId := Fin 2
/-- Keyway session index 0 to 7. -/
abbrev SessId := Fin 8

end Sys2Proof
end

