-- ==== Sys2Proof/Config.lean ====
section
/-! DEFINITION. What the spec leaves open and what rests on cryptography outside it: constants without a body, so
that no proof can see a value. -/

namespace Sys2Proof.Config

/-- A free value: what the machine holds where the spec says a value is undefined or states none. Applied to a
counter that the step advances, it is a fresh word each time. DESIGN CHOICE (log 2). -/
opaque freeValue : Nat → BitVec 32

/-- Whether an ECDSA P-256 signature (r, s) over a message is good under a public key (R23, R99, R467). The curve
arithmetic is the standard's, not the spec's. PRESUMED (log 26). -/
opaque ecdsaVerify (publicKey message : List Byte) (r s : Nat) : Bool

/-- The 64 signature bytes the device key gives for a message (R400, R468). PRESUMED (log 26). -/
opaque ecdsaSign (message : List Byte) : List Byte

/-- The 280 parity bytes of the BCH code of a log page, a code internal to the module (R397). DESIGN CHOICE (log 94). -/
opaque bchParity (page : List Byte) : List Byte

/-- The word of pages 256 to 511 or after that holds a word of the clamp report, which the map of the SRAM does not give (R431, R437). DESIGN
CHOICE (log 97). -/
opaque reportWord (k : Nat) : Nat

/-- What SECDED decoding of a word with three or more wrong bits answers (R434 to R436): the word's data. DEDUCED (log 59). -/
opaque secdedMiss (data : BitVec 64) (flips : List Nat) : BitVec 64

/-- Whether three or more wrong bits of a word are detected by SECDED, which the spec does not promise. DEDUCED (log 59). -/
opaque secdedSeen (flips : List Nat) : Bool

/-- The public key of a certificate, by its DER (R99, R462, R468). X.509 is the standard's, not the spec's. PRESUMED (log 26). -/
opaque certKey (der : List Byte) : List Byte

/-- Whether a DER is a CA certificate with a P-256 key, as an owner trust anchor must be (R462). PRESUMED (log 26). -/
opaque anchorOk (der : List Byte) : Bool

/-- What a certificate names, as R465 lists it; strings are ASCII. -/
structure CertContents where
  /-- Subject organizationalUnitName. -/
  unit : List Byte
  /-- Subject commonName. -/
  name : List Byte
  /-- Subject serialNumber. -/
  serial : List Byte
  /-- keyUsage digitalSignature. -/
  digitalSignature : Bool
  /-- notAfter. -/
  notAfter : List Byte
  deriving DecidableEq, Repr, Inhabited

/-- The contents of a certificate, by its DER (R465). PRESUMED (log 26). -/
opaque certContents (der : List Byte) : CertContents

/-- Whether a certificate is X.509 v3 and its chain ends at Duryn's device CA (R465). PRESUMED (log 26). -/
opaque deviceChainOk (der : List Byte) : Bool

/-- Duryn's intermediate CA certificate, which the module presents beside its own (R451). PRESUMED (log 26). -/
opaque intermediateCa : List Byte

/-- The 112 bytes in which a firmware version lays out the state of a unit in a copy frame, which the spec does not give
(R375). DESIGN CHOICE (log 79). -/
opaque stateLayout {α : Type} (x : α) : Vector Byte 112

/-- Duryn's firmware key, held in the boot ROM (R466). PRESUMED (log 26). -/
opaque firmwareKey : List Byte

end Sys2Proof.Config
end

