-- ==== Sys2Proof/Machine/Num.lean ====
section
/-! DEFINITION. Number helpers: rounding and saturation (R163), integer square roots, bit fields, little-endian
bytes (R21) and fixed-length vectors. -/

namespace Sys2Proof.Machine

/-- Nearest integer to `a / b`, ties away from zero (R163); `b` positive, and 0 answers 0. DEDUCED (log 36). -/
def rdiv (a b : Int) : Int :=
  if b ≤ 0 then 0
  else if 0 ≤ a then (2 * a + b) / (2 * b) else -((2 * (-a) + b) / (2 * b))

/-- Greatest integer not above `a / b`, `b` positive. -/
def fdiv (a b : Int) : Int := if b ≤ 0 then 0 else Int.fdiv a b

/-- Quotient toward zero, `b` positive. -/
def tdiv (a b : Int) : Int := if b ≤ 0 then 0 else Int.tdiv a b

/-- Saturation to a range (R163). -/
def sat (lo hi x : Int) : Int := if x < lo then lo else if hi < x then hi else x

/-- Saturation to a signed format of `n` bits. DEDUCED (log 36). -/
def satS (n : Nat) (x : Int) : Int := sat (-(2 ^ (n - 1))) (2 ^ (n - 1) - 1) x

/-- Saturation to an unsigned format of `n` bits. -/
def satU (n : Nat) (x : Int) : Int := sat 0 (2 ^ n - 1) x

/-- One bit of the integer square root, from the top. -/
def isqrtAux (n : Nat) : Nat → Nat → Nat
  | 0, r => r
  | k + 1, r =>
    let r' := r + 2 ^ k
    isqrtAux n k (if r' * r' ≤ n then r' else r)

/-- Integer square root (floor) of numbers below 2^192. -/
def isqrt (n : Nat) : Nat := isqrtAux n 96 0

/-- Square root of `num / den` rounded to the nearest integer. -/
def rsqrt (num den : Nat) : Nat :=
  if den = 0 then 0
  else
    -- nearest r: floor (sqrt (4 num / den)) gives 2 * sqrt; halve with the tie upward
    (isqrt (4 * num / den) + 1) / 2

/-- Sign of an integer, -1, 0 or 1. -/
def sgn (x : Int) : Int := if 0 < x then 1 else if x < 0 then -1 else 0

/-- Bit `n` of a word. -/
def bit (w : Word) (n : Nat) : Bool := w.getLsbD n

/-- Field [hi:lo] of a word as a number. -/
def fld (w : Word) (hi lo : Nat) : Nat := (w.toNat >>> lo) % 2 ^ (hi + 1 - lo)

/-- A flag placed at bit `n`. -/
def flag (b : Bool) (n : Nat) : Word := if b then BitVec.ofNat 32 (2 ^ n) else 0

/-- A number placed at bit `lo`, cut to `w` bits. -/
def put (x : Nat) (w lo : Nat) : Word := BitVec.ofNat 32 ((x % 2 ^ w) * 2 ^ lo)

/-- A signed number as a two's-complement word. -/
def wordOfInt (x : Int) : Word := BitVec.ofInt 32 x

/-- A number saturated to `w` bits. -/
def satN (x w : Nat) : Nat := if 2 ^ w ≤ x then 2 ^ w - 1 else x

/-- The low `n` bytes of a number, least significant first (R21). -/
def leBytes : Nat → Nat → List Byte
  | 0, _ => []
  | n + 1, x => BitVec.ofNat 8 (x % 256) :: leBytes n (x / 256)

/-- The number whose little-endian bytes are given (R21). -/
def leNat : List Byte → Nat
  | [] => 0
  | b :: bs => b.toNat + 256 * leNat bs

/-- The number whose big-endian bytes are given (standards that keep network order, R21). -/
def beNat (bs : List Byte) : Nat := leNat bs.reverse

/-- `n` bytes of a signed number, two's complement, least significant first. -/
def leBytesS (n : Nat) (x : Int) : List Byte := leBytes n (Int.emod x (2 ^ (8 * n))).toNat

/-- A number of `n` bytes read as signed. -/
def signedOf (n : Nat) (x : Nat) : Int := if 2 ^ (8 * n - 1) ≤ x then (x : Int) - 2 ^ (8 * n) else x

/-- `n` bytes of a list from an offset. -/
def slice (bs : List Byte) (off n : Nat) : List Byte := (bs.drop off).take n

/-- Little-endian field of `n` bytes at an offset. -/
def leAt (bs : List Byte) (off n : Nat) : Nat := leNat (slice bs off n)

/-- Tick difference `a - b` modulo 2^32 (R64). -/
def since (a b : Tick) : Nat := (a - b).toNat

/-- Whether tick `a` is at or past the deadline `d`, by the difference modulo 2^32 (R64). -/
def reached (a d : Tick) : Bool := decide ((a - d).toNat < 2 ^ 31)

/-- `n` ticks after `t`. -/
def after (t : Tick) (n : Nat) : Tick := t + BitVec.ofNat 32 n

/-- Ticks in a number of milliseconds: 20 ticks of 50 us each. -/
def msTicks (ms : Nat) : Nat := 20 * ms

/-- A vector read at any number, with a value outside the range. -/
def vget {α : Type} {n : Nat} (v : Vector α n) (i : Nat) (d : α) : α := v.toList.getD i d

/-- One element of a vector changed by a function. -/
def vmod {α : Type} {n : Nat} (v : Vector α n) (i : Fin n) (f : α → α) : Vector α n := v.set i (f (v[i]))

/-- Every element of a list changed by a function of its place. -/
def mapFrom {α β : Type} (f : Nat → α → β) : Nat → List α → List β
  | _, [] => []
  | k, a :: as => f k a :: mapFrom f (k + 1) as

theorem mapFrom_length {α β : Type} (f : Nat → α → β) (k : Nat) (l : List α) :
    (mapFrom f k l).length = l.length := by
  induction l generalizing k with
  | nil => rfl
  | cons a as ih => simp [mapFrom, ih]

/-- Every element of a vector changed by a function of its place. -/
def vmapIdx {α β : Type} {n : Nat} (f : Nat → α → β) (v : Vector α n) : Vector β n :=
  ⟨(mapFrom f 0 v.toList).toArray, by simp [mapFrom_length]⟩

/-- Every element of a vector changed by a function. -/
def vmap {α β : Type} {n : Nat} (f : α → β) (v : Vector α n) : Vector β n := vmapIdx (fun _ a => f a) v

/-- The numbers `k, k + 1, …` of a range, as elements of `Fin n` where they fit. -/
def finsFrom (n : Nat) : Nat → Nat → List (Fin n)
  | 0, _ => []
  | m + 1, k => if h : k < n then ⟨k, h⟩ :: finsFrom n m (k + 1) else finsFrom n m (k + 1)

/-- All places of a vector of length `n`, ascending. -/
def fins (n : Nat) : List (Fin n) := finsFrom n n 0

/-- An index read from a number, where it is in range. -/
def finOf (n : Nat) (k : Nat) : Option (Fin n) := if h : k < n then some ⟨k, h⟩ else none

/-- The number whose bit `i` is the i-th flag. -/
def bitsOf : List Bool → Nat → Nat
  | [], _ => 0
  | b :: bs, k => (if b then 2 ^ k else 0) + bitsOf bs (k + 1)

/-- A list of up to 64 flags, first flag in bit 0. -/
def packBools (bs : List Bool) : BitVec 64 := BitVec.ofNat 64 (bitsOf bs 0)

/-- A list of up to 32 flags as a word, first flag in bit 0. -/
def packWord (bs : List Bool) : Word := BitVec.ofNat 32 (bitsOf bs 0)

end Sys2Proof.Machine
end

