-- ==== Sys2Proof/Machine/Catalogue.lean ====
section
/-! DEFINITION. The catalogue of configuration fields (R97, R104): every field's ID, element, instances, range or
codes, default, restrictive end and whether hosts may write it at runtime, as the field tables of the chapters give
them (R147, R185, R186, R227, R253, R254, R283, R319, R343, R364, R394, R429, R446, R473). -/

namespace Sys2Proof.Machine

/-- How an item of a field is checked. -/
inductive Chk where
  /-- Every value is in range. -/
  | any
  /-- Lower and upper limit. -/
  | range (lo hi : Int)
  /-- An enumeration's defined codes (R109). -/
  | codes (cs : List Int)
  /-- `0` to `hi`, or the value that names none; any other value is set to it (R148, R258, R261, R319). -/
  | orNone (hi none : Int)
  /-- `0` to `hi`, or the value that names none; any other value is set to `hi`, the nearer limit (R105). DEDUCED (log 82). -/
  | orHigh (hi none : Int)
  /-- An input of R260. -/
  | doorIn
  /-- The egress input of R260: a pair or none. -/
  | egressIn
  /-- Reserved bits that are cleared with BAD_CODE (R483). -/
  | masked (resv : Nat)
  /-- Reserved bits and one subfield [hi:lo] with a range (R483). -/
  | sub (resv hi lo min max : Nat)
  /-- Any value but 0 (R227). -/
  | nonzero
  /-- NOM_TIMING of R347, checked as a whole. -/
  | nomTiming
  /-- DATA_TIMING of R347, checked as a whole. -/
  | dataTiming
  /-- A multicast address of R473, in network order. -/
  | groupIp
  deriving DecidableEq, Repr

/-- A field's default (R108). -/
inductive Dflt where
  /-- The same value for every item. -/
  | const (v : Int)
  /-- The item's own place in the field (AXIS_OF_CHANNEL 2s + c, DOOR_AXIS 4d + slot). -/
  | index
  deriving DecidableEq, Repr

/-- The restrictive end of a safety-section field (R106). -/
inductive Restr where
  /-- No safety-section field. -/
  | no
  /-- The lower limit. -/
  | low
  /-- The upper limit. -/
  | high
  deriving DecidableEq, Repr

/-- One row of the catalogue. -/
structure FieldDef where
  /-- Field ID: section × 0100h + index (R97). -/
  id : Nat
  /-- Bytes of one item. -/
  width : Nat
  /-- Items are signed. -/
  signed : Bool
  /-- Items of one element. -/
  items : Nat
  /-- Instances; 1 for a non-array field. -/
  inst : Nat
  /-- Check of one item. -/
  chk : Chk
  /-- Default. -/
  dflt : Dflt
  /-- Restrictive end. -/
  restr : Restr
  /-- Hosts may write the field at runtime (R114). -/
  runtime : Bool
  deriving DecidableEq, Repr

/-- Rows of the catalogue, part 0. -/
def catalogue0 : List FieldDef :=
  [⟨0x0110, 1, false, 1, 1, .codes [0, 1], .const (0), .no, false⟩,
   ⟨0x0111, 2, false, 1, 1, .range (100) 10000, .const (1000), .no, false⟩,
   ⟨0x0112, 1, false, 1, 1, .codes [0, 1], .const (1), .no, true⟩,
   ⟨0x0120, 4, false, 1, 1, .range (1000) 600000, .const (60000), .no, true⟩,
   ⟨0x0130, 2, false, 1, 1, .range (1) 256, .const (16), .no, true⟩,
   ⟨0x0201, 1, false, 1, 1, .any, .const (0), .no, false⟩,
   ⟨0x0210, 2, false, 1, 64, .range (80) 4000, .const (80), .low, false⟩,
   ⟨0x0211, 2, false, 1, 64, .range (80) 4000, .const (80), .low, false⟩,
   ⟨0x0212, 2, false, 1, 64, .range (0) 60000, .const (0), .low, false⟩,
   ⟨0x0213, 1, false, 1, 64, .range (1) 2, .const (1), .low, false⟩,
   ⟨0x0214, 4, false, 1, 64, .range (2000) 1000000, .const (1000000), .high, false⟩,
   ⟨0x0215, 4, false, 1, 64, .range (500000) 20000000, .const (20000000), .high, false⟩,
   ⟨0x0216, 2, false, 1, 64, .range (100) 4000, .const (100), .low, false⟩,
   ⟨0x0217, 2, false, 1, 64, .range (100) 4000, .const (100), .low, false⟩,
   ⟨0x0218, 2, false, 1, 64, .range (10) 2000, .const (10), .low, false⟩,
   ⟨0x0219, 2, false, 16, 64, .range (10) 2000, .const (10), .low, false⟩,
   ⟨0x021A, 4, true, 1, 64, .range (-10000000) 10000000, .const (-10000000), .low, false⟩,
   ⟨0x021B, 2, false, 1, 64, .range (0) 5000, .const (0), .low, false⟩,
   ⟨0x021C, 2, true, 32, 64, .range (-4000) 4000, .const (-4000), .low, false⟩,
   ⟨0x021D, 2, false, 1, 64, .range (20) 2000, .const (20), .low, false⟩,
   ⟨0x021E, 2, false, 1, 64, .range (0) 2000, .const (0), .low, false⟩,
   ⟨0x021F, 1, false, 1, 16, .range (5) 50, .const (5), .low, false⟩,
   ⟨0x0220, 2, false, 1, 64, .range (100) 65535, .const (65535), .high, false⟩,
   ⟨0x0221, 2, false, 1, 64, .range (10) 2000, .const (10), .low, false⟩,
   ⟨0x0222, 2, false, 1, 64, .range (0) 10000, .const (0), .low, false⟩,
   ⟨0x0223, 2, false, 1, 64, .range (50) 2000, .const (2000), .high, false⟩,
   ⟨0x0224, 2, false, 1, 64, .range (0) 2000, .const (0), .low, false⟩,
   ⟨0x0230, 2, false, 1, 1, .range (100) 5000, .const (100), .low, false⟩,
   ⟨0x0232, 1, false, 1, 32, .orNone 63 255, .const (255), .high, false⟩,
   ⟨0x0233, 1, false, 1, 32, .orNone 63 255, .const (255), .high, false⟩]

/-- Rows of the catalogue, part 1. -/
def catalogue1 : List FieldDef :=
  [⟨0x0234, 1, false, 1, 32, .codes [0, 1], .const (1), .high, false⟩,
   ⟨0x0235, 4, false, 1, 32, .range (1000) 1000000, .const (1000), .low, false⟩,
   ⟨0x0240, 1, false, 1, 1, .codes [0, 1, 2], .const (2), .high, false⟩,
   ⟨0x0241, 1, false, 3, 1, .orNone 31 255, .const (255), .high, false⟩,
   ⟨0x0248, 2, false, 1, 1, .orNone 511 65535, .const (65535), .high, false⟩,
   ⟨0x0249, 2, false, 1, 1, .range (0) 8191, .const (0), .low, false⟩,
   ⟨0x024A, 4, false, 1, 1, .any, .const (0), .low, false⟩,
   ⟨0x024B, 1, false, 1, 1, .range (10) 50, .const (10), .low, false⟩,
   ⟨0x024C, 2, false, 1, 1, .range (100) 1000, .const (100), .low, false⟩,
   ⟨0x024D, 2, false, 1, 1, .range (0) 60000, .const (0), .low, false⟩,
   ⟨0x024E, 1, false, 1, 1, .range (5) 50, .const (5), .low, false⟩,
   ⟨0x0301, 1, false, 1, 16, .codes [0, 1], .const (0), .no, false⟩,
   ⟨0x0302, 2, false, 1, 16, .range (0) 5000, .const (3000), .no, true⟩,
   ⟨0x0303, 2, false, 1, 16, .range (0) 3000, .const (2000), .no, true⟩,
   ⟨0x0304, 1, false, 4, 16, .orNone 63 255, .index, .no, false⟩,
   ⟨0x0305, 1, false, 1, 16, .codes [0, 1], .const (0), .no, false⟩,
   ⟨0x0306, 1, false, 1, 16, .doorIn, .const (255), .no, false⟩,
   ⟨0x0307, 1, false, 1, 16, .doorIn, .const (255), .no, false⟩,
   ⟨0x0308, 1, false, 1, 16, .doorIn, .const (255), .no, false⟩,
   ⟨0x0309, 1, false, 1, 16, .doorIn, .const (255), .no, false⟩,
   ⟨0x030A, 1, false, 1, 16, .egressIn, .const (255), .no, false⟩,
   ⟨0x030B, 1, false, 1, 16, .doorIn, .const (255), .no, false⟩,
   ⟨0x030C, 1, false, 1, 16, .doorIn, .const (255), .no, false⟩,
   ⟨0x030D, 1, false, 1, 16, .orNone 79 255, .const (255), .no, false⟩,
   ⟨0x030E, 1, false, 1, 16, .orNone 79 255, .const (255), .no, false⟩,
   ⟨0x030F, 1, false, 1, 16, .orNone 79 255, .const (255), .no, false⟩,
   ⟨0x0310, 4, false, 1, 16, .range (80000) 2000000, .const (600000), .no, false⟩,
   ⟨0x0311, 4, false, 1, 16, .range (80000) 2000000, .const (120000), .no, false⟩,
   ⟨0x0312, 4, true, 1, 16, .range (-10000000) 10000000, .const (300000), .no, false⟩,
   ⟨0x0313, 4, true, 1, 16, .range (-10000000) 10000000, .const (0), .no, false⟩]

/-- Rows of the catalogue, part 2. -/
def catalogue2 : List FieldDef :=
  [⟨0x0314, 4, true, 1, 16, .range (-10000000) 10000000, .const (10000), .no, false⟩,
   ⟨0x0315, 4, true, 1, 16, .range (-10000000) 10000000, .const (0), .no, false⟩,
   ⟨0x0320, 2, false, 1, 16, .range (0) 60000, .const (0), .no, true⟩,
   ⟨0x0321, 1, false, 1, 16, .range (0) 10, .const (3), .no, true⟩,
   ⟨0x0322, 2, false, 1, 16, .range (0) 10000, .const (1000), .no, true⟩,
   ⟨0x0323, 1, false, 1, 16, .codes [0, 1], .const (1), .no, true⟩,
   ⟨0x0324, 1, false, 1, 16, .codes [0, 1], .const (0), .no, false⟩,
   ⟨0x0325, 1, false, 1, 16, .codes [0, 1], .const (0), .no, false⟩,
   ⟨0x0326, 2, false, 1, 16, .range (100) 5000, .const (500), .no, true⟩,
   ⟨0x0327, 2, false, 1, 16, .range (100) 10000, .const (1000), .no, true⟩,
   ⟨0x0328, 2, false, 1, 16, .range (0) 2000, .const (300), .no, true⟩,
   ⟨0x0329, 4, false, 1, 16, .range (1000) 100000, .const (20000), .no, true⟩,
   ⟨0x032A, 1, false, 1, 16, .codes [0, 1], .const (0), .no, true⟩,
   ⟨0x0340, 1, false, 1, 2, .orHigh 63 255, .const (255), .no, false⟩,
   ⟨0x0341, 1, false, 1, 2, .orHigh 63 255, .const (255), .no, false⟩,
   ⟨0x0401, 1, false, 1, 64, .codes [0, 1, 2], .const (0), .no, false⟩,
   ⟨0x0402, 4, false, 1, 64, .range (256) 20971520, .const (1048576), .no, false⟩,
   ⟨0x0403, 1, false, 1, 64, .codes [0, 1], .const (0), .no, false⟩,
   ⟨0x0404, 4, true, 1, 64, .range (-10000000) 9999000, .const (-10000), .no, false⟩,
   ⟨0x0405, 4, true, 1, 64, .range (-9999000) 10000000, .const (1000000), .no, false⟩,
   ⟨0x0410, 4, false, 1, 64, .range (1000) 2000000, .const (100000), .no, true⟩,
   ⟨0x0411, 4, false, 1, 64, .range (0) 2000000, .const (50000), .no, true⟩,
   ⟨0x0412, 4, false, 1, 64, .range (0) 2000000, .const (0), .no, true⟩,
   ⟨0x0413, 4, false, 1, 64, .range (0) 2000000, .const (0), .no, true⟩,
   ⟨0x0414, 4, false, 1, 64, .range (1000) 20000000, .const (500000), .no, true⟩,
   ⟨0x0415, 4, false, 1, 64, .range (1000) 20000000, .const (500000), .no, true⟩,
   ⟨0x0416, 4, false, 1, 64, .range (1000) 20000000, .const (500000), .no, true⟩,
   ⟨0x0417, 4, false, 1, 64, .range (1000) 20000000, .const (500000), .no, true⟩,
   ⟨0x0418, 4, false, 1, 64, .range (100000) 50000000, .const (2000000), .no, true⟩,
   ⟨0x0420, 1, false, 1, 64, .codes [0, 1, 2, 3, 4], .const (1), .no, true⟩]

/-- Rows of the catalogue, part 3. -/
def catalogue3 : List FieldDef :=
  [⟨0x0421, 1, false, 1, 64, .codes [0, 1], .const (0), .no, true⟩,
   ⟨0x0422, 4, false, 1, 64, .range (1000) 200000, .const (20000), .no, true⟩,
   ⟨0x0423, 2, false, 1, 64, .range (10) 3990, .const (70), .no, true⟩,
   ⟨0x0424, 1, false, 1, 64, .range (10) 100, .const (50), .no, true⟩,
   ⟨0x0425, 4, false, 1, 64, .range (100) 20000, .const (2000), .no, true⟩,
   ⟨0x0426, 2, false, 1, 64, .range (10) 20000, .const (400), .no, true⟩,
   ⟨0x0427, 4, true, 1, 64, .range (-10000000) 10000000, .const (0), .no, true⟩,
   ⟨0x0428, 4, false, 1, 64, .range (0) 50000, .const (0), .no, true⟩,
   ⟨0x0429, 1, false, 1, 64, .orHigh 63 255, .const (255), .no, false⟩,
   ⟨0x042A, 1, false, 1, 64, .codes [0, 1], .const (1), .no, false⟩,
   ⟨0x042B, 1, false, 1, 64, .range (1) 64, .const (4), .no, true⟩,
   ⟨0x042C, 1, false, 1, 64, .range (1) 64, .const (6), .no, true⟩,
   ⟨0x042D, 2, false, 1, 64, .range (20) 20000, .const (2000), .no, true⟩,
   ⟨0x042E, 4, false, 1, 64, .range (1000) 2000000, .const (800000), .no, true⟩,
   ⟨0x042F, 2, false, 1, 64, .range (100) 60000, .const (10000), .no, true⟩,
   ⟨0x0430, 1, false, 1, 64, .orHigh 63 255, .const (255), .no, false⟩,
   ⟨0x0431, 1, false, 1, 64, .orHigh 63 255, .const (255), .no, false⟩,
   ⟨0x0432, 1, false, 1, 64, .masked 0xFC, .const (3), .no, false⟩,
   ⟨0x0434, 1, false, 1, 64, .codes [0, 1, 2], .const (0), .no, false⟩,
   ⟨0x0435, 1, false, 1, 64, .range (0) 63, .const (0), .no, false⟩,
   ⟨0x0436, 4, true, 1, 64, .nonzero, .const (1048576), .no, false⟩,
   ⟨0x0437, 1, false, 1, 64, .range (1) 4, .const (1), .no, false⟩,
   ⟨0x0438, 4, true, 4, 64, .range (-134217728) 134217728, .const (16777216), .no, true⟩,
   ⟨0x0439, 4, true, 1, 64, .range (-10000000) 9999998, .const (0), .no, true⟩,
   ⟨0x043A, 4, true, 1, 64, .range (-9999999) 9999999, .const (1), .no, true⟩,
   ⟨0x043B, 4, true, 1, 64, .range (-9999998) 10000000, .const (2), .no, true⟩,
   ⟨0x0440, 1, false, 1, 64, .codes [1, 2, 4, 8], .const (4), .no, true⟩,
   ⟨0x0441, 2, false, 1, 64, .range (50) 5000, .const (1000), .no, true⟩,
   ⟨0x0442, 1, false, 1, 64, .range (0) 1, .const (0), .no, true⟩,
   ⟨0x0443, 4, true, 1, 64, .range (-10000000) 9997450, .const (0), .no, false⟩]

/-- Rows of the catalogue, part 4. -/
def catalogue4 : List FieldDef :=
  [⟨0x0444, 4, true, 1, 64, .range (-9997450) 10000000, .const (1000000), .no, false⟩,
   ⟨0x0445, 2, true, 256, 64, .any, .const (0), .no, true⟩,
   ⟨0x0446, 2, true, 256, 64, .any, .const (0), .no, true⟩,
   ⟨0x0447, 1, false, 1, 64, .range (0) 1, .const (0), .no, true⟩,
   ⟨0x0448, 2, false, 1, 64, .range (0) 500, .const (20), .no, true⟩,
   ⟨0x0449, 4, false, 1, 64, .range (10000) 1000000, .const (50000), .no, true⟩,
   ⟨0x0450, 4, false, 1, 64, .sub 0x80000000 30 0 0 2147483647, .const (41943040), .no, true⟩,
   ⟨0x0451, 4, false, 1, 64, .range (0) 1000000, .const (50000), .no, true⟩,
   ⟨0x0452, 4, false, 1, 64, .sub 0xFFFF0000 15 0 0 20000, .const (2000), .no, true⟩,
   ⟨0x0453, 4, false, 1, 64, .sub 0xFFFF0000 15 0 0 20000, .const (2000), .no, true⟩,
   ⟨0x0454, 4, false, 1, 64, .any, .const (0), .no, true⟩,
   ⟨0x0455, 4, false, 1, 64, .any, .const (0), .no, true⟩,
   ⟨0x0456, 4, false, 1, 64, .any, .const (0), .no, true⟩,
   ⟨0x0457, 4, false, 1, 64, .sub 0xFFFE0000 15 0 0 50000, .const (0), .no, true⟩,
   ⟨0x0458, 4, false, 1, 64, .any, .const (0), .no, true⟩,
   ⟨0x0459, 4, false, 1, 64, .any, .const (0), .no, true⟩,
   ⟨0x045A, 4, false, 1, 64, .any, .const (0), .no, true⟩,
   ⟨0x045B, 4, false, 1, 64, .sub 0xFFFE0000 15 0 0 50000, .const (0), .no, true⟩,
   ⟨0x045C, 4, false, 1, 64, .any, .const (0), .no, true⟩,
   ⟨0x045D, 4, false, 1, 64, .any, .const (0), .no, true⟩,
   ⟨0x045E, 4, false, 1, 64, .any, .const (0), .no, true⟩,
   ⟨0x045F, 4, false, 1, 64, .sub 0xFFFE0000 15 0 0 50000, .const (0), .no, true⟩,
   ⟨0x0460, 4, false, 1, 64, .sub 0x80000000 30 0 0 2147483647, .const (41943040), .no, true⟩,
   ⟨0x0461, 4, false, 1, 64, .range (0) 1000000, .const (50000), .no, true⟩,
   ⟨0x0462, 4, false, 1, 64, .sub 0xFFFF0000 15 0 0 20000, .const (2000), .no, true⟩,
   ⟨0x0463, 4, false, 1, 64, .sub 0xFFFF0000 15 0 0 20000, .const (2000), .no, true⟩,
   ⟨0x0464, 4, false, 1, 64, .any, .const (0), .no, true⟩,
   ⟨0x0465, 4, false, 1, 64, .any, .const (0), .no, true⟩,
   ⟨0x0466, 4, false, 1, 64, .any, .const (0), .no, true⟩,
   ⟨0x0467, 4, false, 1, 64, .sub 0xFFFE0000 15 0 0 50000, .const (0), .no, true⟩]

/-- Rows of the catalogue, part 5. -/
def catalogue5 : List FieldDef :=
  [⟨0x0468, 4, false, 1, 64, .any, .const (0), .no, true⟩,
   ⟨0x0469, 4, false, 1, 64, .any, .const (0), .no, true⟩,
   ⟨0x046A, 4, false, 1, 64, .any, .const (0), .no, true⟩,
   ⟨0x046B, 4, false, 1, 64, .sub 0xFFFE0000 15 0 0 50000, .const (0), .no, true⟩,
   ⟨0x046C, 4, false, 1, 64, .any, .const (0), .no, true⟩,
   ⟨0x046D, 4, false, 1, 64, .any, .const (0), .no, true⟩,
   ⟨0x046E, 4, false, 1, 64, .any, .const (0), .no, true⟩,
   ⟨0x046F, 4, false, 1, 64, .sub 0xFFFE0000 15 0 0 50000, .const (0), .no, true⟩,
   ⟨0x0470, 4, false, 1, 64, .range (4096) 13107200, .const (3276800), .no, false⟩,
   ⟨0x0471, 1, false, 1, 64, .codes [0, 1], .const (1), .no, false⟩,
   ⟨0x0472, 1, false, 1, 64, .codes [0, 1], .const (0), .no, false⟩,
   ⟨0x0473, 1, false, 1, 64, .range (0) 63, .const (0), .no, false⟩,
   ⟨0x0474, 2, false, 1, 64, .range (1) 256, .const (16), .no, true⟩,
   ⟨0x0475, 2, false, 1, 64, .range (10) 10000, .const (1000), .no, true⟩,
   ⟨0x0476, 2, false, 1, 64, .any, .const (32768), .no, true⟩,
   ⟨0x0477, 4, false, 1, 64, .range (0) 2000000, .const (40000), .no, true⟩,
   ⟨0x0478, 1, false, 1, 64, .range (0) 100, .const (40), .no, true⟩,
   ⟨0x0479, 2, false, 1, 64, .range (0) 10000, .const (500), .no, true⟩,
   ⟨0x047A, 4, false, 1, 64, .range (10) 100000, .const (500), .no, true⟩,
   ⟨0x047B, 2, false, 1, 64, .range (1) 2000, .const (40), .no, true⟩,
   ⟨0x0480, 4, false, 1, 16, .sub 0xFFFE00C0 15 8 0 127, .const (0), .no, true⟩,
   ⟨0x0481, 4, false, 1, 1, .range (1) 32768, .const (32768), .no, true⟩,
   ⟨0x0482, 2, false, 1, 1, .range (0) 32767, .const (4096), .no, true⟩,
   ⟨0x0483, 4, false, 1, 1, .masked 0xFFFFFC0C, .const (0), .no, true⟩,
   ⟨0x0484, 4, false, 1, 1, .masked 0xFF000000, .const (65535), .no, true⟩,
   ⟨0x0485, 4, true, 1, 1, .any, .const (0), .no, true⟩,
   ⟨0x0486, 1, false, 1, 1, .range (0) 1, .const (0), .no, false⟩,
   ⟨0x0490, 1, false, 1, 64, .codes [0, 1, 2], .const (0), .no, false⟩,
   ⟨0x0491, 1, false, 1, 64, .range (0) 63, .const (0), .no, false⟩,
   ⟨0x0492, 4, true, 1, 64, .range (-2147483648) 2147483646, .const (0), .no, true⟩]

/-- Rows of the catalogue, part 6. -/
def catalogue6 : List FieldDef :=
  [⟨0x0493, 4, true, 1, 64, .any, .const (65535), .no, true⟩,
   ⟨0x0494, 4, true, 1, 64, .range (-10000000) 10000000, .const (0), .no, true⟩,
   ⟨0x0495, 4, true, 1, 64, .range (-10000000) 10000000, .const (320000), .no, true⟩,
   ⟨0x0496, 4, false, 1, 64, .range (0) 50000, .const (2000), .no, true⟩,
   ⟨0x04A0, 1, true, 1, 64, .range (-50) 50, .const (0), .no, false⟩,
   ⟨0x04A1, 1, false, 1, 64, .codes [0, 1], .const (0), .no, false⟩,
   ⟨0x04A2, 2, false, 1, 64, .range (0) 500, .const (50), .no, false⟩,
   ⟨0x04A3, 2, false, 1, 64, .range (0) 200, .const (10), .no, false⟩,
   ⟨0x04A4, 2, false, 1, 64, .range (0) 1000, .const (100), .no, false⟩,
   ⟨0x0501, 1, false, 1, 32, .codes [0, 1], .const (0), .no, false⟩,
   ⟨0x0502, 4, false, 1, 32, .any, .const (0), .no, false⟩,
   ⟨0x0503, 4, false, 1, 32, .any, .const (4294967295), .no, false⟩,
   ⟨0x0504, 1, false, 1, 32, .codes [0, 1], .const (1), .no, false⟩,
   ⟨0x0506, 1, false, 1, 64, .orNone 63 255, .index, .no, false⟩,
   ⟨0x0508, 12, false, 1, 256, .any, .const (0), .no, false⟩,
   ⟨0x0601, 1, false, 1, 64, .codes [0, 1, 2, 3, 4], .const (0), .no, false⟩,
   ⟨0x0602, 1, false, 1, 64, .codes [1, 2, 4, 8, 16, 20], .const (4), .no, true⟩,
   ⟨0x0603, 1, false, 1, 64, .codes [0, 1], .const (0), .no, false⟩,
   ⟨0x0604, 2, false, 1, 64, .range (10) 10000, .const (100), .no, true⟩,
   ⟨0x0610, 1, false, 1, 4, .codes [0, 1, 2], .const (0), .no, false⟩,
   ⟨0x0620, 2, false, 1, 16, .range (10) 300, .const (300), .no, true⟩,
   ⟨0x0621, 1, false, 1, 16, .range (1) 50, .const (5), .no, true⟩,
   ⟨0x0622, 2, false, 1, 16, .range (0) 500, .const (20), .no, true⟩,
   ⟨0x0623, 2, false, 1, 16, .range (1) 1000, .const (100), .no, true⟩,
   ⟨0x0624, 2, false, 1, 16, .range (100) 60000, .const (1000), .no, true⟩,
   ⟨0x0625, 1, false, 1, 16, .range (0) 15, .const (3), .no, true⟩,
   ⟨0x0626, 1, false, 1, 16, .codes [0, 1], .const (0), .no, false⟩,
   ⟨0x0701, 1, false, 1, 2, .codes [0, 1, 2], .const (0), .no, false⟩,
   ⟨0x0702, 4, false, 1, 2, .nomTiming, .const (252657153), .no, false⟩,
   ⟨0x0703, 4, false, 1, 2, .dataTiming, .const (67374337), .no, false⟩]

/-- Rows of the catalogue, part 7. -/
def catalogue7 : List FieldDef :=
  [⟨0x0704, 1, false, 1, 2, .codes [0, 1], .const (1), .no, false⟩,
   ⟨0x0705, 1, false, 1, 2, .range (0) 127, .const (0), .no, false⟩,
   ⟨0x0706, 1, false, 1, 2, .codes [0, 1], .const (1), .no, false⟩,
   ⟨0x0707, 8, false, 1, 16, .masked 0xE000000020000000, .const (0), .no, false⟩,
   ⟨0x0801, 1, false, 1, 1, .codes [0, 1], .const (0), .no, false⟩,
   ⟨0x0802, 1, false, 1, 1, .range (8) 30, .const (16), .no, false⟩,
   ⟨0x0803, 4, false, 1, 1, .any, .const (10), .no, false⟩,
   ⟨0x0804, 4, false, 1, 1, .any, .const (0), .no, false⟩,
   ⟨0x0805, 2, false, 1, 1, .sub 0x8000 11 0 0 4094, .const (0), .no, false⟩,
   ⟨0x0806, 2, false, 1, 1, .range (1024) 65535, .const (6432), .no, false⟩,
   ⟨0x0807, 2, false, 1, 1, .range (0) 3600, .const (60), .no, false⟩,
   ⟨0x0808, 1, false, 1, 1, .range (0) 32, .const (5), .no, false⟩,
   ⟨0x0809, 1, false, 1, 1, .codes [0, 1], .const (1), .no, false⟩,
   ⟨0x080A, 4, false, 1, 1, .groupIp, .const (18890991), .no, false⟩,
   ⟨0x080B, 2, false, 1, 1, .range (1024) 65535, .const (6433), .no, false⟩,
   ⟨0x080C, 2, false, 1, 1, .any, .const (0), .no, false⟩,
   ⟨0x0810, 32, false, 1, 32, .any, .const (0), .no, false⟩]

/-- The catalogue of R104 in ascending ID order. -/
def catalogue : List FieldDef :=
  catalogue0 ++ catalogue1 ++ catalogue2 ++ catalogue3 ++ catalogue4 ++ catalogue5 ++ catalogue6 ++ catalogue7

/-- Row `f` of the catalogue. -/
def fieldDef (f : Nat) : FieldDef := catalogue.getD f ⟨0, 1, false, 1, 1, .any, .const 0, .no, false⟩

/-- Default of item `k` of a field, counting items across elements. -/
def FieldDef.dfl (d : FieldDef) (k : Nat) : Int :=
  match d.dflt with
  | .const v => v
  | .index => (k : Int)

/-- An array field names its elements by instance (R110). -/
def FieldDef.isArray (d : FieldDef) : Bool := decide (1 < d.inst)

/-- Section of a field (R97). -/
def FieldDef.sec (d : FieldDef) : Nat := d.id / 256

/-! Places of the fields in the catalogue. -/

namespace F

/-- Field 0110h. -/
abbrev hingeMode : Nat := 0
/-- Field 0111h. -/
abbrev pairWaitMs : Nat := 1
/-- Field 0112h. -/
abbrev portYield : Nat := 2
/-- Field 0120h. -/
abbrev logSealMs : Nat := 3
/-- Field 0130h. -/
abbrev scrubPeriodS : Nat := 4
/-- Field 0201h. -/
abbrev wardKey : Nat := 5
/-- Field 0210h. -/
abbrev obstThreshold : Nat := 6
/-- Field 0211h. -/
abbrev sealThreshold : Nat := 7
/-- Field 0212h. -/
abbrev sealZone : Nat := 8
/-- Field 0213h. -/
abbrev obstConfirm : Nat := 9
/-- Field 0214h. -/
abbrev reverseDist : Nat := 10
/-- Field 0215h. -/
abbrev revDecel : Nat := 11
/-- Field 0216h. -/
abbrev closeForceLim : Nat := 12
/-- Field 0217h. -/
abbrev openForceLim : Nat := 13
/-- Field 0218h. -/
abbrev keLimit : Nat := 14
/-- Field 0219h. -/
abbrev speedTable : Nat := 15
/-- Field 021Ah. -/
abbrev closedNom : Nat := 16
/-- Field 021Bh. -/
abbrev closedDriftMax : Nat := 17
/-- Field 021Ch. -/
abbrev sigInit : Nat := 18
/-- Field 021Dh. -/
abbrev sigBand : Nat := 19
/-- Field 021Eh. -/
abbrev sigDriftMax : Nat := 20
/-- Field 021Fh. -/
abbrev finalGapLimit : Nat := 21
/-- Field 0220h. -/
abbrev forceConst : Nat := 22
/-- Field 0221h. -/
abbrev refMass : Nat := 23
/-- Field 0222h. -/
abbrev viscFriction : Nat := 24
/-- Field 0223h. -/
abbrev obsCorner : Nat := 25
/-- Field 0224h. -/
abbrev tableLimit : Nat := 26
/-- Field 0230h. -/
abbrev boltTestPeriodMs : Nat := 27
/-- Field 0232h. -/
abbrev pairChA : Nat := 28
/-- Field 0233h. -/
abbrev pairChB : Nat := 29
/-- Field 0234h. -/
abbrev pairMode : Nat := 30
/-- Field 0235h. -/
abbrev pairDiscUs : Nat := 31
/-- Field 0240h. -/
abbrev releaseSrc : Nat := 32
/-- Field 0241h. -/
abbrev releasePair : Nat := 33
/-- Field 0248h. -/
abbrev safeRxSrc : Nat := 34
/-- Field 0249h. -/
abbrev safeCanBase : Nat := 35
/-- Field 024Ah. -/
abbrev safeConnId : Nat := 36
/-- Field 024Bh. -/
abbrev safeTxPeriodMs : Nat := 37
/-- Field 024Ch. -/
abbrev safeRxTimeoutMs : Nat := 38
/-- Field 024Dh. -/
abbrev safeSingleMaxMs : Nat := 39
/-- Field 024Eh. -/
abbrev safeMaxDelayMs : Nat := 40
/-- Field 0301h. -/
abbrev doorUsed : Nat := 41
/-- Field 0302h. -/
abbrev warningMs : Nat := 42
/-- Field 0303h. -/
abbrev announceHoldMaxMs : Nat := 43
/-- Field 0304h. -/
abbrev doorAxis : Nat := 44
/-- Field 0305h. -/
abbrev doorSide : Nat := 45
/-- Field 0306h. -/
abbrev closedInput : Nat := 46
/-- Field 0307h. -/
abbrev lockedInput : Nat := 47
/-- Field 0308h. -/
abbrev isolatedInput : Nat := 48
/-- Field 0309h. -/
abbrev isoLockedInput : Nat := 49
/-- Field 030Ah. -/
abbrev egressPair : Nat := 50
/-- Field 030Bh. -/
abbrev buttonIn : Nat := 51
/-- Field 030Ch. -/
abbrev buttonOut : Nat := 52
/-- Field 030Dh. -/
abbrev lampOut : Nat := 53
/-- Field 030Eh. -/
abbrev buzzerOut : Nat := 54
/-- Field 030Fh. -/
abbrev heaterOut : Nat := 55
/-- Field 0310h. -/
abbrev leafOpen : Nat := 56
/-- Field 0311h. -/
abbrev proveDist : Nat := 57
/-- Field 0312h. -/
abbrev stepOutPos : Nat := 58
/-- Field 0313h. -/
abbrev stepInPos : Nat := 59
/-- Field 0314h. -/
abbrev lockLockedPos : Nat := 60
/-- Field 0315h. -/
abbrev lockUnlockedPos : Nat := 61
/-- Field 0320h. -/
abbrev autoCloseMs : Nat := 62
/-- Field 0321h. -/
abbrev reopenAttempts : Nat := 63
/-- Field 0322h. -/
abbrev reopenPauseMs : Nat := 64
/-- Field 0323h. -/
abbrev buttonEnable : Nat := 65
/-- Field 0324h. -/
abbrev egressMoving : Nat := 66
/-- Field 0325h. -/
abbrev egressAction : Nat := 67
/-- Field 0326h. -/
abbrev lockConfirmMs : Nat := 68
/-- Field 0327h. -/
abbrev stepRetryMs : Nat := 69
/-- Field 0328h. -/
abbrev chimeMs : Nat := 70
/-- Field 0329h. -/
abbrev jogSpeedMax : Nat := 71
/-- Field 032Ah. -/
abbrev heaterOn : Nat := 72
/-- Field 0340h. -/
abbrev sideOpenInput : Nat := 73
/-- Field 0341h. -/
abbrev sideCloseInput : Nat := 74
/-- Field 0401h. -/
abbrev axisKind : Nat := 75
/-- Field 0402h. -/
abbrev posScale : Nat := 76
/-- Field 0403h. -/
abbrev posSign : Nat := 77
/-- Field 0404h. -/
abbrev softMin : Nat := 78
/-- Field 0405h. -/
abbrev softMax : Nat := 79
/-- Field 0410h. -/
abbrev vMax : Nat := 80
/-- Field 0411h. -/
abbrev vBreak : Nat := 81
/-- Field 0412h. -/
abbrev vStart : Nat := 82
/-- Field 0413h. -/
abbrev vStop : Nat := 83
/-- Field 0414h. -/
abbrev a1 : Nat := 84
/-- Field 0415h. -/
abbrev a2 : Nat := 85
/-- Field 0416h. -/
abbrev d2 : Nat := 86
/-- Field 0417h. -/
abbrev d1 : Nat := 87
/-- Field 0418h. -/
abbrev qstopDecel : Nat := 88
/-- Field 0420h. -/
abbrev homeMethod : Nat := 89
/-- Field 0421h. -/
abbrev homeDir : Nat := 90
/-- Field 0422h. -/
abbrev homeSpeed : Nat := 91
/-- Field 0423h. -/
abbrev homeForce : Nat := 92
/-- Field 0424h. -/
abbrev homeCurrent : Nat := 93
/-- Field 0425h. -/
abbrev homeStallV : Nat := 94
/-- Field 0426h. -/
abbrev homeStallTicks : Nat := 95
/-- Field 0427h. -/
abbrev homePos : Nat := 96
/-- Field 0428h. -/
abbrev homeBackoff : Nat := 97
/-- Field 0429h. -/
abbrev homeInput : Nat := 98
/-- Field 042Ah. -/
abbrev homeInputLevel : Nat := 99
/-- Field 042Bh. -/
abbrev homeDebounce : Nat := 100
/-- Field 042Ch. -/
abbrev homeChatterEdges : Nat := 101
/-- Field 042Dh. -/
abbrev homeChatterWindow : Nat := 102
/-- Field 042Eh. -/
abbrev homeMaxTravel : Nat := 103
/-- Field 042Fh. -/
abbrev homeTimeout : Nat := 104
/-- Field 0430h. -/
abbrev limitNegInput : Nat := 105
/-- Field 0431h. -/
abbrev limitPosInput : Nat := 106
/-- Field 0432h. -/
abbrev limitLevel : Nat := 107
/-- Field 0434h. -/
abbrev gearSource : Nat := 108
/-- Field 0435h. -/
abbrev gearMaster : Nat := 109
/-- Field 0436h. -/
abbrev gearCntScale : Nat := 110
/-- Field 0437h. -/
abbrev gearSegments : Nat := 111
/-- Field 0438h. -/
abbrev gearRatio : Nat := 112
/-- Field 0439h. -/
abbrev gearM1 : Nat := 113
/-- Field 043Ah. -/
abbrev gearM2 : Nat := 114
/-- Field 043Bh. -/
abbrev gearM3 : Nat := 115
/-- Field 0440h. -/
abbrev posDiv : Nat := 116
/-- Field 0441h. -/
abbrev velFc : Nat := 117
/-- Field 0442h. -/
abbrev bankAtStart : Nat := 118
/-- Field 0443h. -/
abbrev tblX0 : Nat := 119
/-- Field 0444h. -/
abbrev tblX1 : Nat := 120
/-- Field 0445h. -/
abbrev frictionTable : Nat := 121
/-- Field 0446h. -/
abbrev coggingTable : Nat := 122
/-- Field 0447h. -/
abbrev learnEnable : Nat := 123
/-- Field 0448h. -/
abbrev learnStep : Nat := 124
/-- Field 0449h. -/
abbrev learnVmin : Nat := 125
/-- Field 0450h. -/
abbrev bank0KpPos : Nat := 126
/-- Field 0451h. -/
abbrev bank0VCorrMax : Nat := 127
/-- Field 0452h. -/
abbrev bank0DriveMax : Nat := 128
/-- Field 0453h. -/
abbrev bank0BrakeMax : Nat := 129
/-- Field 0454h. -/
abbrev bank0KpV : Nat := 130
/-- Field 0455h. -/
abbrev bank0KiV : Nat := 131
/-- Field 0456h. -/
abbrev bank0KdV : Nat := 132
/-- Field 0457h. -/
abbrev bank0TfV : Nat := 133
/-- Field 0458h. -/
abbrev bank0KpF : Nat := 134
/-- Field 0459h. -/
abbrev bank0KiF : Nat := 135
/-- Field 045Ah. -/
abbrev bank0KdF : Nat := 136
/-- Field 045Bh. -/
abbrev bank0TfF : Nat := 137
/-- Field 045Ch. -/
abbrev bank0KpE : Nat := 138
/-- Field 045Dh. -/
abbrev bank0KiE : Nat := 139
/-- Field 045Eh. -/
abbrev bank0KdE : Nat := 140
/-- Field 045Fh. -/
abbrev bank0TfE : Nat := 141
/-- Field 0460h. -/
abbrev bank1KpPos : Nat := 142
/-- Field 0461h. -/
abbrev bank1VCorrMax : Nat := 143
/-- Field 0462h. -/
abbrev bank1DriveMax : Nat := 144
/-- Field 0463h. -/
abbrev bank1BrakeMax : Nat := 145
/-- Field 0464h. -/
abbrev bank1KpV : Nat := 146
/-- Field 0465h. -/
abbrev bank1KiV : Nat := 147
/-- Field 0466h. -/
abbrev bank1KdV : Nat := 148
/-- Field 0467h. -/
abbrev bank1TfV : Nat := 149
/-- Field 0468h. -/
abbrev bank1KpF : Nat := 150
/-- Field 0469h. -/
abbrev bank1KiF : Nat := 151
/-- Field 046Ah. -/
abbrev bank1KdF : Nat := 152
/-- Field 046Bh. -/
abbrev bank1TfF : Nat := 153
/-- Field 046Ch. -/
abbrev bank1KpE : Nat := 154
/-- Field 046Dh. -/
abbrev bank1KiE : Nat := 155
/-- Field 046Eh. -/
abbrev bank1KdE : Nat := 156
/-- Field 046Fh. -/
abbrev bank1TfE : Nat := 157
/-- Field 0470h. -/
abbrev fullstepUm : Nat := 158
/-- Field 0471h. -/
abbrev stepEncoder : Nat := 159
/-- Field 0472h. -/
abbrev stepSource : Nat := 160
/-- Field 0473h. -/
abbrev stepPulseCh : Nat := 161
/-- Field 0474h. -/
abbrev stepPulseMicro : Nat := 162
/-- Field 0475h. -/
abbrev runCurrent : Nat := 163
/-- Field 0476h. -/
abbrev quietDuty : Nat := 164
/-- Field 0477h. -/
abbrev stepModeV : Nat := 165
/-- Field 0478h. -/
abbrev holdFraction : Nat := 166
/-- Field 0479h. -/
abbrev holdDelay : Nat := 167
/-- Field 047Ah. -/
abbrev stallWindow : Nat := 168
/-- Field 047Bh. -/
abbrev stallTicks : Nat := 169
/-- Field 0480h. -/
abbrev traceCh : Nat := 170
/-- Field 0481h. -/
abbrev traceDepth : Nat := 171
/-- Field 0482h. -/
abbrev tracePre : Nat := 172
/-- Field 0483h. -/
abbrev traceTrig : Nat := 173
/-- Field 0484h. -/
abbrev traceTrigCode : Nat := 174
/-- Field 0485h. -/
abbrev traceTrigLevel : Nat := 175
/-- Field 0486h. -/
abbrev traceArmAtStart : Nat := 176
/-- Field 0490h. -/
abbrev followSource : Nat := 177
/-- Field 0491h. -/
abbrev followInput : Nat := 178
/-- Field 0492h. -/
abbrev followInLo : Nat := 179
/-- Field 0493h. -/
abbrev followInHi : Nat := 180
/-- Field 0494h. -/
abbrev followXLo : Nat := 181
/-- Field 0495h. -/
abbrev followXHi : Nat := 182
/-- Field 0496h. -/
abbrev followDeadband : Nat := 183
/-- Field 04A0h. -/
abbrev closedTc : Nat := 184
/-- Field 04A1h. -/
abbrev closedTSrc : Nat := 185
/-- Field 04A2h. -/
abbrev closedStep : Nat := 186
/-- Field 04A3h. -/
abbrev sigStep : Nat := 187
/-- Field 04A4h. -/
abbrev closeSettle : Nat := 188
/-- Field 0501h. -/
abbrev portMode : Nat := 189
/-- Field 0502h. -/
abbrev stageType : Nat := 190
/-- Field 0503h. -/
abbrev stageTypeMask : Nat := 191
/-- Field 0504h. -/
abbrev witness : Nat := 192
/-- Field 0506h. -/
abbrev axisOfChannel : Nat := 193
/-- Field 0508h. -/
abbrev stageParam : Nat := 194
/-- Field 0601h. -/
abbrev fcMode : Nat := 195
/-- Field 0602h. -/
abbrev senseDiv : Nat := 196
/-- Field 0603h. -/
abbrev fcPaired : Nat := 197
/-- Field 0604h. -/
abbrev freqGateMs : Nat := 198
/-- Field 0610h. -/
abbrev anMode : Nat := 199
/-- Field 0620h. -/
abbrev lsLimit : Nat := 200
/-- Field 0621h. -/
abbrev lsSlew : Nat := 201
/-- Field 0622h. -/
abbrev lsInrushMs : Nat := 202
/-- Field 0623h. -/
abbrev lsOvldMs : Nat := 203
/-- Field 0624h. -/
abbrev lsRetryMs : Nat := 204
/-- Field 0625h. -/
abbrev lsRetryMax : Nat := 205
/-- Field 0626h. -/
abbrev lsPaired : Nat := 206
/-- Field 0701h. -/
abbrev canMode : Nat := 207
/-- Field 0702h. -/
abbrev nomTiming : Nat := 208
/-- Field 0703h. -/
abbrev dataTiming : Nat := 209
/-- Field 0704h. -/
abbrev tdcEnable : Nat := 210
/-- Field 0705h. -/
abbrev tdcOffset : Nat := 211
/-- Field 0706h. -/
abbrev txOrder : Nat := 212
/-- Field 0707h. -/
abbrev rxFilter : Nat := 213
/-- Field 0801h. -/
abbrev ipMode : Nat := 214
/-- Field 0802h. -/
abbrev prefixLen : Nat := 215
/-- Field 0803h. -/
abbrev ipBase : Nat := 216
/-- Field 0804h. -/
abbrev gateway : Nat := 217
/-- Field 0805h. -/
abbrev vlan : Nat := 218
/-- Field 0806h. -/
abbrev keywayPort : Nat := 219
/-- Field 0807h. -/
abbrev sessionIdleS : Nat := 220
/-- Field 0808h. -/
abbrev authFailLimit : Nat := 221
/-- Field 0809h. -/
abbrev censusEnable : Nat := 222
/-- Field 080Ah. -/
abbrev censusGroup : Nat := 223
/-- Field 080Bh. -/
abbrev censusPort : Nat := 224
/-- Field 080Ch. -/
abbrev censusClass : Nat := 225
/-- Field 0810h. -/
abbrev revoked : Nat := 226

end F

end Sys2Proof.Machine
end

