-- ==== Sys2Proof/Machine/Hash.lean ====
section
/-! DEFINITION. The checks and digests the module computes: the CRC-32 of images and links, the CRC-16 and CRC-32C
forms named by the chapters, and SHA-256 (R121; the standard of the same name, R23). -/

namespace Sys2Proof.Machine

/-- `n` shifts of a reflected CRC register. -/
def crcShift (poly : Nat) : Nat → Nat → Nat
  | 0, c => c
  | n + 1, c => crcShift poly n (if c % 2 = 1 then Nat.xor (c / 2) poly else c / 2)

/-- A reflected CRC over bytes, from a register value. -/
def crcRefl (poly : Nat) : List Byte → Nat → Nat
  | [], c => c
  | b :: bs, c => crcRefl poly bs (crcShift poly 8 (Nat.xor c b.toNat))

/-- CRC-32 of IEEE 802.3: polynomial 04C1_1DB7h reflected, initial and final FFFF_FFFFh. -/
def crc32 (bs : List Byte) : Word :=
  BitVec.ofNat 32 (Nat.xor (crcRefl 0xEDB88320 bs 0xFFFFFFFF) 0xFFFFFFFF)

/-- CRC-32C from an initial value of the register (R308): final XOR FFFF_FFFFh. -/
def crc32cFrom (init : Word) (bs : List Byte) : Word :=
  BitVec.ofNat 32 (Nat.xor (crcRefl 0x82F63B78 bs init.toNat) 0xFFFFFFFF)

/-- CRC-32C: polynomial 1EDC_6F41h reflected, initial and final FFFF_FFFFh. PRESUMED (log 26). -/
def crc32c (bs : List Byte) : Word :=
  BitVec.ofNat 32 (Nat.xor (crcRefl 0x82F63B78 bs 0xFFFFFFFF) 0xFFFFFFFF)

/-- `n` shifts of a CRC-16 register, most significant bit first. -/
def crc16Shift : Nat → Nat → Nat
  | 0, c => c
  | n + 1, c => crc16Shift n (if 32768 ≤ c then Nat.xor (c * 2 % 65536) 0x1021 else c * 2)

/-- The CRC-16 of bulk blocks (R144): polynomial 1021h, initial FFFFh, no reflection, no final XOR. -/
def crc16 (bs : List Byte) : Nat := bs.foldl (fun c b => crc16Shift 8 (Nat.xor c (b.toNat * 256))) 0xFFFF

/-- Word `k` of a table of `n` words of 32 bits that stands in one number, the first word at its top. -/
def tableWord (n table k : Nat) : Word := BitVec.ofNat 32 (table >>> (32 * (n - 1 - k)))

/-- The 64 round constants of SHA-256 in one number. -/
def shaTable : Nat :=
  0x428a2f9871374491b5c0fbcfe9b5dba53956c25b59f111f1923f82a4ab1c5ed5d807aa9812835b01243185be550c7dc372be5d7480deb1fe9bdc06a7c19bf174e49b69c1efbe47860fc19dc6240ca1cc2de92c6f4a7484aa5cb0a9dc76f988da983e5152a831c66db00327c8bf597fc7c6e00bf3d5a7914706ca63511429296727b70a852e1b21384d2c6dfc53380d13650a7354766a0abb81c2c92e92722c85a2bfe8a1a81a664bc24b8b70c76c51a3d192e819d6990624f40e3585106aa07019a4c1161e376c082748774c34b0bcb5391c0cb34ed8aa4a5b9cca4f682e6ff3748f82ee78a5636f84c878148cc7020890befffaa4506cebbef9a3f7c67178f2

/-- The starting registers of SHA-256 in one number. -/
def shaStart : Nat := 0x6a09e667bb67ae853c6ef372a54ff53a510e527f9b05688c1f83d9ab5be0cd19

/-- Three views of a word, added without carry. -/
def mix3 (view : Word → Nat → Word) (x : Word) (i j : Nat) (last : Word) : Word := view x i ^^^ view x j ^^^ last

/-- The sixteen schedule words of a round move on by one. -/
def shaSlide (w : List Word) : List Word :=
  let at' := fun k => w.getD k 0
  let low := mix3 BitVec.rotateRight (at' 1) 7 18 (at' 1 >>> 3)
  let high := mix3 BitVec.rotateRight (at' 14) 17 19 (at' 14 >>> 10)
  w.drop 1 ++ [at' 0 + at' 9 + low + high]

/-- One round on the eight registers, `x` being its constant and its schedule word together. -/
def shaRound (r : Vector Word 8) (x : Word) : Vector Word 8 :=
  let pick := fun (s y n : Word) => (s &&& y) ||| (~~~s &&& n)
  let most := fun (x y z : Word) => (x &&& y) ||| (z &&& (x ||| y))
  let t := r[7] + x + pick r[4] r[5] r[6] + mix3 BitVec.rotateRight r[4] 6 11 (r[4].rotateRight 25)
  let u := most r[0] r[1] r[2] + mix3 BitVec.rotateRight r[0] 2 13 (r[0].rotateRight 22)
  ⟨#[t + u, r[0], r[1], r[2], r[3] + t, r[4], r[5], r[6]], rfl⟩

/-- The last `n` of the 64 rounds. -/
def shaLast : Nat → List Word → Vector Word 8 → Vector Word 8
  | 0, _, r => r
  | n + 1, w, r => shaLast n (shaSlide w) (shaRound r (tableWord 64 shaTable (63 - n) + w.headD 0))

/-- One block of 64 bytes into the registers. -/
def shaBlock (r : Vector Word 8) (bs : List Byte) : Vector Word 8 :=
  let words := (List.range 16).map fun k => BitVec.ofNat 32 (beNat ((bs.drop (4 * k)).take 4))
  Vector.zipWith (· + ·) r (shaLast 64 words r)

/-- Blocks of 64 bytes, `n` of them. -/
def shaBlocks : Nat → List Byte → Vector Word 8 → Vector Word 8
  | 0, _, r => r
  | n + 1, bs, r => shaBlocks n (bs.drop 64) (shaBlock r (bs.take 64))

/-- SHA-256 of a byte string, 32 bytes in digest order. PRESUMED: the standard's own definition (FIPS 180-4); the
spec names the standard and does not repeat it. PRESUMED (log 26). -/
def sha256 (bs : List Byte) : List Byte :=
  let n := bs.length
  let pad := (119 - n % 64) % 64
  let msg := bs ++ ((0x80 : Byte) :: List.replicate pad 0) ++ (leBytes 8 (8 * n)).reverse
  let r := shaBlocks (msg.length / 64) msg (Vector.ofFn fun k => tableWord 8 shaStart k.val)
  r.toList.flatMap fun w => (leBytes 4 w.toNat).reverse

end Sys2Proof.Machine
end

