-- ==== Sys2Proof/Machine/Image.lean ====
section
/-! DEFINITION. The Uliny image (R94 to R113, R147, R483): header and structure checks, range checks and clamping
with the clamp report, and the bittings of R120 to R122. -/

namespace Sys2Proof.Machine

/-- One STAGE_PARAM element (0508h) that the image supplies. -/
structure StageParam where
  /-- Element number. -/
  elem : Nat
  /-- Port. -/
  port : Nat
  /-- Parameter index of the stage. -/
  index : Nat
  /-- Value, 64 bits. -/
  value : BitVec 64
  deriving DecidableEq, Repr

/-- The effective configuration: the values in use (R104, R123). -/
structure Cfg where
  /-- One list of items per catalogue row; a field with no list is at its default. -/
  vals : Array (Array Int)
  /-- The STAGE_PARAM elements present (R148). -/
  params : List StageParam
  /-- The REVOKED elements present: element number and SHA-256 digest. -/
  revoked : List (Nat × List Byte)
  deriving DecidableEq, Repr

/-- The configuration with every field at its default. -/
def Cfg.reset : Cfg := ⟨#[], [], []⟩

/-- Item `k` of field `f`, counting items across elements. -/
def Cfg.v (c : Cfg) (f k : Nat) : Int :=
  match (c.vals.getD f #[])[k]? with
  | some x => x
  | none => (fieldDef f).dfl k

/-- Item `k` of field `f` as a natural number. -/
def Cfg.n (c : Cfg) (f k : Nat) : Nat := (c.v f k).toNat

/-- Element `i` of a field as its list of items. -/
def Cfg.elem (c : Cfg) (f i : Nat) : List Int :=
  let m := (fieldDef f).items
  (List.range m).map fun j => c.v f (i * m + j)

/-- The items of a field, all at default. -/
def defaultItems (d : FieldDef) : Array Int := ((List.range (d.inst * d.items)).map d.dfl).toArray

/-- An array of arrays long enough to hold place `f`. -/
def padTo : Nat → Array (Array Int) → Array (Array Int)
  | 0, a => a
  | n + 1, a => padTo n (a.push #[])

/-- Items of an array set from place `k` on. -/
def putItems : Nat → List Int → Array Int → Array Int
  | _, [], a => a
  | k, x :: xs, a => putItems (k + 1) xs (a.setIfInBounds k x)

/-- Items of field `f` set from item `k` on. -/
def Cfg.setItems (c : Cfg) (f k : Nat) (xs : List Int) : Cfg :=
  let vs := padTo (f + 1 - c.vals.size) c.vals
  let it := vs.getD f #[]
  let it := if it.size = 0 then defaultItems (fieldDef f) else it
  { c with vals := (vs.setIfInBounds f #[]).setIfInBounds f (putItems k xs it) }

/-- Item `k` of field `f` set. -/
def Cfg.set (c : Cfg) (f k : Nat) (x : Int) : Cfg := c.setItems f k [x]

/-- Element `i` of a field set to its items. -/
def Cfg.setElem (c : Cfg) (f i : Nat) (xs : List Int) : Cfg := c.setItems f (i * (fieldDef f).items) xs

/-- Reason codes of R112. -/
inductive Reason where
  /-- 01h. -/
  | clampLow
  /-- 02h. -/
  | clampHigh
  /-- 03h. -/
  | clampRestrict
  /-- 04h. -/
  | partner
  /-- 05h. -/
  | dflt
  /-- 06h. -/
  | unknown
  /-- 07h. -/
  | badLength
  /-- 08h. -/
  | extra
  /-- 09h. -/
  | badCode
  deriving DecidableEq, Repr

/-- The number of a reason (R112). -/
def Reason.code : Reason → Nat
  | .clampLow => 1
  | .clampHigh => 2
  | .clampRestrict => 3
  | .partner => 4
  | .dflt => 5
  | .unknown => 6
  | .badLength => 7
  | .extra => 8
  | .badCode => 9

/-- One entry of the clamp report (R110). -/
structure ClampEntry where
  /-- Field ID. -/
  field : Nat
  /-- Instance, or FFFFh. -/
  element : Nat
  /-- VALUE_READ. -/
  read : Word
  /-- VALUE_USED. -/
  used : Word
  /-- REASON. -/
  reason : Reason
  deriving DecidableEq, Repr

/-- The clamp report: entries stored, at most 1024, and the count of all (R113). -/
structure ClampReport where
  /-- Stored entries, newest first. -/
  rev : List ClampEntry
  /-- Entries produced. -/
  total : Nat
  deriving DecidableEq, Repr

/-- An empty report. -/
def ClampReport.reset : ClampReport := ⟨[], 0⟩

/-- One entry appended (R113). -/
def ClampReport.add (r : ClampReport) (e : ClampEntry) : ClampReport :=
  ⟨if r.total < 1024 then e :: r.rev else r.rev, r.total + 1⟩

/-- Bytes of an element, little-endian (R98, R120). -/
def elemBytes (d : FieldDef) (xs : List Int) : List Byte := xs.flatMap fun x => leBytesS d.width x

/-- An element as a report or register word: sign-extended, or its first four bytes (R110). -/
def elemWord (d : FieldDef) (xs : List Int) : Word :=
  if d.items = 1 then wordOfInt (xs.getD 0 0)
  else BitVec.ofNat 32 (leNat ((elemBytes d xs).take 4))

/-- Items of one element read from its bytes. -/
def readItems (d : FieldDef) : Nat → List Byte → List Int
  | 0, _ => []
  | n + 1, bs =>
    let x := leNat (bs.take d.width)
    (if d.signed then signedOf d.width x else (x : Int)) :: readItems d n (bs.drop d.width)

/-- Bit time in CAN clock cycles of a NOM_TIMING value (R347). -/
def nomCycles (v : Nat) : Nat := (v % 256 + 1) * (1 + (v / 256 % 256 + 1) + (v / 65536 % 128 + 1))

/-- Bit time in CAN clock cycles of a DATA_TIMING value (R347). -/
def dataCycles (v : Nat) : Nat := (v % 32 + 1) * (1 + (v / 256 % 32 + 1) + (v / 65536 % 16 + 1))

/-- Whether a NOM_TIMING value is valid (R347). -/
def nomValid (v : Nat) : Bool :=
  let brp := v % 256 + 1
  let t1 := v / 256 % 256 + 1
  let t2 := v / 65536 % 128 + 1
  let sjw := v / 16777216 % 128 + 1
  (Nat.land v 0x80800000 == 0) && decide (brp ≤ 32) && decide (2 ≤ t1) && decide (2 ≤ t2) && decide (sjw ≤ t2) &&
    decide (80 ≤ brp * (1 + t1 + t2))

/-- Whether a DATA_TIMING value is valid (R347). -/
def dataValid (v : Nat) : Bool :=
  let brp := v % 32 + 1
  let t1 := v / 256 % 32 + 1
  let t2 := v / 65536 % 16 + 1
  let sjw := v / 16777216 % 16 + 1
  (Nat.land v 0xF0F0E0E0 == 0) && decide (sjw ≤ t2) && decide (5 ≤ 1 + t1 + t2) && decide (1 + t1 + t2 ≤ 49) &&
    decide (16 ≤ brp * (1 + t1 + t2))

/-- Reserved bits of an item and their clearing (R483). -/
def clearReserved (c : Chk) (x : Int) : Int :=
  match c with
  | .masked r => (Nat.xor (Nat.lor x.toNat r) r : Nat)
  | .sub r _ _ _ _ => (Nat.xor (Nat.lor x.toNat r) r : Nat)
  | _ => x

/-- An item out of its range: the limit it is set to, with the reason outside the safety section (R105), or the
restrictive end (R106). -/
def clampRange (restr : Restr) (lo hi x : Int) : Option (Int × Reason) :=
  if lo ≤ x ∧ x ≤ hi then none
  else match restr with
    | .low => some (lo, .clampRestrict)
    | .high => some (hi, .clampRestrict)
    | .no => if x < lo then some (lo, .clampLow) else some (hi, .clampHigh)

/-- The range or code check of one item (R105, R106, R109, R148, R258, R260, R261, R319, R347, R483). -/
def checkItem (d : FieldDef) (k : Nat) (x : Int) : Option (Int × Reason) :=
  match d.chk with
  | .any => none
  | .masked _ => none
  | .range lo hi => clampRange d.restr lo hi x
  | .codes cs => if x ∈ cs then none else some (d.dfl k, .badCode)
  | .orNone hi nn =>
    if (0 ≤ x ∧ x ≤ hi) ∨ x = nn then none
    else some (nn, if d.restr = .no then .clampHigh else .clampRestrict)
  | .orHigh hi nn => if (0 ≤ x ∧ x ≤ hi) ∨ x = nn then none else some (hi, .clampHigh)
  | .doorIn =>
    if x ≤ 0x3F ∨ (0x80 ≤ x ∧ x ≤ 0x9F) ∨ x = 0xFF then none else some (0xFF, .badCode)
  | .egressIn => if (0x80 ≤ x ∧ x ≤ 0x9F) ∨ x = 0xFF then none else some (0xFF, .badCode)
  | .sub _ hi lo mn mx =>
    let n := x.toNat
    let f := n / 2 ^ lo % 2 ^ (hi + 1 - lo)
    let f' := if f < mn then mn else if mx < f then mx else f
    if f' = f then none
    else some (((n - f * 2 ^ lo + f' * 2 ^ lo : Nat) : Int), if f < mn then .clampLow else .clampHigh)
  | .nonzero => if x = 0 then some (d.dfl k, .badCode) else none
  | .nomTiming => if nomValid x.toNat then none else some (d.dfl k, .badCode)
  | .dataTiming => if dataValid x.toNat then none else some (d.dfl k, .badCode)
  | .groupIp =>
    let o := x.toNat % 256
    if o < 224 then some (224, .clampLow)
    else if 239 < o then some (0xFFFFFFEF, .clampHigh) else none

/-- Actions on the items of one element in ascending order, each with the element's items after it and its reason (R110): `f` says
what becomes of item j among the items as they then are. -/
def itemActions (f : Nat → List Int → Option (Int × Reason)) (xs : List Int) : List (List Int × Reason) :=
  ((List.range xs.length).foldl (fun (t : List (List Int × Reason) × List Int) j =>
    match f j t.2 with
    | none => t
    | some (y, why) => (t.1 ++ [(t.2.set j y, why)], t.2.set j y)) ([], xs)).1

/-- The range or code checks of the items of one element (R105, R106, R109); its first item's default has index `k`. -/
def checkItems (d : FieldDef) (k : Nat) : List Int → List (List Int × Reason) :=
  itemActions fun j ys => checkItem d (k + j) (ys.getD j 0)

/-- The items an element ends with after its actions. -/
def lastItems (xs : List Int) (acts : List (List Int × Reason)) : List Int :=
  acts.foldl (fun _ a => a.1) xs

/-- A partner bound: the higher field, the lower field, whether the higher must be at least (else at most) the
lower, and the distance (R107). -/
def partners : List (Nat × Nat × Bool × Int) :=
  [(F.sealThreshold, F.obstThreshold, true, 0), (F.proveDist, F.leafOpen, false, 0),
   (F.softMax, F.softMin, true, 1000), (F.vBreak, F.vMax, false, 0), (F.vStart, F.vBreak, false, 0),
   (F.vStop, F.vBreak, false, 0), (F.homeForce, F.obstThreshold, false, -10), (F.gearM2, F.gearM1, true, 1),
   (F.gearM3, F.gearM2, true, 1), (F.tblX1, F.tblX0, true, 2550), (F.tracePre, F.traceDepth, false, -1),
   (F.followInHi, F.followInLo, true, 1)]

/-- A field held by its partners' bounds. `skip` names partners that are not to be looked at (R117). `runtime`
looks at partners of a higher ID too (R115). -/
def partnerBound (c : Cfg) (runtime : Bool) (skip : Nat → Bool) (f i : Nat) (x : Int) : Int :=
  partners.foldl (fun x p =>
    if p.1 = f then
      let b := c.v p.2.1 i + p.2.2.2
      if p.2.2.1 then (if x < b then b else x) else (if b < x then b else x)
    else if runtime && p.2.1 == f && !skip p.1 then
      let b := c.v p.1 i - p.2.2.2
      if p.2.2.1 then (if b < x then b else x) else (if x < b then b else x)
    else x) x

/-- Whether a channel is named by a two-channel pair (R319, R321). -/
def Cfg.pairNamed (c : Cfg) (ch : Nat) : Bool :=
  (List.range 32).any fun j => c.n F.pairChA j == ch || c.n F.pairChB j == ch

/-- An axis keeps its first name only: FFh for one already named by a lower element (R258). -/
def dropSeen (seen : List Int) (j : Nat) (ys : List Int) : Option (Int × Reason) :=
  let y := ys.getD j 255
  if y ≠ 255 ∧ (y ∈ seen ∨ y ∈ ys.take j) then some (255, .partner) else none

/-- Numbers of the pairs that an EGRESS_PAIR may not name (R304). -/
def egressForbidden (c : Cfg) : List Int :=
  (c.elem F.releasePair 0).map (· + 0x80) ++
    (List.range 16).flatMap fun d =>
      [c.v F.closedInput d, c.v F.lockedInput d, c.v F.isolatedInput d, c.v F.isoLockedInput d]

/-- Host bits of an address in network order, cleared beyond a prefix (R473). -/
def clearHostBits (len : Nat) (x : Nat) : Nat :=
  let be := beNat (leBytes 4 x)
  let be := be / 2 ^ (32 - len) * 2 ^ (32 - len)
  leNat (leBytes 4 be).reverse

/-- The partner rules that need more than one bound (R148, R181, R227, R258, R304, R319, R321, R348, R349, R473). -/
def partnerSpecial (c : Cfg) (f i : Nat) (xs : List Int) : List (List Int × Reason) :=
  let x := xs.getD 0 0
  let one := fun (p : Bool) (y : Int) (why : Reason) => if p then [([y], why)] else []
  let lower := (List.range i).map fun j => c.v f j
  if f = F.axisOfChannel ∨ f = F.pairChA then
    one (decide (x ≠ 255 ∧ x ∈ lower)) 255 .partner
  else if f = F.pairChB then
    one (decide (x ≠ 255 ∧ (x ∈ lower ∨ x ∈ (List.range 32).map fun j => c.v F.pairChA j))) 255 .partner
  else if f = F.doorAxis then itemActions (dropSeen ((List.range i).flatMap fun j => c.elem f j)) xs
  else if f = F.egressPair then one (decide (x ≠ 255 ∧ x ∈ egressForbidden c)) 255 .partner
  else if f = F.frictionTable ∨ f = F.coggingTable then
    let lim := c.v F.tableLimit i
    let ys := xs.map (sat (-lim) lim)
    if ys = xs then [] else [(ys, .partner)]
  else if f = F.fcMode then
    if x ≠ 0 ∧ c.pairNamed i then [([0], .partner)]
    else if (x = 3 ∨ x = 4) ∧ i % 2 = 1 then [([0], .badCode)]
    else one (decide (x ≠ 0 ∧ i % 2 = 1 ∧ (c.v f (i - 1) = 3 ∨ c.v f (i - 1) = 4))) 0 .partner
  else if f = F.followInput then one (decide (c.v F.followSource i = 1 ∧ 3 < x)) 0 .partner
  else if f = F.dataTiming then one (decide (nomCycles (c.n F.nomTiming i) < dataCycles x.toNat)) ((fieldDef f).dfl i) .partner
  else if f = F.tdcEnable then one (decide (dataCycles (c.n F.dataTiming i) < 80 ∧ x ≠ 1)) 1 .partner
  else if f = F.prefixLen then one (decide (c.v F.ipMode 0 = 1 ∧ 21 < x)) 21 .partner
  else if f = F.ipBase then
    let y : Int := clearHostBits (c.n F.prefixLen 0) x.toNat
    one (decide (y ≠ x)) y .partner
  else if f = F.censusPort then
    let k := c.v F.keywayPort 0
    one (decide (x = k)) (if k = 65535 then 1024 else k + 1) .partner
  else []

/-- The actions of R104 to R109 and R483 on one element in order: each the items after it, and its reason. -/
def checkElem (c : Cfg) (runtime : Bool) (skip : Nat → Bool) (f i : Nat) (xs : List Int) : List (List Int × Reason) :=
  let d := fieldDef f
  let a := xs.map (clearReserved d.chk)
  let act1 := if a = xs then [] else [(a, Reason.badCode)]
  let act2 := checkItems d (i * d.items) a
  let b := lastItems a act2
  let p := if d.items = 1 then [partnerBound c runtime skip f i (b.getD 0 0)] else b
  let act3 := if p = b then [] else [(p, Reason.partner)]
  act1 ++ act2 ++ act3 ++ partnerSpecial c f i p

/-- The configuration and report under way. -/
structure Clamping where
  /-- Values so far. -/
  cfg : Cfg
  /-- Report so far. -/
  report : ClampReport
  deriving DecidableEq, Repr

/-- One element checked, stored and reported. -/
def clampElem (f : Nat) (read : Word) (i : Nat) (xs : List Int) (k : Clamping) : Clamping :=
  let d := fieldDef f
  let acts := checkElem k.cfg false (fun _ => false) f i xs
  let el := if d.isArray then i else 0xFFFF
  { cfg := k.cfg.setElem f i (lastItems xs acts),
    report := acts.foldl (fun r a => r.add ⟨d.id, el, read, elemWord d a.1, a.2⟩) k.report }

/-- The elements of a field from element `i`, the image's own first, then the missing ones at default. `present`
counts the image's elements, `bad` marks a field of wrong length, whose entry holds its first 4 bytes and element 0. DESIGN CHOICE (log 78). -/
def clampElems (f : Nat) (bad : Bool) (raw : List Byte) (present : Nat) : Nat → Nat → Clamping → Clamping
  | 0, _, k => k
  | n + 1, i, k =>
    let d := fieldDef f
    let size := d.width * d.items
    let el := if d.isArray then i else 0xFFFF
    let dfl := (List.range d.items).map fun j => d.dfl (i * d.items + j)
    let k' :=
      if i < present then
        let xs := readItems d d.items (slice raw (i * size) size)
        clampElem f (elemWord d xs) i xs k
      else
        let k1 :=
          if bad then
            if i = 0 then
              { k with report := k.report.add ⟨d.id, el, BitVec.ofNat 32 (leNat (raw.take 4)), elemWord d dfl, .badLength⟩ }
            else k
          else if i = present then
            let miss := if d.isArray then d.inst - i else 0
            { k with report := k.report.add ⟨d.id, el, BitVec.ofNat 32 miss, elemWord d dfl, .dflt⟩ }
          else k
        clampElem f 0 i dfl k1
    clampElems f bad raw present n (i + 1) k'

/-- A catalogue field with the image's bytes for it, if any (R104 to R111). -/
def clampField (f : Nat) (raw : Option (List Byte)) (k : Clamping) : Clamping :=
  let d := fieldDef f
  let size := d.width * d.items
  let bs := raw.getD []
  let bad := raw.isSome && (bs.length % size != 0 || (!d.isArray && bs.length != size))
  let count := if bad then 0 else bs.length / size
  let k := clampElems f bad bs count d.inst 0 k
  if d.inst < count then
    { k with report := k.report.add ⟨d.id, d.inst, elemWord d (readItems d d.items (slice bs (d.inst * size) size)), 0, .extra⟩ }
  else k

/-- The STAGE_PARAM elements (R148): a bad port is skipped, a missing element is absent. -/
def clampParams (raw : List Byte) : Nat → Nat → Clamping → Clamping
  | 0, _, k => k
  | n + 1, i, k =>
    let e := slice raw (12 * i) 12
    let read := BitVec.ofNat 32 (leAt e 0 4)
    let port := leAt e 0 1
    let k1 := if leAt e 1 1 = 0 then k
      else { k with report := k.report.add ⟨0x0508, i, read, read &&& 0xFFFF00FF#32, .badCode⟩ }
    let k2 :=
      if port < 32 ∧ k.cfg.v F.portMode port = 1 then
        { k1 with cfg := { k1.cfg with params := k1.cfg.params ++ [⟨i, port, leAt e 2 2, BitVec.ofNat 64 (leAt e 4 8)⟩] } }
      else { k1 with report := k1.report.add ⟨0x0508, i, read, 0, .badCode⟩ }
    clampParams raw n (i + 1) k2

/-- One field ID of the catalogue or of the image (R104, R109). An UNKNOWN entry holds ELEMENT FFFFh and the first 4 bytes of the value.
DESIGN CHOICE (log 78). -/
def clampId (place : Option Nat) (id : Nat) (raw : Option (List Byte)) (k : Clamping) : Clamping :=
  match place with
  | none =>
    { k with report := k.report.add ⟨id, 0xFFFF, BitVec.ofNat 32 (leNat ((raw.getD []).take 4)), 0, .unknown⟩ }
  | some f =>
    let bs := raw.getD []
    if f = F.stageParam then
      if bs.length % 12 ≠ 0 then { k with report := k.report.add ⟨id, 0, BitVec.ofNat 32 (leNat (bs.take 4)), 0, .badLength⟩ }
      else
        let n := bs.length / 12
        let k := clampParams bs (min n 256) 0 k
        if 256 < n then { k with report := k.report.add ⟨id, 256, BitVec.ofNat 32 (leAt bs (12 * 256) 4), 0, .extra⟩ } else k
    else if f = F.revoked then
      if bs.length % 32 ≠ 0 then { k with report := k.report.add ⟨id, 0, BitVec.ofNat 32 (leNat (bs.take 4)), 0, .badLength⟩ }
      else
        let n := bs.length / 32
        let k := { k with cfg := { k.cfg with revoked := (List.range (min n 32)).map fun i => (i, slice bs (32 * i) 32) } }
        if 32 < n then { k with report := k.report.add ⟨id, 32, BitVec.ofNat 32 (leAt bs (32 * 32) 4), 0, .extra⟩ } else k
    else clampField f raw k

/-- A field of the image: its ID and value bytes. -/
abbrev RawField := Nat × List Byte

/-- Image fields with IDs below `id`, which the catalogue does not hold (R104, R109). -/
def unknownBelow (id : Nat) : List RawField → Clamping → List RawField × Clamping
  | [], k => ([], k)
  | p :: ps, k => if p.1 < id then unknownBelow id ps (clampId none p.1 (some p.2) k) else (p :: ps, k)

/-- Catalogue rows against the image's fields in ascending ID order (R104). -/
def clampAll : List FieldDef → Nat → List RawField → Clamping → Clamping
  | [], _, ps, k => ps.foldl (fun k p => clampId none p.1 (some p.2) k) k
  | d :: ds, f, ps, k =>
    let r := unknownBelow d.id ps k
    match r.1 with
    | [] => clampAll ds (f + 1) [] (clampId (some f) d.id none r.2)
    | p :: ps' =>
      if p.1 = d.id then clampAll ds (f + 1) ps' (clampId (some f) d.id (some p.2) r.2)
      else clampAll ds (f + 1) (p :: ps') (clampId (some f) d.id none r.2)

/-- Step 6: every field range-checked and clamped, from the fields of an image (R104). -/
def clampImage (ps : List RawField) : Clamping := clampAll catalogue 0 ps ⟨Cfg.reset, ClampReport.reset⟩

/-- Result codes of R90. -/
inductive SlotResult where
  /-- 0. -/
  | notTried
  /-- 1. -/
  | accepted
  /-- 2. -/
  | blank
  /-- 3. -/
  | invalid
  /-- 4. -/
  | badSignature
  /-- 5. -/
  | noAnchor
  /-- 6. -/
  | wardKey
  /-- 7. -/
  | notAccepted
  /-- 8. -/
  | unsupported
  deriving DecidableEq, Repr

/-- The number of a slot result (R90). -/
def SlotResult.code : SlotResult → Nat
  | .notTried => 0
  | .accepted => 1
  | .blank => 2
  | .invalid => 3
  | .badSignature => 4
  | .noAnchor => 5
  | .wardKey => 6
  | .notAccepted => 7
  | .unsupported => 8

/-- The first `n` bytes of a slot: a byte that staging has not written reads FFh. PRESUMED (log 85). -/
def slotBytes (slot : List Byte) (n : Nat) : List Byte := slot.take n ++ List.replicate (n - slot.length) 0xFF

/-- The header check of R96 on the first 64 bytes of a slot; `none` when every check passes. PRESUMED (log 85). -/
def headerCheck (slot : List Byte) : Option SlotResult :=
  let img := slotBytes slot 64
  let len := leAt img 8 4
  let cnt := leAt img 17 1
  if slice img 0 4 ≠ [0x55, 0x4C, 0x4E, 0x59] then some .blank
  else if leAt img 4 2 ≠ 1 ∨ leAt img 6 2 ≠ 0x6432 then some .unsupported
  else if crc32 (img.take 60) ≠ BitVec.ofNat 32 (leAt img 60 4) then some .invalid
  else if len % 4 = 0 ∧ len ≤ 0x100000 ∧ 64 + 12 * cnt + 68 ≤ len ∧ 1 ≤ leAt img 12 4 ∧ leAt img 16 1 ≤ 1 ∧
      1 ≤ cnt ∧ cnt ≤ 16 ∧ leAt img 18 2 = 0 then none
  else some .invalid

/-- The serial a slot counts with (R89, R96). -/
def slotSerial (slot : List Byte) : Nat := if headerCheck slot = none then leAt (slotBytes slot 64) 12 4 else 0

/-- The bytes of an image: IMAGE_LEN bytes of the slot. -/
def imageBytes (slot : List Byte) : List Byte := slotBytes slot (leAt (slotBytes slot 64) 8 4)

/-- The fields of one section: exactly `n` of them filling the bytes, IDs rising in the section, padding 00h
(R98, R100). -/
def sectionFields (sec : Nat) : Nat → Nat → List Byte → Option (List RawField)
  | 0, _, bs => if bs = [] then some [] else none
  | n + 1, last, bs =>
    if bs.length < 4 then none
    else
      let id := leAt bs 0 2
      let len := leAt bs 2 2
      let pad := (4 - len % 4) % 4
      if bs.length < 4 + len + pad ∨ id ≤ last ∨ id / 256 ≠ sec ∨ (slice bs (4 + len) pad).any (· != 0) then none
      else
        match sectionFields sec n id (bs.drop (4 + len + pad)) with
        | none => none
        | some fs => some ((id, slice bs 4 len) :: fs)

/-- The sections in table order from table entry `i`: each starts where the one before ends, section numbers rise
(R95, R100). The last one ends where the signature block starts. -/
def sections (img : List Byte) (sigAt : Nat) : Nat → Nat → Nat → Nat → Option (List RawField)
  | 0, _, pos, _ => if pos = sigAt then some [] else none
  | n + 1, i, pos, last =>
    let e := slice img (64 + 12 * i) 12
    let sec := leAt e 0 1
    let off := leAt e 4 4
    let len := leAt e 8 4
    if sec ≤ last ∨ leAt e 1 1 ≠ 0 ∨ off ≠ pos ∨ len % 4 ≠ 0 ∨ sigAt < off + len then none
    else
      match sectionFields sec (leAt e 2 2) (sec * 256 - 1) (slice img off len), sections img sigAt n (i + 1) (off + len) sec with
      | some a, some b => some (a ++ b)
      | _, _ => none

/-- The structure check of R100: the image's fields, or none. -/
def structureFields (img : List Byte) : Option (List RawField) :=
  let cnt := leAt img 17 1
  let sigAt := img.length - 68
  if leAt img sigAt 2 ≠ 1 ∨ leAt img (sigAt + 2) 2 ≠ 0x40 then none
  else sections img sigAt cnt 0 (64 + 12 * cnt) 0

/-- The signature of an image under a public key (R99, R100). -/
def signatureGood (publicKey img : List Byte) : Bool :=
  let n := img.length
  Config.ecdsaVerify publicKey (img.take (n - 64)) (leAt img (n - 64) 32) (leAt img (n - 32) 32)

/-- The canonical encoding of one field (R120). -/
def fieldEncoding (c : Cfg) (f : Nat) : List Byte :=
  let d := fieldDef f
  if f = F.stageParam then
    leBytes 2 d.id ++ leBytes 2 c.params.length ++ leBytes 2 12 ++
      c.params.flatMap fun p => leBytes 1 p.port ++ [0] ++ leBytes 2 p.index ++ leBytes 8 p.value.toNat
  else if f = F.revoked then
    leBytes 2 d.id ++ leBytes 2 c.revoked.length ++ leBytes 2 32 ++ c.revoked.flatMap fun p => p.2
  else
    leBytes 2 d.id ++ leBytes 2 d.inst ++ leBytes 2 (d.width * d.items) ++
      (List.range (d.inst * d.items)).flatMap fun k => leBytesS d.width (c.v f k)

/-- The canonical encodings of the catalogue rows of a section, from row `f`. -/
def rowsEncoding (c : Cfg) (sec : Nat) : List FieldDef → Nat → List Byte
  | [], _ => []
  | d :: ds, f => (if d.sec = sec then fieldEncoding c f else []) ++ rowsEncoding c sec ds (f + 1)

/-- The canonical encoding of section `s` (R120). -/
def sectionEncoding (c : Cfg) (s : Nat) : List Byte :=
  leBytes 1 s ++ leBytes 2 1 ++ rowsEncoding c s catalogue 0

/-- A bitting: the first 8 bytes of a SHA-256 digest, digest byte 0 lowest (R121, R122). -/
def bitting (bs : List Byte) : BitVec 64 := BitVec.ofNat 64 (leNat ((sha256 bs).take 8))

/-- The bitting of section `s` (R121). -/
def sectionBitting (c : Cfg) (s : Nat) : BitVec 64 := bitting (sectionEncoding c s)

/-- The whole-configuration bitting (R121). -/
def wholeBitting (c : Cfg) : BitVec 64 :=
  bitting ((List.range 8).flatMap fun k => sectionEncoding c (k + 1))

/-- The outcome of steps 3 to 7 on one slot. -/
structure SlotOutcome where
  /-- Result code of R90. -/
  result : SlotResult
  /-- The image's serial. -/
  serial : Nat
  /-- Values and clamp report of step 6. -/
  clamping : Clamping
  /-- Safety bitting of step 7. -/
  safety : BitVec 64
  /-- The safety bitting differs from the accepted one, or none is held (R103). -/
  needsAccept : Bool
  deriving DecidableEq, Repr

/-- A slot rejected with a code: before step 7 no safety section is compared, and STAGED_NEEDS_ACCEPT of a dry run reads 0 (R93).
DESIGN CHOICE (log 87). -/
def rejected (r : SlotResult) (serial : Nat) : SlotOutcome := ⟨r, serial, ⟨Cfg.reset, ClampReport.reset⟩, 0, false⟩

/-- Step 6 and step 7 on the fields of an image whose ward key agreed (R103, R104). -/
def acceptFields (accepted : Option (BitVec 64)) (sw9 : Bool) (serial : Nat) (fs : List RawField) : SlotOutcome :=
  let k := clampImage fs
  let b := sectionBitting k.cfg 2
  let need := decide (accepted ≠ some b)
  ⟨if need && !sw9 then .notAccepted else .accepted, serial, k, b, need⟩

/-- Steps 3 to 7 on one slot (R96, R100, R101, R103). `anchors` are the public keys enrolled. -/
def trySlot (slot : List Byte) (anchors : List (Option (List Byte))) (key : Nat) (sw9 : Bool)
    (accepted : Option (BitVec 64)) : SlotOutcome :=
  match headerCheck slot with
  | some r => rejected r 0
  | none =>
    let img := imageBytes slot
    let serial := leAt img 12 4
    match anchors.getD (leAt img 16 1) none with
    | none => rejected .noAnchor serial
    | some pk =>
      if !signatureGood pk img then rejected .badSignature serial
      else
        match structureFields img with
        | none => rejected .invalid serial
        | some fs =>
          if fs.lookup 0x0201 ≠ some [BitVec.ofNat 8 key] then rejected .wardKey serial
          else acceptFields accepted sw9 serial fs

end Sys2Proof.Machine
end

