-- ==== Sys2Proof/Machine/PartsUnit.lean ====
section
/-! DEFINITION. Parts of State: unit state, panel, configuration and knuckle ports. One structure per unit of the module with its value at
the start of BOOT; a field's line gives its width, the rule that names it and its reset value. -/

namespace Sys2Proof.Machine

/-! ## Unit state, clocks and address (ch. 1 and 2) -/

/-- The unit states of R79. -/
inductive UnitState where
  /-- 0 BOOT. -/
  | boot
  /-- 1 CONFIG. -/
  | config
  /-- 2 DISCOVER. -/
  | discover
  /-- 3 HOMING. -/
  | homing
  /-- 4 RUN. -/
  | run
  /-- 5 MAINTENANCE. -/
  | maintenance
  /-- 6 FAULT_HELD. -/
  | faultHeld
  /-- 7 UNCONFIGURED. -/
  | unconfigured
  deriving DecidableEq, Repr

/-- The hinge roles of UNIT_STATUS.ROLE (R84). -/
inductive Role where
  /-- 0 not settled. -/
  | unsettled
  /-- 1 ALONE. -/
  | alone
  /-- 2 ACTIVE. -/
  | active
  /-- 3 STANDBY. -/
  | standby
  deriving DecidableEq, Repr

/-- What made the module stop or restart, for the start record of the next start (R408). -/
inductive StartCause where
  /-- Power-on. -/
  | powerOn
  /-- Supply restart after hold-up (R47). -/
  | supply
  /-- RESET input (R55). -/
  | reset
  /-- COMMAND RESTART (R459). -/
  | restart
  deriving DecidableEq, Repr

/-- Unit-level status (R79, R84). -/
structure UnitSt where
  /-- STATE (4 bits, R84, reset 0 BOOT). -/
  st : UnitState
  /-- HOLD_CODE (16 bits, R84, reset 0). -/
  holdCode : Code
  /-- ENTRY_TICK (32 bits, R84, reset 0). -/
  entryTick : Tick
  /-- SLOT: slot B is in use (1 bit, R84, reset 0). -/
  slotB : Bool
  /-- VARIANT: 1 is ZD-6432-T0 (1 bit, R8 R84, reset DESIGN CHOICE 0 A0, log 3). -/
  variantT0 : Bool
  /-- The module is powered and running; false from HOLDUP_END, a reset or a restart until the next start (1 bit, R47 R55 R459, reset DESIGN CHOICE 1, log 3). -/
  running : Bool
  /-- What the next start gives as its cause (2 bits, R408, reset DESIGN CHOICE power-on, log 3). -/
  cause : StartCause
  /-- Status line of the sequencer cores: 1 while they run (1 bit, R81 R289, reset 1). -/
  coreLine : Bool
  /-- Session that entered MAINTENANCE (4 bits, R79, reset none). -/
  maintSess : Option SessId
  /-- CLOCK_STATUS.STROBE_FAULT (1 bit, R84, reset 0). -/
  strobeFault : Bool
  /-- CLOCK_STATUS bits [8:1] PL_LOCK, KTX_LOCK, FIO_LOCK, NAND_LOCK, ETH_LOCK, CAN_LOCK, CORE_LOCK, XTAL_OK (8 bits, R84, reset DESIGN CHOICE 7Fh live, log 3). -/
  locks : BitVec 8
  /-- HOMING has been entered and homing has not yet started, nor been left to the partner (1 bit, R368, reset 0). -/
  homingDue : Bool
  deriving DecidableEq, Repr

/-- Unit status at the start of BOOT. DESIGN CHOICE (log 3). -/
def UnitSt.reset : UnitSt :=
  ⟨.boot, 0, 0, false, false, true, .powerOn, true, none, false, 0x7F, false⟩

/-- The RESET input (R51 to R54). -/
structure ResetIn where
  /-- Filtered state: 1 is pressed (1 bit, R51, reset live 0). -/
  pressed : Bool
  /-- Consecutive samples that differ from the filtered state (5 bits, R51, reset 0). -/
  diff : Nat
  /-- Tick count in which the filtered state last changed (R51, R52, reset 0). -/
  since : Nat
  /-- ARMED (1 bit, R52, reset 0). -/
  armed : Bool
  /-- STUCK (1 bit, R53, reset 0). -/
  stuck : Bool
  /-- STUCK_SEEN (1 bit, R57, reset 0). -/
  stuckSeen : Bool
  /-- HOLD_TICKS: H of the press in progress or of the last press (24 bits, R53, reset 0). -/
  hold : Nat
  /-- The press in progress was accepted on the armed input (1 bit, R53, reset 0). -/
  live : Bool
  deriving DecidableEq, Repr

/-- The RESET input at the start. -/
def ResetIn.reset : ResetIn := ⟨false, 0, 0, false, false, false, 0, false⟩

/-- A front LED's colour and pattern (R44). -/
inductive Led where
  /-- Off. -/
  | off
  /-- Steady green. -/
  | steadyGreen
  /-- Slow green. -/
  | slowGreen
  /-- Fast green. -/
  | fastGreen
  /-- Flash green. -/
  | flashGreen
  /-- Steady amber. -/
  | steadyAmber
  /-- Slow amber. -/
  | slowAmber
  /-- Steady red. -/
  | steadyRed
  /-- Slow red. -/
  | slowRed
  deriving DecidableEq, Repr

/-- Pins, supply, temperature and front panel of the module (ch. 1). -/
structure Panel where
  /-- PINS_NOW: ADR0 to ADR8 in bits [8:0], ADR_P in bit 9 (10 bits, R57, reset live 0). -/
  pinsNow : BitVec 10
  /-- Address pins read at BOOT and in use (10 bits, R37, reset live 0). -/
  pinsUsed : BitVec 10
  /-- MODULE_ADDRESS.VALID (1 bit, R57, reset live 0). -/
  addrValid : Bool
  /-- MODULE_ADDRESS.CHANGED (1 bit, R38, reset 0). -/
  addrChanged : Bool
  /-- Consecutive readings that differ from the address in use (2 bits, R38, reset 0). -/
  addrDiff : Nat
  /-- Ward switches as last sampled, switch 1 in bit 0 (12 bits, R40, reset live 0). -/
  wardRaw : BitVec 12
  /-- Ticks for which each switch's sample has differed from its debounced position (9 bits each, R40, reset 0). -/
  wardCount : Vector Nat 12
  /-- Debounced positions (12 bits, R40, reset live 0). -/
  ward : BitVec 12
  /-- WARD_STATUS.COVER_OPEN (1 bit, R43, reset live 0). -/
  coverOpen : Bool
  /-- WARD_STATUS.COVER_OPENED (1 bit, R43, reset 0). -/
  coverOpened : Bool
  /-- MODULE_V, 0.1 V steps (16 bits, R57, reset live 0). -/
  moduleV : BitVec 16
  /-- HOLDUP (1 bit, R46, reset 0). -/
  holdup : Bool
  /-- HOLDUP_LOW (1 bit, R49, reset live 0). -/
  holdupLow : Bool
  /-- SUPPLY_HIGH (1 bit, R50, reset live 0). -/
  supplyHigh : Bool
  /-- HOLDUP_MS (8 bits, R49, reset live 0). -/
  holdupMs : Nat
  /-- Consecutive ticks below 14.0 V, or above 16.8 V during hold-up (5 bits, R46 R47, reset 0). -/
  supplyCount : Nat
  /-- HOUSING_T, signed, 0.1 °C steps (16 bits, R57, reset live 0). -/
  housingT : BitVec 16
  /-- HOUSING_HOT (1 bit, R27, reset 0). -/
  housingHot : Bool
  /-- RESET input. -/
  rst : ResetIn
  /-- LEDs RUN, ROLE, FAULT and LOG (R44, reset steady amber, the lamp test). -/
  leds : Vector Led 4
  deriving DecidableEq, Repr

/-- The panel at the start of BOOT. DESIGN CHOICE (log 3). -/
def Panel.reset : Panel :=
  { pinsNow := 0, pinsUsed := 0, addrValid := false, addrChanged := false, addrDiff := 0, wardRaw := 0,
    wardCount := Vector.replicate 12 0, ward := 0, coverOpen := false, coverOpened := false, moduleV := 0,
    holdup := false, holdupLow := false, supplyHigh := false, holdupMs := 0, supplyCount := 0, housingT := 0,
    housingHot := false, rst := .reset, leds := Vector.replicate 4 .steadyAmber }

/-! ## Configuration (ch. 3) -/

/-- A clamped runtime write, as CFG_WRITE_STATUS and CFG_WRITE_USED show it (R115, R124). -/
structure WriteStatus where
  /-- FIELD_ID (16 bits, R124, reset 0). -/
  field : Nat
  /-- REASON (8 bits, R124, reset 0). -/
  reason : Nat
  /-- ELEMENT (6 bits, R124, reset 0). -/
  element : Nat
  /-- VALUE_USED (32 bits, R124, reset 0). -/
  used : Word
  deriving DecidableEq, Repr

/-- What a host has written that takes effect at the next tick boundary (R63); the tick is that in which the write completed. -/
inductive DueWrite where
  /-- A live field: catalogue row, element, item and clamped value (R115). -/
  | field (tick : Tick) (row elem item : Nat) (value : Int)
  /-- The pending shadows of a block, by the base of its live addresses (R117). -/
  | apply (tick : Tick) (base : Nat)
  deriving DecidableEq, Repr

/-- Configuration, staging results and bittings (ch. 3). -/
structure CfgSt where
  /-- The effective configuration in use (R104, reset all defaults: none is loaded before CONFIG). -/
  eff : Cfg
  /-- A slot has been accepted at this start (1 bit, R79, reset 0). -/
  loaded : Bool
  /-- SLOT_A_RESULT (4 bits, R124, reset live 0). -/
  resultA : SlotResult
  /-- SLOT_B_RESULT (4 bits, R124, reset live 0). -/
  resultB : SlotResult
  /-- STAGED_RESULT (4 bits, R93, reset 0). -/
  staged : SlotResult
  /-- STAGED_NEEDS_ACCEPT (1 bit, R93, reset 0). -/
  stagedNeeds : Bool
  /-- Slot of the dry run in progress: DRY_RUN_BUSY (2 bits, R93, reset none). -/
  dryRun : Option Bool
  /-- SAFETY_ACCEPTED (1 bit, R124, reset live 0). -/
  safetyAccepted : Bool
  /-- FALLBACK (1 bit, R89, reset live 0). -/
  fallback : Bool
  /-- The clamp report: entries and TOTAL (1024 entries of 16 bytes and 16 bits, R110 R113, reset live empty). -/
  report : ClampReport
  /-- CFG_IMAGE_SERIAL (32 bits, R124, reset live 0). -/
  serial : Nat
  /-- CFG_STAGED_SERIAL (32 bits, R124, reset live 0). -/
  stagedSerial : Nat
  /-- CFG_WRITE_STATUS and CFG_WRITE_USED (R115, reset 0). -/
  write : WriteStatus
  /-- Section bittings 1 to 8 as shown (64 bits each, R121, reset live 0). -/
  bits : Vector (BitVec 64) 8
  /-- Whole-configuration bitting as shown (64 bits, R121, reset live 0). -/
  whole : BitVec 64
  /-- Staged bitting (64 bits, R93, reset 0). -/
  stagedBits : BitVec 64
  /-- A runtime change has made shown bittings out of date, from this tick (33 bits, R123, reset none). -/
  bitsDue : Option Tick
  /-- Pending shadows: live address and value written, addresses rising (R116, reset none). -/
  shadows : List (Nat × Word)
  /-- Field writes and APPLY writes that take effect at the next tick boundary, oldest first (R63 R117, reset none). -/
  writes : List DueWrite
  /-- Friction and cogging entries written that take effect at the next tick boundary: tick, axis, cogging table, entry, value (R61, reset none). -/
  entries : List (Tick × Nat × Bool × Nat × Int)
  deriving DecidableEq, Repr

/-- Configuration state at the start of BOOT. -/
def CfgSt.reset : CfgSt :=
  { eff := .reset, loaded := false, resultA := .notTried, resultB := .notTried, staged := .notTried,
    stagedNeeds := false, dryRun := none, safetyAccepted := false, fallback := false, report := .reset, serial := 0,
    stagedSerial := 0, write := ⟨0, 0, 0, 0⟩, bits := Vector.replicate 8 0, whole := 0, stagedBits := 0,
    bitsDue := none, shadows := [], writes := [], entries := [] }

/-! ## Knuckle ports (ch. 4) -/

/-- PORT_STATE of R157. -/
inductive PortState where
  /-- 0 UNUSED. -/
  | unused
  /-- 1 DISCOVERING. -/
  | discovering
  /-- 2 READY. -/
  | ready
  /-- 3 ABSENT. -/
  | absent
  /-- 4 MISMATCH. -/
  | mismatch
  /-- 5 LOST. -/
  | lost
  /-- 6 UNEXPECTED. -/
  | unexpected
  deriving DecidableEq, Repr

/-- A sample record of R137. -/
structure Sample where
  /-- POSITION, counts (32 bits, R137, reset live 0). -/
  position : BitVec 32
  /-- CURRENT, counts (16 bits, R137, reset live 0). -/
  current : BitVec 16
  /-- CURRENT_B, counts (16 bits, R137, reset live 0). -/
  currentB : BitVec 16
  /-- CH_FLAGS (16 bits, R137, reset live 0). -/
  flags : BitVec 16
  /-- INDEX_OFFSET, counts (16 bits, R137, reset live 0). -/
  indexOffset : BitVec 16
  deriving DecidableEq, Repr

/-- A sample of zeros. -/
def Sample.reset : Sample := ⟨0, 0, 0, 0, 0⟩

/-- Where discovery of a port stands (R149). -/
inductive DiscPhase where
  /-- Not under way. -/
  | idle
  /-- Reading identity pages; pages 0 to 3 not yet read are in the identity record's page mask. -/
  | pages
  /-- Writing STAGE_PARAM elements; the k-th of the port awaits its answer. -/
  | params (k : Nat)
  deriving DecidableEq, Repr

/-- A bulk block in flight or delivered (R144): operation and meaningful data. -/
structure Bulk where
  /-- OP (8 bits, R144, reset 0). -/
  op : Nat
  /-- Meaningful DATA bytes (10 bytes, R144, reset empty). -/
  data : List Byte
  deriving DecidableEq, Repr

/-- A command record of R133 for one channel. -/
structure StageCmd where
  /-- MODE: 0 OFF, 1 CURRENT, 2 STEP_QUIET, 3 STEP_STRONG (8 bits, R133, reset 0). -/
  mode : Nat
  /-- FLAGS: bit 0 BRAKE_RELEASE, bit 1 TRIP_RESET (8 bits, R133, reset 0). -/
  flags : Nat
  /-- AUX (16 bits, R133, reset 0). -/
  aux : Nat
  /-- SP, as 16 bits (16 bits, R133, reset 0). -/
  sp : BitVec 16
  /-- PHASE_RATE, sQ23.8 (32 bits, R133, reset 0). -/
  rate : BitVec 32
  deriving DecidableEq, Repr

/-- The OFF command. -/
def StageCmd.off : StageCmd := ⟨0, 0, 0, 0, 0⟩

/-- One knuckle port. -/
structure Port where
  /-- PORT_STATE (3 bits, R157, reset live UNUSED). -/
  st : PortState
  /-- The receiver holds code-group sync (1 bit, R130, reset live 0). -/
  sync : Bool
  /-- Ticks since the last good upstream frame, at most 3: UP holds below 3 (2 bits, R130, reset 3). -/
  age : Nat
  /-- A whole upstream frame with good CRC has arrived in this tick (1 bit, R135, reset 0). -/
  whole : Bool
  /-- A good sample part for this tick has arrived (1 bit, R68, reset 0). -/
  good : Bool
  /-- RQ has been sent in this tick (1 bit, R141, reset 0). -/
  rq : Bool
  /-- NAK was received by 39.00 us of the tick whose frame was last sent (1 bit, R141, reset 0). -/
  nak : Bool
  /-- The downstream frame of that tick has been re-sent (1 bit, R141, reset 0). -/
  resent : Bool
  /-- The tick in progress has been counted as missed for the port (1 bit, R141, reset 0). -/
  missedNow : Bool
  /-- Consecutive missed ticks, at most 3 (2 bits, R142, reset 0). -/
  missRun : Nat
  /-- Consecutive good ticks while lost, at most 20 (5 bits, R143, reset 0). -/
  goodRun : Nat
  /-- POS_RETAINED read 1 on every mapped channel in each of those good frames (1 bit, R143, reset 0). -/
  retained : Bool
  /-- The port is lost and its 20 good ticks are over: its identity is being read again (1 bit, R143, reset 0). -/
  restoring : Bool
  /-- Discovery under way (R149, reset idle). -/
  disc : DiscPhase
  /-- Tick at which discovery began (32 bits, R149, reset 0). -/
  discTick : Tick
  /-- Identity bytes read so far, page by page (36 bytes, R146, reset 0). -/
  ident : List Byte
  /-- Pages of the identity record read (4 bits, R149, reset 0). -/
  pages : BitVec 4
  /-- SERIAL of the stage when the port last entered READY (32 bits, R143, reset 0). -/
  readySerial : Nat
  /-- REASON (4 bits, R157, reset 0). -/
  reason : Nat
  /-- PARAM_HOW (2 bits, R157, reset 0). -/
  paramHow : Nat
  /-- PARAM_REASON (8 bits, R157, reset 0). -/
  paramReason : Nat
  /-- PARAM_INDEX (16 bits, R157, reset 0). -/
  paramIndex : Nat
  /-- STAGE_STATUS of the last good upstream frame (8 bits, R157, reset live 0). -/
  status : BitVec 8
  /-- STAGE_EPOCH (16 bits, R157, reset live 0). -/
  epoch : BitVec 16
  /-- TICK of that frame (32 bits, R135 R378, reset live 0). -/
  upTick : Tick
  /-- MISS (8 bits, R157, reset live 0). -/
  miss : Nat
  /-- APPLIED_HOW (8 bits, R157, reset live 0). -/
  how : Nat
  /-- APPLIED_TICK (16 bits, R157, reset live 0). -/
  appliedTick : BitVec 16
  /-- APPLIED_CRC (32 bits, R157, reset live 0). -/
  appliedCrc : Word
  /-- DC_BUS (16 bits, R157, reset live 0). -/
  dcBus : BitVec 16
  /-- STAGE_TEMP (16 bits, R157, reset live 0). -/
  temp : BitVec 16
  /-- Last good samples of channels 0 and 1 (R137, reset live 0). -/
  smp : Vector Sample 2
  /-- UP_CRC (32 bits, R157, reset 0). -/
  upCrc : Nat
  /-- UP_RESEND (32 bits, R157, reset 0). -/
  upResend : Nat
  /-- DOWN_NAK (32 bits, R157, reset 0). -/
  downNak : Nat
  /-- MISSED (32 bits, R157, reset 0). -/
  missed : Nat
  /-- LATE (32 bits, R157, reset 0). -/
  late : Nat
  /-- ECHO_ERR (32 bits, R157, reset 0). -/
  echoErr : Nat
  /-- Kept COMMAND_CRCs of lease frames, newest first: tick and CRC, at most 8 (8 times 64 bits, R140, reset none). -/
  kept : List (Tick × Word)
  /-- COMMAND_CRC of the shadow frames sent in the last 8 ticks (8 entries of 64 bits, R379, reset none). -/
  shadows : List (Tick × Word)
  /-- First tick of the start window: the later of the entry into READY and the first lease frame after it (33 bits, R140, reset none). -/
  window : Option Tick
  /-- Bulk block being sent and its SEQ (R144, reset none). -/
  bulkOut : Option (Bulk × Nat)
  /-- SEQ of the last block sent (8 bits, R144, reset 0). -/
  seqOut : Nat
  /-- SEQ of the last good block received: the ACK sent (8 bits, R144, reset 0). -/
  seqIn : Nat
  /-- Requests waiting for the bulk channel, oldest first (R144, reset none). -/
  bulkQueue : List Bulk
  /-- Last fault report of the stage: code, channel, detail (10 bytes, R145, reset none). -/
  faultReport : Option (List Byte)
  /-- Tick at which the last STAGE_PARAM write was acknowledged by the stage (33 bits, R145, reset none). -/
  paramTick : Option Tick
  /-- Downstream frame last sent: payload and CRC-32 (52 bytes, R131 R132, reset none). -/
  sent : Option (List Byte)
  deriving DecidableEq, Repr

/-- A port at the start of BOOT. -/
def Port.reset : Port :=
  { st := .unused, sync := false, age := 3, whole := false, good := false, rq := false, nak := false, resent := false,
    missedNow := false, missRun := 0, goodRun := 0, retained := false, restoring := false, disc := .idle, discTick := 0,
    ident := List.replicate 36 0, pages := 0, readySerial := 0, reason := 0, paramHow := 0, paramReason := 0,
    paramIndex := 0, status := 0, epoch := 0, upTick := 0, miss := 0, how := 0, appliedTick := 0, appliedCrc := 0, dcBus := 0,
    temp := 0, smp := Vector.replicate 2 .reset, upCrc := 0, upResend := 0, downNak := 0, missed := 0, late := 0,
    echoErr := 0, kept := [], shadows := [], window := none, bulkOut := none, seqOut := 0, seqIn := 0, bulkQueue := [],
    faultReport := none, paramTick := none, sent := none }

end Sys2Proof.Machine
end

