-- ==== Sys2Proof/Machine/PartsAxis.lean ====
section
/-! DEFINITION. Parts of State: loop engine, trace, axis motion, obstacles and closure. One structure per unit of the module with its value at
the start of BOOT; a field's line gives its width, the rule that names it and its reset value. -/

namespace Sys2Proof.Machine

/-! ## The loop engine and the trace (ch. 5) -/

/-- The three inner loops (R169). -/
inductive Loop where
  /-- Velocity. -/
  | v
  /-- Force limit. -/
  | f
  /-- Speed envelope. -/
  | e
  deriving DecidableEq, Repr

/-- State and last results of one inner loop, normalised (R169, R193). -/
structure LoopCh where
  /-- ERR (32 bits, R193, reset 0). -/
  err : Int
  /-- P (sQ19.12, R193, reset 0). -/
  p : Int
  /-- Integrator i_st (sQ19.12, R169, reset 0). -/
  i : Int
  /-- Derivative state d_st (sQ19.12, R169, reset 0). -/
  d : Int
  /-- FF (sQ19.12, R193, reset 0). -/
  ff : Int
  /-- OUT, u_pre (sQ19.12, R193, reset 0). -/
  out : Int
  /-- Previous derivative input s_prev (32 bits, R169, reset 0). -/
  sPrev : Int
  /-- The integrator took no increment in the tick: FROZEN (1 bit, R193, reset 0). -/
  frozen : Bool
  /-- AD (uQ0.24, R164, reset live 0). -/
  ad : Int
  deriving DecidableEq, Repr

/-- An inner loop at rest. -/
def LoopCh.reset : LoopCh := ⟨0, 0, 0, 0, 0, 0, 0, false, 0⟩

/-- Sums and counts of one clean or running move, cell by cell (R182). -/
structure LearnAcc where
  /-- Accumulated r_raw × d (256 cells, R182, reset 0). -/
  sum : Array Int
  /-- Ticks counted (256 cells, R182, reset 0). -/
  count : Array Nat
  deriving DecidableEq, Repr

/-- Empty accumulators. -/
def LearnAcc.reset : LearnAcc := ⟨Array.replicate 256 0, Array.replicate 256 0⟩

/-- Accumulators with those of one more move. -/
def LearnAcc.add (x y : LearnAcc) : LearnAcc :=
  ⟨((List.range 256).map fun k => x.sum.getD k 0 + y.sum.getD k 0).toArray,
   ((List.range 256).map fun k => x.count.getD k 0 + y.count.getD k 0).toArray⟩

/-- A learning pass under way (R182): the entry to write next, and the exact corrections as numerator and
denominator in 0.1 N, none where a cell is skipped. -/
structure LearnPass where
  /-- Entry to write next: 0 to 255 friction, 256 to 511 cogging (9 bits, R182, reset none). -/
  next : Nat
  /-- ΔF of each cell (256 cells, R182, reset none). -/
  deltaF : List (Option (Int × Int))
  /-- ΔC of each cell (256 cells, R182, reset none). -/
  deltaC : List (Option (Int × Int))
  /-- Entries that the pass skips: a host write met a learning write there (512 entries, R62, reset none). -/
  skip : List Nat
  deriving DecidableEq, Repr

/-- Learning of one axis's tables (R182). -/
structure LearnSt where
  /-- Accumulators of the move in progress (R182, reset 0). -/
  move : LearnAcc
  /-- The move in progress is clean so far (1 bit, R182, reset 0). -/
  clean : Bool
  /-- Direction of the move in progress, 1 or -1 (R182, reset 1). -/
  dir : Int
  /-- Accumulators of the clean moves with d = +1 (R182, reset none). -/
  plus : Option LearnAcc
  /-- Accumulators of the clean moves with d = -1 (R182, reset none). -/
  minus : Option LearnAcc
  /-- WRITING and the pass's progress (R192, reset none). -/
  pass : Option LearnPass
  /-- Learning write that takes effect at the next tick boundary: tick, entry, value (R61, reset none). -/
  due : Option (Tick × Nat × Int)
  /-- SKIPPED (9 bits, R192, reset 0). -/
  skipped : Nat
  /-- PASSES (16 bits, R192, reset 0). -/
  passes : Nat
  deriving DecidableEq, Repr

/-- Learning at rest. -/
def LearnSt.reset : LearnSt := ⟨.reset, false, 1, none, none, none, none, 0, 0⟩

/-- The loop engine's state of one axis, with what its loop window shows (R159 to R184, R193). -/
structure LoopSt where
  /-- ENGAGED (1 bit, R159, reset live 0). -/
  engaged : Bool
  /-- A good sample has been taken since the port became READY (1 bit, R165, reset 0). -/
  seen : Bool
  /-- STALE (1 bit, R193, reset live 0). -/
  stale : Bool
  /-- x_meas (32 bits, R162, reset live 0). -/
  xMeas : Int
  /-- x_good (32 bits, R165, reset 0). -/
  xGood : Int
  /-- k_gap (R165, reset 0). -/
  kGap : Nat
  /-- v_meas (32 bits, R162, reset live 0). -/
  vMeas : Int
  /-- i_meas (sQ11.20, R162, reset live 0). -/
  iMeas : Int
  /-- Direction of travel d, 1 or -1 (1 bit, R166, reset live +1). -/
  dir : Int
  /-- Held v_corr, normalised (32 bits, R168, reset live 0). -/
  vCorr : Int
  /-- v_set, normalised (32 bits, R168, reset live 0). -/
  vSet : Int
  /-- v_cap (32 bits, R171, reset live 0). -/
  vCap : Int
  /-- F_LIM (sQ19.12, R171, reset live 0). -/
  fLim : Int
  /-- Velocity loop. -/
  lv : LoopCh
  /-- Force-limit loop. -/
  lf : LoopCh
  /-- Speed-envelope loop. -/
  le : LoopCh
  /-- Previous selection sel_prev: SELECTED (2 bits, R169, reset live none). -/
  sel : Option Loop
  /-- u_prev, normalised (sQ19.12, R169, reset 0). -/
  uPrev : Int
  /-- RESEEDED (1 bit, R193, reset live 0). -/
  reseeded : Bool
  /-- POS_RUN (1 bit, R193, reset live 0). -/
  posRun : Bool
  /-- SATURATED (1 bit, R193, reset live 0). -/
  saturated : Bool
  /-- u_cmd × d (sQ19.12, R193, reset live 0). -/
  cmdForce : Int
  /-- SP (16 bits, R175, reset live 0). -/
  sp : Int
  /-- AUX (16 bits, R175, reset live 0). -/
  aux : Nat
  /-- f_motor (sQ19.12, R183, reset live 0). -/
  fMotor : Int
  /-- F_INERTIA (sQ19.12, R193, reset live 0). -/
  fInertia : Int
  /-- tbl_phys (sQ19.12, R183, reset live 0). -/
  fTable : Int
  /-- F_VISC (sQ19.12, R193, reset live 0). -/
  fVisc : Int
  /-- r_raw (sQ19.12, R183, reset live 0). -/
  rRaw : Int
  /-- r (sQ19.12, R183, reset live 0). -/
  r : Int
  /-- r has been set since the port became READY (1 bit, R184, reset 0). -/
  rSeen : Bool
  /-- ALPHA_V (uQ0.24, R164, reset live 0). -/
  alphaV : Int
  /-- ALPHA_R (uQ0.24, R164, reset live 0). -/
  alphaR : Int
  /-- VEL_FC that ALPHA_V was derived from (16 bits, R164, reset 0). -/
  alphaVOf : Nat
  /-- OBS_CORNER that ALPHA_R was derived from (16 bits, R164, reset 0). -/
  alphaROf : Nat
  /-- BANK.ACTIVE (1 bit, R177, reset img). -/
  bank : Bool
  /-- Tick of the capture (32 bits, R193, reset live 0). -/
  capTick : Tick
  /-- HANDOVERS (32 bits, R192, reset 0). -/
  handovers : Nat
  /-- SAT_TICKS (32 bits, R192, reset 0). -/
  satTicks : Nat
  /-- FRIC entries in force (256 times 16 bits, R180, reset img). -/
  fric : Array Int
  /-- COG entries in force (256 times 16 bits, R180, reset img). -/
  cog : Array Int
  /-- LEARNT bits: entries 0 to 255 friction, 256 to 511 cogging (512 bits, R193, reset 0). -/
  learnt : BitVec 512
  /-- Learning (R182). -/
  learn : LearnSt
  deriving DecidableEq, Repr

/-- The engine of an axis at the start of BOOT. -/
def LoopSt.reset : LoopSt :=
  { engaged := false, seen := false, stale := false, xMeas := 0, xGood := 0, kGap := 0, vMeas := 0, iMeas := 0,
    dir := 1, vCorr := 0, vSet := 0, vCap := 0, fLim := 0, lv := .reset, lf := .reset,
    le := .reset, sel := none, uPrev := 0, reseeded := false, posRun := false, saturated := false, cmdForce := 0,
    sp := 0, aux := 0, fMotor := 0, fInertia := 0, fTable := 0, fVisc := 0, rRaw := 0, r := 0, rSeen := false,
    alphaV := 0, alphaR := 0, alphaVOf := 0, alphaROf := 0, bank := false, capTick := 0, handovers := 0, satTicks := 0,
    fric := Array.replicate 256 0, cog := Array.replicate 256 0, learnt := 0, learn := .reset }

/-- States of the trace (R188). -/
inductive TraceState where
  /-- 0 IDLE. -/
  | idle
  /-- 1 ARMED. -/
  | armed
  /-- 2 TRIGGERED. -/
  | triggered
  /-- 3 DONE. -/
  | done
  deriving DecidableEq, Repr

/-- The trace (R187 to R191). -/
structure TraceSt where
  /-- STATE (2 bits, R194, reset 0). -/
  st : TraceState
  /-- PRE_VALID (15 bits, R194, reset 0). -/
  preValid : Nat
  /-- TRUNCATED (1 bit, R194, reset 0). -/
  truncated : Bool
  /-- TRIG_TICK (32 bits, R194, reset 0). -/
  trigTick : Tick
  /-- RECORDED (16 bits, R194, reset 0). -/
  recorded : Nat
  /-- ARM was written in this tick (33 bits, R188, reset none). -/
  armReq : Option Tick
  /-- STOP was written in this tick (33 bits, R188, reset none). -/
  stopReq : Option Tick
  /-- FORCE was written in this tick (33 bits, R189, reset none). -/
  forceReq : Option Tick
  /-- A code that matches the trigger has been raised in this tick (1 bit, R189, reset 0). -/
  hit : Bool
  /-- Ticks recorded since arming (R188, reset 0). -/
  since : Nat
  /-- Samples still to record after the trigger (16 bits, R188, reset 0). -/
  left : Nat
  /-- Sample of the level channel in the tick before (33 bits, R189, reset none). -/
  lastLevel : Option Word
  /-- The record, newest tick first, 16 words a tick (16 times 32768 words, R187, reset empty). -/
  samples : List (List Word)
  /-- Channels that were enabled when the trace was armed (16 bits, R190, reset 0). -/
  enabled : BitVec 16
  /-- The trace has armed itself at this start (1 bit, R191, reset 0). -/
  autoArmed : Bool
  deriving DecidableEq, Repr

/-- The trace at the start of BOOT. -/
def TraceSt.reset : TraceSt :=
  { st := .idle, preValid := 0, truncated := false, trigTick := 0, recorded := 0, armReq := none, stopReq := none,
    forceReq := none, hit := false, since := 0, left := 0, lastLevel := none, samples := [], enabled := 0,
    autoArmed := false }

/-! ## Axis motion (ch. 6) -/

/-- Sources of R198 as AXn_MOTION_STATUS.SOURCE numbers them (R228). -/
inductive Source where
  /-- 0 OFF. -/
  | off
  /-- 1 PLANNER. -/
  | planner
  /-- 2 HOMING. -/
  | homing
  /-- 3 GEARED. -/
  | geared
  /-- 4 FOLLOW. -/
  | follow
  /-- 5 PULSE_DIR. -/
  | pulseDir
  deriving DecidableEq, Repr

/-- Planner phases of AXn_MOTION_STATUS.PHASE (R202, R228). -/
inductive Phase where
  /-- 0 IDLE. -/
  | idle
  /-- 1 START. -/
  | start
  /-- 2 ACCEL1. -/
  | accel1
  /-- 3 ACCEL2. -/
  | accel2
  /-- 4 CRUISE. -/
  | cruise
  /-- 5 DECEL2. -/
  | decel2
  /-- 6 DECEL1. -/
  | decel1
  /-- 7 AWAY. -/
  | away
  /-- 8 QSTOP. -/
  | qstop
  /-- 9 WAKE. -/
  | wake
  deriving DecidableEq, Repr

/-- Reaction in progress, as AXn_OBST_STATUS.REACTION numbers it (R255). -/
inductive Reaction where
  /-- 0 none. -/
  | none
  /-- 1 REVERSE. -/
  | reverse
  /-- 2 STOP. -/
  | stop
  /-- 3 REVERSE_SIBLING. -/
  | sibling
  deriving DecidableEq, Repr

/-- A debounced input (R212): its state and the count of sensed samples that agree on the other one. -/
structure Debounce where
  /-- Accepted state (1 bit, R212, reset 0 inactive). -/
  active : Bool
  /-- Consecutive sensed samples that differ from it (7 bits, R212, reset 0). -/
  count : Nat
  /-- x_meas at the first of those samples (32 bits, R212, reset 0). -/
  first : Int
  deriving DecidableEq, Repr

/-- An input at the start. -/
def Debounce.reset : Debounce := ⟨false, 0, 0⟩

/-- Where a homing of an axis stands (R210). -/
inductive HomePhase where
  /-- Not homing. -/
  | none
  /-- ABSOLUTE: waits for a good sample with POS_VALID. -/
  | absolute
  /-- PUSH search. -/
  | push
  /-- SWITCH: moving away until the input is inactive. -/
  | away
  /-- SWITCH or SWITCH_INDEX: moving toward the switch. -/
  | toward
  /-- INDEX, or SWITCH_INDEX after the switch: looking for an index. -/
  | index
  /-- The quick stop after the found position (R211). -/
  | stopping
  /-- The backoff move. -/
  | backoff
  deriving DecidableEq, Repr

/-- Homing of one axis (R209 to R216). -/
structure HomeSt where
  /-- Homing phase (R210, reset none). -/
  phase : HomePhase
  /-- Tick in which homing started (32 bits, R215, reset 0). -/
  start : Tick
  /-- It is the first tick of homing (1 bit, R215, reset 0). -/
  first : Bool
  /-- v_ref has reached HOME_SPEED in the search (1 bit, R210, reset 0). -/
  atSpeed : Bool
  /-- Consecutive good samples with |v_meas| below HOME_STALL_V (16 bits, R210, reset 0). -/
  slow : Nat
  /-- HOME_INPUT (R212). -/
  input : Debounce
  /-- Last sensed raw sample of HOME_INPUT (2 bits, R213, reset none). -/
  raw : Option Bool
  /-- Ticks of raw changes during homing, newest first (R213, reset none). -/
  edges : List Tick
  /-- Tick of the switch's found position (33 bits, R210, reset none). -/
  switchTick : Option Tick
  /-- HOMED (1 bit, R228, reset 0). -/
  homed : Bool
  /-- HOME_OFFSET (32 bits, R197, reset 0). -/
  offset : Int
  /-- RESULT (4 bits, R215, reset 0). -/
  result : Nat
  /-- HOME_FOUND (32 bits, R228, reset 0). -/
  found : Int
  /-- Homing has failed in this start of homing and its quick stop runs (1 bit, R215, reset 0). -/
  failed : Bool
  deriving DecidableEq, Repr

/-- Homing at the start of BOOT. -/
def HomeSt.reset : HomeSt :=
  { phase := .none, start := 0, first := false, atSpeed := false, slow := 0, input := .reset, raw := none, edges := [],
    switchTick := none, homed := false, offset := 0, result := 0, found := 0, failed := false }

/-- Stepper outputs of one axis (R221 to R225). -/
structure StepSt where
  /-- P(N-1), phase counts with 8 fractional bits (40 bits, R221, reset 0). -/
  p : Int
  /-- PHASE_OFFSET with 8 fractional bits (40 bits, R221, reset 0). -/
  offset : Int
  /-- PHASE_START of the last command (16 bits, R228, reset live 0). -/
  start : Nat
  /-- PHASE_RATE of the last command, sQ23.8 (32 bits, R228, reset live 0). -/
  rate : Int
  /-- COIL: the coil mode is STEP_STRONG (1 bit, R222, reset live 0). -/
  strong : Bool
  /-- HOLDING (1 bit, R223, reset live 0). -/
  holding : Bool
  /-- Ticks at rest on the target (18 bits, R223, reset 0). -/
  rest : Nat
  /-- The tick is a wake tick (1 bit, R223, reset 0). -/
  wake : Bool
  /-- Consecutive good samples beyond STALL_WINDOW (11 bits, R225, reset 0). -/
  stallRun : Nat
  /-- STALL_DEV (32 bits, R228, reset 0). -/
  stallDev : Nat
  /-- x_ref(N-1) (32 bits, R225, reset 0). -/
  x1 : Int
  /-- x_ref(N-2) (32 bits, R225, reset 0). -/
  x2 : Int
  /-- Pulse count of the previous tick (33 bits, R224, reset none). -/
  lastCount : Option (BitVec 32)
  /-- Pulses carried over a wake tick (32 bits, R223, reset 0). -/
  carry : Int
  deriving DecidableEq, Repr

/-- Stepper outputs at the start of BOOT. -/
def StepSt.reset : StepSt :=
  { p := 0, offset := 0, start := 0, rate := 0, strong := false, holding := false, rest := 0, wake := false,
    stallRun := 0, stallDev := 0, x1 := 0, x2 := 0, lastCount := none, carry := 0 }

/-- Profile values kept through a deferral (R208): D1, D2, V_BREAK, V_STOP. -/
structure Deferral where
  /-- Largest D1 (32 bits, R208, reset none). -/
  d1 : Int
  /-- Largest D2 (32 bits, R208, reset none). -/
  d2 : Int
  /-- V_BREAK kept (32 bits, R208, reset none). -/
  vBreak : Int
  /-- V_STOP kept (32 bits, R208, reset none). -/
  vStop : Int
  deriving DecidableEq, Repr

/-- Motion of one axis (ch. 6). -/
structure MotionSt where
  /-- The sequencer or a homing sequence commands the axis driven (1 bit, R196, reset 0). -/
  want : Bool
  /-- DRIVEN (1 bit, R196, reset live 0). -/
  driven : Bool
  /-- SOURCE (4 bits, R228, reset 0). -/
  source : Source
  /-- PHASE (4 bits, R228, reset 0). -/
  phase : Phase
  /-- x_p, 16 fractional bits (48 bits, R201, reset 0). -/
  xp : Int
  /-- v_p, 8 fractional bits (40 bits, R201, reset 0). -/
  vp : Int
  /-- x_ref (32 bits, R228, reset live 0). -/
  xRef : Int
  /-- v_ref (32 bits, R228, reset live 0). -/
  vRef : Int
  /-- a_ref (32 bits, R228, reset live 0). -/
  aRef : Int
  /-- TARGET in force (32 bits, R228, reset live 0). -/
  target : Int
  /-- Target set by the sequencer that waits for step 5 (33 bits, R198, reset none). -/
  wait : Option Int
  /-- Tick in which that target was set (32 bits, R198, reset 0). -/
  waitTick : Tick
  /-- That target is held through a quick stop or reaction braking (1 bit, R206 R237, reset 0). -/
  held : Bool
  /-- decel_latched (1 bit, R202, reset 0). -/
  latched : Bool
  /-- AT_TARGET (1 bit, R203, reset live 0). -/
  atTarget : Bool
  /-- A move landed in the compute phase in progress (1 bit, R203, reset 0). -/
  landed : Bool
  /-- A stop reaction ended in the latest tick, which is still part of reaction braking (1 bit, R237, reset 0). -/
  stopEnd : Bool
  /-- The planner took a new target in the compute phase in progress (1 bit, R168, reset 0). -/
  replanned : Bool
  /-- Deferral in force: DEFERRED (R208, reset none). -/
  deferral : Option Deferral
  /-- D1, D2, V_BREAK and V_STOP that the planner used in the tick before (R208, reset none). -/
  used : Option Deferral
  /-- Quick stop in progress (1 bit, R206, reset 0). -/
  qstop : Bool
  /-- Reaction in progress (2 bits, R255, reset 0). -/
  reaction : Reaction
  /-- The reversal's braking in the old direction is not over (1 bit, R205, reset 0). -/
  braking : Bool
  /-- A quick stop was in progress as the reaction began, which raises its deceleration (1 bit, R206 R237, reset 0). -/
  qbrake : Bool
  /-- V_MAX is replaced during a maintenance jog (1 bit, R281, reset 0). -/
  jog : Bool
  /-- LIMIT_NEG input (R214). -/
  limNeg : Debounce
  /-- LIMIT_POS input (R214). -/
  limPos : Debounce
  /-- The sequencer has the axis following (1 bit, R220, reset 0). -/
  follow : Bool
  /-- The followed input reads invalid and FOLLOW_INVALID has been raised (1 bit, R220, reset 0). -/
  followBad : Bool
  /-- GEAR_X0, 44 fractional bits (96 bits, R217, reset live 0). -/
  gearX0 : Int
  /-- x_ref that gearing computes, 44 fractional bits (96 bits, R217, reset 0). -/
  gearX : Int
  /-- A GEAR_ write in the tick takes effect: GEAR_X0 is to be reset (1 bit, R218, reset 0). -/
  gearReset : Bool
  /-- x_ref is held at a soft limit while geared (1 bit, R219, reset 0). -/
  gearHeld : Bool
  /-- AXn_EVENTS (10 bits, R228, reset 0). -/
  events : Word
  /-- Homing. -/
  home : HomeSt
  /-- Stepper outputs. -/
  step : StepSt
  /-- Command record last written (R133, reset OFF). -/
  cmd : StageCmd
  deriving DecidableEq, Repr

/-- Motion at the start of BOOT. -/
def MotionSt.reset : MotionSt :=
  { want := false, driven := false, source := .off, phase := .idle, xp := 0, vp := 0, xRef := 0, vRef := 0, aRef := 0,
    target := 0, wait := none, waitTick := 0, held := false, latched := false, atTarget := false, landed := false, stopEnd := false, replanned := false,
    deferral := none, used := none, qstop := false, reaction := .none, braking := false, qbrake := false, jog := false, limNeg := .reset,
    limPos := .reset, follow := false, followBad := false, gearX0 := 0, gearX := 0, gearReset := false,
    gearHeld := false, events := 0, home := .reset, step := .reset, cmd := .off }

/-! ## Obstacles and proven closure (ch. 7) -/

/-- Where the evaluation of a leaf stands (R244). -/
inductive EvalPhase where
  /-- None under way. -/
  | idle
  /-- Settling: ticks left to wait. -/
  | settle (left : Nat)
  /-- Averaging: sum of x_meas and samples taken. -/
  | mean (sum : Int) (n : Nat)
  deriving DecidableEq, Repr

/-- RESULT of the signature check (R247, R255). -/
inductive SigResult where
  /-- 0 none. -/
  | none
  /-- 1 PASS. -/
  | pass
  /-- 2 FAIL_BAND. -/
  | failBand
  /-- 3 FAIL_SPARSE. -/
  | failSparse
  /-- 4 SHORT_STROKE. -/
  | shortStroke
  /-- 5 ABANDONED. -/
  | abandoned
  deriving DecidableEq, Repr

/-- Obstacle detection and closure of one axis (ch. 7). -/
structure ObstSt where
  /-- COUNT (2 bits, R234, reset live 0). -/
  count : Nat
  /-- ARMED: the last tick was armed (1 bit, R232, reset live 0). -/
  armed : Bool
  /-- SEAL (1 bit, R255, reset live 0). -/
  inSeal : Bool
  /-- THRESHOLD in use, 0.1 N (16 bits, R233, reset live 0). -/
  threshold : Nat
  /-- r_n of the last compute phase (sQ19.12, R233, reset live 0). -/
  rn : Int
  /-- The axis is marked for a sibling reversal in the next tick (1 bit, R238, reset 0). -/
  marked : Bool
  /-- OBST_CONFIRMED has been raised in the compute phase in progress (1 bit, R235, reset 0). -/
  confirmed : Bool
  /-- OBST_LAST_TICK (32 bits, R235, reset 0). -/
  lastTick : Tick
  /-- OBST_LAST_X (32 bits, R235, reset 0). -/
  lastX : Int
  /-- r_n at the last confirmation (sQ19.12, R235, reset 0). -/
  lastR : Int
  /-- v_meas at the last confirmation, um/s (32 bits, R235, reset 0). -/
  lastV : Int
  /-- OBST_COUNT (32 bits, R235, reset 0). -/
  total : Nat
  /-- X_LEARNT (32 bits, R242, reset img CLOSED_NOM). -/
  xLearnt : Int
  /-- x_closed_eff (32 bits, R242, reset live 0). -/
  xClosed : Int
  /-- T of the last computation, 0.1 °C (16 bits, R242, reset live 0). -/
  temp : Int
  /-- The clamp of R242 binds in this tick (1 bit, R242, reset live 0). -/
  compBound : Bool
  /-- The clamp of R243 bound at the last update (1 bit, R243, reset live 0). -/
  learnBound : Bool
  /-- SIG_DRIFT (1 bit, R248, reset live 0). -/
  sigDrift : Bool
  /-- The move in progress is a closing move (1 bit, R244, reset 0). -/
  closing : Bool
  /-- Closing distance at which that move was planned (32 bits, R247, reset 0). -/
  strokeZ : Int
  /-- Evaluation (R244, reset none). -/
  eval : EvalPhase
  /-- The leaf has completed an evaluation in the present closing sequence (1 bit, R245, reset 0). -/
  done : Bool
  /-- AXn_GAP (32 bits, R244, reset 0). -/
  gap : Int
  /-- x_obs of the last evaluation (32 bits, R244, reset 0). -/
  xObs : Int
  /-- T_eval, 0.1 °C (16 bits, R244, reset 0). -/
  tEval : Int
  /-- x_closed_eff at T_eval (32 bits, R251, reset 0). -/
  xEval : Int
  /-- EVAL_TICK (32 bits, R255, reset 0). -/
  evalTick : Tick
  /-- SIG_RESULT.RESULT (3 bits, R255, reset 0). -/
  sig : SigResult
  /-- SIG_RESULT.EVALUATED (8 bits, R255, reset 0). -/
  sigEvaluated : Nat
  /-- SIG_RESULT.FAILED (8 bits, R255, reset 0). -/
  sigFailed : Nat
  /-- SIG_RESULT.FIRST_FAIL (5 bits, R255, reset 0). -/
  sigFirst : Nat
  /-- Sums of r_n in the 32 bins (R246, reset 0). -/
  binSum : List Int
  /-- Samples in the 32 bins (R246, reset 0). -/
  binCount : List Nat
  /-- Learnt centres c_0 to c_31, 0.1 N (32 times 16 bits, R248, reset img SIG_INIT). -/
  centres : List Int
  /-- Bin means of the last evaluation, sum and count, none where a bin was not evaluated (32 times 16 bits, R255, reset live none). -/
  means : List (Option (Int × Int))
  /-- Live gap of the last good sample while monitored, µm (32 bits, R251, reset 0). -/
  live : Int
  /-- Consecutive good samples on which rows 2 or 3 of R250 failed while monitored (3 bits, R251, reset 0). -/
  lossRun : Nat
  deriving DecidableEq, Repr

/-- Obstacle state at the start of BOOT. -/
def ObstSt.reset : ObstSt :=
  { count := 0, armed := false, inSeal := false, threshold := 0, rn := 0, marked := false, confirmed := false,
    lastTick := 0, lastX := 0, lastR := 0, lastV := 0, total := 0, xLearnt := 0, xClosed := 0, temp := 0,
    compBound := false, learnBound := false, sigDrift := false, closing := false, strokeZ := 0, eval := .idle,
    done := false, gap := 0, xObs := 0, tEval := 0, xEval := 0, evalTick := 0, sig := .none, sigEvaluated := 0,
    sigFailed := 0, sigFirst := 0, binSum := List.replicate 32 0, binCount := List.replicate 32 0,
    centres := List.replicate 32 0, means := List.replicate 32 none, live := 0, lossRun := 0 }

/-- One axis: engine, motion and obstacle state. -/
structure Axis where
  /-- Loop engine. -/
  loop : LoopSt
  /-- Motion. -/
  mot : MotionSt
  /-- Obstacles and closure. -/
  obst : ObstSt
  deriving DecidableEq, Repr

/-- An axis at the start of BOOT. -/
def Axis.reset : Axis := ⟨.reset, .reset, .reset⟩

/-- Closure verdict of a doorway (R245, R250, R251). -/
structure Closure where
  /-- WITHHELD (4 bits, R250, reset 1). -/
  withheld : Nat
  /-- EVALUATED, one bit a slot (4 bits, R255, reset 0). -/
  evaluated : BitVec 4
  /-- MONITOR (1 bit, R251, reset 0). -/
  monitor : Bool
  /-- INPUTS_OK (1 bit, R255, reset live 0). -/
  inputsOk : Bool
  /-- LOCK_OK (1 bit, R255, reset live 0). -/
  lockOk : Bool
  /-- SIG_PASS (1 bit, R255, reset 0). -/
  sigPass : Bool
  /-- GAP_PASS (1 bit, R255, reset 0). -/
  gapPass : Bool
  /-- CLOSED (1 bit, R250, reset 0). -/
  closed : Bool
  /-- CLOSED_LOCKED (1 bit, R250, reset 0). -/
  locked : Bool
  /-- CLOSURE_GAP: G (32 bits, R255, reset 0). -/
  g : Int
  /-- CLOSURE_TICK (32 bits, R255, reset 0). -/
  tick : Tick
  /-- CLOSURE_EVENTS (3 bits, R255, reset 0). -/
  events : Word
  /-- There is a present closing sequence (1 bit, R245, reset 0). -/
  seq : Bool
  /-- An axis of the doorway has raised OBST_CONFIRMED since the sequence began (1 bit, R249, reset 0). -/
  seqObst : Bool
  /-- An evaluation in the sequence was abandoned (1 bit, R249, reset 0). -/
  seqAbandon : Bool
  /-- Closure has been lost (1 bit, R251, reset 0). -/
  lost : Bool
  /-- The gap check of the sequence has been decided (1 bit, R245, reset 0). -/
  checked : Bool
  /-- LEARN_RESET was written in this tick by the holder of this certificate's SHA-256, and takes effect at the next boundary (33 bits and 32 bytes, R256, reset none). -/
  reset : Option (Tick × List Byte)
  deriving DecidableEq, Repr

/-- The verdict at the start of BOOT. -/
def Closure.start : Closure :=
  { withheld := 1, evaluated := 0, monitor := false, inputsOk := false, lockOk := false, sigPass := false,
    gapPass := false, closed := false, locked := false, g := 0, tick := 0, events := 0, seq := false, seqObst := false,
    seqAbandon := false, lost := false, checked := false, reset := none }

end Sys2Proof.Machine
end

