-- ==== Sys2Proof/Machine/Loop.lean ====
section
/-! DEFINITION. The loop engine (ch. 5): measurement, observer, direction, position loop, inner loops, selector,
conversion, tables and learning, all under the arithmetic of R163. Forces are held in 1/4096 N (sQ19.12), currents in
2^-20 A, filter coefficients in 2^-24. -/

namespace Sys2Proof.Machine

/-- Saturation of a force (sQ19.12). -/
def satF (x : Int) : Int := satS 32 x

/-- The coefficients of one axis that the engine reads (R169, R185, R186, R192). -/
structure LoopPar where
  /-- FORCE_CONST, 0.01 N/A. -/
  fc : Int
  /-- REF_MASS, 0.1 kg. -/
  mass : Int
  /-- VISC_FRICTION, 0.1 N s/m. -/
  visc : Int
  /-- POS_DIV. -/
  posDiv : Nat
  /-- TBL_X0. -/
  x0 : Int
  /-- TBL_X1. -/
  x1 : Int
  /-- The words of the bank in use, R192. -/
  bank : List Int
  /-- CURRENT_LSB of the channel, µA per count (R146). -/
  lsb : Int
  deriving DecidableEq, Repr

/-- First catalogue row of a bank. -/
def bankRow (b : Bool) : Nat := if b then F.bank1KpPos else F.bank0KpPos

/-- The words of a bank of axis `a`. -/
def bankWords (c : Cfg) (b : Bool) (a : Nat) : List Int := (List.range 16).map fun k => c.v (bankRow b + k) a

/-- The coefficients of axis `a` with a bank in use. -/
def loopPar (c : Cfg) (bank : Bool) (lsb : Int) (a : Nat) : LoopPar :=
  { fc := c.v F.forceConst a, mass := c.v F.refMass a, visc := c.v F.viscFriction a, posDiv := c.n F.posDiv a,
    x0 := c.v F.tblX0 a, x1 := c.v F.tblX1 a, bank := bankWords c bank a, lsb := lsb }

/-- Word `k` of the bank in use. -/
def LoopPar.b (p : LoopPar) (k : Nat) : Int := p.bank.getD k 0

/-- DRIVE_MAX as a force (R169). -/
def LoopPar.driveMax (p : LoopPar) : Int := satF (rdiv (p.b 2 * 4096) 10)

/-- BRAKE_MAX as a force (R169). -/
def LoopPar.brakeMax (p : LoopPar) : Int := satF (rdiv (p.b 3 * 4096) 10)

/-- π times 10^40. -/
def piE40 : Int := 31415926535897932384626433832795028841972

/-- Terms of the series of exp(-x), x in 2^-96: `k` terms left, the last term and the sum. -/
def expTerms (x : Int) : Nat → Int → Int → Int → Int
  | 0, _, _, acc => acc
  | k + 1, n, t, acc =>
    let t' := -(t * x) / (n * 2 ^ 96)
    expTerms x k (n + 1) t' (acc + t')

/-- The coefficient 1 - exp(-2π f TS) of a corner of `f` Hz as uQ0.24 (R164). -/
def alphaOf (f : Nat) : Int :=
  let x := piE40 * (f : Int) * 2 ^ 96 / 10 ^ 44
  satU 24 (rdiv (2 ^ 96 - expTerms x 60 1 (2 ^ 96) (2 ^ 96)) (2 ^ 72))

/-- AD of a TF word (R164). -/
def adOf (tfWord : Int) : Int :=
  let tf := tfWord % 65536
  satU 24 (rdiv (tf * 2 ^ 24) (tf + 50))

/-- D_ON_ERROR of a TF word (R192). -/
def dOnError (tfWord : Int) : Bool := decide (tfWord / 65536 % 2 = 1)

/-- A filter step: x plus α of the way to y, α in 2^-24 (R163). -/
def lowPass (alpha x y : Int) : Int := rdiv (x * 2 ^ 24 + alpha * (y - x)) (2 ^ 24)

/-- A table lookup in force units at a position (R180). -/
def tableAt (t : Array Int) (x0 x1 x : Int) : Int :=
  let num := (x - x0) * 255
  let den := x1 - x0
  if den ≤ 0 then 0
  else if num < 0 then satF (rdiv (t.getD 0 0 * 4096) 10)
  else if 255 * den ≤ num then satF (rdiv (t.getD 255 0 * 4096) 10)
  else
    let k := (num / den).toNat
    let a := t.getD k 0
    let b := t.getD (k + 1) 0
    satF (rdiv ((a * den + (num - k * den) * (b - a)) * 4096) (den * 10))

/-- The physical table force d × FRIC + COG (R180). -/
def tablePhys (p : LoopPar) (l : LoopSt) : Int :=
  satF (l.dir * tableAt l.fric p.x0 p.x1 l.xMeas + tableAt l.cog p.x0 p.x1 l.xMeas)

/-- The normalised table force FRIC + d × COG (R180). -/
def tableNorm (p : LoopPar) (l : LoopSt) : Int :=
  satF (tableAt l.fric p.x0 p.x1 l.xMeas + l.dir * tableAt l.cog p.x0 p.x1 l.xMeas)

/-- Step 1: the coefficients of R164 follow their sources. DEDUCED (log 28). -/
def LoopSt.derive (l : LoopSt) (velFc obsCorner : Nat) (bank : List Int) : LoopSt :=
  { l with
    alphaV := if l.alphaVOf = velFc then l.alphaV else alphaOf velFc
    alphaVOf := velFc
    alphaR := if l.alphaROf = obsCorner then l.alphaR else alphaOf obsCorner
    alphaROf := obsCorner
    lv := { l.lv with ad := adOf (bank.getD 7 0) }
    lf := { l.lf with ad := adOf (bank.getD 11 0) }
    le := { l.le with ad := adOf (bank.getD 15 0) } }

/-- Step 1: every integrator clamped to the limits now in use (R160, R176, R178). -/
def LoopSt.clampIntegrators (l : LoopSt) (lo hi : Int) : LoopSt :=
  { l with
    lv := { l.lv with i := sat lo hi l.lv.i }
    lf := { l.lf with i := sat lo hi l.lf.i }
    le := { l.le with i := sat lo hi l.le.i } }

/-- A position of the stage in the axis frame: the product and HOME_OFFSET rounded once (R163, R165, R210). -/
def framePosition (counts scale offset : Int) : Int := satS 32 (rdiv (counts * scale + offset * 2 ^ 20) (2 ^ 20))

/-- Step 2 with a good sample: the measured position is given (R165, R197). -/
def LoopSt.measure (l : LoopSt) (x current lsb : Int) : LoopSt :=
  let x := satS 32 x
  let vRaw := if l.seen then satS 32 (rdiv ((x - l.xGood) * 20000) (l.kGap + 1)) else 0
  { l with
    stale := false
    xMeas := x
    vMeas := satS 32 (lowPass l.alphaV l.vMeas vRaw)
    iMeas := satS 32 (rdiv (current * lsb * 2 ^ 20) 1000000)
    xGood := x
    kGap := 0
    seen := true }

/-- Step 2 with a stale sample: the position is extrapolated (R165). -/
def LoopSt.extrapolate (l : LoopSt) : LoopSt :=
  { l with stale := true, xMeas := satS 32 (rdiv (l.xMeas * 20000 + l.vMeas) 20000), kGap := l.kGap + 1 }

/-- Step 3: the force observer with a good sample, `aRef` of the tick before (R183, R184). -/
def LoopSt.observe (l : LoopSt) (p : LoopPar) (aRef : Int) : LoopSt :=
  let fm := satF (rdiv (p.fc * l.iMeas * 4096) (100 * 2 ^ 20))
  let raw := satF (rdiv (fm * 10000000 - p.mass * aRef * 4096 - l.fTable * 10000000 - p.visc * l.vMeas * 4096) 10000000)
  { l with
    fMotor := fm
    fInertia := satF (rdiv (p.mass * aRef * 4096) 10000000)
    fVisc := satF (rdiv (p.visc * l.vMeas * 4096) 10000000)
    rRaw := raw
    r := if l.rSeen then satF (lowPass l.alphaR l.r raw) else raw
    rSeen := true }

/-- The observer and measurement while the port is not READY (R165, R184). -/
def LoopSt.portDown (l : LoopSt) : LoopSt := { l with seen := false, rRaw := 0, r := 0, rSeen := false }

/-- The states that R159 sets to 0 while an axis is not engaged. -/
def LoopCh.rest (c : LoopCh) : LoopCh := { c with i := 0, d := 0, sPrev := 0 }

/-- An axis that is not engaged (R159). DEDUCED (log 38). -/
def LoopSt.disengage (l : LoopSt) : LoopSt :=
  { l with engaged := false, lv := l.lv.rest, lf := l.lf.rest, le := l.le.rest, vCorr := 0, uPrev := 0, sel := none,
           reseeded := false, posRun := false, saturated := false, cmdForce := 0, sp := 0, aux := 0 }

/-- A loop channel with its normalised states negated (R167). -/
def LoopCh.negate (c : LoopCh) : LoopCh := { c with i := -c.i, d := -c.d, sPrev := -c.sPrev }

/-- Step 6: the direction of travel, with negation when its sign changes (R166, R167). -/
def LoopSt.direction (l : LoopSt) (vRef target xRef : Int) : LoopSt :=
  let d := if vRef ≠ 0 then sgn vRef else if target ≠ xRef then sgn (target - xRef) else l.dir
  if d = l.dir then l
  else
    { l with dir := d, lv := l.lv.negate, lf := l.lf.negate, le := l.le.negate, vCorr := -l.vCorr, uPrev := -l.uPrev }

/-- Step 7: the position loop (R168). -/
def LoopSt.position (l : LoopSt) (p : LoopPar) (run : Bool) (xRef vRef : Int) : LoopSt :=
  let corr := sat (-(p.b 1)) (p.b 1) (satS 32 (rdiv (p.b 0 * ((xRef - l.xMeas) * l.dir)) (2 ^ 20)))
  let vc := if run then corr else l.vCorr
  { l with vCorr := vc, vSet := satS 32 (vRef * l.dir + vc), posRun := run }

/-- Step 8: one loop's error, terms and u_pre. `vel` marks the loops with speeds, `k` is the bank word of KP. -/
def LoopCh.eval (c : LoopCh) (p : LoopPar) (vel first : Bool) (k : Nat) (sp m ff lo hi : Int) : LoopCh :=
  let e := satS 32 (sp - m)
  let s := if dOnError (p.b (k + 3)) then e else -m
  let prev := if first then s else c.sPrev
  let pt := if vel then satF (rdiv (p.b k * e * 4096) (2 ^ 16 * 1000000)) else satF (rdiv (p.b k * e) (2 ^ 24))
  let dt :=
    if vel then
      satF (rdiv (c.ad * c.d * (2 ^ 16 * 1000000) + (2 ^ 24 - c.ad) * p.b (k + 2) * (s - prev) * 20000 * 4096)
        (2 ^ 24 * (2 ^ 16 * 1000000)))
    else
      satF (rdiv (c.ad * c.d * 2 ^ 32 + (2 ^ 24 - c.ad) * p.b (k + 2) * (s - prev) * 20000) (2 ^ 24 * 2 ^ 32))
  { c with err := e, p := pt, d := dt, ff := ff, sPrev := s, frozen := true, out := sat lo hi (ff + pt + c.i + dt) }

/-- The increment di of a loop's integrator (R169). -/
def LoopCh.increment (c : LoopCh) (p : LoopPar) (vel : Bool) (k : Nat) : Int :=
  if vel then satF (rdiv (p.b (k + 1) * c.err * 4096) (256 * 20000 * 1000000))
  else satF (rdiv (p.b (k + 1) * c.err) (2 ^ 16 * 20000))

/-- The selected loop: lowest u_pre, the previous one among equals, else V, F, E (R172). -/
def selectLoop (l : LoopSt) : Loop :=
  let lo := min l.lv.out (min l.lf.out l.le.out)
  match l.sel with
  | some .v => if l.lv.out = lo then .v else if l.lf.out = lo then .f else .e
  | some .f => if l.lf.out = lo then .f else if l.lv.out = lo then .v else .e
  | some .e => if l.le.out = lo then .e else if l.lv.out = lo then .v else .f
  | none => if l.lv.out = lo then .v else if l.lf.out = lo then .f else .e

/-- One loop's channel. -/
def LoopSt.ch (l : LoopSt) : Loop → LoopCh
  | .v => l.lv
  | .f => l.lf
  | .e => l.le

/-- One loop's channel replaced. -/
def LoopSt.setCh (l : LoopSt) : Loop → LoopCh → LoopSt
  | .v, c => { l with lv := c }
  | .f, c => { l with lf := c }
  | .e, c => { l with le := c }

/-- The bank word of KP of a loop (R192). -/
def Loop.kp : Loop → Nat
  | .v => 4
  | .f => 8
  | .e => 12

/-- The winner's channel after the re-seed or integration of R173 and R174, and whether it was re-seeded. A re-seed shows FROZEN 0.
DESIGN CHOICE (log 76). -/
def integrate (c : LoopCh) (p : LoopPar) (w : Loop) (handOver stale : Bool) (uPrev lo hi : Int) : LoopCh × Bool :=
  if handOver && decide (0 ≤ c.out) then
    ({ c with i := sat lo hi (satF (uPrev - (c.ff + c.p + c.d))), frozen := false }, true)
  else if stale then (c, false)
  else
    let di := c.increment p (decide (w ≠ .f)) w.kp
    let ut := satF (c.ff + c.p + c.i + di + c.d)
    if (hi < ut ∧ 0 < di) ∨ (ut < lo ∧ di < 0) then (c, false)
    else ({ c with i := sat lo hi (satF (c.i + di)), frozen := false }, false)

/-- Step 8: the inner loops, the selector and the integrators (R169 to R174), every integrator clamped where F_LIM has fallen in this
tick (R176). `first` marks the first engaged tick. -/
def LoopSt.inner (l : LoopSt) (p : LoopPar) (first : Bool) (vRef aRef fLim vCap : Int) : LoopSt :=
  let lo := -p.brakeMax
  let hi := min p.driveMax fLim
  let tbl := tableNorm p l
  let ffV := satF (rdiv (tbl * 10000000 + (p.mass * (aRef * l.dir) + p.visc * (vRef * l.dir)) * 4096) 10000000)
  let ffE := satF (rdiv (tbl * 10000000 + p.visc * vCap * 4096) 10000000)
  let vn := l.vMeas * l.dir
  let fn := satF (satF (rdiv (p.fc * l.iMeas * 4096) (100 * 2 ^ 20)) * l.dir)
  let l := l.clampIntegrators lo hi
  let l := { l with
    fLim := fLim, vCap := vCap, fTable := tablePhys p l,
    lv := l.lv.eval p true first 4 l.vSet vn ffV lo hi
    lf := l.lf.eval p false first 8 fLim fn fLim lo hi
    le := l.le.eval p true first 12 vCap vn ffE lo hi }
  let w := selectLoop l
  let ho := l.sel.isSome && decide (l.sel ≠ some w)
  let r := integrate (l.ch w) p w ho l.stale l.uPrev lo hi
  let c := r.1
  let u := sat lo hi (c.ff + c.p + c.i + c.d)
  let satd := decide (u = lo ∨ u = hi)
  { (l.setCh w c) with
    engaged := true, sel := some w, uPrev := u, reseeded := r.2, saturated := satd, cmdForce := u * l.dir,
    handovers := if ho then satN (l.handovers + 1) 32 else l.handovers,
    satTicks := if satd then satN (l.satTicks + 1) 32 else l.satTicks }

/-- Step 9: current set-point and limit in counts (R175). -/
def LoopSt.convert (l : LoopSt) (p : LoopPar) : LoopSt :=
  { l with
    sp := satS 16 (rdiv (l.cmdForce * 100000000) (4096 * p.fc * p.lsb))
    aux := (satU 16 (rdiv (min (32767 * (p.fc * p.lsb)) (max (p.b 2) (p.b 3) * 10000000)) (p.fc * p.lsb))).toNat }

/-- The speed of the kinetic-energy limit, µm/s: √(2 E / m), E in 0.01 J and m in 0.1 kg (R171). -/
def energySpeed (e mass : Int) : Int := satS 32 (rsqrt (e.toNat * 200000000000) mass.toNat : Nat)

/-! ## Learning of the tables (R182) -/

/-- The cell nearest to a position, 0 to 255 (R182). -/
def tableCell (x0 x1 x : Int) : Nat := (sat 0 255 (rdiv ((x - x0) * 255) (x1 - x0))).toNat

/-- One tick of a move: the raw residual enters its cell (R182 item 1). -/
def LearnSt.sample (n : LearnSt) (cell : Nat) (r : Int) : LearnSt :=
  { n with move := ⟨n.move.sum.setIfInBounds cell (n.move.sum.getD cell 0 + r),
                    n.move.count.setIfInBounds cell (n.move.count.getD cell 0 + 1)⟩ }

/-- A move begins: accumulators cleared, clean so far (R182). -/
def LearnSt.begin (n : LearnSt) (dir : Int) : LearnSt := { n with move := .reset, clean := true, dir := dir }

/-- A move is no longer clean: its accumulators are discarded (R182 item 2). -/
def LearnSt.spoil (n : LearnSt) : LearnSt := { n with clean := false, move := .reset }

/-- Mean sums of a cell as an exact fraction of 0.1 N: (Rp ± Rm) / 2 with at least 4 samples each (R182 item 3). -/
def cellDelta (minus : Bool) (p m : LearnAcc) (k : Nat) : Option (Int × Int) :=
  let np : Int := p.count.getD k 0
  let nm : Int := m.count.getD k 0
  if np < 4 ∨ nm < 4 then none
  else
    let sp := p.sum.getD k 0 * nm
    let sm := m.sum.getD k 0 * np
    some ((if minus then sp - sm else sp + sm) * 10, 2 * np * nm * 4096)

/-- A clean move has landed: a pass begins once both directions are held (R182 items 2 and 3). -/
def LearnSt.land (n : LearnSt) : LearnSt :=
  if !n.clean then n
  else
    let sum := fun o : Option LearnAcc => (o.map fun x => x.add n.move).orElse fun _ => some n.move
    let n := if n.dir = 1 then { n with plus := sum n.plus } else { n with minus := sum n.minus }
    let n := { n with clean := false, move := .reset }
    match n.plus, n.minus with
    | some p, some m =>
      if n.pass.isSome then n
      else
        let df := (List.range 256).map (cellDelta false p m)
        { n with
          pass := some ⟨0, df, (List.range 256).map (cellDelta true p m), []⟩
          skipped := df.countP (·.isNone) }
    | _, _ => n

/-- The entry a pass writes for a cell: the old value plus the limited correction, rounded, within ±TABLE_LIMIT
(R182 item 4). -/
def learnedEntry (old step limit : Int) (d : Int × Int) : Int :=
  let num := sat (-(step * d.2)) (step * d.2) d.1
  sat (-limit) limit (satS 16 (rdiv (old * d.2 + num) d.2))

/-- One tick of a pass: the next entry is written, to take effect at the next tick boundary; the accumulators are cleared after the
last one (R182 items 4 and 5, R61). A pass that has begun writes on though LEARN_ENABLE is cleared. DESIGN CHOICE (log 90). -/
def LoopSt.learnTick (l : LoopSt) (step limit : Int) (now : Tick) : LoopSt :=
  match l.learn.pass with
  | none => l
  | some q =>
    let k := q.next % 256
    let d := (if q.next < 256 then q.deltaF else q.deltaC).getD k none
    let old := (if q.next < 256 then l.fric else l.cog).getD k 0
    let due := if q.next ∈ q.skip then none else d.map fun d => (now, q.next, learnedEntry old step limit d)
    let n := { l.learn with due := due }
    { l with learn :=
        if 511 ≤ q.next then
          { n with pass := none, passes := satN (n.passes + 1) 16, plus := none, minus := none, move := .reset }
        else { n with pass := some { q with next := q.next + 1 } } }

/-- An entry of either table set; `byLearning` sets or clears its LEARNT bit (R61, R193). DEDUCED (log 28). -/
def LoopSt.setEntry (l : LoopSt) (k : Nat) (v : Int) (byLearning : Bool) : LoopSt :=
  let m : BitVec 512 := 1#512 <<< k
  let lt := if byLearning then l.learnt ||| m else l.learnt &&& ~~~m
  if k < 256 then { l with fric := l.fric.setIfInBounds k v, learnt := lt }
  else { l with cog := l.cog.setIfInBounds (k - 256) v, learnt := lt }

end Sys2Proof.Machine
end

