-- ==== Sys2Proof/Machine/Motion.lean ====
section
/-! DEFINITION. Axis motion (ch. 6) and the obstacle comparison and closure evaluation of one axis (ch. 7): every
function takes one axis with the codes it raises. Positions of the planner have 16 fractional bits, speeds 8 (R201). -/

namespace Sys2Proof.Machine

/-- An axis under computation and the codes it has raised, newest first, each with its DETAIL. -/
structure AxRun where
  /-- The axis. -/
  ax : Axis
  /-- Codes raised. -/
  ev : List (Code × Word)
  deriving DecidableEq, Repr

/-- What one axis reads from the tick snapshot and its surroundings. -/
structure AxIn where
  /-- Tick in progress. -/
  now : Tick
  /-- Axis number. -/
  a : Nat
  /-- The axis's port is READY. -/
  ready : Bool
  /-- Its sample of this tick is good. -/
  good : Bool
  /-- The sample. -/
  smp : Sample
  /-- CURRENT_LSB of its channel. -/
  lsb : Int
  /-- Its channel has an index input (R146). -/
  hasIndex : Bool
  /-- The unit state lets axes be driven (R196). -/
  unitDrives : Bool
  /-- HOME_INPUT was sensed in this tick with a valid reading, and its level. -/
  homeIn : Option Bool
  /-- LIMIT_NEG_INPUT likewise. -/
  limNegIn : Option Bool
  /-- LIMIT_POS_INPUT likewise. -/
  limPosIn : Option Bool
  /-- Master position of gearing with 44 fractional bits, where the master is valid (R217, R219). -/
  master : Option Int
  /-- Followed input, where valid (R220). -/
  followIn : Option Int
  /-- The axis is a leaf of a used doorway (R244). -/
  leaf : Bool
  /-- The axis is a leaf of a monitored doorway: x_closed_eff stands frozen (R251). -/
  monitored : Bool
  /-- Pulse-and-direction count, where valid (R224). -/
  pulse : Option (BitVec 32)
  /-- HOUSING_T. -/
  housing : Int
  /-- STAGE_TEMP of the axis's stage, last good. -/
  stageTemp : Int
  /-- CLOSED_NOM and the like are read from the configuration. -/
  cfg : Cfg
  deriving DecidableEq, Repr

/-- The kind of axis `a`: 0 NONE, 1 FORCE, 2 STEPPER (R195). -/
def Cfg.kind (c : Cfg) (a : Nat) : Nat := c.n F.axisKind a

/-- A code raised with its bit of AXn_EVENTS (R228). -/
def AxRun.event (r : AxRun) (bitNo : Nat) (code : Code) (detail : Word) : AxRun :=
  { ax := { r.ax with mot := { r.ax.mot with events := r.ax.mot.events ||| BitVec.ofNat 32 (2 ^ bitNo) } },
    ev := (code, detail) :: r.ev }

/-- The motion of the axis changed. -/
def AxRun.mot (r : AxRun) (f : MotionSt → MotionSt) : AxRun := { r with ax := { r.ax with mot := f r.ax.mot } }

/-- The engine of the axis changed. -/
def AxRun.loop (r : AxRun) (f : LoopSt → LoopSt) : AxRun := { r with ax := { r.ax with loop := f r.ax.loop } }

/-- The obstacle state of the axis changed. -/
def AxRun.obst (r : AxRun) (f : ObstSt → ObstSt) : AxRun := { r with ax := { r.ax with obst := f r.ax.obst } }

/-- Closing distance z (R229). -/
def Axis.z (x : Axis) : Int := x.loop.xMeas - x.obst.xClosed

/-- x_p rounded to whole µm (R201). -/
def MotionSt.xWhole (m : MotionSt) : Int := satS 32 (rdiv m.xp 65536)

/-- The axis is at rest: no speed and no quick stop or move under way. -/
def MotionSt.still (m : MotionSt) : Bool := decide (m.vp = 0) && decide (m.phase = .idle) && !m.qstop

/-- The axis rests on its target (R265, R266). -/
def MotionSt.onTarget (m : MotionSt) : Bool :=
  m.still && decide (m.xp = m.target * 65536) && m.wait.isNone && decide (m.reaction = .none)

/-! ## The profile (R200 to R208) -/

/-- The profile parameters in force. -/
structure Profile where
  /-- V_MAX. -/
  vMax : Int
  /-- V_BREAK. -/
  vBreak : Int
  /-- V_START. -/
  vStart : Int
  /-- V_STOP. -/
  vStop : Int
  /-- A1. -/
  a1 : Int
  /-- A2. -/
  a2 : Int
  /-- D2. -/
  d2 : Int
  /-- D1. -/
  d1 : Int
  deriving DecidableEq, Repr

/-- The profile of an axis by its registers, V_MAX replaced while homing (R209) or jogging (R281). -/
def liveProfile (c : Cfg) (a : Nat) (m : MotionSt) (jogMax : Int) : Profile :=
  let v := c.v F.vMax a
  { vMax := if m.source = .homing then c.v F.homeSpeed a else if m.jog then min v jogMax else v,
    vBreak := c.v F.vBreak a, vStart := c.v F.vStart a, vStop := c.v F.vStop a,
    a1 := c.v F.a1 a, a2 := c.v F.a2 a, d2 := c.v F.d2 a, d1 := c.v F.d1 a }

/-- JOG_SPEED_MAX of the doorway that names axis `a` (R281). -/
def jogSpeed (c : Cfg) (a : Nat) : Int :=
  match (List.range 64).find? fun k => c.n F.doorAxis k == a with
  | some k => c.v F.jogSpeedMax (k / 4)
  | none => c.v F.jogSpeedMax 0

/-- Deceleration in force at a speed with 8 fractional bits (R202). -/
def Profile.dec (p : Profile) (s : Int) : Int := if p.vBreak * 256 < s then p.d2 else p.d1

/-- vdec(Δ): the largest speed, 8 fractional bits, from which braking covers Δ, 16 fractional bits (R202). -/
def Profile.vdec (p : Profile) (delta : Int) : Int :=
  let d1 := rdiv ((p.vBreak * p.vBreak - p.vStop * p.vStop) * 65536) (2 * p.d1)
  let sq :=
    if d1 ≤ delta then p.vBreak * p.vBreak * 65536 + 2 * p.d2 * (delta - d1)
    else p.vStop * p.vStop * 65536 + 2 * p.d1 * delta
  (rsqrt sq.toNat 1 : Nat)

/-- Braking distance from a speed with 8 fractional bits, in µm as numerator over 131072 × D1 × D2. -/
def Profile.brakeNum (p : Profile) (s : Int) : Int :=
  if p.vBreak * 256 < s then
    (s * s - p.vBreak * p.vBreak * 65536) * p.d1 + (p.vBreak * p.vBreak - p.vStop * p.vStop) * 65536 * p.d2
  else max 0 ((s * s - p.vStop * p.vStop * 65536) * p.d2)

/-- The point at which braking at the profile's deceleration ends, whole µm (R266). -/
def stopPoint (c : Cfg) (a : Nat) (m : MotionSt) : Int :=
  let p := liveProfile c a m (jogSpeed c a)
  let den := 131072 * p.d1 * p.d2
  let s := if m.vp < 0 then -m.vp else m.vp
  satS 32 (rdiv (m.xp * (2 * p.d1 * p.d2) + sgn m.vp * p.brakeNum s) den)

/-- The profile in force with a deferral and with reaction braking (R205, R207, R208). `used` holds the values last seen, so that a
further write during a deferral raises its event too. -/
def AxRun.profileInForce (r : AxRun) (i : AxIn) : Profile × AxRun :=
  let m := r.ax.mot
  let p := liveProfile i.cfg i.a m (jogSpeed i.cfg i.a)
  if m.braking then
    let q := max (i.cfg.v F.qstopDecel i.a) (max p.d1 p.d2)
    let d := if m.qbrake then max (i.cfg.v F.revDecel i.a) q else i.cfg.v F.revDecel i.a
    ({ p with d1 := d, d2 := d, vStop := 0 }, r)
  else
    let n : Deferral := ⟨p.d1, p.d2, p.vBreak, p.vStop⟩
    match m.deferral, m.used with
    | some f, _ =>
      let f' := ⟨max f.d1 p.d1, max f.d2 p.d2, f.vBreak, f.vStop⟩
      let again := decide (m.used ≠ some n)
      let r := r.mot fun m => { m with deferral := some f', used := some n }
      ({ p with d1 := f'.d1, d2 := f'.d2, vBreak := f'.vBreak, vStop := f'.vStop }, if again then r.event 0 0x2007 0 else r)
    | none, some u =>
      let s := if m.vp < 0 then -m.vp else m.vp
      let delta := if m.target * 65536 < m.xp then m.xp - m.target * 65536 else m.target * 65536 - m.xp
      if m.latched && !m.replanned && decide (u ≠ n) && decide (delta * (2 * p.d1 * p.d2) < p.brakeNum s) then
        let f' : Deferral := ⟨max u.d1 p.d1, max u.d2 p.d2, u.vBreak, u.vStop⟩
        ({ p with d1 := f'.d1, d2 := f'.d2, vBreak := f'.vBreak, vStop := f'.vStop },
          (r.mot fun m => { m with deferral := some f', used := some n }).event 0 0x2007 0)
      else (p, r.mot fun m => { m with used := some n })
    | none, none => (p, r.mot fun m => { m with used := some n })

/-- The phase shown for a tick toward the target (R202). -/
def Profile.phaseOf (p : Profile) (s s' : Int) : Phase :=
  if s < p.vStart * 256 then .start
  else if s < s' then (if s < p.vBreak * 256 then .accel1 else .accel2)
  else if s' = s then .cruise
  else if p.vBreak * 256 < s then .decel2 else .decel1

/-- A speed changed by an acceleration over one tick, 8 fractional bits. DEDUCED (log 36). -/
def speedBy (s a : Int) : Int := satS 40 (rdiv (s * 20000 + a * 256) 20000)

/-- A move lands (R203). -/
def MotionSt.land (m : MotionSt) (s dt : Int) : MotionSt :=
  { m with xp := m.target * 65536, vp := 0, aRef := satS 32 (rdiv (-(s * dt) * 20000) 256), phase := .idle,
           landed := true, atTarget := true, deferral := none, xRef := m.target, vRef := 0 }

/-- A tick of motion to a new normalised speed (R202). DEDUCED (log 36). -/
def MotionSt.advance (m : MotionSt) (s s' dt : Int) (ph : Phase) : MotionSt :=
  let xp := satS 48 (rdiv (m.xp * 20000 + s' * 256 * dt) 20000)
  { m with xp := xp, vp := s' * dt, phase := ph, aRef := satS 32 (rdiv ((s' - s) * dt * 20000) 256),
           xRef := satS 32 (rdiv xp 65536), vRef := satS 32 (rdiv (s' * dt) 256) }

/-- One tick of the profile planner (R202 to R205). -/
def AxRun.profileStep (r : AxRun) (i : AxIn) : AxRun :=
  let pr := r.profileInForce i
  let p := pr.1
  let r := pr.2
  let m := r.ax.mot
  let t := m.target * 65536
  if t = m.xp ∧ m.vp = 0 then
    r.mot fun m => { m with phase := .idle, aRef := 0, xRef := m.xWhole, vRef := 0 }
  else
    let dt := if t ≠ m.xp then sgn (t - m.xp) else sgn m.vp
    let delta := (t - m.xp) * dt
    let s := m.vp * dt
    if s < 0 then
      let s1 := min 0 (speedBy s (p.dec (-s)))
      let s' := if -(p.vStop * 256) < s1 then 0 else s1
      r.mot fun m => m.advance s s' dt .away
    else
      let up :=
        if s < p.vStart * 256 then p.vStart * 256
        else if p.vMax * 256 < s then max (p.vMax * 256) (speedBy s (-(p.dec s)))
        else if s < p.vBreak * 256 then min (speedBy s p.a1) (p.vMax * 256)
        else min (speedBy s p.a2) (p.vMax * 256)
      let up := if (m.latched || (m.braking && decide (m.reaction = .stop))) && decide (0 < s) then min up s else up
      let vd := p.vdec delta
      let inside := decide (vd * 20000 < s * 20000 - 2 * p.dec s * 256)
      let s' := if inside then speedBy s (-(p.dec s)) else min up vd
      let latch := m.latched || (!inside && decide (vd < up))
      if delta * 20000 ≤ s' * 256 ∧ s' * 20000 ≤ p.vStop * 256 * 20000 + 2 * p.d1 * 256 then
        r.mot fun m => { (m.land s dt) with latched := latch }
      else
        let r := r.mot fun m => { (m.advance s s' dt (p.phaseOf s s')) with latched := latch }
        if (t - r.ax.mot.xp) * dt < 0 then r.event 2 0x2006 0 else r

/-- A quick stop's deceleration Dq (R206). -/
def quickDecel (c : Cfg) (a : Nat) : Int := max (c.v F.qstopDecel a) (max (c.v F.d1 a) (c.v F.d2 a))

/-- At rest of a quick stop the position rounded is the target (R206); a reaction that it has overtaken ends there. DEDUCED (log 75). -/
def MotionSt.quickRest (m : MotionSt) : MotionSt :=
  let x := rdiv m.xp 65536
  if m.qstop then
    { m with xp := x * 65536, vp := 0, target := x, xRef := satS 32 x, vRef := 0, qstop := false, phase := .idle,
             reaction := .none, braking := false }
  else m

/-- One tick of a quick stop (R206). At rest the stopping point becomes the target. -/
def MotionSt.quickStep (m : MotionSt) (dq : Int) : MotionSt :=
  let u := if m.vp < 0 then -m.vp else m.vp
  let d := sgn m.vp
  let u' := max 0 (speedBy u (-dq))
  let m := m.advance u u' (if d = 0 then 1 else d) .qstop
  if u' = 0 then m.quickRest else m

/-! ## Targets (R198, R199, R214) -/

/-- An evaluation that is not finished is abandoned (R244). -/
def ObstSt.abandon (o : ObstSt) (now : Tick) : ObstSt :=
  match o.eval with
  | .idle => o
  | _ => { o with eval := .idle, sig := .abandoned, evalTick := now }

/-- What a newly planned target does to the closure evaluation of a leaf (R244, R246, R247). -/
def Axis.closingMove (x : Axis) (t : Int) (now : Tick) : ObstSt :=
  let o := x.obst.abandon now
  if t * 65536 < x.mot.xp then
    { o with closing := true, strokeZ := x.z, binSum := List.replicate 32 0, binCount := List.replicate 32 0 }
  else { o with closing := false }

/-- A target limited by the soft limits of a homed axis and by tripped travel limits (R199, R214). -/
def limitTarget (c : Cfg) (a : Nat) (m : MotionSt) (soft : Bool) (t : Int) : Int :=
  let t := if soft && m.home.homed then sat (c.v F.softMin a) (c.v F.softMax a) t else t
  let x := m.xWhole
  let t := if m.limNeg.active && decide (t < x) then x else t
  if m.limPos.active && decide (x < t) then x else t

/-- The planner takes a new target: a replan (R198, R199, R202). -/
def AxRun.take (r : AxRun) (i : AxIn) (t : Int) (src : Source) (soft : Bool) : AxRun :=
  let t' := satS 32 (limitTarget i.cfg i.a r.ax.mot soft t)
  let r := if t' = t then r else r.event 1 0x2005 0
  let o := r.ax.closingMove t' i.now
  let r := { r with ax := { r.ax with obst := o } }
  let clean := decide (r.ax.mot.phase = .idle)
  let r := r.loop fun l =>
    { l with learn := if clean then l.learn.begin (if t' * 65536 < r.ax.mot.xp then -1 else 1) else l.learn.spoil }
  r.mot fun m => { m with target := t', source := src, replanned := true, atTarget := false, latched := false,
                          deferral := none, used := none }

/-- A target the sequencer sets: it waits for step 5 of the next tick, or is held through a quick stop or reaction
braking (R198, R206, R237). The target in force of an axis that rests on it is no new target (R244). DEDUCED (log 37). -/
def MotionSt.setTarget (m : MotionSt) (t : Int) (now : Tick) : MotionSt :=
  if m.driven && m.onTarget && m.source != Source.geared && t == m.target then m
  else { m with wait := some t, waitTick := now, held := m.qstop || decide (m.reaction ≠ .none) }

/-! ## Reactions and quick stops (R205, R206, R236 to R238) -/

/-- A quick stop begins (R206): it replaces the present source, and a doorway target reaching step 5 is discarded. -/
def AxRun.quickStop (r : AxRun) (i : AxIn) : AxRun :=
  let r := r.obst fun o => { (o.abandon i.now) with closing := false }
  let r := r.loop fun l => { l with learn := l.learn.spoil }
  r.mot fun m =>
    { m with qstop := true, replanned := true, atTarget := false, latched := false, deferral := none, used := none,
             wait := if m.held || decide (m.waitTick = i.now) then m.wait else none, held := true,
             source := if m.source = .homing then .homing else .planner, phase := .qstop, follow := false }

/-- Homing fails with a RESULT (R215). The quick stop is the caller's. -/
def AxRun.homeFailCode (r : AxRun) (result : Nat) : AxRun :=
  (r.mot fun m => { m with home := { m.home with phase := .none, result := result, failed := true, homed := false },
                           source := if m.source = .homing then .planner else m.source }).event 9 0x2003 (BitVec.ofNat 32 result)

/-- Homing fails and ends with a quick stop (R215). -/
def AxRun.homeFail (r : AxRun) (i : AxIn) (result : Nat) : AxRun := (r.quickStop i).homeFailCode result

/-- The reaction to a confirmed obstacle, or a sibling's reversal, in step 5 (R236 to R238). It ends a quick stop (R198), and a
homing with a RESULT. -/
def AxRun.react (r : AxRun) (i : AxIn) (sibling : Bool) (result : Nat) : AxRun :=
  let homing := decide (r.ax.mot.home.phase ≠ .none)
  let stop := !sibling && decide (r.ax.loop.dir = 1)
  let rev := i.cfg.v F.revDecel i.a
  let x := r.ax.loop.xMeas
  let v := r.ax.loop.vMeas
  let keep := r.ax.mot.held || decide (r.ax.mot.waitTick = i.now)
  let r := r.mot fun m =>
    { m with xp := x * 65536, vp := v * 256, aRef := 0, braking := true, qstop := false,
             reaction := if sibling then .sibling else if stop then .stop else .reverse,
             wait := if keep then m.wait else none, held := keep && m.wait.isSome, follow := false, followBad := false }
  let t :=
    if stop then satS 32 (rdiv (x * (2 * rev) + v * (if v < 0 then -v else v)) (2 * rev))
    else x + i.cfg.v F.reverseDist i.a
  let r := r.take i t .planner true
  let r := r.loop fun l => { l with learn := l.learn.spoil }
  if homing then r.homeFailCode result else r

/-! ## Homing (R209 to R216) -/

/-- +1 for HOME_DIR positive and -1 for negative (R210). -/
def homeDir (c : Cfg) (a : Nat) : Int := if c.v F.homeDir a = 1 then 1 else -1

/-- One sensed sample of a debounced input (R212). -/
def Debounce.sense (d : Debounce) (n : Nat) (level : Bool) (x : Int) : Debounce :=
  if level = d.active then { d with count := 0 }
  else
    let first := if d.count = 0 then x else d.first
    if n ≤ d.count + 1 then ⟨level, 0, first⟩ else ⟨d.active, d.count + 1, first⟩

/-- The sequencer starts homing of an axis (R209). -/
def MotionSt.startHoming (m : MotionSt) (method : Nat) (now : Tick) : MotionSt :=
  { m with
    want := true
    wait := none
    source := if m.driven then .homing else m.source
    home := { m.home with
      phase := if method = 0 then .absolute else if method = 1 then .push else if method = 3 then .index else .toward
      start := now, first := true, atSpeed := false, slow := 0, edges := [], switchTick := none, homed := false,
      result := 0, failed := false } }

/-- P of a position with 16 fractional bits, in phase counts with 8 fractional bits (R221). -/
def phaseAt (fullstep : Int) (offset xp : Int) : Int := rdiv (xp * 16384 * 256) fullstep + offset

/-- Every position the axis holds shifted by δ µm (R211). -/
def AxRun.shift (r : AxRun) (i : AxIn) (d : Int) : AxRun :=
  let fs := i.cfg.v F.fullstepUm i.a
  let r := r.loop fun l => { l with xMeas := satS 32 (l.xMeas + d), xGood := satS 32 (l.xGood + d) }
  r.mot fun m =>
    { m with
      xp := m.xp + d * 65536
      xRef := satS 32 (m.xRef + d)
      target := satS 32 (m.target + d)
      gearX := m.gearX + d * 2 ^ 44
      gearX0 := m.gearX0 + d * 2 ^ 44
      home := { m.home with offset := satS 32 (m.home.offset + d) }
      step := { m.step with
        offset := m.step.offset + (phaseAt fs 0 m.xp - phaseAt fs 0 (m.xp + d * 65536))
        x1 := m.step.x1 + d, x2 := m.step.x2 + d } }

/-- A homing reference is found at a position (R210, R211). -/
def AxRun.homeFound (r : AxRun) (i : AxIn) (found : Int) : AxRun :=
  let pos := i.cfg.v F.homePos i.a
  let push := decide (r.ax.mot.home.phase = .push)
  let r := r.mot fun m => { m with home := { m.home with found := found } }
  let r := r.shift i (pos - found)
  if push then
    let r := r.mot fun m => { m with xp := r.ax.loop.xMeas * 65536, vp := 0, qstop := false,
                                     home := { m.home with phase := .backoff } }
    r.take i (pos - i.cfg.v F.homeBackoff i.a * homeDir i.cfg i.a) .homing true
  else
    let r := r.quickStop i
    r.mot fun m => { m with home := { m.home with phase := .stopping } }

/-- Homing completes (R210). -/
def AxRun.homeDone (r : AxRun) : AxRun :=
  r.mot fun m => { m with home := { m.home with phase := .none, homed := true, result := 1 }, source := .planner }

/-- ABSOLUTE homing on a good sample with POS_VALID (R210). Where HOME_OFFSET was not 0 before, every position is shifted by what HOME_OFFSET
changes by. DESIGN CHOICE (log 92). -/
def AxRun.homeAbsolute (r : AxRun) (i : AxIn) : AxRun :=
  (r.shift i (i.cfg.v F.homePos i.a - r.ax.mot.home.offset)).homeDone

/-- A homing leg in direction `d` from a position (R210). -/
def AxRun.homeLegFrom (r : AxRun) (i : AxIn) (d x : Int) (ph : HomePhase) : AxRun :=
  let r := r.mot fun m => { m with home := { m.home with phase := ph } }
  r.take i (x + d * i.cfg.v F.homeMaxTravel i.a) .homing true

/-- A homing leg from the present position. -/
def AxRun.homeLeg (r : AxRun) (i : AxIn) (d : Int) (ph : HomePhase) : AxRun := r.homeLegFrom i d r.ax.mot.xWhole ph

/-- A stepper without an encoder (R226). -/
def AxIn.encoderless (i : AxIn) : Bool := decide (i.cfg.kind i.a = 2) && decide (i.cfg.v F.stepEncoder i.a = 0)

/-- The homing method needs an index input that the channel has not, or an encoder (R215). -/
def AxIn.noIndex (i : AxIn) : Bool :=
  (i.cfg.n F.homeMethod i.a == 3 || i.cfg.n F.homeMethod i.a == 4) && (!i.hasIndex || i.encoderless)

/-- The first tick of homing: the search begins (R210). DEDUCED (log 37). -/
def AxRun.homeBegin (r : AxRun) (i : AxIn) : AxRun :=
  let method := i.cfg.n F.homeMethod i.a
  let d := homeDir i.cfg i.a
  let r := r.mot fun m => { m with home := { m.home with first := false }, source := .homing }
  if method = 0 then r
  else if method = 1 then r.homeLeg i d .push
  else if method = 3 then r.homeLeg i d .index
  else if r.ax.mot.home.input.active then r.homeLeg i (-d) .away
  else r.homeLeg i d .toward

/-- Position of an index pulse in the axis frame (R210). -/
def indexPosition (i : AxIn) (offset : Int) : Int :=
  let s := (if i.cfg.v F.posSign i.a = 1 then -1 else 1) * i.cfg.v F.posScale i.a
  framePosition (i.smp.position.toInt + i.smp.indexOffset.toInt) s offset

/-- HOME_INPUT and the limit inputs take their sensed samples (R212 to R214); chatter edges are kept while homing. -/
def AxRun.senseInputs (r : AxRun) (i : AxIn) : AxRun :=
  let c := i.cfg
  let n := c.n F.homeDebounce i.a
  let hl := decide (c.v F.homeInputLevel i.a = 1)
  let ll := c.n F.limitLevel i.a
  let x := r.ax.loop.xMeas
  r.mot fun m =>
    let h := m.home
    let h := match i.homeIn with
      | none => h
      | some lv =>
        let edges := if h.phase ≠ .none ∧ h.raw.isSome ∧ h.raw ≠ some lv then
            i.now :: h.edges.filter (fun t => decide (since i.now t < c.n F.homeChatterWindow i.a)) else h.edges
        { h with input := h.input.sense n (lv == hl) x, raw := some lv, edges := edges }
    { m with
      home := h
      limNeg := match i.limNegIn with
        | none => m.limNeg
        | some lv => m.limNeg.sense n (lv == decide (ll % 2 = 1)) x
      limPos := match i.limPosIn with
        | none => m.limPos
        | some lv => m.limPos.sense n (lv == decide (ll / 2 % 2 = 1)) x }

/-- Direction in which a move in progress travels, 0 at rest. -/
def MotionSt.travel (m : MotionSt) : Int :=
  if m.vp ≠ 0 then sgn m.vp else if m.phase ≠ .idle then sgn (m.target * 65536 - m.xp) else 0

/-- What a travel limit that trips does: its side is -1 or +1 (R214); an obstacle's reaction wins over the quick stop (R198). DEDUCED
(log 37). -/
def AxRun.limitTrip (r : AxRun) (i : AxIn) (side : Int) : AxRun :=
  let along := decide (r.ax.mot.travel = side)
  if along && decide (r.ax.mot.home.phase ≠ .none) then r.homeFail i 3
  else
    let r := r.event 3 0x2004 0
    if along && r.ax.mot.driven && !r.ax.obst.confirmed then r.quickStop i else r

/-- Chatter of HOME_INPUT during homing (R213). -/
def chattering (c : Cfg) (a : Nat) (h : HomeSt) : Bool := decide (c.n F.homeChatterEdges a < h.edges.length)

/-- Why a homing in progress fails in this tick, if it does: the lowest RESULT (R213 to R216). `limit` says that the limit of its
direction of travel tripped in this tick. -/
def HomeSt.fault (h : HomeSt) (i : AxIn) (limit : Bool) : Option Nat :=
  if chattering i.cfg i.a h then some 2
  else if limit then some 3
  else if decide (msTicks (i.cfg.n F.homeTimeout i.a) ≤ since i.now h.start) then some 5
  else if h.first && i.noIndex then some 6 else none

/-- HOME_INPUT has become active on the way toward it: SWITCH has its found position, SWITCH_INDEX goes on toward the index (R210, R212). -/
def AxRun.switchFound (r : AxRun) (i : AxIn) (x : Int) : AxRun :=
  if i.cfg.n F.homeMethod i.a = 4 then
    (r.mot fun m => { m with home := { m.home with switchTick := some i.now } }).homeLegFrom i (homeDir i.cfg i.a) x .index
  else r.homeFound i x

/-- Homing before step 5: a failure, or a found position (R210 to R216); the first tick can find one already. `stalled` marks a
stall declared in this tick. -/
def AxRun.homeSearch (r : AxRun) (i : AxIn) (fault : Option Nat) (wasActive stalled : Bool) : AxRun :=
  let c := i.cfg
  let d := homeDir c i.a
  if r.ax.mot.home.phase = .none then r
  else
  match fault with
  | some n => r.homeFail i n
  | none =>
    let r := if r.ax.mot.home.first then r.homeBegin i else r
    let m := r.ax.mot
    let h := m.home
    match h.phase with
    | .absolute => if i.good && i.smp.flags.getLsbD 0 && !i.encoderless then r.homeAbsolute i else r
    | .push =>
      if c.kind i.a = 2 then
        if stalled then r.homeFound i r.ax.loop.xMeas else r
      else
        let at' := h.atSpeed || decide (c.v F.homeSpeed i.a ≤ (if m.vRef < 0 then -m.vRef else m.vRef))
        let slow := decide ((if r.ax.loop.vMeas < 0 then -r.ax.loop.vMeas else r.ax.loop.vMeas) < c.v F.homeStallV i.a)
        let n := if !i.good then h.slow else if at' && slow then h.slow + 1 else 0
        let r := r.mot fun m => { m with home := { m.home with atSpeed := at', slow := n } }
        if i.good && decide (c.n F.homeStallTicks i.a ≤ n) then r.homeFound i r.ax.loop.xMeas else r
    | .away => if h.input.active then r else r.homeLeg i d .toward
    | .toward =>
      if h.input.active && !wasActive then r.switchFound i h.input.first else r
    | .index =>
      if i.good && i.smp.flags.getLsbD 6 && decide (h.switchTick ≠ some i.now) then
        r.homeFound i (indexPosition i h.offset)
      else r
    | .stopping =>
      if m.qstop then r
      else
        let r := r.mot fun m => { m with home := { m.home with phase := .backoff } }
        r.take i (c.v F.homePos i.a - c.v F.homeBackoff i.a * d) .homing true
    | _ => r

/-- Homing after step 5: a landing completes the backoff or fails a leg (R210, R215). -/
def AxRun.homeLanding (r : AxRun) (i : AxIn) : AxRun :=
  let m := r.ax.mot
  match m.home.phase with
  | .backoff => if m.landed || (m.phase == .idle && decide (m.vp = 0) && decide (m.xp = m.target * 65536)) then r.homeDone else r
  | .push =>
    if m.landed then (if i.encoderless then r.homeFound i m.target else r.homeFail i 4) else r
  | .away => if m.landed then r.homeFail i 4 else r
  | .toward => if m.landed then r.homeFail i 4 else r
  | .index => if m.landed then r.homeFail i 4 else r
  | _ => r

/-! ## Gearing, following, pulses (R217 to R220, R224) -/

/-- The piecewise-linear integral G(m) from 0 to `m`; `m` and the result have 44 fractional bits, with at most 20 of
them used by `m` (R217). DESIGN CHOICE (log 39). -/
def gearG (c : Cfg) (a : Nat) (m : Int) : Int :=
  let n := c.n F.gearSegments a
  let ratio := fun k => c.v F.gearRatio (4 * a + min k (n - 1))
  let b1 := c.v F.gearM1 a * 2 ^ 44
  let b2 := c.v F.gearM2 a * 2 ^ 44
  let b3 := c.v F.gearM3 a * 2 ^ 44
  -- integral from b1, then referred to 0
  let from1 := fun x : Int =>
    if x < b1 then (x - b1) * ratio 0
    else if x < b2 then (x - b1) * ratio 1
    else if x < b3 then (b2 - b1) * ratio 1 + (x - b2) * ratio 2
    else (b2 - b1) * ratio 1 + (b3 - b2) * ratio 2 + (x - b3) * ratio 3
  (from1 m - from1 0) / 2 ^ 24

/-- Gear-in (R218): GEAR_X0 keeps x_ref. -/
def MotionSt.gearIn (m : MotionSt) (g : Int) : MotionSt :=
  { m with source := .geared, gearX := m.xp * 2 ^ 28, gearX0 := m.xp * 2 ^ 28 - g, gearReset := false, gearHeld := false,
           wait := none, phase := .idle }

/-- A geared tick (R217, R219): x_ref follows the master, held at a soft limit on a homed axis. From hold, the tick in which the master
first moves it is a wake tick (R223). -/
def AxRun.gearStep (r : AxRun) (i : AxIn) (m : Int) : AxRun :=
  let c := i.cfg
  let g := gearG c i.a m
  let mo := r.ax.mot
  let x0 := if mo.gearReset then mo.gearX - g else mo.gearX0
  let x := x0 + g
  let lo := c.v F.softMin i.a * 2 ^ 44
  let hi := c.v F.softMax i.a * 2 ^ 44
  let out := mo.home.homed && (decide (x < lo) || decide (hi < x))
  let x' := if mo.home.homed then sat lo hi x else x
  if mo.step.holding && decide (x' ≠ mo.gearX) then
    r.mot fun m => { m with gearX0 := x0, gearReset := false, phase := .wake, vRef := 0, vp := 0, aRef := 0,
                            step := { m.step with holding := false, wake := true, rest := 0 } }
  else
    let xr := satS 32 (rdiv x' (2 ^ 44))
    let vr := satS 32 ((xr - mo.xRef) * 20000)
    let r := r.mot fun m =>
      { m with gearX0 := x0, gearX := x', gearReset := false, gearHeld := out, xp := rdiv x' (2 ^ 28), vp := vr * 256,
               xRef := xr, vRef := vr, aRef := satS 32 ((vr - m.vRef) * 20000), target := xr, phase := .idle,
               step := { m.step with wake := false } }
    if out && !mo.gearHeld then r.event 5 0x2008 0 else r

/-- Gearing ends with a quick stop (R219). -/
def AxRun.gearLost (r : AxRun) (i : AxIn) : AxRun := (r.quickStop i).event 6 0x2009 0

/-- The candidate target of following (R220). -/
def followCand (c : Cfg) (a : Nat) (x : Int) : Int :=
  let lo := c.v F.followInLo a
  let hi := c.v F.followInHi a
  let xl := c.v F.followXLo a
  let xh := c.v F.followXHi a
  satS 32 (rdiv (xl * (hi - lo) + (sat lo hi x - lo) * (xh - xl)) (hi - lo))

/-- Following in one tick (R220): whether a new target is to be planned. A candidate that equals the target in force is none, at
FOLLOW_X_LO and FOLLOW_X_HI too. DESIGN CHOICE (log 93). -/
def followTarget (c : Cfg) (a : Nat) (target x : Int) : Option Int :=
  let t := followCand c a x
  let d := if t < target then target - t else t - target
  if t ≠ target ∧ (c.v F.followDeadband a < d ∨ t = c.v F.followXLo a ∨ t = c.v F.followXHi a) then some t else none

/-- How many of `n` pulses, each of `q` / 256 in units of 2^-16 µm, fit before a soft limit that is `room` of those units away (R224). -/
def pulsesFit (n : Nat) (q room : Int) : Nat := if room < 0 then 0 else min n (room * 256 / q).toNat

/-- A pulse-and-direction tick (R224): the position moves by the count's change; pulses that would take a homed axis past a soft limit are
discarded. -/
def AxRun.pulseStep (r : AxRun) (i : AxIn) (count : BitVec 32) : AxRun :=
  let c := i.cfg
  let mo := r.ax.mot
  let diff := match mo.step.lastCount with
    | none => 0
    | some k => (count - k).toInt
  let ch := diff + mo.step.carry
  if mo.step.holding && decide (ch ≠ 0) then
    r.mot fun m => { m with phase := .wake, vRef := 0, vp := 0, aRef := 0,
                            step := { m.step with holding := false, wake := true, rest := 0, carry := ch } }
  else
    let q := c.v F.stepPulseMicro i.a * c.v F.fullstepUm i.a
    let room := if ch < 0 then mo.xp - c.v F.softMin i.a * 65536 else c.v F.softMax i.a * 65536 - mo.xp
    let k : Int := if mo.home.homed then sgn ch * pulsesFit ch.natAbs q room else ch
    let out := decide (k ≠ ch)
    let xp' := mo.xp + rdiv (k * q) 256
    let xr := satS 32 (rdiv xp' 65536)
    let vr := satS 32 ((xr - mo.xRef) * 20000)
    let r := r.mot fun m =>
      { m with source := .pulseDir, xp := xp', xRef := xr, vRef := vr, vp := vr * 256,
               aRef := satS 32 ((vr - m.vRef) * 20000), target := xr, phase := .idle,
               step := { m.step with wake := false, carry := 0 } }
    if out then r.event 1 0x2005 0 else r

/-! ## Steppers (R221 to R226) -/

/-- x_cmd of a stepper at the marker of the tick (R225). -/
def StepSt.xCmd (t : StepSt) : Int := rdiv (t.x2 * 5 + (t.x1 - t.x2)) 5

/-- A stall is declared (R225): the reference is realigned to the rotor. A geared axis goes on from there. DEDUCED (log 75). -/
def AxRun.stall (r : AxRun) (i : AxIn) : AxRun :=
  let x := r.ax.loop.xMeas
  let fs := i.cfg.v F.fullstepUm i.a
  let r := r.obst fun o => o.abandon i.now
  let r := r.mot fun m =>
    { m with xp := x * 65536, vp := 0, xRef := x, vRef := 0, aRef := 0, target := x, phase := .idle, latched := false,
             deferral := none, used := none, atTarget := false, qstop := false, gearX := x * 2 ^ 44,
             gearReset := m.gearReset || decide (m.source = .geared),
             step := { m.step with p := phaseAt fs m.step.offset (x * 65536), stallRun := 0 } }
  r.event 4 0x2002 0

/-- The stall comparison of a stepper with an encoder (R225): whether a stall is declared in this tick. -/
def AxRun.stallCheck (r : AxRun) (i : AxIn) : AxRun × Bool :=
  let m := r.ax.mot
  if i.cfg.kind i.a = 2 ∧ i.cfg.v F.stepEncoder i.a = 1 ∧ m.driven = true ∧ i.good = true then
    let d := (r.ax.loop.xMeas - m.step.xCmd).natAbs
    let n := if (i.cfg.v F.stallWindow i.a) < d then m.step.stallRun + 1 else 0
    let r := r.mot fun m => { m with step := { m.step with stallDev := max m.step.stallDev d, stallRun := n } }
    if i.cfg.n F.stallTicks i.a ≤ n then (r.stall i, true) else (r, false)
  else (r, false)

/-- A stepper enters hold (R223). -/
def MotionSt.hold (m : MotionSt) : MotionSt := { m with step := { m.step with holding := true } }

/-- A stepper is at rest on its target (R223). Gearing and pulse input keep the target at the reference. -/
def MotionSt.rests (m : MotionSt) : Bool :=
  m.still && (decide (m.xp = m.target * 65536) || m.source == Source.geared || m.source == Source.pulseDir)

/-- Rest ticks and hold of a stepper after step 5 (R223): HOLD_DELAY runs from the tick in which it first rests. DEDUCED (log 37). -/
def MotionSt.restTick (m : MotionSt) (holdTicks : Nat) : MotionSt :=
  let still := m.rests
  let n := if still then satN (m.step.rest + 1) 18 else 0
  let m := { m with step := { m.step with rest := n } }
  if still && decide (holdTicks < n) then m.hold else { m with step := { m.step with holding := m.step.holding && still } }

/-- The command record of a driven stepper and the phase it ends at (R221 to R223). FLAGS.TRIP_RESET is never sent. DESIGN CHOICE (log 88). -/
def AxRun.stepCommand (r : AxRun) (i : AxIn) : AxRun :=
  let c := i.cfg
  let m := r.ax.mot
  let v := (if m.vRef < 0 then -m.vRef else m.vRef)
  let mv := c.v F.stepModeV i.a
  let strong := decide (mv = 0) || decide (mv ≤ v) || (m.step.strong && decide (9 * mv ≤ 10 * v))
  let full : Int := if strong then satU 16 (rdiv (c.v F.runCurrent i.a * 1000) i.lsb) else c.v F.quietDuty i.a
  let pct : Int := if m.home.phase = .push then c.v F.homeCurrent i.a else 100
  let amp := rdiv (full * pct) 100
  let amp := if m.step.holding then rdiv (amp * c.v F.holdFraction i.a) 100 else amp
  let fs := c.v F.fullstepUm i.a
  let p1 := if m.source = .geared then rdiv (m.gearX * 16384 * 256) (fs * 2 ^ 28) + m.step.offset else phaseAt fs m.step.offset m.xp
  let start := (m.step.p / 256)
  let rate := p1 - start * 256
  let st := (Int.emod start 65536).toNat
  r.mot fun m =>
    { m with
      step := { m.step with p := p1, start := st, rate := satS 32 rate, strong := strong }
      cmd := ⟨if strong then 3 else 2, 1, (satU 16 amp).toNat, BitVec.ofNat 16 st, BitVec.ofInt 32 (satS 32 rate)⟩ }

/-! ## Obstacles of one axis (R229 to R235, R242, R246) -/

/-- Speed of the axis's table at a closing distance, µm/s (R231). -/
def tableSpeed (c : Cfg) (a : Nat) (z : Int) : Int :=
  let s := fun k => c.v F.speedTable (16 * a + k)
  if z ≤ 0 then s 0 * 1000
  else if 750000 ≤ z then s 15 * 1000
  else
    let k := (z / 50000).toNat
    rdiv ((s k * 50000 + (z - 50000 * k) * (s (k + 1) - s k)) * 1000) 50000

/-- v_cap (R171, R231). -/
def speedCap (c : Cfg) (a : Nat) (z : Int) : Int := min (energySpeed (c.v F.keLimit a) (c.v F.refMass a)) (tableSpeed c a z)

/-- F_LIM (R230). -/
def forceLimit (c : Cfg) (a : Nat) (x : Axis) : Int :=
  if x.mot.reaction ≠ .none ∨ x.mot.stopEnd = true then 0
  else
    let f := if x.loop.dir = 1 then c.v F.openForceLim a else c.v F.closeForceLim a
    let f := if x.mot.home.phase = .push then min f (c.v F.homeForce a) else f
    satF (rdiv (f * 4096) 10)

/-- The effective closed position of the tick (R242, step 2). -/
def ObstSt.closedPosition (o : ObstSt) (i : AxIn) : ObstSt :=
  let c := i.cfg
  let t := if c.v F.closedTSrc i.a = 1 then i.stageTemp else i.housing
  let x := rdiv (o.xLearnt * 10 + c.v F.closedTc i.a * (t - 200)) 10
  let nom := c.v F.closedNom i.a
  let dr := c.v F.closedDriftMax i.a
  let x' := if i.monitored then o.xEval else sat (nom - dr) (nom + dr) x
  { o with xClosed := x', temp := t, compBound := decide (sat (nom - dr) (nom + dr) x ≠ x) }

/-- The threshold T of the tick, 0.1 N (R233). -/
def threshold (c : Cfg) (a : Nat) (x : Axis) : Nat :=
  if x.loop.dir = -1 ∧ x.z ≤ c.v F.sealZone a then c.n F.sealThreshold a else c.n F.obstThreshold a

/-- r_n exceeds a threshold of 0.1 N steps (R233). -/
def exceeds (rn : Int) (t : Nat) : Bool := decide ((t : Int) * 4096 < rn * 10)

/-- The axis's tick is armed (R232); v_ref is that of the tick before. -/
def armedNow (i : AxIn) (x : Axis) : Bool :=
  decide (i.cfg.kind i.a = 1) && x.mot.driven && i.good && i.ready && decide (x.mot.vRef ≠ 0) &&
    decide (x.mot.reaction = .none)

/-- The bin of a closing distance (R246). -/
def binOf (z : Int) : Nat := if z < 0 then 0 else (z / 2500).toNat

/-- A sample of the last stroke enters its bin (R246). -/
def ObstSt.binSample (o : ObstSt) (z rn : Int) : ObstSt :=
  if o.closing && decide (z < 80000) then
    let k := binOf z
    { o with binSum := o.binSum.set k (o.binSum.getD k 0 + rn), binCount := o.binCount.set k (o.binCount.getD k 0 + 1) }
  else o

/-- The obstacle is confirmed (R235): recorded and counted. -/
def AxRun.confirm (r : AxRun) (i : AxIn) : AxRun :=
  let l := r.ax.loop
  let r := r.obst fun o =>
    { o with count := 0, confirmed := true, lastTick := i.now, lastX := l.xMeas, lastR := o.rn, lastV := l.vMeas,
             total := satN (o.total + 1) 32 }
  { r with ev := (0x2001, 0) :: r.ev }

/-- Step 4: comparison and confirmation count (R232 to R235). A marked axis confirms nothing of its own (R238). -/
def AxRun.compare (r : AxRun) (i : AxIn) : AxRun :=
  if i.cfg.kind i.a ≠ 1 then r
  else
    let x := r.ax
    let armed := armedNow i x
    let rn := x.loop.r * x.loop.dir
    let t := threshold i.cfg i.a x
    let n :=
      if armed then (if exceeds rn t then x.obst.count + 1 else 0)
      else if x.loop.stale && i.ready then x.obst.count else 0
    let r := r.obst fun o =>
      { o with armed := armed, rn := rn, threshold := t, count := n, confirmed := false,
               inSeal := decide (x.loop.dir = -1) && decide (x.z ≤ i.cfg.v F.sealZone i.a) }
    let r := if armed && decide (x.loop.dir = -1) then r.obst fun o => o.binSample x.z rn else r
    if armed && !x.obst.marked && decide (i.cfg.n F.obstConfirm i.a ≤ n) then r.confirm i else r

/-! ## The steps of one axis (R160) -/

/-- The axis is not driven (R196): OFF, its reference on the measurement. -/
def AxRun.off (r : AxRun) (i : AxIn) : AxRun :=
  let x := r.ax.loop.xMeas
  let r := r.obst fun o => { (o.abandon i.now) with closing := false, marked := false }
  let r := r.loop fun l => { l.disengage with learn := if l.learn.clean then l.learn.spoil else l.learn }
  let fs := i.cfg.v F.fullstepUm i.a
  r.mot fun m =>
    { m with driven := false, source := .off, phase := .idle, xp := x * 65536, vp := 0, xRef := x, vRef := 0, aRef := 0,
             target := x, wait := none, held := false, latched := false, atTarget := false, landed := false,
             stopEnd := false, replanned := false, deferral := none, used := none, qstop := false, reaction := .none, braking := false,
             follow := false, followBad := false, jog := false, cmd := .off,
             step := { m.step with p := phaseAt fs m.step.offset (x * 65536), strong := false, holding := false, rest := 0,
                                   wake := false, stallRun := 0, lastCount := none, carry := 0 } }

/-- Whether the axis is driven in this tick (R196). -/
def drivenNow (i : AxIn) (m : MotionSt) : Bool :=
  m.want && i.ready && i.unitDrives && decide (i.cfg.kind i.a ≠ 0)

/-- The axis stops being driven: a homing in progress fails with a RESULT (R215, R216). -/
def AxRun.releaseWith (r : AxRun) (i : AxIn) (result : Nat) : AxRun :=
  let r := if r.ax.mot.home.phase ≠ .none then r.homeFailCode result else r
  r.off i

/-- The axis stops being driven: a homing in progress ends with HOME_ABORT (R215). -/
def AxRun.release (r : AxRun) (i : AxIn) : AxRun := r.releaseWith i 8

/-- The first driven tick starts from the measured position at rest (R196). -/
def AxRun.engage (r : AxRun) : AxRun :=
  let x := r.ax.loop.xMeas
  r.mot fun m => { m with driven := true, xp := x * 65536, vp := 0, xRef := x, vRef := 0, aRef := 0, target := x,
                          source := if m.home.phase = .none then .planner else .homing, phase := .idle }

/-- Steps 2 and 3 of an axis (R165, R183, R197, R242). -/
def AxRun.measureStep (r : AxRun) (i : AxIn) (p : LoopPar) : AxRun :=
  let c := i.cfg
  let kind := c.kind i.a
  let r :=
    if i.encoderless then
      r.loop fun l => { l with xMeas := satS 32 r.ax.mot.step.xCmd, stale := !i.good, seen := i.ready }
    else if !i.ready then r.loop (·.portDown)
    else if i.good then
      let s := (if c.v F.posSign i.a = 1 then -1 else 1) * c.v F.posScale i.a
      let x := framePosition i.smp.position.toInt s r.ax.mot.home.offset
      r.loop fun l => l.measure x i.smp.current.toInt p.lsb
    else r.loop (·.extrapolate)
  let r := r.obst fun o => o.closedPosition i
  if kind = 1 && i.ready && i.good then
    let aRef := r.ax.mot.aRef
    r.loop fun l => l.observe p aRef
  else r

/-- A waiting target that step 5 may take in this tick (R198). -/
def MotionSt.dueTarget (m : MotionSt) (now : Tick) : Option Int :=
  if m.qstop || decide (m.reaction ≠ .none) || decide (m.waitTick = now) then none else m.wait

/-- The waiting target that step 5 plans: one that the axis rests on already is no new target (R244), and one that meets a homing loses. -/
def MotionSt.planTarget (m : MotionSt) (now : Tick) : Option Int :=
  (m.dueTarget now).filter fun t =>
    !(m.vp == 0 && m.xp == m.target * 65536 && t == m.target && m.source != Source.geared) && m.home.phase == HomePhase.none

/-- A waiting target that has reached step 5 waits no longer (R198). -/
def AxRun.dropDue (r : AxRun) (i : AxIn) : AxRun :=
  if (r.ax.mot.dueTarget i.now).isSome then r.mot fun m => { m with wait := none, held := false } else r

/-- The planner part of step 5 for the sources PLANNER, HOMING and FOLLOW, with the wake tick of R223. The first driven tick plans
and asks for no motion (R196). -/
def AxRun.planStep (r : AxRun) (i : AxIn) (fresh : Bool) : AxRun :=
  let plan := r.ax.mot.planTarget i.now
  let r := r.dropDue i
  let r := match plan with
    | none => r
    | some t => r.take i t .planner true
  let r :=
    if r.ax.mot.follow && !r.ax.mot.qstop && decide (r.ax.mot.reaction = Reaction.none) then
      match i.followIn with
      | none =>
        if r.ax.mot.followBad then r
        else (r.mot fun m => { m with followBad := true }).event 8 0x200B 0
      | some x =>
        let r := r.mot fun m => { m with followBad := false, source := if plan.isSome then m.source else .follow }
        match followTarget i.cfg i.a r.ax.mot.target x with
        | none => r
        | some t => if plan.isSome then r else r.take i t .follow true
    else r
  let m := r.ax.mot
  if m.step.holding && (m.xp != m.target * 65536 || m.vp != 0) then
    r.mot fun m => { m with phase := .wake, vRef := 0, aRef := 0,
                            step := { m.step with holding := false, wake := true, rest := 0 } }
  else
    let r := r.mot fun m => { m with step := { m.step with wake := false } }
    if fresh then r
    else if r.ax.mot.qstop then
      let dq := quickDecel i.cfg i.a
      let dq := if r.ax.mot.braking then max dq (i.cfg.v F.revDecel i.a) else dq
      r.mot fun m => m.quickStep dq
    else r.profileStep i

/-- Step 5: reaction, quick stop, and the sources in the order of R198. `result` is what an obstacle leaves a homing with, and
`fresh` marks the first driven tick. An axis with STEP_SOURCE PULSE_DIR does not use the planner (R224): a doorway target that reaches it is
discarded. DEDUCED (log 37). -/
def AxRun.referenceStep (r : AxRun) (i : AxIn) (result : Nat) (fresh : Bool) : AxRun :=
  let r := r.mot fun m => { m with landed := false }
  let x := r.ax
  if x.obst.confirmed then (r.react i false result).profileStep i
  else if x.obst.marked && decide (x.mot.reaction = .none) then
    ((r.react i true result).obst fun o => { o with marked := false }).profileStep i
  else
    let m := x.mot
    if m.home.phase = .none && decide (i.cfg.kind i.a = 2) && decide (i.cfg.v F.stepSource i.a = 1) && !m.qstop then
      let r := r.dropDue i
      match i.pulse, fresh with
      | some k, false => r.pulseStep i k
      | _, _ => r.mot fun m => { m with source := .pulseDir, vRef := 0, vp := 0, aRef := 0 }
    else if m.source = .geared then
      match i.master with
      | some g => if (m.dueTarget i.now).isNone then r.gearStep i g else r.planStep i fresh
      | none => (r.gearLost i).planStep i fresh
    else r.planStep i fresh

/-- The end of reaction braking after step 6 (R237): the held target waits for the next tick. The tick in which a stop lands is
still part of it. -/
def AxRun.reactionEnd (r : AxRun) : AxRun :=
  let m := r.ax.mot
  let ended : Bool :=
    match m.reaction with
    | Reaction.none => false
    | .stop => m.landed || (decide (m.vp = 0) && decide (m.phase = .idle))
    | _ => decide (r.ax.loop.dir = 1) || (!m.braking && decide (m.phase = .idle))
  if ended then
    r.mot fun m => { m with stopEnd := m.reaction == Reaction.stop, reaction := .none, braking := false } else r

/-- A leaf's evaluation starts at the landing of a closing move (R244). -/
def AxRun.evalStart (r : AxRun) (i : AxIn) : AxRun :=
  if r.ax.mot.landed && r.ax.obst.closing && i.leaf && decide (i.cfg.kind i.a = 1) then
    r.obst fun o => { o with eval := .settle (msTicks (i.cfg.n F.closeSettle i.a)) }
  else r

/-- A tick of settling or averaging after the landing; the last good sample hands g to the closure check (R244). -/
def AxRun.evalTick (r : AxRun) (i : AxIn) : AxRun × Bool :=
  match r.ax.obst.eval with
  | .idle => (r, false)
  | .settle (k + 1) => (r.obst fun o => { o with eval := .settle k }, false)
  | .settle 0 =>
    if i.good then (r.obst fun o => { o with eval := .mean r.ax.loop.xMeas 1 }, false) else (r, false)
  | .mean s n =>
    if i.good then
      if 19 ≤ n then (r.obst fun o => { o with eval := .idle, xObs := rdiv (s + r.ax.loop.xMeas) 20 }, true)
      else (r.obst fun o => { o with eval := .mean (s + r.ax.loop.xMeas) (n + 1) }, false)
    else (r, false)

/-- Steps 6 to 9 of a driven force axis (R160, R166 to R175, R230). A move that selects loop F or E is not clean, learning or not
(R182). FLAGS.TRIP_RESET is never sent. DESIGN CHOICE (log 88). -/
def AxRun.forceSteps (r : AxRun) (i : AxIn) (p : LoopPar) : AxRun :=
  let c := i.cfg
  let m := r.ax.mot
  let first := !r.ax.loop.engaged
  let d0 := r.ax.loop.dir
  let r := if first then r.loop fun l => { l with dir := 1, engaged := true } else r
  let r := r.loop fun l => l.direction m.vRef m.target m.xRef
  let r := if !first && decide (r.ax.loop.dir ≠ d0) then r.obst fun o => { o with count := 0 } else r
  let r := r.reactionEnd
  let run := decide (i.now.toNat % p.posDiv = 0) || m.replanned || first
  let fl := forceLimit c i.a r.ax
  let cap := speedCap c i.a r.ax.z
  let r := r.loop fun l => ((l.position p run m.xRef m.vRef).inner p first m.vRef m.aRef fl cap).convert p
  let l := r.ax.loop
  let learnOn := decide (c.v F.learnEnable i.a = 1)
  let r := r.loop fun l =>
    if l.learn.clean then
      if l.sel ≠ some .v then { l with learn := l.learn.spoil }
      else if learnOn && i.good && decide (m.aRef = 0) && decide (c.v F.learnVmin i.a ≤ (if m.vRef < 0 then -m.vRef else m.vRef)) then
        { l with learn := l.learn.sample (tableCell p.x0 p.x1 l.xMeas) (l.rRaw * l.dir) }
      else l
    else l
  let r := if m.landed && learnOn then r.loop fun l => { l with learn := l.learn.land } else r
  r.mot fun m => { m with cmd := ⟨1, 1, l.aux, BitVec.ofInt 16 l.sp, 0⟩ }

/-- All steps of one axis in the compute phase; the flag says that its leaf has completed an evaluation (R160). A replan since the last
compute phase forces the position loop (R168). -/
def AxRun.tick (r : AxRun) (i : AxIn) : AxRun × Bool :=
  let c := i.cfg
  let p := loopPar c r.ax.loop.bank i.lsb i.a
  let r := r.mot fun m =>
    { m with landed := false, stopEnd := false, qbrake := if m.reaction = .none then m.qstop else m.qbrake }
  let r := r.loop fun l =>
    (l.derive (c.n F.velFc i.a) (c.n F.obsCorner i.a) p.bank).clampIntegrators (-p.brakeMax) (min p.driveMax l.fLim)
  let r := r.measureStep i p
  let wasIn := r.ax.mot.home.input.active
  let wasNeg := r.ax.mot.limNeg.active
  let wasPos := r.ax.mot.limPos.active
  let r := r.senseInputs i
  let negTrip := r.ax.mot.limNeg.active && !wasNeg
  let posTrip := r.ax.mot.limPos.active && !wasPos
  let homing := decide (r.ax.mot.home.phase ≠ .none)
  -- limits that end a homing move are no TRAVEL_LIMIT (R214)
  let negHome := negTrip && homing && decide (r.ax.mot.travel = -1)
  let posHome := posTrip && homing && decide (r.ax.mot.travel = 1)
  let fault := r.ax.mot.home.fault i (negHome || posHome)
  let r :=
    if drivenNow i r.ax.mot then
      let fresh := !r.ax.mot.driven
      let r := if fresh then r.engage else r
      let r := r.compare i
      let sc := r.stallCheck i
      let r := sc.1
      let r := if r.ax.obst.confirmed then r else r.homeSearch i fault wasIn sc.2
      let r := if negTrip && !negHome then r.limitTrip i (-1) else r
      let r := if posTrip && !posHome then r.limitTrip i 1 else r
      let r := r.referenceStep i (fault.getD 7) fresh
      let r := r.homeLanding i
      if c.kind i.a = 1 then r.forceSteps i p
      else
        let r := r.reactionEnd
        let r := r.mot fun m => m.restTick (msTicks (c.n F.holdDelay i.a))
        r.stepCommand i
    else
      let r := if r.ax.mot.driven || homing then r.releaseWith i (fault.getD 8) else r.off i
      let r := if negTrip then r.limitTrip i (-1) else r
      let r := if posTrip then r.limitTrip i 1 else r
      let r := r.compare i
      if c.kind i.a = 1 && i.ready then r.loop fun l => { l with fTable := tablePhys p l } else r
  let r := r.evalStart i
  let e := if r.ax.mot.landed then (r, false) else r.evalTick i
  let r := e.1
  let r := r.loop fun l => l.learnTick (c.v F.learnStep i.a) (c.v F.tableLimit i.a) i.now
  (r.mot fun m => { m with replanned := false, step := { m.step with x2 := m.step.x1, x1 := m.xRef, lastCount := i.pulse } }, e.2)

end Sys2Proof.Machine
end

