-- ==== Sys2Proof/Machine/PartsDoor.lean ====
section
/-! DEFINITION. Parts of State: doorways, BOLT outputs, pairs and safe telegrams. One structure per unit of the module with its value at
the start of BOOT; a field's line gives its width, the rule that names it and its reset value. -/

namespace Sys2Proof.Machine

/-! ## Doorways (ch. 8) -/

/-- The 16 doorway states of R265. -/
inductive DoorState where
  /-- 0. -/
  | unhomed
  /-- 1. -/
  | isolated
  /-- 2. -/
  | closedLocked
  /-- 3. -/
  | closedUnlocked
  /-- 4. -/
  | unlocking
  /-- 5. -/
  | stepOut
  /-- 6. -/
  | opening
  /-- 7. -/
  | opened
  /-- 8. -/
  | warning
  /-- 9. -/
  | closing
  /-- 10. -/
  | reopening
  /-- 11. -/
  | obstructedOpen
  /-- 12. -/
  | stepIn
  /-- 13. -/
  | locking
  /-- 14. -/
  | egress
  /-- 15. -/
  | fault
  deriving DecidableEq, Repr

/-- The state code of R265. -/
def DoorState.code : DoorState → Nat
  | .unhomed => 0
  | .isolated => 1
  | .closedLocked => 2
  | .closedUnlocked => 3
  | .unlocking => 4
  | .stepOut => 5
  | .opening => 6
  | .opened => 7
  | .warning => 8
  | .closing => 9
  | .reopening => 10
  | .obstructedOpen => 11
  | .stepIn => 12
  | .locking => 13
  | .egress => 14
  | .fault => 15

/-- Where homing of a doorway stands (R278). -/
inductive HomeStage where
  /-- Not homing. -/
  | none
  /-- Stage 1: the step homes. -/
  | step
  /-- Stage 2: the leaves home. -/
  | leaves
  /-- Stage 3: the lock homes. -/
  | lock
  /-- The closing moves after homing. -/
  | moves
  /-- An axis has failed: the axes are brought to rest. -/
  | failed
  deriving DecidableEq, Repr

/-- Where the axes of a doorway in EGRESS stand (R276, R277). -/
inductive EgressStage where
  /-- Not in EGRESS. -/
  | none
  /-- EGRESS_WAIT. -/
  | wait
  /-- The lock moves to LOCK_UNLOCKED_POS. -/
  | unlock
  /-- EGRESS_ACTION has been applied. -/
  | acted
  deriving DecidableEq, Repr

/-- One doorway (ch. 8). -/
structure Door where
  /-- STATE (4 bits, R265, reset 0 UNHOMED). -/
  st : DoorState
  /-- STATE_TICK (32 bits, R284, reset live 0). -/
  tick : Tick
  /-- The state changed because of an event in the compute phase in progress (1 bit, R268, reset 0). -/
  moved : Bool
  /-- Commands taken in the tick in progress: bit 0 close, bit 1 open (2 bits, R262, reset 0). -/
  given : BitVec 2
  /-- ATTEMPTS (4 bits, R270, reset 0). -/
  attempts : Nat
  /-- HOMING and its stage (3 bits, R278, reset none). -/
  homing : HomeStage
  /-- BUTTONS_BLOCKED (1 bit, R264, reset 0). -/
  blocked : Bool
  /-- A jog runs: its slot (3 bits, R281, reset none). -/
  jog : Option (Fin 4)
  /-- Tick of the last GO = 1 (32 bits, R282, reset 0). -/
  jogTick : Tick
  /-- JOG_TARGET (32 bits, R284, reset 0). -/
  jogTarget : Int
  /-- A jog ran on the doorway in this MAINTENANCE (1 bit, R282, reset 0). -/
  jogRan : Bool
  /-- Axes of a jog that ended, being brought to rest (4 bits, R282, reset 0). -/
  jogStop : BitVec 4
  /-- EGRESS stage: EGRESS_WAIT is its first (2 bits, R276, reset none). -/
  egress : EgressStage
  /-- CAUSE.FAULT (16 bits, R279, reset 0). -/
  cause : Code
  /-- CAUSE.REFUSAL (16 bits, R263, reset 0). -/
  refusal : Code
  /-- WARN_END (32 bits, R272, reset 0). -/
  warnEnd : Tick
  /-- Hold ceiling C (32 bits, R272, reset 0). -/
  ceiling : Tick
  /-- DWn_EVENTS (11 bits, R284, reset 0). -/
  events : Word
  /-- CLOSE_COUNT (32 bits, R284, reset 0). -/
  closeCount : Nat
  /-- HOLD_IGNORED (32 bits, R273, reset 0). -/
  holdIgnored : Nat
  /-- A chime sounds until this tick (33 bits, R274, reset none). -/
  chime : Option Tick
  /-- Inputs as the sequencer read them, active: CLOSED, LOCKED, ISOLATED, ISO_LOCKED, EGRESS, BUTTON_IN, BUTTON_OUT (7 bits, R284, reset live 0). -/
  active : BitVec 7
  /-- Their valid bits (7 bits, R284, reset live 0). -/
  valid : BitVec 7
  /-- DWn_STATUS.RELEASE (1 bit, R284, reset live 0). -/
  release : Bool
  /-- Tick from which AUTO_CLOSE_MS counts (32 bits, R266, reset 0). -/
  autoTick : Tick
  /-- A retry of R271 waits for rest and then for its pause (1 bit, R271, reset 0). -/
  retry : Bool
  /-- Slots whose axes it waits for (4 bits, R271, reset 0). -/
  stopped : BitVec 4
  /-- Tick from which REOPEN_PAUSE_MS, STEP_RETRY_MS or LOCK_CONFIRM_MS counts (33 bits, R266, reset none). -/
  timer : Option Tick
  /-- The step rests where it stopped until the doorway leaves STEP_OUT or OPEN (1 bit, R266, reset 0). -/
  stepBlocked : Bool
  /-- Leaves whose reopen target waits for the end of reaction braking (2 bits, R267, reset 0). -/
  reopen : BitVec 2
  /-- The axes of FAULT are being brought to rest (1 bit, R279, reset 0). -/
  stopping : Bool
  /-- LAMP commanded on (1 bit, R265, reset 0). -/
  lamp : Bool
  /-- BUZZER commanded on (1 bit, R265, reset 0). -/
  buzzer : Bool
  /-- HEATER commanded on (1 bit, R265, reset 0). -/
  heater : Bool
  /-- DOOR_HOME_FAILED stands: the doorway has failed homing and is still UNHOMED (1 bit, R278, reset 0). -/
  homeFailed : Bool
  /-- Closure verdict. -/
  clo : Closure
  deriving DecidableEq, Repr

/-- A doorway at the start of BOOT. -/
def Door.reset : Door :=
  { st := .unhomed, tick := 0, moved := false, given := 0, attempts := 0, homing := .none, blocked := false, jog := none,
    jogTick := 0, jogTarget := 0, jogRan := false, jogStop := 0, egress := .none, cause := 0, refusal := 0,
    warnEnd := 0, ceiling := 0, events := 0, closeCount := 0, holdIgnored := 0, chime := none, active := 0, valid := 0,
    release := false, autoTick := 0, retry := false, stopped := 0, timer := none, stepBlocked := false, reopen := 0,
    stopping := false, lamp := false, buzzer := false, heater := false, homeFailed := false, clo := .start }

/-! ## BOLT outputs, pairs, release and safe telegrams (ch. 9) -/

/-- One channel's reading of a two-channel pair (R299 to R303). -/
structure PairRead where
  /-- The pair reads active in this channel (1 bit, R299, reset live the safe reading). -/
  value : Bool
  /-- c: consecutive disagreeing samples (20 bits, R300, reset live 0). -/
  c : Nat
  /-- In discrepancy (1 bit, R300, reset live 0). -/
  disc : Bool
  /-- Consecutive samples agreeing on the safe reading while in discrepancy (5 bits, R301, reset 0). -/
  agree : Nat
  deriving DecidableEq, Repr

/-- A pair at the start. -/
def PairRead.reset : PairRead := ⟨false, 0, false, 0⟩

/-- One pair in both channels. -/
structure Pair where
  /-- Channel A's reading: PAIR_VALUE, PAIR_DISC, Pn_COUNT. -/
  a : PairRead
  /-- Channel B's own reading (R288). -/
  b : PairRead
  /-- Pn_MAX_COUNT (20 bits, R320, reset 0). -/
  maxCount : Nat
  deriving DecidableEq, Repr

/-- A pair at the start of BOOT. -/
def Pair.reset : Pair := ⟨.reset, .reset, 0⟩

/-- The BOLT outputs (R286 to R296). -/
structure BoltSt where
  /-- DECISION_A (1 bit, R320, reset live 0). -/
  decA : Bool
  /-- DECISION_B (1 bit, R320, reset live 0). -/
  decB : Bool
  /-- COUNTS_A (16 bits, R288, reset live 0). -/
  countsA : BitVec 16
  /-- COUNTS_B (16 bits, R288, reset live 0). -/
  countsB : BitVec 16
  /-- WITHHELD_BY (16 bits, R480, reset live 4210h). -/
  withheld : Code
  /-- Latched BOLT faults: TEST_FAIL, OVERLOAD, EXT_DRIVEN, CHANNEL_DIFFER (4 bits, R295, reset 0). -/
  latched : BitVec 4
  /-- The combined decision of the last tick (1 bit, R484, reset 0). -/
  combined : Bool
  /-- The channels differed in the last tick compared (1 bit, R290, reset 0). -/
  differed : Bool
  /-- EXT_SEEN (1 bit, R294, reset live 0). -/
  extSeen : Bool
  /-- Tick in which the test cycle in progress started: TESTING (33 bits, R293, reset none). -/
  test : Option Tick
  /-- The expected readback of the pulse in progress has been seen (1 bit, R294, reset 0). -/
  pulseOk : Bool
  /-- Switches as last commanded: A high, B high, A low, B low (4 bits, R287, reset 0). -/
  switches : BitVec 4
  /-- SWITCH_ON readback (4 bits, R320, reset live 0). -/
  nodes : BitVec 4
  /-- OUT_A and OUT_B (2 bits, R320, reset live 0). -/
  outs : BitVec 2
  /-- BOLT_READBACK: BOLT_A terminal, 0.1 V (16 bits, R320, reset live 0). -/
  termA : BitVec 16
  /-- BOLT_READBACK: BOLT_B terminal, 0.1 V (16 bits, R320, reset live 0). -/
  termB : BitVec 16
  /-- Ticks since the last switch-on or end of a pulse, at most 3 (2 bits, R294, reset 0). -/
  settled : Nat
  /-- Consecutive ticks on which each switch node, then each terminal, failed the On check (6 times 2 bits, R294, reset 0). -/
  onRun : Vector Nat 6
  /-- Consecutive ticks on which each switch read on while commanded off (4 times 2 bits, R294, reset 0). -/
  offRun : Vector Nat 4
  /-- Consecutive ticks on which each terminal was driven while off (2 times 2 bits, R294, reset 0). -/
  extRun : Vector Nat 2
  /-- A parity error hit the BOLT command of this tick (1 bit, R296, reset 0). -/
  parity : Bool
  /-- BOLT_EVENTS (6 bits, R320, reset 0). -/
  events : Word
  /-- BOLT_DIFFER_COUNT (32 bits, R290, reset 0). -/
  differCount : Nat
  /-- BOLT_ON_TICK (32 bits, R484, reset 0). -/
  onTick : Tick
  /-- BOLT_OFF_TICK (32 bits, R484, reset 0). -/
  offTick : Tick
  deriving DecidableEq, Repr

/-- BOLT at the start of BOOT. -/
def BoltSt.reset : BoltSt :=
  { decA := false, decB := false, countsA := 0, countsB := 0, withheld := 0x4210, latched := 0, combined := false,
    differed := false, extSeen := false, test := none, pulseOk := false, switches := 0, nodes := 0, outs := 0,
    termA := 0, termB := 0, settled := 0, onRun := Vector.replicate 6 0, offRun := Vector.replicate 4 0, extRun := Vector.replicate 2 0,
    parity := false, events := 0, differCount := 0, onTick := 0, offTick := 0 }

/-- An open pair wait of a RELEASE telegram (R313). -/
structure TgWait where
  /-- SEQ of the copy (32 bits, R313, reset none). -/
  seq : BitVec 32
  /-- Bus it came on (1 bit, R313, reset none). -/
  bus : BusId
  /-- Tick in which the wait opened (32 bits, R313, reset none). -/
  tick : Tick
  /-- The 32 bytes (32 bytes, R313, reset none). -/
  bytes : List Byte
  deriving DecidableEq, Repr

/-- The safe-telegram connection (R306 to R316). -/
structure SafeSt where
  /-- FRESH (1 bit, R315, reset live 0). -/
  fresh : Bool
  /-- A telegram has been accepted since the start or the last timeout (1 bit, R312, reset 0). -/
  known : Bool
  /-- SAFE_RX_SEQ: s_l (32 bits, R320, reset 0). -/
  seq : BitVec 32
  /-- t_l, its TIMESTAMP (32 bits, R312, reset 0). -/
  stamp : BitVec 32
  /-- SAFE_RX_TICK: a_l (32 bits, R320, reset 0). -/
  tick : Tick
  /-- Flags of the last accepted telegram (3 bits, R320, reset live 0). -/
  flags : BitVec 3
  /-- CAR_SELECTED (1 bit, R320, reset live 0). -/
  car : Bool
  /-- The signals read absent after SAFE_TG_DIFFER until the next acceptance (1 bit, R313, reset 0). -/
  differ : Bool
  /-- WAITING and the wait's copy (R313, reset none). -/
  wait : Option TgWait
  /-- SINGLE_NET (1 bit, R314, reset live 0). -/
  single : Bool
  /-- SINGLE_EXPIRED (1 bit, R314, reset live 0). -/
  expired : Bool
  /-- SAFE_SINGLE_START (32 bits, R314, reset 0). -/
  singleStart : Tick
  /-- SAFE_TX_SEQ (32 bits, R320, reset 0). -/
  txSeq : BitVec 32
  /-- SEQ of the next DOOR_STATE (32 bits, R307, reset 0). -/
  txNext : BitVec 32
  /-- Highest SEQ read from the partner's DOOR_STATE (33 bits, R310, reset none). -/
  partnerSeq : Option (BitVec 32)
  /-- SAFE_TG_TIMEOUT stands: the connection has timed out and no acceptance has followed (1 bit, R315, reset 0). -/
  timedOut : Bool
  /-- SAFE_EVENTS (5 bits, R320, reset 0). -/
  events : Word
  /-- SAFE_DUAL (32 bits, R320, reset 0). -/
  dual : Nat
  /-- SAFE_SINGLE (32 bits, R320, reset 0). -/
  singles : Nat
  /-- SAFE_DIFFER (32 bits, R320, reset 0). -/
  differs : Nat
  /-- SAFE_CODE_ERR (32 bits, R320, reset 0). -/
  codeErr : Nat
  /-- SAFE_STALE (32 bits, R320, reset 0). -/
  stales : Nat
  /-- SAFE_DELAYED (32 bits, R320, reset 0). -/
  delayed : Nat
  /-- SAFE_TIMEOUTS (32 bits, R320, reset 0). -/
  timeouts : Nat
  /-- SAFE_TX_OVERRUN (32 bits, R320, reset 0). -/
  txOverrun : Nat
  deriving DecidableEq, Repr

/-- The connection at the start of BOOT. -/
def SafeSt.reset : SafeSt :=
  { fresh := false, known := false, seq := 0, stamp := 0, tick := 0, flags := 0, car := false, differ := false,
    wait := none, single := false, expired := false, singleStart := 0, txSeq := 0, txNext := 0, partnerSeq := none, timedOut := false,
    events := 0, dual := 0, singles := 0, differs := 0, codeErr := 0, stales := 0, delayed := 0, timeouts := 0,
    txOverrun := 0 }

/-- The settings of a pair as a channel holds them (R298 to R300). -/
structure PairSet where
  /-- PAIR_CH_A (8 bits, R298, reset FFh). -/
  chA : Nat
  /-- PAIR_CH_B (8 bits, R298, reset FFh). -/
  chB : Nat
  /-- PAIR_MODE is ANTIVALENT (1 bit, R299, reset 0). -/
  anti : Bool
  /-- The safe reading: active where the pair is an EGRESS_PAIR (1 bit, R299, reset 0). -/
  safe : Bool
  /-- D in ticks (20 bits, R300, reset 20). -/
  limit : Nat
  deriving DecidableEq, Repr

/-- Channel B's own copy of the settings it needs, loaded and read back in step 7 of a start (R286). -/
structure BoltCopy where
  /-- DOOR_USED (16 bits, R286, reset 0). -/
  used : BitVec 16
  /-- CLOSED_INPUT, LOCKED_INPUT, ISOLATED_INPUT and ISO_LOCKED_INPUT of each doorway (16 times 4 times 8 bits, R286, reset FFh). -/
  inputs : Vector (Vector Nat 4) 16
  /-- Pair settings. -/
  pairs : Vector PairSet 32
  deriving DecidableEq, Repr

/-- The copy before an image is in use: nothing is used. -/
def BoltCopy.reset : BoltCopy := ⟨0, Vector.replicate 16 (Vector.replicate 4 255), Vector.replicate 32 ⟨255, 255, false, false, 20⟩⟩

/-- A closure word (R286): all that channel B takes from channel A of a doorway. -/
structure ClosureWord where
  /-- Tick number (32 bits, R286, reset none). -/
  tick : Tick
  /-- Doorway state (4 bits, R286, reset none). -/
  st : DoorState
  /-- DWn_CLOSURE.CLOSED_LOCKED (1 bit, R286, reset none). -/
  closedLocked : Bool
  /-- DWn_STATUS.USED (1 bit, R286, reset none). -/
  used : Bool
  /-- CRC-16 over the rest (16 bits, R286, reset none). -/
  crc : Nat
  deriving DecidableEq, Repr

/-- The interlock as a whole. -/
structure Interlock where
  /-- BOLT outputs. -/
  bolt : BoltSt
  /-- P0 to P31. -/
  pairs : Vector Pair 32
  /-- PAIR_EVENTS (32 bits, R320, reset 0). -/
  pairEvents : Word
  /-- RELEASE_STATUS [2:0]: release left, release right, zero speed (3 bits, R305, reset live 0). -/
  release : BitVec 3
  /-- RELEASE_STATUS [6:4]: the parts from pairs (3 bits, R320, reset live 0). -/
  relPair : BitVec 3
  /-- RELEASE_STATUS [10:8]: the parts from telegrams (3 bits, R320, reset live 0). -/
  relTg : BitVec 3
  /-- Safe telegrams. -/
  safe : SafeSt
  /-- The closure words that last left channel A (16 times 54 bits, R286, reset none). -/
  words : Vector (Option ClosureWord) 16
  /-- Channel B's copy of its settings. -/
  copy : BoltCopy
  deriving DecidableEq, Repr

/-- The interlock at the start of BOOT. -/
def Interlock.reset : Interlock := ⟨.reset, Vector.replicate 32 .reset, 0, 0, 0, 0, .reset, Vector.replicate 16 none, .reset⟩

end Sys2Proof.Machine
end

