-- ==== Sys2Proof/Machine/Closure.lean ====
section
/-! DEFINITION. One doorway with its axes: the closure evaluation, the verdict and its learning (R238, R243 to R251,
R256). -/

namespace Sys2Proof.Machine

/-- A code raised: the code, its INSTANCE (R478) and its DETAIL. -/
structure Raised where
  /-- Code. -/
  code : Code
  /-- Instance, FFh for the unit. -/
  inst : Nat
  /-- Detail. -/
  detail : Word
  deriving DecidableEq, Repr

/-- What a doorway reads from its surroundings. -/
structure DoorIn where
  /-- Tick in progress. -/
  now : Tick
  /-- Doorway number. -/
  d : Nat
  /-- Configuration. -/
  cfg : Cfg
  /-- Ports in READY. -/
  ready : BitVec 32
  /-- Axes whose sample of this tick is good. -/
  good : BitVec 64
  /-- Axes that declared a stall in this tick. -/
  stalled : BitVec 64
  /-- Axes that were armed in this tick. -/
  armed : BitVec 64
  /-- Inputs as the sequencer reads them, active (R260, bits as DWn_INPUTS). -/
  active : BitVec 7
  /-- Their valid bits. -/
  valid : BitVec 7
  /-- The release of the doorway's side is present (R305). -/
  side : Bool
  /-- The zero-speed signal is present (R305). -/
  zero : Bool
  /-- Homing may start on a command: RUN or MAINTENANCE (R278). -/
  homeable : Bool
  deriving DecidableEq, Repr

/-- A doorway under computation with all axes and the codes raised, newest first. -/
structure DoorRun where
  /-- The doorway. -/
  door : Door
  /-- All axes. -/
  axes : Vector Axis 64
  /-- Codes raised. -/
  ev : List Raised
  deriving DecidableEq, Repr

/-- The field channel's axis: 2s + c of the port's channel that carries axis `a` (R148). -/
def Cfg.chanOf (c : Cfg) (a : Nat) : Option Nat := (List.range 64).find? fun k => c.n F.axisOfChannel k == a

/-- The port that carries an axis. -/
def Cfg.portOf (c : Cfg) (a : Nat) : Option Nat := (c.chanOf a).map (· / 2)

/-- The axis in a slot of a doorway (R257). -/
def slotAxis (c : Cfg) (d k : Nat) : Option AxisId := finOf 64 (c.n F.doorAxis (4 * d + k))

/-- An axis put among others, which rise. -/
def putAxis (a : AxisId) : List AxisId → List AxisId
  | [] => [a]
  | b :: rest => if a ≤ b then a :: b :: rest else b :: putAxis a rest

/-- The axes of some slots, by ascending axis number (R73). -/
def slotAxes (c : Cfg) (d : Nat) (ks : List Nat) : List AxisId := (ks.filterMap (slotAxis c d)).foldr putAxis []

/-- The leaves of a doorway (R257). -/
def leavesOf (c : Cfg) (d : Nat) : List AxisId := slotAxes c d [0, 1]

/-- Every axis of a doorway. -/
def axesOf (c : Cfg) (d : Nat) : List AxisId := slotAxes c d [0, 1, 2, 3]

/-- The doorway that names an axis and its slot (R258). -/
def doorOfAxis (c : Cfg) (a : Nat) : Option (Nat × Nat) :=
  ((List.range 64).find? fun k => c.n F.doorUsed (k / 4) == 1 && c.n F.doorAxis k == a).map fun k => (k / 4, k % 4)

/-- A code raised for the doorway, with its bit of DWn_EVENTS (R284). DEDUCED (log 41). -/
def DoorRun.event (r : DoorRun) (i : DoorIn) (bitNo : Nat) (code : Code) (detail : Word) : DoorRun :=
  { r with
    door := { r.door with events := r.door.events ||| BitVec.ofNat 32 (2 ^ bitNo) }
    ev := ⟨code, i.d, detail⟩ :: r.ev }

/-- A code raised for the doorway, with its bit of DWn_CLOSURE_EVENTS (R255). -/
def DoorRun.cloEvent (r : DoorRun) (i : DoorIn) (bitNo : Nat) (code : Code) : DoorRun :=
  { r with
    door := { r.door with clo := { r.door.clo with events := r.door.clo.events ||| BitVec.ofNat 32 (2 ^ bitNo) } }
    ev := ⟨code, i.d, 0⟩ :: r.ev }

/-- One axis changed. -/
def DoorRun.axis (r : DoorRun) (a : AxisId) (f : Axis → Axis) : DoorRun := { r with axes := vmod r.axes a f }

/-- Motion of one axis changed. -/
def DoorRun.mot (r : DoorRun) (a : AxisId) (f : MotionSt → MotionSt) : DoorRun :=
  r.axis a fun x => { x with mot := f x.mot }

/-- Obstacle state of one axis changed. -/
def DoorRun.obst (r : DoorRun) (a : AxisId) (f : ObstSt → ObstSt) : DoorRun :=
  r.axis a fun x => { x with obst := f x.obst }

/-- An operation of one axis, its codes raised for that axis. -/
def DoorRun.run (r : DoorRun) (a : AxisId) (f : AxRun → AxRun) : DoorRun :=
  let q := f ⟨r.axes[a], []⟩
  { r with axes := r.axes.set a q.ax, ev := q.ev.map (fun e => ⟨e.1, a.val, e.2⟩) ++ r.ev }

/-- The doorway's own fields changed. -/
def DoorRun.upd (r : DoorRun) (f : Door → Door) : DoorRun := { r with door := f r.door }

/-- The verdict's fields changed. -/
def DoorRun.clo (r : DoorRun) (f : Closure → Closure) : DoorRun := r.upd fun w => { w with clo := f w.clo }

/-- What an axis operation outside the axis's own steps reads. -/
def axInOf (i : DoorIn) (a : AxisId) : AxIn :=
  { now := i.now, a := a.val, ready := true, good := i.good.getLsbD a.val, smp := .reset, lsb := 1, hasIndex := false,
    unitDrives := true, homeIn := none, limNegIn := none, limPosIn := none, master := none, followIn := none,
    leaf := false, monitored := false, pulse := none, housing := 0, stageTemp := 0, cfg := i.cfg }

/-- A port carrying an axis is READY. -/
def DoorIn.portReady (i : DoorIn) (a : AxisId) : Bool :=
  match i.cfg.portOf a.val with
  | none => false
  | some s => i.ready.getLsbD s

/-! ## Evaluation of a leaf (R244, R247) -/

/-- Bin evaluation of a signature. -/
structure BinResult where
  /-- The bin was evaluated against the band. -/
  evaluated : Bool
  /-- The bin failed. -/
  failed : Bool
  /-- It failed as sparse. -/
  sparse : Bool
  deriving DecidableEq, Repr

/-- One bin of the signature check (R247): `k` the bin, `rest` the rest bin. -/
def binResult (band : Int) (k rest : Nat) (sum : Int) (n : Nat) (centre : Int) : BinResult :=
  let off := decide (band * 4096 * n < ((sum * 10 - centre * 4096 * n).natAbs : Int))
  if k < rest then ⟨false, false, false⟩
  else if n < 4 then (if rest < k then ⟨false, true, true⟩ else ⟨false, false, false⟩)
  else ⟨true, off, false⟩

/-- The results of all 32 bins. -/
def binResults (band : Int) (rest : Nat) (o : ObstSt) : List BinResult :=
  (List.range 32).map fun k => binResult band k rest (o.binSum.getD k 0) (o.binCount.getD k 0) (o.centres.getD k 0)

/-- The rest bin of a gap (R247). -/
def restBin (g : Int) : Nat := if g < 2500 then 0 else (g / 2500).toNat

/-- The signature check of a leaf (R247). -/
def ObstSt.signature (o : ObstSt) (band : Int) (g : Int) : ObstSt :=
  let rs := binResults band (restBin g) o
  let n := rs.countP (·.evaluated)
  let res : SigResult :=
    if o.strokeZ < 80000 then .shortStroke
    else if rs.any (·.sparse) || n == 0 then .failSparse
    else if rs.any (fun b => b.evaluated && b.failed) then .failBand else .pass
  { o with
    sig := res
    sigEvaluated := n
    sigFailed := rs.countP (·.failed)
    sigFirst := (rs.findIdx? (·.failed)).getD 0
    means := (List.range 32).map fun k =>
      if (rs.getD k ⟨false, false, false⟩).evaluated then some (o.binSum.getD k 0, (o.binCount.getD k 0 : Int)) else none }

/-- Step 3 of R244: the gap, the evaluation temperature and the signature check of a leaf with its x_obs. -/
def ObstSt.evaluate (o : ObstSt) (c : Cfg) (a : Nat) (now : Tick) : ObstSt :=
  let g := satS 32 (o.xObs - o.xClosed)
  { (o.signature (c.v F.sigBand a) g) with gap := g, tEval := o.temp, xEval := o.xClosed, evalTick := now, done := true }

/-- A leaf has its x_obs: it is evaluated, and a result other than PASS raises CLOSURE_SIG (R244, R247). -/
def DoorRun.leafEvaluated (r : DoorRun) (i : DoorIn) (a : AxisId) : DoorRun :=
  let r := r.obst a fun o => o.evaluate i.cfg a.val i.now
  if (r.axes[a]).obst.sig = .pass then r else r.cloEvent i 1 0x3011

/-! ## The verdict (R245, R249 to R251) -/

/-- The position a doorway target has after the soft limits of a homed axis (R199). -/
def clampedTarget (c : Cfg) (a : Nat) (m : MotionSt) (t : Int) : Int :=
  if m.home.homed then sat (c.v F.softMin a) (c.v F.softMax a) t else t

/-- The axis rests on a target the sequencer set (R265, R266). -/
def restsOn (c : Cfg) (a : Nat) (m : MotionSt) (t : Int) : Bool := m.onTarget && m.target == clampedTarget c a m t

/-- The limit of the gap of a doorway, µm (R245). -/
def gapLimit (c : Cfg) (d : Nat) : Int := c.v F.finalGapLimit d * 100

/-- G of some leaf gaps (R245). -/
def gapSum (gs : List Int) : Int := gs.foldl (fun acc g => acc + max g 0) 0

/-- Rows 2 and 3 of R250 on some gaps. -/
def gapsPass (lim : Int) (gs : List Int) : Bool × Bool := (decide (gapSum gs ≤ lim), gs.all fun g => decide (-lim ≤ g))

/-- Gaps of the leaves at their evaluation. -/
def DoorRun.gaps (r : DoorRun) (i : DoorIn) : List Int := (leavesOf i.cfg i.d).map fun a => (r.axes[a]).obst.gap

/-- The live gap of a leaf is recomputed in a good sample (R251). -/
def DoorRun.liveGap (r : DoorRun) (i : DoorIn) (a : AxisId) : DoorRun :=
  if i.good.getLsbD a.val then
    r.axis a fun x => { x with obst := { x.obst with live := satS 32 (x.loop.xMeas - x.obst.xEval) } }
  else r

/-- Live gaps of the leaves while monitored (R251). -/
def DoorRun.liveGaps (r : DoorRun) (i : DoorIn) : List Int := (leavesOf i.cfg i.d).map fun a => (r.axes[a]).obst.live

/-- Row 1 of R250. -/
def DoorRun.allEvaluated (r : DoorRun) (i : DoorIn) : Bool :=
  let ls := leavesOf i.cfg i.d
  r.door.clo.seq && !ls.isEmpty && ls.all fun a => (r.axes[a]).obst.done

/-- Row 6 of R250. -/
def DoorRun.lockOk (r : DoorRun) (i : DoorIn) : Bool :=
  match slotAxis i.cfg i.d 3 with
  | none => true
  | some a =>
    let m := (r.axes[a]).mot
    m.home.homed && restsOn i.cfg a.val m (i.cfg.v F.lockLockedPos i.d)

/-- Row 7 of R250. -/
def DoorIn.inputsOk (i : DoorIn) : Bool := i.active.getLsbD 0 && i.active.getLsbD 1

/-- Row 8 of R250. -/
def DoorIn.portsOk (i : DoorIn) : Bool := (axesOf i.cfg i.d).all i.portReady

/-- One leaf's run of failing good samples while monitored (R251). -/
def lossRun (o : ObstSt) (good failing : Bool) : Nat := if !good then o.lossRun else if failing then min 4 (o.lossRun + 1) else 0

/-- Monitoring of a doorway (R251); only a closure that stands can be lost. DEDUCED (log 74). -/
def DoorRun.monitor (r : DoorRun) (i : DoorIn) : DoorRun :=
  if !r.door.clo.monitor then r
  else
    let r := (leavesOf i.cfg i.d).foldl (fun r a => r.liveGap i a) r
    let gs := r.liveGaps i
    let p := gapsPass (gapLimit i.cfg i.d) gs
    let failing := r.door.clo.closed && !(p.1 && p.2)
    let ls := leavesOf i.cfg i.d
    let r := ls.foldl (fun r a => r.obst a fun o => { o with lossRun := lossRun o (i.good.getLsbD a.val) failing }) r
    let r := r.clo fun k => { k with g := satS 32 (gapSum gs) }
    let gone := r.door.clo.closed && ls.any fun a => decide (4 ≤ (r.axes[a]).obst.lossRun) || !i.portReady a
    if gone && !r.door.clo.lost then
      (r.clo fun k => { k with lost := true }).cloEvent i 2 0x3012
    else r

/-- WITHHELD of R250: the code of the first row, in table order, that does not hold. -/
def withheldCode (r1 r2 r3 r4 r5 r6 r7 r8 : Bool) : Nat :=
  if !r1 then 1 else if !r2 then 2 else if !r3 then 3 else if !r4 then 4 else if !r5 then 7 else if !r6 then 6
  else if !r7 then 5 else if !r8 then 8 else 0

/-- Learning of X_LEARNT after a clean closure (R243): the new value and whether the clamp bound. -/
def ObstSt.learnPosition (o : ObstSt) (c : Cfg) (a : Nat) : ObstSt :=
  let obs := o.xObs * 10 - c.v F.closedTc a * (o.tEval - 200)
  let lim := c.v F.closedStep a
  let stp := sat (-lim * 10) (lim * 10) (obs - o.xLearnt * 10)
  let nom := c.v F.closedNom a
  let dr := c.v F.closedDriftMax a
  let x := rdiv (o.xLearnt * 10 + stp) 10
  let y := sat (nom - dr) (nom + dr) x
  { o with xLearnt := y, learnBound := decide (y ≠ x) }

/-- A learnt centre after a clean closure (R248): the mean is sum × 10 / (4096 n). -/
def learnCentre (cur init lim dr sum n : Int) : Int × Bool :=
  let den := 4096 * n
  let stp := sat (-(lim * den)) (lim * den) (sum * 10 - cur * den)
  let x := rdiv (cur * den + stp) den
  let y := sat (init - dr) (init + dr) x
  (y, decide (y ≠ x))

/-- Learning of the centres after a clean closure (R248). -/
def ObstSt.learnSignature (o : ObstSt) (c : Cfg) (a : Nat) : ObstSt :=
  let rs := (List.range 32).map fun k =>
    match o.means.getD k none with
    | none => (o.centres.getD k 0, false)
    | some q => learnCentre (o.centres.getD k 0) (c.v F.sigInit (32 * a + k)) (c.v F.sigStep a) (c.v F.sigDriftMax a) q.1 q.2
  { o with centres := rs.map (·.1), sigDrift := rs.any (·.2) }

/-- A clean closure teaches one leaf (R249). -/
def DoorRun.teach (r : DoorRun) (i : DoorIn) (a : AxisId) : DoorRun :=
  let r := r.obst a fun o => (o.learnPosition i.cfg a.val).learnSignature i.cfg a.val
  let o := (r.axes[a]).obst
  let e1 := if o.learnBound then [⟨0x2010, a.val, 0⟩] else []
  let e2 := if o.sigDrift then [⟨0x2011, a.val, 0⟩] else []
  { r with ev := e2 ++ e1 ++ r.ev }

/-- The verdict of a doorway in a compute phase (R245, R249 to R251). -/
def DoorRun.verdict (r : DoorRun) (i : DoorIn) : DoorRun :=
  let ls := leavesOf i.cfg i.d
  let k := r.door.clo
  let obst := (axesOf i.cfg i.d).any fun a => (r.axes[a]).obst.confirmed
  let aband := ls.any fun a => (r.axes[a]).obst.sig == SigResult.abandoned && (r.axes[a]).obst.evalTick == i.now
  let r := r.clo fun k => { k with seqObst := k.seqObst || obst, seqAbandon := k.seqAbandon || aband }
  let r1 := r.allEvaluated i
  let gs := r.gaps i
  let p := gapsPass (gapLimit i.cfg i.d) gs
  let r :=
    if r1 && !r.door.clo.checked then
      let r := r.clo fun k => { k with checked := true, g := satS 32 (gapSum gs) }
      if p.1 && p.2 then r else r.cloEvent i 0 0x3010
    else r
  let r := r.monitor i
  let r4 := ls.all fun a => (r.axes[a]).obst.sig == SigResult.pass
  let r5 := !r.door.clo.lost
  let r6 := r.lockOk i
  let r7 := i.inputsOk
  let r8 := i.portsOk
  let closed := r1 && p.1 && p.2 && r4 && r5
  let locked := closed && r6 && r7 && r8
  let ev := packWord ((List.range 4).map fun s =>
    match slotAxis i.cfg i.d s with
    | none => false
    | some a => decide (s < 2) && r.door.clo.seq && (r.axes[a]).obst.done)
  let start := closed && !k.closed
  let r := if start then ls.foldl (fun r a => r.obst a fun o => { o with lossRun := 0, live := o.gap }) r else r
  let r := r.clo fun k =>
    { k with
      evaluated := ev.setWidth 4, inputsOk := r7, lockOk := r6, sigPass := r1 && r4, gapPass := r1 && p.1 && p.2,
      closed := closed, locked := locked, withheld := withheldCode r1 p.1 p.2 r4 r5 r6 r7 r8,
      monitor := k.monitor || closed, tick := if locked = k.locked then k.tick else i.now }
  if locked && !k.locked && !r.door.clo.seqObst && !r.door.clo.seqAbandon then
    ls.foldl (fun r a => r.teach i a) r
  else r

/-- A closing sequence begins (R245). -/
def DoorRun.beginSequence (r : DoorRun) (i : DoorIn) : DoorRun :=
  let r := r.clo fun k =>
    { k with seq := true, seqObst := false, seqAbandon := false, lost := false, checked := false }
  (leavesOf i.cfg i.d).foldl (fun r a => r.obst a fun o => { o with done := false, lossRun := 0 }) r

/-- The closing sequence and monitoring end (R251, R266). -/
def DoorRun.endSequence (r : DoorRun) : DoorRun := r.clo fun k => { k with seq := false, monitor := false, lost := false }

/-- LEARN_RESET at the tick boundary (R256). -/
def DoorRun.learnReset (r : DoorRun) (i : DoorIn) : DoorRun :=
  let r := (leavesOf i.cfg i.d).foldl (fun r a => r.obst a fun o =>
    { o with
      xLearnt := i.cfg.v F.closedNom a.val
      centres := (List.range 32).map fun k => i.cfg.v F.sigInit (32 * a.val + k) }) r
  let r := r.clo fun k =>
    { k with seq := false, monitor := false, reset := none, withheld := 1, closed := false, locked := false,
             tick := if k.locked then i.now else k.tick }
  { r with ev := ⟨0x3013, i.d, 0⟩ :: r.ev }

/-- Sibling marks of a doorway (R238): after a confirmation on a leaf, every other armed closing leaf; one on a step or a lock marks none.
DESIGN CHOICE (log 95). -/
def DoorRun.markSiblings (r : DoorRun) (i : DoorIn) : DoorRun :=
  let ls := leavesOf i.cfg i.d
  if ls.any fun a => (r.axes[a]).obst.confirmed then
    ls.foldl (fun r a =>
      let x : Axis := r.axes[a]
      if i.armed.getLsbD a.val && decide (x.loop.dir = -1) && !x.obst.confirmed && x.mot.reaction == Reaction.none then
        r.obst a fun o => { o with marked := true }
      else r) r
  else r

end Sys2Proof.Machine
end

