-- ==== Sys2Proof/Machine/Doorway.lean ====
section
/-! DEFINITION. The doorway sequencer (ch. 8): states, events in the order of R72, internal triggers (R268), homing of
a doorway (R278), egress (R275 to R277), faults (R279), jogs (R281, R282) and the outputs of R265. -/

namespace Sys2Proof.Machine

/-! ## Targets and drive states of the axes -/

/-- A doorway target of one axis (R198, R267). -/
def DoorRun.target (r : DoorRun) (i : DoorIn) (a : AxisId) (t : Int) : DoorRun :=
  r.mot a fun m => m.setTarget t i.now

/-- The target of a slot, skipped where the slot is empty (R265). -/
def DoorRun.slotTarget (r : DoorRun) (i : DoorIn) (k : Nat) (t : Int) : DoorRun :=
  match slotAxis i.cfg i.d k with
  | none => r
  | some a => r.target i a t

/-- The stopping point of R266 as target of a moving axis. -/
def DoorRun.stopAxis (r : DoorRun) (i : DoorIn) (a : AxisId) : DoorRun :=
  let m := (r.axes[a]).mot
  if m.driven && (m.travel != 0 || m.wait.isSome) then r.target i a (stopPoint i.cfg a.val m) else r

/-- Every moving axis of the doorway takes the stopping point (R266). -/
def DoorRun.stopAll (r : DoorRun) (i : DoorIn) : DoorRun := (axesOf i.cfg i.d).foldl (fun r a => r.stopAxis i a) r

/-- A homing in progress ends with HOME_ABORT and a quick stop (R215, R277). -/
def DoorRun.abortHoming (r : DoorRun) (i : DoorIn) : DoorRun :=
  let r := (axesOf i.cfg i.d).foldl (fun r a =>
    if (r.axes[a]).mot.home.phase == HomePhase.none then r else r.run a fun q => q.homeFail (axInOf i a) 8) r
  r.upd fun w => { w with homing := .none }

/-- The axes are commanded driven or not (R196). -/
def DoorRun.want (r : DoorRun) (i : DoorIn) (ks : List Nat) (on : Bool) : DoorRun :=
  (slotAxes i.cfg i.d ks).foldl (fun r a => r.mot a fun m => { m with want := on }) r

/-- Every axis stops being driven in this tick (R266, ISOLATED). DEDUCED (log 37). -/
def DoorRun.offNow (r : DoorRun) (i : DoorIn) : DoorRun :=
  (axesOf i.cfg i.d).foldl (fun r a =>
    (r.run a fun q => if q.ax.mot.driven || q.ax.mot.home.phase != HomePhase.none then q.release (axInOf i a) else q).mot a
      fun m => { m with want := false }) r

/-- Closing targets of the leaves; a leaf that rests on its own starts its evaluation now (R267). -/
def DoorRun.closingTargets (r : DoorRun) (i : DoorIn) : DoorRun :=
  (leavesOf i.cfg i.d).foldl (fun r a =>
    let t := i.cfg.v F.closedNom a.val
    let x : Axis := r.axes[a]
    let r := if restsOn i.cfg a.val x.mot t then
        r.obst a fun o => { o with closing := true, strokeZ := x.z, binSum := List.replicate 32 0,
                                   binCount := List.replicate 32 0,
                                   eval := .settle (msTicks (i.cfg.n F.closeSettle a.val)) }
      else r
    r.target i a t) r

/-- The open target of a leaf (R267). -/
def openTarget (c : Cfg) (d a : Nat) : Int := c.v F.closedNom a + c.v F.leafOpen d

/-- Open targets of the leaves. -/
def DoorRun.openTargets (r : DoorRun) (i : DoorIn) : DoorRun :=
  (leavesOf i.cfg i.d).foldl (fun r a => r.target i a (openTarget i.cfg i.d a.val)) r

/-- The reopen target of a leaf at its closing distance (R267). -/
def reopenTarget (c : Cfg) (d a : Nat) (z : Int) : Int :=
  c.v F.closedNom a + min (c.v F.leafOpen d) (max (z + c.v F.reverseDist a) (c.v F.proveDist d))

/-- Reopen targets of the leaves that wait for none of a reaction or a mark (R237, R267). -/
def DoorRun.reopenTargets (r : DoorRun) (i : DoorIn) : DoorRun :=
  [0, 1].foldl (fun r k =>
    match slotAxis i.cfg i.d k with
    | none => r.upd fun w => { w with reopen := w.reopen &&& ~~~(1#2 <<< k) }
    | some a =>
      let x : Axis := r.axes[a]
      if r.door.reopen.getLsbD k && x.mot.reaction == Reaction.none && !x.obst.marked then
        (r.target i a (reopenTarget i.cfg i.d a.val x.z)).upd fun w => { w with reopen := w.reopen &&& ~~~(1#2 <<< k) }
      else r) r

/-- The step of the doorway is to follow an input (R220). -/
def followsInput (c : Cfg) (d : Nat) : Bool :=
  match slotAxis c d 2 with
  | none => false
  | some a => decide (c.n F.followSource a.val ≠ 0)

/-- The step of the doorway starts or stops following (R220). -/
def DoorRun.follow (r : DoorRun) (i : DoorIn) (on : Bool) : DoorRun :=
  match slotAxis i.cfg i.d 2 with
  | none => r
  | some a => r.mot a fun m => { m with follow := on && followsInput i.cfg i.d && !r.door.stepBlocked,
                                        followBad := m.followBad && on }

/-- The master of a geared axis is itself geared (R218). -/
def DoorRun.chained (r : DoorRun) (i : DoorIn) (a : AxisId) : Bool :=
  i.cfg.n F.gearSource a.val == 1 &&
    match finOf 64 (i.cfg.n F.gearMaster a.val) with
    | none => false
    | some b => (r.axes[b]).mot.source == Source.geared

/-- Where GEAR_X0 would put the axis with a master at its present position, 44 fractional bits (R217). -/
def DoorRun.masterNow (r : DoorRun) (i : DoorIn) (a : AxisId) : Int :=
  if i.cfg.n F.gearSource a.val = 1 then
    match finOf 64 (i.cfg.n F.gearMaster a.val) with
    | none => 0
    | some b => (r.axes[b]).mot.xRef * 2 ^ 44
  else 0

/-- STEP_OUT of the step: it follows, is geared in, or takes STEP_OUT_POS (R218, R220, R265). DESIGN CHOICE (log 39). -/
def DoorRun.stepOut (r : DoorRun) (i : DoorIn) : DoorRun :=
  match slotAxis i.cfg i.d 2 with
  | none => r
  | some a =>
    if followsInput i.cfg i.d then r.follow i true
    else if i.cfg.n F.gearSource a.val ≠ 0 then
      if r.chained i a then r.run a fun q => q.event 7 0x200A 0
      else
        let g := gearG i.cfg a.val (r.masterNow i a)
        r.mot a fun m => { (m.gearIn g) with gearReset := decide (i.cfg.n F.gearSource a.val = 2) }
    else r.target i a (i.cfg.v F.stepOutPos i.d)

/-- The step rests in STEP_OUT: on its target, blocked, geared or driven by pulses (R266). -/
def DoorRun.stepOutDone (r : DoorRun) (i : DoorIn) : Bool :=
  match slotAxis i.cfg i.d 2 with
  | none => true
  | some a =>
    let m := (r.axes[a]).mot
    r.door.stepBlocked || m.source == Source.geared || m.source == Source.pulseDir ||
      (if followsInput i.cfg i.d then m.onTarget
       else if i.cfg.n F.gearSource a.val ≠ 0 then m.still
       else restsOn i.cfg a.val m (i.cfg.v F.stepOutPos i.d))

/-- An axis in a slot rests on a target of the sequencer; an empty slot does (R265). -/
def DoorRun.slotRests (r : DoorRun) (i : DoorIn) (k : Nat) (t : Int) : Bool :=
  match slotAxis i.cfg i.d k with
  | none => true
  | some a =>
    let m := (r.axes[a]).mot
    (m.source == Source.pulseDir && m.still) || restsOn i.cfg a.val m t

/-- An axis in a slot is at rest. -/
def DoorRun.slotStill (r : DoorRun) (i : DoorIn) (k : Nat) : Bool :=
  match slotAxis i.cfg i.d k with
  | none => true
  | some a =>
    let m := (r.axes[a]).mot
    m.still && m.wait.isNone && m.reaction == Reaction.none

/-- Every leaf rests on its open target. -/
def DoorRun.leavesOpen (r : DoorRun) (i : DoorIn) : Bool :=
  (leavesOf i.cfg i.d).all fun a => restsOn i.cfg a.val (r.axes[a]).mot (openTarget i.cfg i.d a.val)

/-- Every leaf rests on its target. -/
def DoorRun.leavesRest (r : DoorRun) (i : DoorIn) : Bool :=
  (leavesOf i.cfg i.d).all fun a => ((r.axes[a]).mot).onTarget

/-- Every axis of the doorway is at rest. -/
def DoorRun.allStill (r : DoorRun) (i : DoorIn) : Bool :=
  (axesOf i.cfg i.d).all fun a =>
    let m := (r.axes[a]).mot
    !m.driven || (m.still && m.wait.isNone && m.reaction == Reaction.none && m.home.phase == HomePhase.none)

/-! ## Entering a state -/

/-- The states in which a chime never sounds (R274). -/
def DoorState.mutesChime : DoorState → Bool
  | .isolated | .fault | .warning | .reopening => true
  | _ => false

/-- The axes of these states are held; elsewhere none is driven at rest (R265). -/
def DoorState.holds : DoorState → Bool
  | .unhomed | .isolated | .fault => false
  | _ => true

/-- A jog ends: its axis takes the stopping point, or keeps the reaction that ended it (R241, R282). DEDUCED (log 67). -/
def DoorRun.jogEnd (r : DoorRun) (i : DoorIn) : DoorRun :=
  match r.door.jog with
  | none => r
  | some k =>
    let r := match slotAxis i.cfg i.d k.val with
      | none => r
      | some a => (if (r.axes[a]).mot.reaction == Reaction.none then r.stopAxis i a else r).mot a fun m => { m with jog := false }
    r.upd fun w => { w with jog := none, jogStop := if w.st.holds then w.jogStop else w.jogStop ||| (1#4 <<< k.val) }

/-- What every entry into a state does. -/
def DoorRun.goto (r : DoorRun) (i : DoorIn) (st : DoorState) : DoorRun :=
  (r.jogEnd i).upd fun w =>
    { w with st := st, tick := i.now, timer := none, retry := false, stopped := 0, reopen := 0, stopping := false,
             homing := .none, homeFailed := false, egress := .none, jog := none,
             chime := if st.mutesChime then none else w.chime,
             stepBlocked := match st with
               | .opening | .opened => w.stepBlocked
               | _ => false }

/-- a is raised by one, saturating (R270). -/
def Door.attempt (w : Door) : Door := { w with attempts := min 15 (w.attempts + 1) }

/-- Entry into FAULT (R279). -/
def DoorRun.enterFault (r : DoorRun) (i : DoorIn) (cause : Code) : DoorRun :=
  let r := r.abortHoming i
  let r := (r.goto i .fault).follow i false
  let r := r.stopAll i
  let r := r.upd fun w => { w with cause := cause, stopping := true }
  r.event i 8 0x300A (cause.setWidth 32)

/-- Entry into ISOLATED (R266). -/
def DoorRun.enterIsolated (r : DoorRun) (i : DoorIn) : DoorRun :=
  let r := r.offNow i
  (r.goto i .isolated).follow i false

/-- Entry into UNHOMED from ISOLATED: HOMED is cleared on every axis (R266). -/
def DoorRun.enterUnhomed (r : DoorRun) (i : DoorIn) (clearHomed : Bool) : DoorRun :=
  let r := (r.goto i .unhomed).want i [0, 1, 2, 3] false
  if clearHomed then
    (axesOf i.cfg i.d).foldl (fun r a => r.mot a fun m => { m with home := { m.home with homed := false } }) r
  else r

/-- Entry into WARNING (R272). -/
def DoorRun.enterWarning (r : DoorRun) (i : DoorIn) : DoorRun :=
  let w := i.cfg.n F.warningMs i.d
  let e := after i.now (msTicks w)
  let r := (r.goto i .warning).follow i false
  let r := r.upd fun x => { x with warnEnd := e, ceiling := after e (msTicks (i.cfg.n F.announceHoldMaxMs i.d)) }
  r.event i 0 0x3001 (BitVec.ofNat 32 w)

/-- Entry into CLOSING: a new closing sequence begins (R245, R267). -/
def DoorRun.enterClosing (r : DoorRun) (i : DoorIn) : DoorRun :=
  (((r.goto i .closing).follow i false).beginSequence i).closingTargets i

/-- Entry into UNLOCKING (R265, R266). -/
def DoorRun.enterUnlocking (r : DoorRun) (i : DoorIn) : DoorRun :=
  (((r.goto i .unlocking).follow i false).endSequence).slotTarget i 3 (i.cfg.v F.lockUnlockedPos i.d)

/-- Entry into STEP_OUT. -/
def DoorRun.enterStepOut (r : DoorRun) (i : DoorIn) : DoorRun := (r.goto i .stepOut).stepOut i

/-- Entry into OPENING (R266). -/
def DoorRun.enterOpening (r : DoorRun) (i : DoorIn) : DoorRun := ((r.goto i .opening).endSequence).openTargets i

/-- Entry into OPEN (R266, R241): a = 0, AUTO_CLOSE_MS counts, a step that is not blocked follows again. -/
def DoorRun.enterOpen (r : DoorRun) (i : DoorIn) : DoorRun :=
  ((r.goto i .opened).upd fun w => { w with attempts := 0, autoTick := i.now }).follow i true

/-- Entry into REOPENING; the reopen targets are set as reactions end (R267). -/
def DoorRun.enterReopening (r : DoorRun) (i : DoorIn) : DoorRun :=
  (((r.goto i .reopening).follow i false).upd fun w => { w with reopen := 3 }).reopenTargets i

/-- Entry into STEP_IN. -/
def DoorRun.enterStepIn (r : DoorRun) (i : DoorIn) : DoorRun :=
  ((r.goto i .stepIn).follow i false).slotTarget i 2 (i.cfg.v F.stepInPos i.d)

/-- Entry into LOCKING. -/
def DoorRun.enterLocking (r : DoorRun) (i : DoorIn) : DoorRun :=
  ((r.goto i .locking).follow i false).slotTarget i 3 (i.cfg.v F.lockLockedPos i.d)

/-- The buttons are free again, and the entry into CLOSED_LOCKED is counted (R264, R284). -/
def DoorRun.toClosedLocked (r : DoorRun) (i : DoorIn) : DoorRun :=
  (r.goto i .closedLocked).upd fun w => { w with blocked := false, closeCount := satN (w.closeCount + 1) 32 }

/-- Entry into CLOSED_LOCKED from LOCKING (R266). -/
def DoorRun.enterClosedLocked (r : DoorRun) (i : DoorIn) : DoorRun := (r.toClosedLocked i).upd fun w => { w with attempts := 0 }

/-- Entry into CLOSED_UNLOCKED. -/
def DoorRun.enterClosedUnlocked (r : DoorRun) (i : DoorIn) : DoorRun := (r.goto i .closedUnlocked).follow i false

/-- Entry into OBSTRUCTED_OPEN (R266): DOOR_OBSTRUCTED. -/
def DoorRun.enterObstructed (r : DoorRun) (i : DoorIn) : DoorRun :=
  ((r.goto i .obstructedOpen).follow i false).event i 3 0x3005 0

/-- The action of EGRESS once the lock rests unlocked (R277). -/
def DoorRun.egressAct (r : DoorRun) (i : DoorIn) : DoorRun :=
  let r := r.upd fun w => { w with egress := .acted }
  if i.cfg.n F.egressAction i.d = 0 then r.want i [0, 1, 2] false else r.openTargets i

/-- The lock has been given LOCK_UNLOCKED_POS and rests there, or is not driven (R277). -/
def DoorRun.egressLockDone (r : DoorRun) (i : DoorIn) : Bool :=
  match slotAxis i.cfg i.d 3 with
  | none => true
  | some a =>
    let m := (r.axes[a]).mot
    !m.home.homed || restsOn i.cfg a.val m (i.cfg.v F.lockUnlockedPos i.d)

/-- The lock of a doorway in EGRESS is sent to LOCK_UNLOCKED_POS (R276). -/
def DoorRun.egressUnlock (r : DoorRun) (i : DoorIn) : DoorRun :=
  (r.upd fun w => { w with egress := .unlock }).slotTarget i 3 (i.cfg.v F.lockUnlockedPos i.d)

/-- Under POWER_OPEN the step stays where it is: a moving one is stopped (R277). -/
def DoorRun.egressStep (r : DoorRun) (i : DoorIn) : DoorRun :=
  if i.cfg.n F.egressAction i.d = 0 then r else (slotAxes i.cfg i.d [2]).foldl (fun r a => r.stopAxis i a) r

/-- The present speed lets EGRESS act (R276). -/
def egressGo (i : DoorIn) : Bool := i.zero || i.cfg.n F.egressMoving i.d == 1

/-- An unhomed lock is not driven in EGRESS; every other axis is (R276, R277). -/
def DoorRun.egressDrive (r : DoorRun) (i : DoorIn) : DoorRun :=
  let r := r.want i [0, 1, 2, 3] true
  match slotAxis i.cfg i.d 3 with
  | none => r
  | some a => if (r.axes[a]).mot.home.homed then r else r.want i [3] false

/-- Entry into EGRESS (R275 to R277). -/
def DoorRun.enterEgress (r : DoorRun) (i : DoorIn) : DoorRun :=
  let r := r.abortHoming i
  let r := ((r.goto i .egress).follow i false).endSequence
  let r := (r.upd fun w => { w with attempts := 0, blocked := false }).egressDrive i
  let r := if egressGo i then (r.egressUnlock i).egressStep i else (r.upd fun w => { w with egress := .wait }).stopAll i
  r.event i 1 0x3003 (if egressGo i then 0 else 1)

/-- The doorway's state has changed because of an event (R268). -/
def DoorRun.byEvent (r : DoorRun) : DoorRun := r.upd fun w => { w with moved := true }

/-! ## Jogs (R281, R282) -/

/-- A jog starts or goes on (R281). DEDUCED (log 67). -/
def DoorRun.jogGo (r : DoorRun) (i : DoorIn) (k : Fin 4) : DoorRun :=
  let r := match slotAxis i.cfg i.d k.val with
    | none => r
    | some a => (r.mot a fun m => { m with want := true, jog := true }).target i a r.door.jogTarget
  r.upd fun w => { w with jog := some k, jogTick := i.now, jogRan := true, jogStop := w.jogStop &&& ~~~(1#4 <<< k.val) }

/-- Axes of ended jogs that have come to rest stop being driven where the state drives none. -/
def DoorRun.jogRest (r : DoorRun) (i : DoorIn) : DoorRun :=
  [0, 1, 2, 3].foldl (fun r k =>
    if r.door.jogStop.getLsbD k && r.slotStill i k then
      (r.want i [k] false).upd fun w => { w with jogStop := w.jogStop &&& ~~~(1#4 <<< k) }
    else r) r

/-- UNHOMED after a jog (R282): an axis that still moves comes to rest at its stopping point first. -/
def DoorRun.unhomedAfterJog (r : DoorRun) (i : DoorIn) : DoorRun :=
  let moving := [0, 1, 2, 3].filter fun k => !r.slotStill i k
  let r := (r.goto i .unhomed).want i ([0, 1, 2, 3].filter fun k => !moving.contains k) false
  r.upd fun w => { w with jogStop := moving.foldl (fun m k => m ||| (1#4 <<< k)) 0 }

/-- The first tick of RUN after MAINTENANCE for a doorway on which a jog ran (R282). -/
def DoorRun.afterMaintenance (r : DoorRun) (i : DoorIn) : DoorRun :=
  if !r.door.jogRan then r
  else
    let unhomed := (axesOf i.cfg i.d).any fun a => !(r.axes[a]).mot.home.homed
    let r := r.upd fun w => { w with jogRan := false }
    if r.door.st = .fault then r
    else if unhomed then r.unhomedAfterJog i
    else if r.door.clo.locked then (r.toClosedLocked i).want i [0, 1, 2, 3] true
    else (r.goto i .obstructedOpen).want i [0, 1, 2, 3] true

/-! ## Events (R72, R266) -/

/-- Order 1: a port carrying an axis of the doorway is lost (R266). -/
def DoorRun.linkLost (r : DoorRun) (i : DoorIn) : DoorRun :=
  match r.door.st with
  | .isolated | .fault => r
  | _ => (r.enterFault i 0x3020).byEvent

/-- Order 2: the egress pair becomes active (R266, R275). -/
def DoorRun.egressActive (r : DoorRun) (i : DoorIn) : DoorRun :=
  match r.door.st with
  | .isolated | .fault => r.event i 1 0x3003 0
  | .egress => r
  | _ => (r.enterEgress i).byEvent

/-- The egress pair becomes inactive (R275). -/
def DoorRun.egressInactive (r : DoorRun) (i : DoorIn) : DoorRun := r.event i 2 0x3004 0

/-- The step has met an obstacle or stalled in STEP_OUT (R266): it rests where it stopped, and no master or input moves it on. DEDUCED
(log 75). -/
def DoorRun.stepStopped (r : DoorRun) (i : DoorIn) : DoorRun :=
  let r := (slotAxes i.cfg i.d [2]).foldl (fun r a => r.mot a fun m =>
    { m with follow := false, source := if m.source = .geared then .planner else m.source }) r
  (r.upd fun w => { w with stepBlocked := true }).event i 7 0x3009 0

/-- The axis of a slot has stopped short: one more attempt, after its pause (R271). -/
def DoorRun.stoppedShort (r : DoorRun) (k : Nat) : DoorRun :=
  r.upd fun w => { w.attempt with retry := true, stopped := w.stopped ||| (1#4 <<< k), timer := none }

/-- The doorway waits for the restart (R258): FAULT with cause DOOR_CONFIG. -/
def Door.stuck (w : Door) : Bool := w.st == DoorState.fault && w.cause == 0x3021

/-- Order 3: an obstacle is confirmed on the axis of a slot (R241, R266). A jog ends. -/
def DoorRun.obstacle (r : DoorRun) (i : DoorIn) (k : Nat) : DoorRun :=
  if r.door.jog.isSome then r.jogEnd i
  else
    match r.door.st with
    | .closing => if k < 2 then ((r.upd Door.attempt).enterReopening i).byEvent else r
    | .opening => if k < 2 then r.stoppedShort k else r
    | .stepOut => if k = 2 then r.stepStopped i else r
    | .opened => if k = 2 ∧ followsInput i.cfg i.d = true then r.stepStopped i else r
    | .stepIn => if k = 2 then r.stoppedShort k else r
    | .locking => if k = 3 then (r.enterFault i 0x3022).byEvent else r
    | _ => r

/-- A stall of a stepper step or lock, an internal trigger (R266, R271). -/
def DoorRun.stall (r : DoorRun) (i : DoorIn) (k : Nat) : DoorRun :=
  match r.door.st with
  | .stepOut => if k = 2 then r.stepStopped i else r
  | .stepIn => if k = 2 then r.stoppedShort k else r
  | .locking => if k = 3 then r.enterFault i 0x3022 else r
  | _ => r

/-- Order 4: the release is lost (R266). -/
def DoorRun.releaseLost (r : DoorRun) (i : DoorIn) : DoorRun :=
  match r.door.st with
  | .unlocking | .stepOut | .opening | .opened => ((r.stopAll i).enterWarning i).byEvent
  | _ => r

/-- A command is refused (R263). -/
def DoorRun.refuse (r : DoorRun) (i : DoorIn) (cause : Code) : DoorRun :=
  (r.upd fun w => { w with refusal := cause }).event i 4 0x3006 (cause.setWidth 32)

/-- A command of a kind, 0 close and 1 open, in a tick: several of one kind count as one (R262). DESIGN CHOICE (log 9). -/
def DoorRun.once (r : DoorRun) (k : Nat) (f : DoorRun → DoorRun) : DoorRun :=
  if r.door.given.getLsbD k then r else f (r.upd fun w => { w with given := w.given ||| (1#2 <<< k) })

/-- The transition of an accepted close command, which blocks the buttons (R264, R266). -/
def DoorRun.closes (r : DoorRun) (f : DoorRun → DoorRun) : DoorRun := (f (r.upd fun w => { w with blocked := true })).byEvent

/-- The first close command of a tick (R263, R264, R266); one without a row for the state has no effect. -/
def DoorRun.closeOnce (r : DoorRun) (i : DoorIn) : DoorRun :=
  match r.door.st with
  | .unhomed | .isolated | .fault => r.refuse i 0x3032
  | .opened => r.closes fun r => r.enterWarning i
  | .obstructedOpen => r.closes fun r => (r.upd fun w => { w with attempts := 0 }).enterWarning i
  | .unlocking | .stepOut | .opening => r.closes fun r => (r.stopAll i).enterWarning i
  | .closedUnlocked => r.closes fun r => if r.door.clo.closed then r.enterLocking i else r.enterWarning i
  | .egress => if i.active.getLsbD 4 then r else r.closes fun r => (r.want i [0, 1, 2, 3] true).enterWarning i
  | _ => r

/-- Order 5: a close command (R263, R264, R266). -/
def DoorRun.close (r : DoorRun) (i : DoorIn) : DoorRun := r.once 0 fun r => r.closeOnce i

/-- The first cause that refuses an open command, if any (R263, R479). -/
def DoorRun.openRefusal (r : DoorRun) (i : DoorIn) : Option Code :=
  if !i.side then some 0x3030
  else if !i.zero then some 0x3031
  else match r.door.st with
    | .unhomed | .isolated | .fault => some 0x3032
    | _ => none

/-- An open command that is not refused (R266). -/
def DoorRun.openAccepted (r : DoorRun) (i : DoorIn) : DoorRun :=
  match r.door.st with
  | .closedLocked | .closedUnlocked | .stepIn | .locking =>
    ((r.enterUnlocking i).upd fun w => { w with blocked := false }).byEvent
  | .warning | .closing | .reopening | .obstructedOpen =>
    ((r.enterOpening i).upd fun w => { w with blocked := false, attempts := 0 }).byEvent
  | .egress =>
    if i.active.getLsbD 4 then r
    else (((r.want i [0, 1, 2, 3] true).enterOpening i).upd fun w => { w with blocked := false }).byEvent
  | _ => r

/-- An open command; a refused button press is not reported (R262 to R264). -/
def DoorRun.openOnce (r : DoorRun) (i : DoorIn) (button : Bool) : DoorRun :=
  match r.openRefusal i with
  | some c => if button then r else r.refuse i c
  | none => r.openAccepted i

/-- Order 6: an open command of a host or of a side input. -/
def DoorRun.open (r : DoorRun) (i : DoorIn) : DoorRun := r.once 1 fun r => r.openOnce i false

/-- A press of a passenger button (R262, R264, R266). -/
def DoorRun.button (r : DoorRun) (i : DoorIn) : DoorRun :=
  if i.cfg.n F.buttonEnable i.d ≠ 1 ∨ r.door.blocked = true then r
  else
    let r := if r.door.st = .opened then r.upd fun w => { w with autoTick := i.now } else r
    r.openOnce i true

/-- Order 7: DOOR_RESET (R263, R266). -/
def DoorRun.doorReset (r : DoorRun) (i : DoorIn) : DoorRun :=
  if r.door.st ≠ .fault ∨ r.door.cause = 0x3021 then r.refuse i 0x3032
  else if !i.portsOk then r.refuse i 0x3033
  else (r.enterUnhomed i false).byEvent

/-- Order 7: an announcement hold (R273). -/
def DoorRun.hold (r : DoorRun) (i : DoorIn) (ms : Nat) : DoorRun :=
  if r.door.st ≠ .warning then r.upd fun w => { w with holdIgnored := satN (w.holdIgnored + 1) 32 }
  else
    let want := after i.now (msTicks (min ms 3000))
    let later := fun a b : Tick => decide (0 < (a - b).toInt)
    if later want r.door.warnEnd then
      let over' := later want r.door.ceiling
      let r := r.upd fun w => { w with warnEnd := if over' then w.ceiling else want }
      if over' then r.event i 10 0x3002 0 else r
    else r

/-- Order 7: a chime (R274). -/
def DoorRun.chime (r : DoorRun) (i : DoorIn) : DoorRun :=
  if r.door.st.mutesChime then r else r.upd fun w => { w with chime := some (after i.now (msTicks (i.cfg.n F.chimeMs i.d))) }

/-! ## Homing of a doorway (R278) -/

/-- The homing of an axis starts (R209). -/
def DoorRun.startAxis (r : DoorRun) (i : DoorIn) (a : AxisId) : DoorRun :=
  r.mot a fun m => m.startHoming (i.cfg.n F.homeMethod a.val) i.now

/-- Homing of the axes of some slots starts. -/
def DoorRun.startSlots (r : DoorRun) (i : DoorIn) (ks : List Nat) : DoorRun :=
  (slotAxes i.cfg i.d ks).foldl (fun r a => r.startAxis i a) r

/-- The closing moves after homing (R278). -/
def DoorRun.homeMoves (r : DoorRun) (i : DoorIn) : DoorRun :=
  let r := r.upd fun w => { w with homing := .moves }
  let r := r.slotTarget i 2 (i.cfg.v F.stepInPos i.d)
  let r := (leavesOf i.cfg i.d).foldl (fun r a => r.target i a (i.cfg.v F.closedNom a.val)) r
  r.slotTarget i 3 (i.cfg.v F.lockUnlockedPos i.d)

/-- Stage 3, or the moves where there is no lock. -/
def DoorRun.homeLock (r : DoorRun) (i : DoorIn) : DoorRun :=
  if (slotAxes i.cfg i.d [3]).isEmpty then r.homeMoves i
  else (r.upd fun w => { w with homing := .lock }).startSlots i [3]

/-- Stage 2, or the next one where there is no leaf. -/
def DoorRun.homeLeaves (r : DoorRun) (i : DoorIn) : DoorRun :=
  if (leavesOf i.cfg i.d).isEmpty then r.homeLock i
  else (r.upd fun w => { w with homing := .leaves }).startSlots i [0, 1]

/-- Homing of the doorway starts (R278): every axis is driven, stage 1 first. -/
def DoorRun.homeStart (r : DoorRun) (i : DoorIn) : DoorRun :=
  let r := (r.upd fun w => { w with homeFailed := false }).want i [0, 1, 2, 3] true
  if (slotAxes i.cfg i.d [2]).isEmpty then r.homeLeaves i
  else (r.upd fun w => { w with homing := .step }).startSlots i [2]

/-- Order 7: DWn_CMD.HOME (R263, R278). -/
def DoorRun.homeCommand (r : DoorRun) (i : DoorIn) : DoorRun :=
  if i.homeable && r.door.st = .unhomed && r.door.homing = .none && i.cfg.n F.doorUsed i.d = 1 then r.homeStart i
  else r.refuse i 0x3032

/-- Slots that home in a stage. -/
def HomeStage.slots : HomeStage → List Nat
  | .step => [2]
  | .leaves => [0, 1]
  | .lock => [3]
  | _ => []

/-- A stage fails: the remaining ones are not started (R278). -/
def DoorRun.homeFails (r : DoorRun) (i : DoorIn) : DoorRun :=
  (r.upd fun w => { w with homing := .failed, homeFailed := true }).event i 9 0x300B 0

/-- Homing of the doorway goes on after its axes' steps (R278). -/
def DoorRun.homeTick (r : DoorRun) (i : DoorIn) : DoorRun :=
  let st := r.door.homing
  let as := slotAxes i.cfg i.d st.slots
  let bad := as.any fun a => decide (1 < (r.axes[a]).mot.home.result)
  let done := as.all fun a => (r.axes[a]).mot.home.result == 1
  match st with
  | .none => r
  | .failed =>
    if r.allStill i then (r.upd fun w => { w with homing := .none }).want i [0, 1, 2, 3] false else r
  | .moves =>
    let c := i.cfg
    let rests := r.slotRests i 2 (c.v F.stepInPos i.d) && r.slotRests i 3 (c.v F.lockUnlockedPos i.d) &&
      (leavesOf c i.d).all fun a => restsOn c a.val (r.axes[a]).mot (c.v F.closedNom a.val)
    if rests then r.enterClosedUnlocked i else r
  | .step => if bad then r.homeFails i else if done then r.homeLeaves i else r
  | .leaves => if bad then r.homeFails i else if done then r.homeLock i else r
  | .lock => if bad then r.homeFails i else if done then r.homeMoves i else r

/-! ## Internal triggers (R268) -/

/-- The outcome of CLOSING by the verdict (R269). -/
def DoorRun.closingOutcome (r : DoorRun) (i : DoorIn) : DoorRun :=
  let k := r.door.clo
  let bad := (leavesOf i.cfg i.d).any fun a =>
    (r.axes[a]).obst.sig == SigResult.failBand || (r.axes[a]).obst.sig == SigResult.failSparse
  if k.closed then r.enterStepIn i
  else if k.withheld = 2 ∨ k.withheld = 3 ∨ bad = true then (r.upd Door.attempt).enterReopening i
  else if i.side && i.zero then r.enterReopening i
  else r.enterStepIn i

/-- A timer of `ms` that starts now unless it runs; whether it has expired. DEDUCED (log 66). -/
def DoorRun.timed (r : DoorRun) (i : DoorIn) (ms : Nat) : DoorRun × Bool :=
  match r.door.timer with
  | none => (r.upd fun w => { w with timer := some i.now }, decide (ms = 0))
  | some t => (r, reached i.now (after t (msTicks ms)))

/-- The end of REOPEN_PAUSE_MS in REOPENING (R266, R271). -/
def DoorRun.pauseEnd (r : DoorRun) (i : DoorIn) : DoorRun :=
  if i.cfg.n F.reopenAttempts i.d < r.door.attempts then r.enterObstructed i else r.enterClosing i

/-- The end of the pause of a retry in OPENING (R271). -/
def DoorRun.openRetry (r : DoorRun) (i : DoorIn) : DoorRun :=
  if i.cfg.n F.reopenAttempts i.d < r.door.attempts then r.enterObstructed i
  else (r.upd fun w => { w with retry := false, stopped := 0, timer := none }).openTargets i

/-- The end of STEP_RETRY_MS in STEP_IN (R271). -/
def DoorRun.stepRetry (r : DoorRun) (i : DoorIn) : DoorRun :=
  if i.cfg.n F.reopenAttempts i.d < r.door.attempts then r.enterFault i 0x3023
  else (r.upd fun w => { w with retry := false, stopped := 0, timer := none }).slotTarget i 2 (i.cfg.v F.stepInPos i.d)

/-- LOCK_CONFIRM_MS has passed without CLOSED_LOCKED (R266). -/
def DoorRun.lockUnconfirmed (r : DoorRun) (i : DoorIn) : DoorRun := (r.enterClosedUnlocked i).event i 5 0x3007 0

/-- WARNING ends: CLOSING (R266). -/
def DoorRun.warningEnd (r : DoorRun) (i : DoorIn) : DoorRun := r.enterClosing i

/-- The lost proof of a locked doorway (R266). -/
def DoorRun.unproven (r : DoorRun) (i : DoorIn) : DoorRun := (r.enterClosedUnlocked i).event i 6 0x3008 0

/-- EGRESS goes on: the deferred unlock, then the action (R276, R277). -/
def DoorRun.egressTick (r : DoorRun) (i : DoorIn) : DoorRun :=
  match r.door.egress with
  | .wait => if egressGo i then r.egressUnlock i else r
  | .unlock => if r.egressLockDone i then r.egressAct i else r
  | _ => r

/-- Landings and the verdict, then timers, of the present state: at most one transition (R266, R268). -/
def DoorRun.internalState (r : DoorRun) (i : DoorIn) : DoorRun :=
  let c := i.cfg
  let k := r.door.clo
  match r.door.st with
  | .unhomed => r.homeTick i
  | .isolated => r
  | .closedLocked => if k.locked then r else r.unproven i
  | .closedUnlocked => r
  | .unlocking => if r.slotRests i 3 (c.v F.lockUnlockedPos i.d) then r.enterStepOut i else r
  | .stepOut => if r.stepOutDone i then r.enterOpening i else r
  | .opening =>
    if r.door.retry then
      if [0, 1].all fun k => !r.door.stopped.getLsbD k || r.slotStill i k then
        let t := r.timed i (c.n F.reopenPauseMs i.d)
        if t.2 then t.1.openRetry i else t.1
      else r
    else if r.leavesOpen i then r.enterOpen i else r
  | .opened =>
    let ms := c.n F.autoCloseMs i.d
    if ms ≠ 0 ∧ reached i.now (after r.door.autoTick (msTicks ms)) = true then r.enterWarning i else r
  | .warning => if reached i.now r.door.warnEnd then r.warningEnd i else r
  | .closing => if (leavesOf c i.d).all fun a => (r.axes[a]).obst.done then r.closingOutcome i else r
  | .reopening =>
    let r := r.reopenTargets i
    if r.door.reopen = 0 && r.leavesRest i then
      let t := r.timed i (c.n F.reopenPauseMs i.d)
      if t.2 then t.1.pauseEnd i else t.1
    else r.upd fun w => { w with timer := none }
  | .obstructedOpen => r
  | .stepIn =>
    if r.door.retry then
      if r.slotStill i 2 then
        let t := r.timed i (c.n F.stepRetryMs i.d)
        if t.2 then t.1.stepRetry i else t.1
      else r
    else if r.slotRests i 2 (c.v F.stepInPos i.d) then r.enterLocking i else r
  | .locking =>
    if k.locked then r.enterClosedLocked i
    else if r.slotRests i 3 (c.v F.lockLockedPos i.d) then
      if !k.closed then r.enterClosedUnlocked i
      else
        let t := r.timed i (c.n F.lockConfirmMs i.d)
        if t.2 then t.1.lockUnconfirmed i else t.1
    else r
  | .egress => r.egressTick i
  | .fault =>
    if r.door.stopping && r.allStill i then (r.upd fun w => { w with stopping := false }).want i [0, 1, 2, 3] false else r

/-- Internal triggers of one tick (R268): the isolating switch, stalls, landings and verdict, timers. DEDUCED (log 66). -/
def DoorRun.internal (r : DoorRun) (i : DoorIn) : DoorRun :=
  let st := r.door.st
  let r :=
    if r.door.moved then r
    else if i.active.getLsbD 2 && decide (st ≠ .isolated) && !r.door.stuck then r.enterIsolated i
    else if !i.active.getLsbD 2 && decide (st = .isolated) then r.enterUnhomed i true
    else if r.door.jog.isSome then r
    else
      let r := [2, 3].foldl (fun r k =>
        match slotAxis i.cfg i.d k with
        | none => r
        | some a => if i.stalled.getLsbD a.val then r.stall i k else r) r
      if r.door.st = st then r.internalState i else r
  r.jogRest i

/-- The timers that run beside the state: the chime and the jog (R274, R282). -/
def DoorRun.side (r : DoorRun) (i : DoorIn) (sw11 : Bool) : DoorRun :=
  let r := match r.door.chime with
    | some t => if reached i.now t then r.upd fun w => { w with chime := none } else r
    | none => r
  match r.door.jog with
  | some _ => if !sw11 || reached i.now (after r.door.jogTick 4000) then r.jogEnd i else r
  | none => r

/-! ## Outputs (R265, R274) -/

/-- The on phase of a pattern of equal on and off times, `half` ticks each, from the tick of entry. -/
def onPhase (half : Nat) (now entry : Tick) : Bool := decide (since now entry / half % 2 = 0)

/-- The lamp of a state (R265). -/
def lampOn (w : Door) (now : Tick) : Bool :=
  match w.st with
  | .unhomed => decide (w.homing ≠ .none) && onPhase 5000 now w.tick
  | .isolated | .closedLocked => false
  | .closedUnlocked | .unlocking | .stepOut | .opening | .opened => true
  | .egress => onPhase 2500 now w.tick
  | .fault => onPhase 10000 now w.tick
  | _ => onPhase 5000 now w.tick

/-- The buzzer of a state (R265). -/
def buzzerOn (w : Door) (now : Tick) : Bool :=
  match w.st with
  | .unhomed => decide (w.homing ≠ .none) && onPhase 10000 now w.tick
  | .warning | .reopening => onPhase 10000 now w.tick
  | .obstructedOpen => decide (since now w.tick < 60000)
  | _ => false

/-- The outputs a doorway commands in a tick (R265, R274). DEDUCED (log 56). -/
def Door.outputs (w : Door) (now : Tick) (used heater : Bool) : Door :=
  { w with
    lamp := used && lampOn w now
    buzzer := used && (buzzerOn w now || w.chime.isSome)
    heater := used && heater && decide (w.st ≠ .isolated) }

/-! ## One doorway in a compute phase -/

/-- What a compute phase finds for a doorway beside its inputs. -/
structure DoorNews where
  /-- A port carrying one of its axes was lost in this tick. -/
  lost : Bool
  /-- A close command of its side's input. -/
  sideClose : Bool
  /-- An open command of its side's input. -/
  sideOpen : Bool
  deriving DecidableEq, Repr

/-- The slots of a doorway by ascending axis number (R73). -/
def slotsInOrder (c : Cfg) (d : Nat) : List Nat :=
  let xs := [0, 1, 2, 3].map fun k => (c.n F.doorAxis (4 * d + k), k)
  (List.range 64).flatMap fun a => (xs.filter (·.1 == a)).map (·.2)

/-- The events of one order of R72, 1 to 6, that the compute phase sees by itself. An edge is against the inputs of the tick before
(R71). DESIGN CHOICE (log 9). -/
def DoorRun.order (r : DoorRun) (i : DoorIn) (x : DoorNews) (k : Nat) : DoorRun :=
  let was := r.door.active
  let rose := fun n => i.active.getLsbD n && !was.getLsbD n
  match k with
  | 1 => if x.lost then r.linkLost i else r
  | 2 =>
    let r := if rose 4 then r.egressActive i else r
    if was.getLsbD 4 && !i.active.getLsbD 4 then r.egressInactive i else r
  | 3 => (slotsInOrder i.cfg i.d).foldl (fun r k =>
      match slotAxis i.cfg i.d k with
      | none => r
      | some a => if (r.axes[a]).obst.confirmed then r.obstacle i k else r) r
  | 4 => if i.side && i.zero then r else r.releaseLost i
  | 5 => if x.sideClose then r.close i else r
  | _ =>
    let r := if x.sideOpen then r.open i else r
    if rose 5 || rose 6 then r.button i else r

/-- What comes before a doorway's events: its leaves' evaluations, the doorway after MAINTENANCE, and its marks. -/
def DoorRun.before (r : DoorRun) (i : DoorIn) (done : BitVec 64) (fresh : Bool) : DoorRun :=
  let r := (leavesOf i.cfg i.d).foldl (fun r a => if done.getLsbD a.val then r.leafEvaluated i a else r) r
  (if fresh then r.afterMaintenance i else r).markSiblings i

/-- What follows the events of all doorways: the verdict, internal triggers (R268), outputs, the start of homing. -/
def DoorRun.finish (r : DoorRun) (i : DoorIn) (sw11 home : Bool) : DoorRun :=
  let r := r.upd fun w => { w with active := i.active, valid := i.valid, release := i.side && i.zero }
  let r := (((r.verdict i).internal i).side i sw11).upd fun w =>
    { (w.outputs i.now true (i.cfg.n F.heaterOn i.d == 1)) with moved := false, given := 0 }
  if home && r.door.st == DoorState.unhomed && r.door.homing == HomeStage.none then r.homeStart i else r

/-- The check of a used doorway in the first tick of DISCOVER (R258). -/
def doorConfigBad (c : Cfg) (d : Nat) : Bool :=
  (leavesOf c d).isEmpty ||
    ((slotAxes c d [0, 1]).any fun a => c.kind a.val != 1) || ((slotAxes c d [2, 3]).any fun a => c.kind a.val == 0)

end Sys2Proof.Machine
end

