-- ==== Sys2Proof/Machine/Bolt.lean ====
section
/-! DEFINITION. The BOLT interlock, two-channel pairs, release signals and safe telegrams (ch. 9). -/

namespace Sys2Proof.Machine

/-- The interlock under computation and the codes raised, newest first. -/
structure LockRun where
  /-- The interlock. -/
  il : Interlock
  /-- Codes raised. -/
  ev : List Raised
  deriving DecidableEq, Repr

/-- A code raised. -/
def LockRun.raise (r : LockRun) (code : Code) (inst : Nat) (detail : Word) : LockRun :=
  { r with ev := ⟨code, inst, detail⟩ :: r.ev }

/-- BOLT state changed. -/
def LockRun.bolt (r : LockRun) (f : BoltSt → BoltSt) : LockRun := { r with il := { r.il with bolt := f r.il.bolt } }

/-- Telegram state changed. -/
def LockRun.safe (r : LockRun) (f : SafeSt → SafeSt) : LockRun := { r with il := { r.il with safe := f r.il.safe } }

/-! ## Pairs (R298 to R304) -/

/-- A pair is used (R298). -/
def Cfg.pairUsed (c : Cfg) (p : Nat) : Bool := c.n F.pairChA p != 255 && c.n F.pairChB p != 255

/-- The safe reading of a pair: active where it is an EGRESS_PAIR (R299). -/
def Cfg.pairSafe (c : Cfg) (p : Nat) : Bool := (List.range 16).any fun d => c.n F.egressPair d == 0x80 + p

/-- D, the discrepancy limit in ticks (R300). -/
def Cfg.pairLimit (c : Cfg) (p : Nat) : Nat := (c.n F.pairDiscUs p + 49) / 50

/-- The settings of a pair in use. -/
def Cfg.pairSet (c : Cfg) (p : Nat) : PairSet :=
  ⟨c.n F.pairChA p, c.n F.pairChB p, c.n F.pairMode p == 1, c.pairSafe p, c.pairLimit p⟩

/-- What channel B loads in step 7 of a start (R286). -/
def Cfg.boltCopy (c : Cfg) : BoltCopy :=
  { used := (packBools ((List.range 16).map fun d => c.n F.doorUsed d == 1)).setWidth 16
    inputs := vmapIdx (fun d (_ : Unit) =>
      ⟨#[c.n F.closedInput d, c.n F.lockedInput d, c.n F.isolatedInput d, c.n F.isoLockedInput d], rfl⟩) (Vector.replicate 16 ())
    pairs := vmapIdx (fun p (_ : Unit) => c.pairSet p) (Vector.replicate 32 ()) }

/-- One sample of a pair in one channel (R299 to R303); `anti` is PAIR_MODE ANTIVALENT. Answers whether it has just
entered, or left, discrepancy. -/
def PairRead.sample (p : PairRead) (anti a b bad safe fieldOk : Bool) (lim : Nat) : PairRead × Bool × Bool :=
  if !fieldOk then ({ p with value := safe, c := 0, agree := 0 }, false, false)
  else
    let agrees := !bad && if anti then a != b else a == b
    let n := if agrees then 0 else satN (p.c + 1) 20
    if p.disc then
      let k := if agrees && a == safe then p.agree + 1 else 0
      if 20 ≤ k then (⟨safe, n, false, 0⟩, false, true) else (⟨safe, n, true, k⟩, false, false)
    else if agrees then (⟨a, 0, false, 0⟩, false, false)
    else if lim ≤ n then (⟨safe, n, true, 0⟩, true, false)
    else (⟨safe, n, false, 0⟩, false, false)

/-- PAIR_DISCREPANCY of a pair (R300). -/
def LockRun.pairDiscrepancy (r : LockRun) (p : PairId) : LockRun :=
  { il := { r.il with pairEvents := r.il.pairEvents ||| BitVec.ofNat 32 (2 ^ p.val) },
    ev := ⟨0x4207, p.val, 0⟩ :: r.ev }

/-- PAIR_RESTORED of a pair (R301). -/
def LockRun.pairRestored (r : LockRun) (p : PairId) : LockRun :=
  { il := { r.il with safe := { r.il.safe with events := r.il.safe.events ||| 16#32 } }, ev := ⟨0x4208, p.val, 0⟩ :: r.ev }

/-- A channel reads a pair by its settings and its own comparators (R298): an unused pair reads its safe reading. -/
def PairSet.read (s : PairSet) (p : PairRead) (ch : BitVec 64) (bad fieldOk : Bool) : PairRead × Bool × Bool :=
  if s.chA == 255 || s.chB == 255 then ({ p with value := s.safe }, false, false)
  else p.sample s.anti (ch.getLsbD s.chA) (ch.getLsbD s.chB) bad s.safe fieldOk s.limit

/-- The last sample disagreed, or the pair is in discrepancy (R296). -/
def PairRead.disagrees (p : PairRead) : Bool := decide (0 < p.c) || p.disc

/-- One pair in one tick: channel A by the image in use, channel B by its own copy (R286, R288, R298). -/
def LockRun.pairTick (r : LockRun) (c : Cfg) (chA chB : BitVec 64) (bad fieldA fieldB : Bool) (p : PairId) : LockRun :=
  let q := r.il.pairs[p]
  let a := (c.pairSet p.val).read q.a chA bad fieldA
  let b := r.il.copy.pairs[p].read q.b chB false fieldB
  let q' : Pair := ⟨a.1, b.1, max q.maxCount a.1.c⟩
  let r := { r with il := { r.il with pairs := r.il.pairs.set p q' } }
  let r := if a.2.1 then r.pairDiscrepancy p else r
  if a.2.2 then r.pairRestored p else r

/-- All pairs in one tick, ascending (R73, R298). -/
def LockRun.pairsTick (r : LockRun) (c : Cfg) (chA chB : BitVec 64) (bad fieldA fieldB : Bool) : LockRun :=
  (fins 32).foldl (fun r p => r.pairTick c chA chB bad fieldA fieldB p) r

/-- What a doorway input reads: active and valid (R260). `en` and `ok` are the channels' readings. -/
def inputReads (il : Interlock) (chanB : Bool) (en ok : BitVec 64) (fieldOk : Bool) (name : Nat) : Bool × Bool :=
  if name < 64 then (en.getLsbD name && ok.getLsbD name, ok.getLsbD name)
  else if 0x80 ≤ name ∧ name ≤ 0x9F then
    match finOf 32 (name - 0x80) with
    | none => (false, false)
    | some p =>
      let q := if chanB then (il.pairs[p]).b else (il.pairs[p]).a
      (q.value, fieldOk && !q.disc)
  else (false, false)

/-! ## The decision (R288 to R290, R480) -/

/-! ## Closure words (R286) -/

/-- The bytes of a closure word that its CRC covers: the spec names what it carries and no layout. DESIGN CHOICE (log 71). -/
def ClosureWord.bytes (w : ClosureWord) : List Byte :=
  leBytes 4 w.tick.toNat ++ leBytes 1 (w.st.code + (if w.closedLocked then 16 else 0) + (if w.used then 32 else 0))

/-- The closure word of a doorway with its CRC (R144, R286). -/
def Door.closureWord (w : Door) (now : Tick) (used : Bool) : ClosureWord :=
  let x : ClosureWord := ⟨now, w.st, w.clo.locked, used, 0⟩
  { x with crc := crc16 x.bytes }

/-- A closure word as it reaches channel B: a disturbed one has one CRC bit turned. DESIGN CHOICE (log 71). -/
def ClosureWord.onWire (w : ClosureWord) (disturbed : Bool) : ClosureWord := if disturbed then { w with crc := w.crc ^^^ 1 } else w

/-- Channel B takes a closure word of its tick with a good CRC (R288, R289). -/
def ClosureWord.taken (w : ClosureWord) (now : Tick) : Bool := w.tick == now && crc16 w.bytes == w.crc

/-- What the channels read of one doorway: channel B by its own copy, its own comparators and the closure word (R286). -/
structure DoorFact where
  /-- DOOR_USED. -/
  used : Bool
  /-- DOOR_USED in channel B's copy. -/
  usedB : Bool
  /-- STATE is ISOLATED. -/
  isolated : Bool
  /-- STATE is CLOSED_LOCKED. -/
  closedLocked : Bool
  /-- DWn_CLOSURE.CLOSED_LOCKED. -/
  verdict : Bool
  /-- CLOSED_INPUT, LOCKED_INPUT, ISOLATED_INPUT and ISO_LOCKED_INPUT active on channel A. -/
  inA : BitVec 4
  /-- The same on channel B's comparators. -/
  inB : BitVec 4
  /-- The closure word of this tick, where it reached channel B with a good CRC. -/
  word : Option ClosureWord
  /-- A pair named by one of those inputs disagrees or is in discrepancy in channel A. -/
  disA : Bool
  /-- The same in channel B. -/
  disB : Bool
  /-- A port carrying an axis of the doorway is lost. -/
  portLost : Bool
  deriving DecidableEq, Repr

/-- The doorway counts in channel A (R288). -/
def DoorFact.countsA (f : DoorFact) : Bool :=
  !f.used || (if f.isolated then f.inA.getLsbD 3 else f.closedLocked && f.verdict)

/-- The doorway counts in channel B, with or without a closure word (R288, R289). -/
def DoorFact.countsB (f : DoorFact) : Bool :=
  !f.usedB ||
    match f.word with
    | none => f.inB.getLsbD 2 && f.inB.getLsbD 3
    | some w =>
      if w.st = .isolated then f.inB.getLsbD 2 && f.inB.getLsbD 3
      else decide (w.st = .closedLocked) && w.closedLocked && f.inB.getLsbD 0 && f.inB.getLsbD 1

/-- The surroundings of a decision. -/
structure BoltIn where
  /-- Tick in progress. -/
  now : Tick
  /-- The unit state is RUN. -/
  run : Bool
  /-- The status line of the sequencer cores as channel B reads it. -/
  coreLine : Bool
  /-- The field supply is valid, channel A's and channel B's measurement. -/
  fieldA : Bool
  /-- The field supply is valid by channel B's measurement. -/
  fieldB : Bool
  /-- The 16 doorways, in order. -/
  doors : List DoorFact
  /-- The module is configured as a member of a hinge pair. -/
  hinge : Bool
  /-- FS+ in 0.1 V. -/
  fs : Nat
  /-- Node voltages A high, B high, A low, B low, 0.1 V. -/
  node : Vector Nat 4
  /-- Terminal voltages A and B, 0.1 V. -/
  term : Vector Nat 2
  /-- Output currents A and B, mA. -/
  amps : Vector Nat 2
  /-- BOLT_TEST_PERIOD_MS. -/
  period : Nat
  deriving DecidableEq, Repr

/-- Channel A's decision (R289); a disagreeing pair withdraws from its first disagreeing sample (R296). -/
def BoltIn.decideA (i : BoltIn) (latched : BitVec 4) : Bool :=
  i.run && i.fieldA && decide (latched = 0) && i.doors.any (·.used) && i.doors.all (·.countsA) && !i.doors.any (·.disA)

/-- Channel B's decision (R289, R296). -/
def BoltIn.decideB (i : BoltIn) (latched : BitVec 4) : Bool :=
  i.run && i.coreLine && i.fieldB && decide (latched = 0) && i.doors.any (·.usedB) && i.doors.all (·.countsB) && !i.doors.any (·.disB)

/-- WITHHELD_BY: the first cause of R296 that holds (R480). -/
def BoltIn.withheldBy (i : BoltIn) (b : BoltSt) : Code :=
  if !i.run then 0x4210
  else if !i.fieldA then 0x0011
  else if !(i.doors.any (·.used)) then 0x4211
  else if i.doors.any (fun f => f.used && !f.isolated && !f.countsA) then 0x4212
  else if i.doors.any (fun f => f.used && f.isolated && !f.inA.getLsbD 3) then 0x4213
  else if i.doors.any (fun f => f.disA || f.disB) then 0x4207
  else if i.doors.any (fun f => f.used && !f.isolated && f.portLost) then 0x0001
  else if b.differed || b.latched.getLsbD 3 then 0x4204
  else if b.parity then 0x4706
  else if b.latched.getLsbD 0 then 0x4201
  else if b.latched.getLsbD 1 then 0x4202
  else if b.latched.getLsbD 2 then 0x4203
  else 0

/-- A latched BOLT fault: both switches of both outputs off until restart (R295). -/
def BoltSt.latch (b : BoltSt) (k : Nat) : BoltSt :=
  { b with latched := b.latched ||| (1#4 <<< k), events := b.events ||| BitVec.ofNat 32 (2 ^ k), switches := 0, test := none }

/-- The code of a latched fault. -/
def latchCode (k : Nat) : Code :=
  if k = 0 then 0x4201 else if k = 1 then 0x4202 else if k = 2 then 0x4203 else 0x4204

/-- A latched BOLT fault is raised (R294, R295). -/
def LockRun.latch (r : LockRun) (k : Nat) : LockRun := (r.bolt (·.latch k)).raise (latchCode k) 0xFF 0

/-- The combined decision of a tick, with its events (R484). -/
def LockRun.combine (r : LockRun) (now : Tick) (comb : Bool) : LockRun :=
  let was := r.il.bolt.combined
  if comb && !was then
    (r.bolt fun b => { b with combined := true, onTick := now, events := b.events ||| 32#32, settled := 0 }).raise 0x4206 0xFF 0
  else if !comb && was then
    (r.bolt fun b => { b with combined := false, offTick := now, events := b.events ||| 16#32, test := none }).raise 0x4205 0xFF 0
  else r

/-- The comparison of the two channels (R290). -/
def LockRun.compareChannels (r : LockRun) (i : BoltIn) : LockRun :=
  let b := r.il.bolt
  if !(i.run && i.coreLine) then r.bolt fun b => { b with differed := false }
  else if b.decA != b.decB || b.countsA != b.countsB then
    let r := r.bolt fun b => { b with differed := true, differCount := satN (b.differCount + 1) 32 }
    if b.differed then r.latch 3 else r
  else r.bolt fun b => { b with differed := false }

/-- Which switch a test cycle holds off in a tick `k` after its start (R293): 0 A high, 1 B high, 2 A low, 3 B low. -/
def testSwitch (k : Nat) : Option Nat := if k % 40 < 4 ∧ k / 40 < 4 then some (k / 40) else none

/-- The switches commanded at 40.00 µs: channel A drives the high sides, channel B the low sides (R287, R293, R295, R296). -/
def BoltSt.command (b : BoltSt) (now : Tick) : BitVec 4 :=
  let base : BitVec 4 := (if b.decA && !b.parity then 3#4 else 0#4) ||| (if b.decB then 12#4 else 0#4)
  let base := if b.latched = 0 then base else 0#4
  match b.test with
  | none => base
  | some t =>
    match testSwitch (since now t) with
    | none => base
    | some k => base &&& ~~~(1#4 <<< k)

/-- A test cycle starts when due with the decision true, and ends after its last pulse (R293). -/
def BoltSt.testTick (b : BoltSt) (now : Tick) (period : Nat) : BoltSt :=
  let b := match b.test with
    | some t => if 124 ≤ since now t then { b with test := none, settled := 1 } else b
    | none => b
  if b.combined && b.test.isNone && decide (now.toNat % (20 * period) = 0) then { b with test := some now, pulseOk := false } else b

/-- Readback of one switch: on, off or neither (R294). -/
def switchReads (i : BoltIn) (k : Nat) : Option Bool :=
  let v := vget i.node k 0
  let fs := i.fs
  if k < 2 then (if fs < v + 30 then some true else if v < 30 then some false else none)
  else if fs < vget i.node (k - 2) 0 + 30 then
    if fs < v + 30 ∨ vget i.amps (k - 2) 0 < 5 then some false
    else if v < 30 then some true else none
  else none

/-- Readback of a terminal (R294). -/
def termReads (i : BoltIn) (k : Nat) : Option Bool :=
  let v := vget i.term k 0
  if i.fs < v + 30 then some true else if v < 50 then some false else none

/-- The expected readback of a pulse (R293). -/
def pulseSeen (i : BoltIn) (k : Nat) : Bool :=
  let other := termReads i (1 - k % 2) == some true
  if k < 2 then decide (vget i.node k 0 < 30) && other
  else (decide (i.fs < vget i.node k 0 + 30) || decide (vget i.amps (k - 2) 0 < 5)) && other

/-- A counter of consecutive failures. -/
def runOf (n : Nat) (bad : Bool) : Nat := if bad then min 3 (n + 1) else 0

/-- The readback checks of a tick, from samples of the switches as commanded in the tick before (R294). The switches come on again a tick
after a parity error has switched them off (R443), and the on check waits 2 ticks from there. -/
def LockRun.readback (r : LockRun) (i : BoltIn) : LockRun :=
  let b := r.il.bolt
  let nodes := packBools ((List.range 4).map fun k => switchReads i k == some true)
  let r := r.bolt fun b =>
    { b with nodes := nodes.setWidth 4, termA := BitVec.ofNat 16 (vget i.term 0 0), termB := BitVec.ofNat 16 (vget i.term 1 0),
             outs := (packBools [termReads i 0 == some true, termReads i 1 == some true]).setWidth 2 }
  if !i.fieldA then r.bolt fun b => { b with onRun := Vector.replicate 6 0, offRun := Vector.replicate 4 0, extRun := Vector.replicate 2 0 }
  else
    let k := b.test.map (since i.now)
    let sw := k.bind fun k => if 2 ≤ k ∧ k % 40 < 4 then testSwitch k else none
    -- test pulse: the 3rd and the 4th tick
    let third := match k with | some k => decide (k % 40 = 2 ∧ k / 40 < 4) | none => false
    let fourth := match k with | some k => decide (k % 40 = 3 ∧ k / 40 < 4) | none => false
    let seen := match sw with | some k => pulseSeen i k | none => false
    let ok := if third then seen else b.pulseOk || (fourth && seen)
    let r := r.bolt fun b => { b with pulseOk := ok }
    let r := if fourth && !ok then r.latch 0 else r
    -- on
    let pulse := match k with | some k => decide (k % 40 ≤ 5 ∧ k / 40 < 4) | none => false
    let onDue := b.combined && decide (b.latched = 0) && !pulse && decide (2 < b.settled + 1) && !b.parity
    let onBad := fun k => onDue && (if k < 4 then switchReads i k != some true else termReads i (k - 4) != some true)
    let r := r.bolt fun b => { b with onRun := vmapIdx (fun k n => runOf n (onBad k)) b.onRun, settled := if b.parity then 0 else min 3 (b.settled + 1) }
    let r := if r.il.bolt.onRun.toList.any (fun n => decide (2 ≤ n)) && decide (r.il.bolt.latched = 0) then r.latch 0 else r
    -- off, switches and terminals
    let offBad := fun k => !b.switches.getLsbD k && switchReads i k == some true
    let extBad := fun k => !b.switches.getLsbD k && !b.switches.getLsbD (k + 2) && decide (50 < vget i.term k 0)
    let r := r.bolt fun b =>
      { b with offRun := vmapIdx (fun k n => runOf n (offBad k)) b.offRun,
               extRun := vmapIdx (fun k n => runOf n (extBad k)) b.extRun,
               extSeen := i.hinge && (extBad 0 || extBad 1) }
    let r := if r.il.bolt.offRun.toList.any (fun n => decide (2 ≤ n)) && !r.il.bolt.latched.getLsbD 0 then r.latch 0 else r
    if r.il.bolt.extRun.toList.any (fun n => decide (2 ≤ n)) && !i.hinge && !r.il.bolt.latched.getLsbD 2 then r.latch 2 else r

/-- The decision of a tick and what follows from it (R288 to R296, R484). -/
def LockRun.decide40 (r : LockRun) (i : BoltIn) : LockRun :=
  let r := r.bolt fun b =>
    { b with
      countsA := (packBools (i.doors.map (·.countsA))).setWidth 16, countsB := (packBools (i.doors.map (·.countsB))).setWidth 16,
      decA := i.decideA b.latched, decB := i.decideB b.latched }
  let r := r.compareChannels i
  let b := r.il.bolt
  let r := r.combine i.now (b.decA && b.decB && decide (b.latched = 0))
  let r := r.bolt fun b => b.testTick i.now i.period
  r.bolt fun b => { b with switches := b.command i.now, withheld := i.withheldBy b, parity := false }

/-! ## Release and zero speed (R305) -/

/-- The three signals from the parts (R305). -/
def releaseOf (src : Nat) (fromPair fromTg : BitVec 3) : BitVec 3 :=
  if src = 0 then fromPair else if src = 1 then fromTg else fromPair &&& fromTg

/-- The parts from pairs (R305). -/
def pairSignals (c : Cfg) (il : Interlock) : BitVec 3 :=
  (packBools ((List.range 3).map fun k =>
    match finOf 32 (c.n F.releasePair k) with
    | none => false
    | some p => (il.pairs[p]).a.value)).setWidth 3

/-- The parts from telegrams (R305, R309, R313, R315). -/
def tgSignals (s : SafeSt) : BitVec 3 := if s.fresh && s.car && !s.differ then s.flags else 0

/-- The signals of a tick; RELEASE_LOST for those that went (R305, R478). -/
def LockRun.releaseTick (r : LockRun) (c : Cfg) : LockRun :=
  let p := pairSignals c r.il
  let t := tgSignals r.il.safe
  let s := releaseOf (c.n F.releaseSrc 0) p t
  let gone := r.il.release &&& ~~~s
  let r := { r with il := { r.il with release := s, relPair := p, relTg := t } }
  if gone = 0 then r else r.raise 0x4209 0xFF (gone.setWidth 32)

/-! ## Safe telegrams (R306 to R316) -/

/-- The identifier of a safe telegram (R306). -/
def safeId (base type src : Nat) : Nat := base * 65536 + type * 512 + src

/-- The safety code of 28 bytes (R308). -/
def safetyCode (conn : BitVec 32) (bs : List Byte) : BitVec 32 := crc32cFrom conn (bs.take 28)

/-- An event bit of SAFE_EVENTS with its code. -/
def LockRun.safeEvent (r : LockRun) (k : Nat) (code : Code) : LockRun :=
  (r.safe fun s => { s with events := s.events ||| BitVec.ofNat 32 (2 ^ k) }).raise code 0xFF 0

/-- Acceptance of a copy with its arrival tick (R309, R313). -/
def SafeSt.accept (s : SafeSt) (bs : List Byte) (arrival : Tick) (car : Nat) : SafeSt :=
  { s with fresh := true, known := true, timedOut := false, differ := false, wait := none, seq := BitVec.ofNat 32 (leAt bs 4 4),
           stamp := BitVec.ofNat 32 (leAt bs 8 4), tick := arrival, flags := BitVec.ofNat 3 (leAt bs 12 1),
           car := (leAt bs 20 8).testBit car }

/-- The wait closes with a single acceptance, where R314 permits it (R313, R314). -/
def LockRun.closeSingle (r : LockRun) (c : Cfg) (now : Tick) (car : Nat) : LockRun :=
  match r.il.safe.wait with
  | none => r
  | some w =>
    let r := if r.il.safe.single then r
      else (r.safe fun s => { s with single := true, expired := false, singleStart := now }).safeEvent 1 0x420B
    let s := r.il.safe
    if since now s.singleStart < msTicks (c.n F.safeSingleMaxMs 0) then
      r.safe fun s => { (s.accept w.bytes w.tick car) with singles := satN (s.singles + 1) 32 }
    else
      let r := r.safe fun s => { s with wait := none }
      if s.expired then r else (r.safe fun s => { s with expired := true }).safeEvent 2 0x420C

/-- A pair wait opens (R313). -/
def LockRun.openWait (r : LockRun) (c : Cfg) (now : Tick) (bus : BusId) (bs : List Byte) (otherBusOff : Bool) (car : Nat) : LockRun :=
  let r := r.safe fun s => { s with wait := some ⟨BitVec.ofNat 32 (leAt bs 4 4), bus, now, bs⟩ }
  if otherBusOff then r.closeSingle c now car else r

/-- A copy that is valid, against the last accepted telegram and the open wait (R312, R313). -/
def LockRun.copy (r : LockRun) (c : Cfg) (now : Tick) (bus : BusId) (bs : List Byte) (otherBusOff : Bool) (car : Nat) : LockRun :=
  let s := r.il.safe
  let seq := BitVec.ofNat 32 (leAt bs 4 4)
  let dist := (seq - s.seq).toNat
  let late := ((now - s.tick) - (BitVec.ofNat 32 (leAt bs 8 4) - s.stamp)).toInt.natAbs
  let stale := fun r : LockRun => r.safe fun s => { s with stales := satN (s.stales + 1) 32 }
  if s.known && !(decide (1 ≤ dist) && decide (dist ≤ 64)) then stale r
  else if s.known && decide (msTicks (c.n F.safeMaxDelayMs 0) < late) then
    r.safe fun s => { s with delayed := satN (s.delayed + 1) 32 }
  else
    match s.wait with
    | none => r.openWait c now bus bs otherBusOff car
    | some w =>
      if seq = w.seq then
        if bus = w.bus then stale r
        else if bs = w.bytes then
          r.safe fun s => { (s.accept w.bytes w.tick car) with dual := satN (s.dual + 1) 32, single := false, expired := false }
        else
          (r.safe fun s => { s with wait := none, differ := true, differs := satN (s.differs + 1) 32 }).safeEvent 0 0x420A
      else if 0 < (seq - w.seq).toInt then
        ((r.closeSingle c now car).openWait c now bus bs otherBusOff car)
      else stale r

/-- Whether a safe telegram is valid (R306, R311); `format`: its frame has FDF = 1, DLC 13 and the BRS configured for the bus. -/
def telegramValid (conn : BitVec 32) (format : Bool) (type src : Nat) (bs : List Byte) : Bool :=
  format && bs.length == 32 && leAt bs 0 1 == 1 && leAt bs 1 1 == type && leAt bs 2 2 == src &&
    safetyCode conn bs == BitVec.ofNat 32 (leAt bs 28 4)

/-- A RELEASE telegram copy arrives on a bus (R311 to R313, R316). -/
def LockRun.releaseCopy (r : LockRun) (c : Cfg) (now : Tick) (bus : BusId) (format : Bool) (bs : List Byte) (otherBusOff : Bool)
    (car : Nat) : LockRun :=
  if telegramValid (BitVec.ofNat 32 (c.n F.safeConnId 0)) format 1 (c.n F.safeRxSrc 0) bs then
    r.copy c now bus bs otherBusOff car
  else r.safe fun s => { s with codeErr := satN (s.codeErr + 1) 32 }

/-- The deadline of an open wait, or bus-off of the other bus (R313). `off` are the buses in bus-off. -/
def LockRun.waitTick (r : LockRun) (c : Cfg) (now : Tick) (off : BitVec 2) (car : Nat) : LockRun :=
  match r.il.safe.wait with
  | none => r
  | some w =>
    if off.getLsbD (1 - w.bus.val) || decide (200 ≤ since now w.tick) then r.closeSingle c now car else r

/-- SAFE_TG_TIMEOUT (R315). -/
def LockRun.timeout (r : LockRun) : LockRun :=
  (r.safe fun s => { s with fresh := false, known := false, timedOut := true, timeouts := satN (s.timeouts + 1) 32 }).safeEvent 3 0x420D

/-- The connection's timeout in a tick (R315). -/
def LockRun.timeoutTick (r : LockRun) (c : Cfg) (now : Tick) : LockRun :=
  let s := r.il.safe
  if s.fresh && decide (msTicks (c.n F.safeRxTimeoutMs 0) ≤ since now s.tick) then r.timeout else r

/-- The 32 bytes of a safe telegram (R307). -/
def telegram (conn : BitVec 32) (type src : Nat) (seq stamp : BitVec 32) (data : List Byte) : List Byte :=
  let bs := leBytes 1 1 ++ leBytes 1 type ++ leBytes 2 src ++ leBytes 4 seq.toNat ++ leBytes 4 stamp.toNat ++ data
  bs ++ leBytes 4 (safetyCode conn bs).toNat

end Sys2Proof.Machine
end

