-- ==== Sys2Proof/Machine/PartsIo.lean ====
section
/-! DEFINITION. Parts of State: field channels, analogue inputs, load switches and CAN. One structure per unit of the module with its value at
the start of BOOT; a field's line gives its width, the rule that names it and its reset value. -/

namespace Sys2Proof.Machine

/-! ## Field channels, analogue inputs, load switches and field supply (ch. 10) -/

/-- OUT_STATE of a field output (R344). -/
inductive OutState where
  /-- 0 OFF. -/
  | off
  /-- 1 ON. -/
  | on
  /-- 2 TRIPPED. -/
  | tripped
  /-- 3 DROPPED. -/
  | dropped
  /-- 4 WAIT_RESTORE. -/
  | waitRestore
  deriving DecidableEq, Repr

/-- One field channel (R321 to R331). -/
structure Channel where
  /-- VALUE: the sample of the last sensed tick (1 bit, R325, reset live 0). -/
  value : Bool
  /-- VALUE_B: channel B's comparator (1 bit, R286, reset live 0). -/
  valueB : Bool
  /-- The channel has been sensed since the field supply last became valid (1 bit, R325, reset 0). -/
  sensed : Bool
  /-- The same for channel B, whose own measurement of the supply it goes by (1 bit, R286, R325, reset 0). -/
  sensedB : Bool
  /-- Fn_SENSE_TICK (32 bits, R324, reset live 0). -/
  senseTick : Tick
  /-- TERMINAL_ON (1 bit, R344, reset live 0). -/
  terminalOn : Bool
  /-- INTERNAL_ON (1 bit, R344, reset live 0). -/
  internalOn : Bool
  /-- IN_LIMIT (1 bit, R344, reset live 0). -/
  inLimit : Bool
  /-- EXT_SEEN (1 bit, R331, reset live 0). -/
  extSeen : Bool
  /-- OUT_STATE (3 bits, R344, reset live 3 DROPPED). -/
  out : OutState
  /-- OUT_CMD (1 bit, R344, reset live 0). -/
  cmd : Bool
  /-- Tick at which a tripped output is tried again (33 bits, R330, reset none). -/
  retry : Option Tick
  /-- Consecutive ticks of low readback (2 bits, R331, reset 0). -/
  readRun : Nat
  /-- Consecutive ticks of stuck-on readback (2 bits, R331, reset 0). -/
  stuckRun : Nat
  /-- Consecutive ticks of external drive (11 bits, R331, reset 0). -/
  extRun : Nat
  /-- It was on until 40.00 µs of the last tick (1 bit, R331, reset 0). -/
  drove : Bool
  /-- Fn_EVENTS (5 bits, R344, reset 0). -/
  events : Word
  /-- Fn_TRIPS (32 bits, R344, reset 0). -/
  trips : Nat
  /-- Fn_QUAD_ERR (32 bits, R344, reset 0). -/
  quadErr : Nat
  /-- Fn_COUNT, the running count (32 bits, R327, reset 0). -/
  count : BitVec 32
  /-- The count latched at the field compare instant (32 bits, R326, reset 0). -/
  latched : BitVec 32
  /-- t_ref in 100 ns (64 bits, R328, reset none). -/
  tRef : Option Nat
  /-- t_last in 100 ns (64 bits, R328, reset none). -/
  tLast : Option Nat
  /-- n: rising edges after t_ref (32 bits, R328, reset 0). -/
  edges : Nat
  /-- f as a fraction in Hz: numerator (R328, reset 0). -/
  freqNum : Nat
  /-- f as a fraction in Hz: denominator (R328, reset 1). -/
  freqDen : Nat
  deriving DecidableEq, Repr

/-- A field channel at the start of BOOT. -/
def Channel.reset : Channel :=
  { value := false, valueB := false, sensed := false, sensedB := false, senseTick := 0, terminalOn := false, internalOn := false,
    inLimit := false, extSeen := false, out := .dropped, cmd := false, retry := none, readRun := 0, stuckRun := 0,
    extRun := 0, drove := false, events := 0, trips := 0, quadErr := 0, count := 0, latched := 0, tRef := none, tLast := none,
    edges := 0, freqNum := 0, freqDen := 1 }

/-- One analogue input (R339, R340). -/
structure Analogue where
  /-- CODE (16 bits, R344, reset live 0). -/
  code : BitVec 16
  /-- VALID (1 bit, R340, reset live 0). -/
  valid : Bool
  /-- SHUNT_OFF (1 bit, R340, reset live 0). -/
  shuntOff : Bool
  /-- Consecutive ticks above 30 mA (2 bits, R340, reset 0). -/
  overRun : Nat
  /-- Tick at which the shunt is tried again (33 bits, R340, reset none). -/
  retry : Option Tick
  deriving DecidableEq, Repr

/-- An analogue input at the start of BOOT. -/
def Analogue.reset : Analogue := ⟨0, false, false, 0, none⟩

/-- STATE of a load switch (R344). -/
inductive LsState where
  /-- 0 OFF. -/
  | off
  /-- 1 RAMP. -/
  | ramp
  /-- 2 ON. -/
  | on
  /-- 3 TRIPPED. -/
  | tripped
  /-- 4 THERMAL. -/
  | thermal
  /-- 5 LOCKOUT. -/
  | lockout
  /-- 6 DROPPED. -/
  | dropped
  /-- 7 WAIT_RESTORE. -/
  | waitRestore
  /-- 8 SHED. -/
  | shed
  deriving DecidableEq, Repr

/-- One load switch (R331 to R338). -/
structure LoadSwitch where
  /-- STATE (4 bits, R344, reset live 6 DROPPED). -/
  st : LsState
  /-- CMD (1 bit, R344, reset live 0). -/
  cmd : Bool
  /-- CURRENT, 10 mA (12 bits, R344, reset live 0). -/
  current : Nat
  /-- Junction temperature, °C (16 bits, R344, reset live 0). -/
  temp : Int
  /-- INTERNAL_ON (1 bit, R344, reset live 0). -/
  internalOn : Bool
  /-- EXT_SEEN (1 bit, R331, reset live 0). -/
  extSeen : Bool
  /-- THERM_WARN (1 bit, R332, reset live 0). -/
  thermWarn : Bool
  /-- RETRIES (5 bits, R335, reset 0). -/
  retries : Nat
  /-- Ticks left of the blanking window: BLANK (14 bits, R333, reset live 0). -/
  blank : Nat
  /-- HELD (1 bit, R337, reset live 0). -/
  held : Bool
  /-- The thermal latch (1 bit, R336, reset 0). -/
  latch : Bool
  /-- Tick of the pending retry slot (33 bits, R335, reset none). -/
  slot : Option Tick
  /-- Consecutive ticks above I_eff (15 bits, R334, reset 0). -/
  ovldRun : Nat
  /-- Length of the OVERLOAD count in progress (15 bits, R343, reset 0). -/
  ovldNeed : Nat
  /-- Consecutive ticks of low readback (2 bits, R331, reset 0). -/
  readRun : Nat
  /-- Consecutive ticks of stuck-on readback (2 bits, R331, reset 0). -/
  stuckRun : Nat
  /-- Consecutive ticks of external drive (11 bits, R331, reset 0). -/
  extRun : Nat
  /-- Consecutive ticks on, outside the ramp, without a trip (18 bits, R335, reset 0). -/
  onRun : Nat
  /-- It was on, or in its ramp, until 40.00 µs of the last tick (1 bit, R331, reset 0). -/
  drove : Bool
  /-- I_EFF, 10 mA (16 bits, R334, reset live 0). -/
  iEff : Nat
  /-- Ln_EVENTS (9 bits, R344, reset 0). -/
  events : Word
  deriving DecidableEq, Repr

/-- A load switch at the start of BOOT. -/
def LoadSwitch.reset : LoadSwitch :=
  { st := .dropped, cmd := false, current := 0, temp := 0, internalOn := false, extSeen := false, thermWarn := false,
    retries := 0, blank := 0, held := false, latch := false, slot := none, ovldRun := 0, ovldNeed := 0, readRun := 0,
    stuckRun := 0, extRun := 0, onRun := 0, drove := false, iEff := 0, events := 0 }

/-- The field supply (R341, R342). -/
structure FieldSupply where
  /-- FIELD_SUPPLY_V, 0.01 V (16 bits, R341, reset live 0). -/
  v : Nat
  /-- Channel B's own measurement, 0.01 V (16 bits, R341, reset live 0). -/
  vB : Nat
  /-- FIELD_LOW (1 bit, R344, reset live 0). -/
  low : Bool
  /-- INVALID (1 bit, R341, reset live 1). -/
  invalid : Bool
  /-- DROPPED (1 bit, R341, reset live 1). -/
  dropped : Bool
  /-- FIELD_HIGH (1 bit, R344, reset live 0). -/
  high : Bool
  /-- INVALID_B (1 bit, R344, reset live 1). -/
  invalidB : Bool
  /-- Consecutive ticks below 16.8 V, or at 17.3 V or above while low (5 bits, R341, reset 0). -/
  lowRun : Nat
  /-- Consecutive ticks at 14.5 V or above while invalid (5 bits, R341, reset 0). -/
  validRun : Nat
  /-- The same for channel B (5 bits, R341, reset 0). -/
  validRunB : Nat
  /-- Consecutive ticks at 12.0 V or above while dropped (5 bits, R341, reset 0). -/
  restoreRun : Nat
  /-- Consecutive ticks above 31.0 V, or at 30.5 V or below while high (5 bits, R341, reset 0). -/
  highRun : Nat
  /-- RESTORING: next channel of the restore sequence, L0 to L15 then F0 to F63 (8 bits, R342, reset none). -/
  restore : Option Nat
  /-- Tick of the next turn of the sequence (32 bits, R342, reset 0). -/
  turn : Tick
  /-- FIELD_MIN_V, 0.01 V (16 bits, R344, reset live FFFFh). -/
  minV : Nat
  /-- FIELD_EVENTS (6 bits, R344, reset 0). -/
  events : Word
  deriving DecidableEq, Repr

/-- The field supply at the start of BOOT. -/
def FieldSupply.reset : FieldSupply :=
  { v := 0, vB := 0, low := false, invalid := true, dropped := true, high := false, invalidB := true, lowRun := 0,
    validRun := 0, validRunB := 0, restoreRun := 0, highRun := 0, restore := none, turn := 0, minV := 0xFFFF, events := 0 }

/-- Field I/O as a whole. -/
structure FieldIo where
  /-- F0 to F63. -/
  ch : Vector Channel 64
  /-- AN0 to AN3. -/
  an : Vector Analogue 4
  /-- AN_SUP_STATUS.TRIPPED (1 bit, R340, reset live 0). -/
  anSupOff : Bool
  /-- Tick at which AN_SUP is tried again (33 bits, R340, reset none). -/
  anSupRetry : Option Tick
  /-- AN_SUP_STATUS bits [2:1], W1C (2 bits, R344, reset 0). -/
  anEvents : Word
  /-- L0 to L15. -/
  ls : Vector LoadSwitch 16
  /-- SUM, 10 mA (16 bits, R337, reset live 0). -/
  sum : Nat
  /-- I_GRP, 10 mA (16 bits, R334, reset live 0). -/
  iGrp : Nat
  /-- Consecutive ticks over the group limit (R337, reset live 0). -/
  overTicks : Nat
  /-- LS_GROUP_PEAK, 10 mA (16 bits, R344, reset 0). -/
  peak : Nat
  /-- Field supply. -/
  sup : FieldSupply
  /-- Entries of the sample queue with a parity error in this tick: F0 to F63, AN0 to AN3, pair word, supply word (70 bits, R443, reset 0). -/
  bad : BitVec 70
  /-- SNS+ of X3 and X4 switched off (2 bits, R31, reset 0). -/
  snsOff : BitVec 2
  /-- Tick at which each SNS+ is tried again (2 times 33 bits, R31, reset none). -/
  snsRetry : Vector (Option Tick) 2
  deriving DecidableEq, Repr

/-- Field I/O at the start of BOOT. -/
def FieldIo.reset : FieldIo :=
  { ch := Vector.replicate 64 .reset, an := Vector.replicate 4 .reset, anSupOff := false, anSupRetry := none,
    anEvents := 0, ls := Vector.replicate 16 .reset, sum := 0, iGrp := 0, overTicks := 0, peak := 0, sup := .reset, bad := 0,
    snsOff := 0, snsRetry := Vector.replicate 2 none }

/-! ## CAN FD controllers (ch. 11) -/

/-- MODE of CANx_STATUS (R350). -/
inductive CanMode where
  /-- 0 NORMAL. -/
  | normal
  /-- 1 RESTRICTED. -/
  | restricted
  /-- 2 OFF. -/
  | off
  deriving DecidableEq, Repr

/-- How the controller takes part in the bus; error active or passive follows from the counters (R361, R365). -/
inductive CanBusState where
  /-- Error active or error passive. -/
  | active
  /-- 2 BUS_OFF. -/
  | busOff
  /-- 3 RECOVERING. -/
  | recovering
  /-- 4 INTEGRATING. -/
  | integrating
  deriving DecidableEq, Repr

/-- STATE of a transmit buffer (R365). -/
inductive TxState where
  /-- 0 EMPTY. -/
  | empty
  /-- 1 PENDING. -/
  | pending
  /-- 2 SENDING. -/
  | sending
  /-- 3 SENT. -/
  | sent
  /-- 4 ABORTED. -/
  | aborted
  /-- 5 PARITY. -/
  | parity
  deriving DecidableEq, Repr

/-- One transmit buffer (R352 to R356). -/
structure TxBuf where
  /-- STATE (3 bits, R365, reset 0 EMPTY). -/
  st : TxState
  /-- NO_LISTENER (1 bit, R356, reset 0). -/
  noListener : Bool
  /-- ACK_ERRORS (5 bits, R356, reset 0). -/
  ackErrors : Nat
  /-- CANx_TXBb_TS (32 bits, R365, reset 0). -/
  ts : Word
  /-- CANx_TXBb_ID (32 bits, R365, reset 0). -/
  id : Word
  /-- CANx_TXBb_FMT (32 bits, R365, reset 0). -/
  fmt : Word
  /-- CANx_TXBb_DATA0 to DATA15 (16 times 32 bits, R365, reset 0). -/
  data : Vector Word 16
  /-- An abort waits for the end of the attempt in progress (1 bit, R355, reset 0). -/
  aborting : Bool
  deriving DecidableEq, Repr

/-- A transmit buffer at the start of BOOT. -/
def TxBuf.reset : TxBuf :=
  { st := .empty, noListener := false, ackErrors := 0, ts := 0, id := 0, fmt := 0, data := Vector.replicate 16 0,
    aborting := false }

/-- A held receive entry (R358). -/
structure RxEntry where
  /-- Its place in the ring (6 bits, R358, reset none). -/
  index : Nat
  /-- CANx_RXi_ID (32 bits, R365, reset live 0). -/
  id : Word
  /-- CANx_RXi_FMT (32 bits, R365, reset live 0). -/
  fmt : Word
  /-- CANx_RXi_TS (32 bits, R365, reset live 0). -/
  ts : Word
  /-- CANx_RXi_SERIAL (32 bits, R365, reset live 0). -/
  serial : Word
  /-- Data bytes (64 bytes, R365, reset live 0). -/
  data : List Byte
  deriving DecidableEq, Repr

/-- A host request on its way to the controller, which it reaches at 28.00 µs of the tick after (R351, R352, R355, R358, R362). -/
inductive CanReq where
  /-- CANx_TXBb_CTRL.SEND. -/
  | send (b : Fin 3)
  /-- CANx_TXBb_CTRL.ABORT. -/
  | abort (b : Fin 3)
  /-- CANx_CTRL.RECOVER. -/
  | recover
  /-- CANx_CTRL.RESTRICT_ON or RESTRICT_OFF. -/
  | restrict (on : Bool)
  /-- CANx_RX_ACK. -/
  | ack (n : Nat)
  deriving DecidableEq, Repr

/-- One CAN FD controller. -/
structure Can where
  /-- MODE (2 bits, R365, reset live 2 OFF). -/
  mode : CanMode
  /-- RESTRICT_PENDING: the mode that waits for bus idle or the end of recovery (3 bits, R351, reset 0 none). -/
  modeReq : Option CanMode
  /-- ERR_STATE with TEC and REC (3 bits, R365, reset live 4 INTEGRATING). -/
  bus : CanBusState
  /-- TEC (9 bits, R365, reset live 0). -/
  tec : Nat
  /-- REC (8 bits, R365, reset live 0). -/
  rec' : Nat
  /-- RECOVER_SEQ (8 bits, R362, reset live 0). -/
  recoverSeq : Nat
  /-- LAST_ERROR (4 bits, R365, reset 0). -/
  lastError : Nat
  /-- CANx_TDC.MEASURED (8 bits, R349, reset live 0). -/
  measured : Nat
  /-- Transmit buffers 0 to 2. -/
  tx : Vector TxBuf 3
  /-- A DOOR_STATE telegram that waits for the end of the attempt in progress of buffer 0 (32 bytes, R355, reset none). -/
  next0 : Option (List Byte)
  /-- Held receive entries, oldest first, at most 64 (R358, reset empty). -/
  rx : List RxEntry
  /-- Place of the next entry in the ring (6 bits, R358, reset 0). -/
  rxNext : Nat
  /-- CANx_RX_SERIAL (32 bits, R365, reset 0). -/
  rxSerial : Word
  /-- A frame has been dropped since the queue last had a free entry (1 bit, R358, reset 0). -/
  overflow : Bool
  /-- Requests on their way, oldest first (R352, reset none). -/
  reqs : List (Tick × CanReq)
  /-- CANx_EVENTS (8 bits, R365, reset 0). -/
  events : Word
  /-- CANx_RX_FRAMES (32 bits, R365, reset 0). -/
  rxFrames : Nat
  /-- CANx_TX_FRAMES (32 bits, R365, reset 0). -/
  txFrames : Nat
  /-- CANx_RX_DROPPED (32 bits, R365, reset 0). -/
  rxDropped : Nat
  /-- CANx_ERR_FRAMES (32 bits, R365, reset 0). -/
  errFrames : Nat
  /-- CANx_BUS_OFF_COUNT (32 bits, R365, reset 0). -/
  busOffs : Nat
  /-- CANx_PEX_COUNT (32 bits, R365, reset 0). -/
  pex : Nat
  deriving DecidableEq, Repr

/-- A controller at the start of BOOT. -/
def Can.reset : Can :=
  { mode := .off, modeReq := none, bus := .integrating, tec := 0, rec' := 0, recoverSeq := 0, lastError := 0, measured := 0,
    tx := Vector.replicate 3 .reset, next0 := none, rx := [], rxNext := 0, rxSerial := 0, overflow := false, reqs := [],
    events := 0, rxFrames := 0, txFrames := 0, rxDropped := 0, errFrames := 0, busOffs := 0, pex := 0 }

end Sys2Proof.Machine
end

