-- ==== Sys2Proof/Machine/CanBus.lean ====
section
/-! DEFINITION. The CAN FD controllers (ch. 11): transmit buffers, reception, error confinement and modes. -/

namespace Sys2Proof.Machine

/-- A controller under computation and the codes raised, newest first, with its number as instance. -/
structure CanRun where
  /-- The controller. -/
  can : Can
  /-- Codes raised. -/
  ev : List Raised
  deriving DecidableEq, Repr

/-- The controller changed. -/
def CanRun.upd (r : CanRun) (f : Can → Can) : CanRun := { r with can := f r.can }

/-- One buffer changed. -/
def CanRun.buf (r : CanRun) (b : Fin 3) (f : TxBuf → TxBuf) : CanRun := r.upd fun c => { c with tx := vmod c.tx b f }

/-- A code raised with its bit of CANx_EVENTS. -/
def CanRun.event (r : CanRun) (bus : BusId) (k : Nat) (code : Code) : CanRun :=
  { (r.upd fun c => { c with events := c.events ||| BitVec.ofNat 32 (2 ^ k) }) with ev := ⟨code, bus.val, 0⟩ :: r.ev }

/-- A frame on the bus. -/
structure CanFrame where
  /-- Identifier, 11 or 29 bits. -/
  id : Nat
  /-- Extended format. -/
  ide : Bool
  /-- Remote frame. -/
  rtr : Bool
  /-- CAN FD format. -/
  fdf : Bool
  /-- Bit-rate switch. -/
  brs : Bool
  /-- Error state indicator. -/
  esi : Bool
  /-- DLC. -/
  dlc : Nat
  /-- Data bytes. -/
  data : List Byte
  deriving DecidableEq, Repr

/-- Data bytes of a DLC (R345, R352). -/
def dlcBytes (fdf : Bool) (dlc : Nat) : Nat :=
  if dlc ≤ 8 then dlc
  else if !fdf then 8
  else [12, 16, 20, 24, 32, 48, 64].getD (dlc - 9) 64

/-! ## Error confinement (R361 to R363) -/

/-- ERR_WARN (R365). -/
def Can.warn (c : Can) : Bool := decide (96 ≤ c.tec) || decide (96 ≤ c.rec')

/-- Error passive (R361). -/
def Can.passive (c : Can) : Bool := decide (128 ≤ c.tec) || decide (128 ≤ c.rec')

/-- ERR_STATE (R365). -/
def Can.errState (c : Can) : Nat :=
  match c.bus with
  | .active => if c.passive then 1 else 0
  | .busOff => 2
  | .recovering => 3
  | .integrating => 4

/-- The controller takes part in the bus. -/
def Can.onBus (c : Can) : Bool := c.mode != CanMode.off && c.bus == CanBusState.active

/-- The controller may transmit (R350, R351, R362). -/
def Can.mayTransmit (c : Can) : Bool := c.mode == CanMode.normal && c.bus == CanBusState.active

/-- The events of counters that have changed from an earlier state (R361). -/
def CanRun.counterEvents (r : CanRun) (bus : BusId) (was : Can) : CanRun :=
  let r := if decide (was.tec < 96) && decide (96 ≤ r.can.tec) || decide (was.rec' < 96) && decide (96 ≤ r.can.rec') then r.event bus 0 0x4401 else r
  if r.can.passive && !was.passive then r.event bus 1 0x4402 else r

/-- Bus-off (R356, R361 to R363): a buffer in SENDING returns to PENDING with its count at 0; nothing is lost, and an abort that
waited takes effect. TEC passes the limits below 256 on its way. -/
def CanRun.busOff (r : CanRun) (bus : BusId) : CanRun :=
  let was := r.can
  let r := r.upd fun c =>
    { c with bus := .busOff, tec := 256, busOffs := satN (c.busOffs + 1) 32,
             tx := vmap (fun b =>
               if b.st == TxState.sending then
                 { b with st := if b.aborting then .aborted else .pending, aborting := false, ackErrors := 0, noListener := b.noListener && !b.aborting }
               else b) c.tx }
  (r.counterEvents bus was).event bus 2 0x4403

/-- The errors after which ISO 11898-1 may leave TEC as it is: an acknowledgement error of an error passive controller, and a stuff
error (R361, R363). The standard is not in the spec. PRESUMED (log 81). -/
def Can.excepted (c : Can) (kind : Nat) : Bool := decide (kind = 1) || decide (kind = 3) && c.passive

/-- Transmit error counting of ISO 11898-1: +8 unless one of its exceptions holds (R361, R363). -/
def CanRun.txCount (r : CanRun) (bus : BusId) (unchanged : Bool) : CanRun :=
  if unchanged then r
  else
    let was := r.can
    let r := r.upd fun c => { c with tec := min 256 (c.tec + 8) }
    let r := r.counterEvents bus was
    if 256 ≤ r.can.tec then r.busOff bus else r

/-! ## Transmission (R352 to R356) -/

/-- The frame that a buffer sends (R345, R352): in classical format at most 8 bytes and no bit-rate switch; ESI is the controller's
own error state. -/
def TxBuf.frame (b : TxBuf) (passive : Bool) : CanFrame :=
  let fdf := bit b.fmt 4
  let dlc := fld b.fmt 3 0
  let ide := bit b.id 30
  { id := if ide then fld b.id 28 0 else fld b.id 10 0
    ide := ide, rtr := bit b.id 29 && !fdf, fdf := fdf, brs := fdf && bit b.fmt 5, esi := fdf && passive, dlc := dlc
    data := if bit b.id 29 then [] else (b.data.toList.flatMap fun w => leBytes 4 w.toNat).take (dlcBytes fdf dlc) }

/-- The arbitration field of a buffer as a number; the lower one wins (R353). -/
def TxBuf.arbitration (b : TxBuf) : Nat :=
  let id := fld b.id 28 0
  let rtr := if bit b.id 29 && !bit b.fmt 4 then 1 else 0
  if bit b.id 30 then (id / 2 ^ 18) * 2 ^ 21 + 3 * 2 ^ 19 + (id % 2 ^ 18) * 2 + rtr
  else (id % 2 ^ 11) * 2 ^ 21 + rtr * 2 ^ 20

/-- The buffer chosen among the pending ones (R353). -/
def Can.choose (c : Can) (bufferOrder : Bool) : Option (Fin 3) :=
  (fins 3).foldl (fun best b =>
    if (c.tx[b]).st != TxState.pending then best
    else match best with
      | none => some b
      | some a => if bufferOrder then some a
        else if (c.tx[b]).arbitration < (c.tx[a]).arbitration then some b else some a) none

/-- The buffer of the attempt in progress. -/
def Can.sending (c : Can) : Option (Fin 3) := (fins 3).find? fun b => (c.tx[b]).st == TxState.sending

/-- The frame on its way out, with the error state the controller has (R345). -/
def Can.frameSent (c : Can) : Option CanFrame := c.sending.map fun b => (c.tx[b]).frame c.passive

/-- A frame waits for its start, and no attempt is in progress (R353). -/
def Can.ready (c : Can) (bufferOrder : Bool) : Bool := c.mayTransmit && c.sending.isNone && (c.choose bufferOrder).isSome

/-- A parity failure of a buffer at the start of an attempt: it is not sent (R359). -/
def CanRun.txParity (r : CanRun) (bus : BusId) (b : Fin 3) : CanRun :=
  (r.buf b fun x => { x with st := .parity }).event bus 6 0x4407

/-- A frame starts where the controller may start one (R353); `parity` marks a parity error in its buffer (R359). -/
def CanRun.start (r : CanRun) (bus : BusId) (bufferOrder parity : Bool) : CanRun :=
  if r.can.mayTransmit && r.can.sending.isNone then
    match r.can.choose bufferOrder with
    | none => r
    | some b => if parity then r.txParity bus b else r.buf b fun x => { x with st := .sending }
  else r

/-- The words of a 32-byte telegram as buffer contents (R306). -/
def dataWords (bs : List Byte) : Vector Word 16 := vmapIdx (fun k (_ : Nat) => BitVec.ofNat 32 (leAt bs (4 * k) 4)) (Vector.replicate 16 0)

/-- A safe telegram written into buffer 0 (R306, R310). -/
def CanRun.write0 (r : CanRun) (id : Nat) (brs : Bool) (bs : List Byte) : CanRun :=
  r.buf 0 fun x => { x with st := .pending, aborting := false, id := BitVec.ofNat 32 (id + 2 ^ 30),
                            fmt := BitVec.ofNat 32 (13 + 16 + if brs then 32 else 0), data := dataWords bs }

/-- A due telegram for buffer 0 (R310, R355): the new contents, and whether an unsent telegram was replaced. -/
def CanRun.post0 (r : CanRun) (id : Nat) (brs : Bool) (bs : List Byte) : CanRun × Bool :=
  match (r.can.tx[(0 : Fin 3)]).st with
  | .sending => (r.upd fun c => { c with next0 := some bs }, r.can.next0.isSome)
  | .pending => (r.write0 id brs bs, true)
  | _ => (r.write0 id brs bs, false)

/-- The end of an attempt of buffer 0 with a waiting telegram: it is written now (R355). -/
def CanRun.take0 (r : CanRun) (b : Fin 3) (id : Nat) (brs : Bool) : CanRun :=
  match r.can.next0 with
  | none => r
  | some bs => if b = 0 then (r.upd fun c => { c with next0 := none }).write0 id brs bs else r

/-- A successful attempt (R354, R356, R361). -/
def CanRun.success (r : CanRun) (b : Fin 3) (ts : Word) : CanRun :=
  let r := r.upd fun c => { c with txFrames := satN (c.txFrames + 1) 32, tec := c.tec - 1 }
  r.buf b fun x => { x with st := .sent, ts := ts, noListener := false, ackErrors := 0, aborting := false }

/-- An attempt that ends without success: PENDING again, or ABORTED where an abort waits (R354, R355). -/
def CanRun.failed (r : CanRun) (b : Fin 3) : CanRun :=
  r.buf b fun x => if x.aborting then { x with st := .aborted, aborting := false, noListener := false, ackErrors := 0 }
    else { x with st := .pending }

/-- Lost arbitration (R354). -/
def CanRun.lost (r : CanRun) (b : Fin 3) : CanRun := (r.buf b fun x => { x with ackErrors := 0 }).failed b

/-- An attempt that ends in an error of a kind of LAST_ERROR (R354, R356, R361). -/
def CanRun.txError (r : CanRun) (bus : BusId) (b : Fin 3) (kind : Nat) (unchanged : Bool) : CanRun :=
  let n := if kind = 3 then min 16 ((r.can.tx[b]).ackErrors + 1) else 0
  let first := decide (n = 16) && !(r.can.tx[b]).noListener
  let r := r.upd fun c => { c with lastError := kind, errFrames := satN (c.errFrames + 1) 32 }
  let r := r.buf b fun x => { x with ackErrors := n, noListener := x.noListener || decide (n = 16) }
  let r := if first then r.event bus 4 0x4405 else r
  (r.failed b).txCount bus (unchanged && r.can.excepted kind)

/-! ## Reception (R357 to R359) -/

/-- The lowest enabled filter of a bus that matches (R357). -/
def matchFilter (c : Cfg) (bus : BusId) (f : CanFrame) : Option Nat :=
  (List.range 8).find? fun k =>
    let e := c.elem F.rxFilter (8 * bus.val + k)
    let x := leNat (elemBytes (fieldDef F.rxFilter) e)
    let fid := x % 2 ^ 32
    let mask := x / 2 ^ 32 % 2 ^ 29
    fid.testBit 31 && (fid.testBit 30 == f.ide) && Nat.land (Nat.xor (fid % 2 ^ 29) f.id) mask == 0

/-- The words of a stored frame (R365). -/
def CanFrame.entry (f : CanFrame) (index filter : Nat) (parity : Bool) (ts serial : Word) : RxEntry :=
  let n := if f.rtr then 0 else dlcBytes f.fdf f.dlc
  { index := index
    id := put f.id 29 0 ||| flag f.rtr 29 ||| flag f.ide 30
    fmt := put f.dlc 4 0 ||| flag f.fdf 4 ||| flag f.brs 5 ||| flag f.esi 6 ||| put filter 3 8 ||| flag parity 15 ||| put n 7 16
    ts := ts, serial := serial, data := f.data.take n }

/-- A frame matched by a filter enters the queue, or is dropped (R358, R359). -/
def CanRun.store (r : CanRun) (bus : BusId) (f : CanFrame) (filter : Nat) (parity : Bool) (ts : Word) : CanRun :=
  if 64 ≤ r.can.rx.length then
    let first := !r.can.overflow
    let r := r.upd fun c => { c with rxDropped := satN (c.rxDropped + 1) 32, overflow := true }
    if first then r.event bus 5 0x4406 else r
  else
    let r := r.upd fun c =>
      { c with rx := c.rx ++ [f.entry c.rxNext filter parity ts (c.rxSerial + 1)], rxNext := (c.rxNext + 1) % 64,
               rxSerial := c.rxSerial + 1 }
    if parity then r.event bus 6 0x4407 else r

/-- A valid frame is counted; REC falls under ISO 11898-1, to a value of 119 to 127 it leaves open from 128 (R357, R361). DEDUCED (log 55). -/
def CanRun.received (r : CanRun) (free : Nat) : CanRun :=
  r.upd fun c =>
    { c with rxFrames := satN (c.rxFrames + 1) 32,
             rec' := if 128 ≤ c.rec' then 119 + (Config.freeValue free).toNat % 9 else c.rec' - 1 }

/-- An error while receiving (R351, R361): REC rises; RESTRICTED integrates again and counts nothing. -/
def CanRun.receiveError (r : CanRun) (bus : BusId) (kind : Nat) (plus8 : Bool) : CanRun :=
  if !r.can.onBus then r
  else
    let r := r.upd fun c => { c with lastError := kind, errFrames := satN (c.errFrames + 1) 32 }
    if r.can.mode == CanMode.restricted then r.upd fun c => { c with bus := .integrating }
    else
      let was := r.can
      (r.upd fun c => { c with rec' := min 255 (c.rec' + if plus8 then 8 else 1) }).counterEvents bus was

/-- A protocol exception (R345, R363). -/
def CanRun.protocolException (r : CanRun) (bus : BusId) : CanRun :=
  if !r.can.onBus then r
  else
    -- the frame in progress, if any, goes back to wait
    let r := match r.can.sending with
      | none => r
      | some b => r.lost b
    (r.upd fun c => { c with bus := .integrating, pex := satN (c.pex + 1) 32 }).event bus 7 0x4408

/-- Eleven consecutive recessive bits: the controller takes part (R350). -/
def CanRun.integrated (r : CanRun) : CanRun :=
  if r.can.bus == CanBusState.integrating && r.can.mode != CanMode.off then r.upd fun c => { c with bus := .active } else r

/-! ## Modes, recovery and host requests (R350, R351, R358, R362) -/

/-- Leaving OFF (R350). -/
def Can.leaveOff (c : Can) (m : CanMode) : Can := { c with mode := m, bus := .integrating, tec := 0, rec' := 0, modeReq := none }

/-- An acknowledgement of receive entries. -/
def CanReq.isAck : CanReq → Bool
  | .ack _ => true
  | _ => false

/-- OFF by the unit state: every transmit buffer is emptied (R350); an acknowledgement under way still frees its entries (R358). -/
def Can.goOff (c : Can) : Can :=
  { c with mode := .off, modeReq := none, reqs := c.reqs.filter (·.2.isAck), next0 := none, recoverSeq := 0, bus := .integrating,
           tx := vmap (fun b => { b with st := .empty, aborting := false, noListener := false, ackErrors := 0 }) c.tx }

/-- A requested mode change takes effect at the next bus idle, which no frame in progress leaves (R351). -/
def CanRun.modeChange (r : CanRun) : CanRun :=
  match r.can.modeReq with
  | none => r
  | some m => if r.can.bus == CanBusState.busOff || r.can.bus == CanBusState.recovering || r.can.sending.isSome then r else r.upd fun c => { c with mode := m, modeReq := none }

/-- The 128th recessive sequence: error active again (R362). -/
def CanRun.recovered (r : CanRun) (bus : BusId) : CanRun :=
  if r.can.bus == CanBusState.recovering then
    ((r.upd fun c => { c with bus := .active, tec := 0, rec' := 0, recoverSeq := 128 }).event bus 3 0x4404).modeChange
  else r

/-- The n oldest held entries are freed (R358). -/
def Can.free (c : Can) (n : Nat) : Can := { c with rx := c.rx.drop n, overflow := if n = 0 then c.overflow else false }

/-- An abort reaches the controller (R355). -/
def TxBuf.abort (x : TxBuf) : TxBuf :=
  match x.st with
  | .pending => { x with st := .aborted, noListener := false, ackErrors := 0 }
  | .sending => { x with aborting := true }
  | _ => x

/-- A host request reaches the controller at 28.00 µs (R351, R352, R355, R358, R362). DEDUCED (log 54). -/
def Can.request (c : Can) : CanReq → Can
  | .send b => { c with tx := vmod c.tx b fun x =>
      if x.st == TxState.pending || x.st == TxState.sending then x
      else { x with st := .pending, noListener := false, ackErrors := 0 } }
  | .abort b => { c with tx := vmod c.tx b (·.abort) }
  | .recover => if c.bus == CanBusState.busOff then { c with bus := .recovering, recoverSeq := 0 } else c
  | .restrict on => if c.mode == CanMode.off then c else { c with modeReq := some (if on then .restricted else .normal) }
  | .ack n => c.free n

/-- A request accepted in a tick. DEDUCED (log 54). -/
def Can.post (c : Can) (now : Tick) (q : CanReq) : Can := { c with reqs := c.reqs ++ [(now, q)] }

/-- The requests of earlier ticks reach the controller (R352). -/
def Can.takeRequests (c : Can) (now : Tick) : Can :=
  (c.reqs.filter fun q => q.1 ≠ now).foldl (fun c q => c.request q.2) { c with reqs := c.reqs.filter fun q => q.1 = now }

/-- The mode of CAN_MODE at entry to DISCOVER (R350). -/
def modeOf (n : Nat) : CanMode := if n = 0 then .normal else if n = 1 then .restricted else .off

end Sys2Proof.Machine
end

