-- ==== Sys2Proof/Machine/Io.lean ====
section
/-! DEFINITION. Field channels, analogue inputs, load switches and the field supply (ch. 10). -/

namespace Sys2Proof.Machine

/-- Field I/O under computation and the codes raised, newest first. -/
structure IoRun where
  /-- Field I/O. -/
  io : FieldIo
  /-- Codes raised. -/
  ev : List Raised
  deriving DecidableEq, Repr

/-- Samples of the field outputs and inputs at a field compare instant, bit c per channel. -/
structure FieldSense where
  /-- Comparator above its threshold, channel A. -/
  chA : BitVec 64
  /-- Channel B's comparator. -/
  chB : BitVec 64
  /-- Internal node above 5 V. -/
  node5 : BitVec 64
  /-- Internal node below FS+ - 3 V. -/
  nodeLow : BitVec 64
  /-- Terminal below FS+ - 3 V. -/
  termLow : BitVec 64
  /-- Terminal above 5 V. -/
  term5 : BitVec 64
  /-- In hardware current limit. -/
  limit : BitVec 64
  /-- Switched off by hardware after 60 µs in current limit. -/
  short : BitVec 64
  deriving DecidableEq, Repr

/-- Samples of one load switch at a field compare instant. -/
structure LsSense where
  /-- Current, 10 mA. -/
  current : Nat
  /-- Junction temperature, °C. -/
  temp : Int
  /-- Internal node above 5 V. -/
  node5 : Bool
  /-- Internal node below FS+ - 3 V. -/
  nodeLow : Bool
  /-- Terminal below FS+ - 3 V. -/
  termLow : Bool
  /-- Terminal above 5 V. -/
  term5 : Bool
  /-- Terminal within 1 V of FS+. -/
  near : Bool
  /-- In hardware current limit. -/
  limit : Bool
  /-- Switched off by hardware after 60 µs in current limit. -/
  short : Bool
  deriving DecidableEq, Repr

/-- One channel changed. -/
def IoRun.chan (r : IoRun) (c : ChanId) (f : Channel → Channel) : IoRun := { r with io := { r.io with ch := vmod r.io.ch c f } }

/-- One load switch changed. -/
def IoRun.sw (r : IoRun) (c : LoadId) (f : LoadSwitch → LoadSwitch) : IoRun := { r with io := { r.io with ls := vmod r.io.ls c f } }

/-- Every channel changed. -/
def IoRun.allChan (r : IoRun) (f : Nat → Channel → Channel) : IoRun := { r with io := { r.io with ch := vmapIdx f r.io.ch } }

/-- Every load switch changed. -/
def IoRun.allSw (r : IoRun) (f : Nat → LoadSwitch → LoadSwitch) : IoRun := { r with io := { r.io with ls := vmapIdx f r.io.ls } }

/-- Every analogue input changed. -/
def IoRun.allAn (r : IoRun) (f : Nat → Analogue → Analogue) : IoRun := { r with io := { r.io with an := vmapIdx f r.io.an } }

/-- The supply changed. -/
def IoRun.sup (r : IoRun) (f : FieldSupply → FieldSupply) : IoRun := { r with io := { r.io with sup := f r.io.sup } }

/-- A code raised. -/
def IoRun.raise (r : IoRun) (code : Code) (inst : Nat) (detail : Word) : IoRun := { r with ev := ⟨code, inst, detail⟩ :: r.ev }

/-- A code raised for a field channel with its bit of Fn_EVENTS; outputs are numbered as R261 does (R478). -/
def IoRun.chanEvent (r : IoRun) (c : ChanId) (k : Nat) (code : Code) (output : Bool) : IoRun :=
  (r.chan c fun x => { x with events := x.events ||| BitVec.ofNat 32 (2 ^ k) }).raise code (if output then c.val + 16 else c.val) 0

/-- A code raised for a load switch with its bit of Ln_EVENTS. -/
def IoRun.swEvent (r : IoRun) (c : LoadId) (k : Nat) (code : Code) : IoRun :=
  (r.sw c fun x => { x with events := x.events ||| BitVec.ofNat 32 (2 ^ k) }).raise code c.val 0

/-- A code of the field supply with its bit of FIELD_EVENTS. -/
def IoRun.supEvent (r : IoRun) (k : Nat) (code : Code) : IoRun :=
  (r.sup fun s => { s with events := s.events ||| BitVec.ofNat 32 (2 ^ k) }).raise code 0xFF 0

/-! ## Channels as inputs (R321 to R325) -/

/-- FC_MODE of a channel: 0 INPUT, 1 OUTPUT, 2 COUNTER, 3 PULSE_DIR, 4 QUADRATURE. -/
def Cfg.mode (c : Cfg) (ch : Nat) : Nat := c.n F.fcMode ch

/-- The channel counts (R326). -/
def Cfg.counting (c : Cfg) (ch : Nat) : Bool := decide (2 ≤ c.mode ch)

/-- The channel is sensed in a tick (R298, R324). -/
def sensedNow (c : Cfg) (now : Tick) (ch : Nat) : Bool :=
  c.mode ch != 1 &&
    (c.pairNamed ch || c.counting ch || decide (((now.toNat : Int) - ch) % (c.n F.senseDiv ch : Int) = 0))

/-- One channel at a field compare instant as an input (R325): channel B reads its own comparator in the ticks in which the channel is
sensed, while its own measurement of the supply is valid (R286, R341); a sample whose entry of the queue fails its parity (`bad`) does not
reach channel A (R443). -/
def Channel.sense (x : Channel) (due bad a b fieldOk fieldOkB : Bool) (now : Tick) : Channel :=
  let x := { x with terminalOn := a, valueB := (if due then b else x.valueB) && fieldOkB, sensedB := fieldOkB && (due || x.sensedB) }
  let x := if fieldOk then x else { x with sensed := false }
  if due && !bad then { x with value := a && fieldOk, sensed := fieldOk, senseTick := now } else { x with value := x.value && fieldOk }

/-- The channel's reading is valid (R325). -/
def chanValid (c : Cfg) (io : FieldIo) (ch : ChanId) : Bool :=
  !io.sup.invalid && c.mode ch.val != 1 && (io.ch[ch]).sensed && !io.bad.getLsbD ch.val

/-- Readings of all channels and their valid bits, packed (R325). -/
def FieldIo.readings (io : FieldIo) (c : Cfg) : BitVec 64 × BitVec 64 :=
  let f := fun (g : ChanId → Bool) => (fins 64).foldl (fun (acc : BitVec 64) ch => if g ch then acc ||| (1#64 <<< ch.val) else acc) 0
  (f fun ch => (io.ch[ch]).value && chanValid c io ch, f fun ch => chanValid c io ch)

/-! ## Counting (R326 to R329) -/

/-- A counted edge: +1 or -1 (R327). `rising` marks a rising edge of channel c, `time` its time in 100 ns. -/
def Channel.edge (x : Channel) (delta : Int) (rising : Bool) (time : Nat) : Channel :=
  { x with
    count := x.count + BitVec.ofInt 32 delta
    tLast := if rising then some time else x.tLast
    edges := if rising && x.tRef.isSome then x.edges + 1 else x.edges }

/-- What an edge counts in a mode (R327): `rise` of channel c, the level of c + 1, and for QUADRATURE whether c leads. -/
def edgeCount (mode : Nat) (onTrackC rise second lead : Bool) : Int :=
  if mode = 2 then (if onTrackC && rise then 1 else 0)
  else if mode = 3 then (if onTrackC && rise then (if second then 1 else -1) else 0)
  else if mode = 4 then (if lead then 1 else -1) else 0

/-- A filtered edge on a channel in a counting mode, dropped while the field supply is invalid (R327, R329). -/
def IoRun.countEdge (r : IoRun) (c : Cfg) (ch : ChanId) (onTrackC rise second lead : Bool) (time : Nat) : IoRun :=
  if r.io.sup.invalid || !c.counting ch.val then r
  else r.chan ch fun x => x.edge (edgeCount (c.mode ch.val) onTrackC rise second lead) (onTrackC && rise) time

/-- QUAD_ERROR: no count is made (R327). -/
def IoRun.quadError (r : IoRun) (c : Cfg) (ch : ChanId) : IoRun :=
  if r.io.sup.invalid || c.mode ch.val != 4 then r
  else (r.chan ch fun x => { x with quadErr := satN (x.quadErr + 1) 32 }).chanEvent ch 4 0x0020 false

/-- The frequency at a field compare instant (R328), times in 100 ns. -/
def Channel.frequency (x : Channel) (gateMs now : Nat) : Channel :=
  match x.tLast with
  | none => x
  | some tl =>
    let x := match x.tRef with
      | none => { x with tRef := some tl, edges := 0, freqNum := 0, freqDen := 1 }
      | some tr =>
        if 1 ≤ x.edges ∧ gateMs * 10000 ≤ tl - tr then
          { x with freqNum := x.edges * 10000000, freqDen := tl - tr, tRef := some tl, edges := 0 }
        else x
    let gap := now - tl
    if 100000000 < gap then { x with freqNum := 0, freqDen := 1 }
    else if 0 < gap ∧ 10000000 * x.freqDen < x.freqNum * gap then { x with freqNum := 10000000, freqDen := gap }
    else x

/-- Fn_FREQ in 0.01 Hz (R328). -/
def Channel.freqWord (x : Channel) : Nat := (satU 32 (rdiv ((x.freqNum : Int) * 100) x.freqDen)).toNat

/-- The count is a valid count for a use (R322, R329). -/
def countValid (c : Cfg) (io : FieldIo) (ch : Nat) (pulseDir : Bool) : Bool :=
  !io.sup.invalid && !io.bad.getLsbD ch && (if pulseDir then c.mode ch == 3 else c.counting ch)

/-! ## Field outputs (R330, R331) -/

/-- A field output's driver is on. -/
def Channel.driving (x : Channel) : Bool := x.out == OutState.on

/-- A field output trips (R330). -/
def Channel.trip (x : Channel) (now : Tick) : Channel :=
  { x with out := .tripped, retry := some (after now 20000), trips := satN (x.trips + 1) 32, readRun := 0 }

/-- SHORT of a field output (R331). -/
def IoRun.chanShort (r : IoRun) (now : Tick) (c : ChanId) : IoRun := (r.chan c fun x => x.trip now).chanEvent c 0 0x4301 true

/-- READBACK of a field output (R331). -/
def IoRun.chanReadback (r : IoRun) (now : Tick) (c : ChanId) : IoRun := (r.chan c fun x => x.trip now).chanEvent c 1 0x4302 true

/-- The supervision of one field output (R331). -/
def IoRun.chanCheck (r : IoRun) (cfg : Cfg) (now : Tick) (s : FieldSense) (c : ChanId) : IoRun :=
  if cfg.mode c.val != 1 then r
  else
    let k := c.val
    let paired := cfg.n F.fcPaired k == 1
    let r := r.chan c fun x => { x with internalOn := s.node5.getLsbD k, inLimit := s.limit.getLsbD k }
    if r.io.sup.invalid then r.chan c fun x => { x with readRun := 0, stuckRun := 0, extRun := 0 }
    else
      let x := r.io.ch[c]
      if (x.driving || x.drove) && s.short.getLsbD k then r.chanShort now c
      else
        let bad := x.driving && x.cmd && !s.limit.getLsbD k && (s.nodeLow.getLsbD k || s.termLow.getLsbD k)
        let stuck := !x.cmd && !x.driving && s.node5.getLsbD k
        let ext := !x.cmd && !x.driving && !s.node5.getLsbD k && s.term5.getLsbD k
        let n := runOf x.stuckRun stuck
        let e := if ext then min 2001 (x.extRun + 1) else 0
        let rb := runOf x.readRun bad
        let r := r.chan c fun x => { x with readRun := rb, stuckRun := n, extRun := e, extSeen := decide (2000 ≤ e) }
        let r := if n = 2 then r.chanEvent c 2 0x4303 true else r
        let r := if e = 2000 ∧ paired = false then r.chanEvent c 3 0x4304 true else r
        if rb = 2 then r.chanReadback now c else r

/-- The retry of a tripped field output 1 s after its trip (R330). -/
def Channel.retryNow (x : Channel) : Channel :=
  if x.out == OutState.tripped then { x with out := if x.cmd then .on else .off, retry := none } else x

/-- Whether a channel's turn of the restore sequence has passed, or no sequence holds it (R342). -/
def turnPassed (s : FieldSupply) (k : Nat) : Bool :=
  !s.dropped && match s.restore with | none => true | some n => decide (k < n)

/-- A field output takes its commanded state at 40.00 µs (R330, R341, R342). -/
def Channel.obey (x : Channel) (passed : Bool) : Channel :=
  match x.out with
  | .tripped => x
  | .dropped => if passed then { x with out := if x.cmd then .on else .off } else x
  | .waitRestore => if x.cmd then x else { x with out := .off }
  | .off => if x.cmd then { x with out := if passed then .on else .waitRestore } else x
  | .on => if x.cmd then x else { x with out := .off }

/-! ## Load switches (R331 to R337) -/

/-- The channel is switched on: in its ramp or on. -/
def LoadSwitch.driving (x : LoadSwitch) : Bool := x.st == LsState.ramp || x.st == LsState.on

/-- A switch-on starts (R333), with the blanking window of LS_INRUSH_MS. -/
def LoadSwitch.switchOn (x : LoadSwitch) (inrush : Nat) : LoadSwitch :=
  { x with st := .ramp, blank := msTicks inrush, held := false, ovldRun := 0, onRun := 0, readRun := 0, slot := none }

/-- The channel is switched off by its command or a fault. -/
def LoadSwitch.switchOff (x : LoadSwitch) (st : LsState) : LoadSwitch :=
  { x with st := st, blank := 0, held := false, ovldRun := 0, onRun := 0, readRun := 0 }

/-- A trip (R335): counted, then LOCKOUT or TRIPPED with a slot. -/
def IoRun.lsTrip (r : IoRun) (c : Cfg) (now : Tick) (l : LoadId) : IoRun :=
  if (r.io.ls[l]).latch then r
  else
    let n := min 16 ((r.io.ls[l]).retries + 1)
    let r := r.sw l fun x => { x with retries := n }
    if c.n F.lsRetryMax l.val < n then
      (r.sw l fun x => { (x.switchOff .lockout) with slot := none }).swEvent l 7 0x4308
    else r.sw l fun x => { (x.switchOff .tripped) with slot := some (after now (msTicks (c.n F.lsRetryMs l.val))) }

/-- SHORT of a load switch (R331). -/
def IoRun.lsShort (r : IoRun) (c : Cfg) (now : Tick) (l : LoadId) : IoRun := (r.swEvent l 0 0x4301).lsTrip c now l

/-- READBACK of a load switch (R331). -/
def IoRun.lsReadback (r : IoRun) (c : Cfg) (now : Tick) (l : LoadId) : IoRun := (r.swEvent l 4 0x4302).lsTrip c now l

/-- OVERLOAD (R334). -/
def IoRun.lsOverload (r : IoRun) (c : Cfg) (now : Tick) (l : LoadId) : IoRun := (r.swEvent l 1 0x4305).lsTrip c now l

/-- Thermal shutdown (R336): the latch, THERMAL unless in LOCKOUT, slots every LS_RETRY_MS. -/
def IoRun.lsThermal (r : IoRun) (c : Cfg) (now : Tick) (l : LoadId) : IoRun :=
  (r.sw l fun x =>
    { (x.switchOff (if x.st == LsState.lockout then .lockout else .thermal)) with
      latch := true, slot := some (after now (msTicks (c.n F.lsRetryMs l.val))) }).swEvent l 3 0x4307

/-- The thermal warning (R332). -/
def IoRun.lsThermalWarn (r : IoRun) (l : LoadId) : IoRun := (r.sw l fun x => { x with thermWarn := true }).swEvent l 2 0x4306

/-- A shed channel (R337). -/
def IoRun.lsShed (r : IoRun) (c : Cfg) (now : Tick) (l : LoadId) : IoRun :=
  (r.sw l fun x => { (x.switchOff .shed) with slot := some (after now (msTicks (c.n F.lsRetryMs l.val))) }).swEvent l 8 0x4309

/-- CLEAR_LOCKOUT (R335, R338): RETRIES to 0; a channel in LOCKOUT leaves it, to THERMAL while its latch is set. -/
def LoadSwitch.clearLockout (x : LoadSwitch) : LoadSwitch :=
  { x with retries := 0, st := if x.st == LsState.lockout then (if x.latch then .thermal else .off) else x.st }

/-- RETRIES returns to 0 (R335). -/
def LoadSwitch.retriesCleared (x : LoadSwitch) : LoadSwitch := if x.latch then x else { x with retries := 0, onRun := 0 }

/-- The first slot after `now` of a row of slots that holds `t`, one in `step` ticks (R336). -/
def nextSlot (t now : Tick) (step : Nat) : Tick := after t (((now - t).toNat / step + 1) * step)

/-- A retry slot of a load switch (R335 to R337). `holdOn` keeps switch-ons waiting. -/
def LoadSwitch.atSlot (x : LoadSwitch) (retryMs inrush : Nat) (holdOn : Bool) (now : Tick) : LoadSwitch :=
  let go := fun x : LoadSwitch =>
    if x.cmd then { (x.switchOn inrush) with held := holdOn } else { (x.switchOff .off) with slot := none }
  if x.latch then
    if x.temp < 130 then
      if x.st == LsState.lockout then { x with latch := false, slot := none } else go { x with latch := false }
    else { x with slot := x.slot.map fun t => nextSlot t now (msTicks retryMs) }
  else if x.st == LsState.tripped || x.st == LsState.shed then go x
  else { x with slot := none }

/-- The rating of a load channel at a housing temperature, 10 mA (R7, R8), rounded to nearest. DEDUCED (log 56). DESIGN CHOICE (log 70). -/
def chanRating (t0 : Bool) (housing : Int) : Int :=
  if !t0 || decide (housing ≤ 700) then 300 else if 850 ≤ housing then 200 else rdiv (300 * 150 - (housing - 700) * 100) 150

/-- The rating of the group, 10 mA (R7, R8), rounded to nearest. DEDUCED (log 56). DESIGN CHOICE (log 70). -/
def groupRating (t0 : Bool) (housing : Int) : Int :=
  if !t0 || decide (housing ≤ 700) then 2400 else if 850 ≤ housing then 1600 else rdiv (2400 * 150 - (housing - 700) * 800) 150

/-- I_eff and I_grp recomputed (R334). -/
def IoRun.limits (r : IoRun) (c : Cfg) (t0 : Bool) (housing : Int) : IoRun :=
  { r with io := { r.io with
      ls := vmapIdx (fun k x => { x with iEff := min (c.n F.lsLimit k) (chanRating t0 housing).toNat }) r.io.ls
      iGrp := (groupRating t0 housing).toNat } }

/-- The trips of one load switch at a field compare instant (R331, R334, R335): OVERLOAD and READBACK found in one tick are both raised and
are one trip. DESIGN CHOICE (log 96). Without a trip, 200,000 ticks on clear RETRIES. -/
def IoRun.lsTrips (r : IoRun) (c : Cfg) (now : Tick) (l : LoadId) (above readback rested : Bool) : IoRun :=
  if above then (if readback then (r.lsOverload c now l).swEvent l 4 0x4302 else r.lsOverload c now l)
  else if readback then r.lsReadback c now l
  else if rested then r.sw l (·.retriesCleared) else r

/-- The supervision and protection of one load switch at a field compare instant (R331 to R336): the checks of R331 are suspended while the
field supply is invalid, the protection of R334 goes on. A short that ended its 60 µs before the command to off took effect is seen in the
next snapshot. In the tick in which the thermal latch sets, the checks go on, and a trip that they find is raised and not counted (R336). -/
def IoRun.lsCheck (r : IoRun) (c : Cfg) (now : Tick) (s : LsSense) (l : LoadId) : IoRun :=
  let k := l.val
  let paired := c.n F.lsPaired k == 1
  let r := r.sw l fun x => { x with current := min 4095 s.current, temp := s.temp, internalOn := s.node5 }
  let x := r.io.ls[l]
  let r := if !x.thermWarn && decide (150 ≤ s.temp) then r.lsThermalWarn l
    else if x.thermWarn && decide (s.temp < 140) then r.sw l fun x => { x with thermWarn := false } else r
  let hot := decide (170 ≤ s.temp) && !x.latch
  let r := if hot then r.lsThermal c now l else r
  let onRun := if x.st == LsState.on && !hot then min 200000 (x.onRun + 1) else 0
  let valid := !r.io.sup.invalid
  if valid && (x.driving || x.drove) && s.short then r.lsShort c now l
  else
    let blanked := decide (0 < x.blank) || x.st != LsState.on
    let above := x.st == LsState.on && !blanked && decide (x.iEff < s.current)
    let need := if x.ovldRun = 0 then msTicks (c.n F.lsOvldMs k) else x.ovldNeed
    let on := if above then x.ovldRun + 1 else 0
    let bad := valid && x.st == LsState.on && x.cmd && !blanked && !s.limit && (s.nodeLow || s.termLow)
    let rb := runOf x.readRun bad
    let stuck := runOf x.stuckRun (valid && !x.cmd && !x.driving && s.node5)
    let ext := if valid && !x.cmd && !x.driving && !s.node5 && s.term5 then min 2001 (x.extRun + 1) else 0
    let r := r.sw l fun x =>
      { x with ovldRun := if hot then 0 else on, ovldNeed := need, readRun := if hot then 0 else rb, stuckRun := stuck, extRun := ext,
               onRun := onRun, extSeen := if valid then decide (2000 ≤ ext) else x.extSeen }
    let r := if stuck = 2 then r.swEvent l 6 0x4303 else r
    let r := if ext = 2000 ∧ paired = false then r.swEvent l 5 0x4304 else r
    r.lsTrips c now l (decide (0 < on) && decide (need ≤ on)) (rb == 2) (decide (200000 ≤ onRun))

/-- The ramp and blanking of one load switch in a tick (R333, R337): a tick for which the ramp was held, or for which the switch-on
waited, does not count. A running ramp within 1 V of FS+ has ended; another holds while the sum exceeds I_grp. -/
def LoadSwitch.rampTick (x : LoadSwitch) (near hold : Bool) : LoadSwitch :=
  let x := if x.driving && !x.held then { x with blank := x.blank - 1 } else x
  if x.st == LsState.ramp then
    if near && !x.held then { x with st := .on } else { x with held := hold }
  else x

/-- A load switch takes its commanded state at 40.00 µs (R333, R338, R341, R342). -/
def LoadSwitch.obey (x : LoadSwitch) (passed hold : Bool) (inrush : Nat) : LoadSwitch :=
  let start := { (x.switchOn inrush) with held := hold }
  match x.st with
  | .dropped => if passed then (if x.cmd then start else { x with st := .off }) else x
  | .waitRestore => if x.cmd then x else { x with st := .off }
  | .off => if x.cmd then (if passed then start else { x with st := .waitRestore }) else x
  | .ramp | .on => if x.cmd then x else x.switchOff .off
  | _ => x

/-- The channel to shed: the highest reading, the highest-numbered among equals (R337). -/
def shedPick (io : FieldIo) : Option LoadId :=
  (fins 16).foldl (fun best l =>
    let x := io.ls[l]
    if !x.driving then best
    else match best with
      | none => some l
      | some b => if (io.ls[b]).current ≤ x.current then some l else best) none

/-- The group sum against I_grp (R337). -/
def IoRun.group (r : IoRun) (c : Cfg) (now : Tick) : IoRun :=
  let sum := r.io.ls.toList.foldl (fun acc x => acc + x.current) 0
  let above := decide (r.io.iGrp < sum)
  let n := if above then r.io.overTicks + 1 else 0
  let r := { r with io := { r.io with sum := sum, peak := max r.io.peak sum, overTicks := n } }
  if 0 < n ∧ n % 20 = 0 then
    match shedPick r.io with
    | none => r
    | some l => r.lsShed c now l
  else r

/-! ## The field supply (R341, R342) -/

/-- FIELD_INVALID (R341). -/
def IoRun.fieldInvalid (r : IoRun) : IoRun :=
  let r := r.sup fun s => { s with invalid := true, validRun := 0 }
  let r := r.allChan fun _ x => { x with value := false, sensed := false }
  let r := r.allAn fun _ x => { x with valid := false }
  r.supEvent 1 0x0011

/-- FIELD_RESTORED (R341). -/
def IoRun.fieldRestored (r : IoRun) : IoRun := (r.sup fun s => { s with invalid := false, validRun := 0 }).supEvent 2 0x0012

/-- A load switch or output drops by hardware; trip states are kept (R341). -/
def LoadSwitch.drop (x : LoadSwitch) : LoadSwitch :=
  match x.st with
  | .tripped | .thermal | .lockout | .shed => x
  | _ => x.switchOff .dropped

/-- The same for a field output. -/
def Channel.drop (x : Channel) : Channel := if x.out == OutState.tripped then x else { x with out := .dropped, readRun := 0 }

/-- Every output drops (R341). -/
def IoRun.drop (r : IoRun) : IoRun :=
  let r := (r.allSw fun _ x => x.drop).allChan fun _ x => x.drop
  r.sup fun s => { s with dropped := true, restoreRun := 0, restore := none }

/-- OUTPUTS_DROPPED (R341). -/
def IoRun.outputsDropped (r : IoRun) : IoRun := r.drop.supEvent 3 0x0013

/-- The restore sequence starts (R342). -/
def IoRun.restoreStart (r : IoRun) (now : Tick) : IoRun :=
  let r := r.sup fun s => { s with dropped := false, restoreRun := 0, restore := some 0, turn := now }
  let r := r.allSw fun _ x => if x.st == LsState.dropped then { x with st := if x.cmd then .waitRestore else .off } else x
  r.allChan fun _ x => if x.out == OutState.dropped then { x with out := if x.cmd then .waitRestore else .off } else x

/-- Whether output `k` (L0 to L15, F0 to F63) takes a turn of the sequence (R338, R342). -/
def takesTurn (io : FieldIo) (now : Tick) (k : Nat) : Bool :=
  match finOf 16 k with
  | some l =>
    let x := io.ls[l]
    x.st == LsState.waitRestore || (match x.slot with | some t => reached now t | none => false)
  | none =>
    match finOf 64 (k - 16) with
    | some c =>
      let x := io.ch[c]
      x.out == OutState.waitRestore
    | none => false

/-- One output takes its turn (R338, R342). -/
def IoRun.turn (r : IoRun) (c : Cfg) (now : Tick) (k : Nat) : IoRun :=
  let hold := decide (r.io.iGrp < r.io.sum)
  match finOf 16 k with
  | some l => r.sw l fun x =>
      if x.st == LsState.waitRestore then { (x.switchOn (c.n F.lsInrushMs l.val)) with held := hold }
      else x.atSlot (c.n F.lsRetryMs l.val) (c.n F.lsInrushMs l.val) hold now
  | none =>
    match finOf 64 (k - 16) with
    | some ch => r.chan ch fun x => { x with out := .on }
    | none => r

/-- The next output from place `k` that takes a turn, `n` places left. -/
def nextTurn (io : FieldIo) (now : Tick) : Nat → Nat → Option Nat
  | 0, _ => none
  | n + 1, k => if takesTurn io now k then some k else nextTurn io now n (k + 1)

/-- A turn of the restore sequence: the next waiting output; with none left after it the sequence ends (R342). -/
def IoRun.restoreTurn (r : IoRun) (c : Cfg) (now : Tick) : IoRun :=
  match r.io.sup.restore with
  | none => r
  | some k =>
    match nextTurn r.io now (80 - k) k with
    | none => r.sup fun s => { s with restore := none }
    | some j =>
      let r := r.turn c now j
      let next := if (nextTurn r.io now (79 - j) (j + 1)).isSome then some (j + 1) else none
      r.sup fun s => { s with restore := next, turn := after now 2 }

/-- Whether a tick that is set has been reached. -/
def tickDue (t : Option Tick) (now : Tick) : Bool := match t with | some t => reached now t | none => false

/-- A run of ticks of a condition, up to 20. -/
def run20 (n : Nat) (ok : Bool) : Nat := if ok then min 20 (n + 1) else 0

/-- The field supply at a field compare instant (R341, R342). -/
def IoRun.supplyTick (r : IoRun) (now : Tick) (v vB : Nat) : IoRun :=
  let r := r.sup fun s => { s with v := v, vB := vB, minV := min s.minV v }
  -- channel B's own view
  let r := r.sup fun s =>
    if vB < 1400 then { s with invalidB := true, validRunB := 0 }
    else
      let n := run20 s.validRunB (s.invalidB && decide (1450 ≤ vB))
      if 20 ≤ n then { s with invalidB := false, validRunB := 0 } else { s with validRunB := n }
  -- validity
  let s := r.io.sup
  let r :=
    if v < 1400 then (if s.invalid then r.sup fun s => { s with validRun := 0 } else r.fieldInvalid)
    else if s.invalid then
      let n := run20 s.validRun (decide (1450 ≤ v))
      if 20 ≤ n then r.fieldRestored else r.sup fun s => { s with validRun := n }
    else r
  -- low and high
  let s := r.io.sup
  let n := run20 s.lowRun (if s.low then decide (1730 ≤ v) else decide (v < 1680))
  let r := r.sup fun s => { s with lowRun := n }
  let r := if 20 ≤ n then (if s.low then r.sup fun s => { s with low := false, lowRun := 0 }
    else (r.sup fun s => { s with low := true, lowRun := 0 }).supEvent 0 0x0010) else r
  let n := run20 s.highRun (if s.high then decide (v ≤ 3050) else decide (3100 < v))
  let r := r.sup fun s => { s with highRun := n }
  let r := if 20 ≤ n then (if s.high then r.sup fun s => { s with high := false, highRun := 0 }
    else (r.sup fun s => { s with high := true, highRun := 0 }).supEvent 4 0x0014) else r
  -- drop and restore
  let s := r.io.sup
  if v < 900 then (if s.dropped then r.sup fun s => { s with restoreRun := 0 } else r.outputsDropped)
  else if s.dropped then
    let n := run20 s.restoreRun (decide (1200 ≤ v))
    if 20 ≤ n then r.restoreStart now else r.sup fun s => { s with restoreRun := n }
  else r

/-! ## Analogue inputs and sensor supplies (R31, R339, R340) -/

/-- Valid codes of an AN_MODE (R339). -/
def anRange (mode : Nat) : Option (Nat × Nat) := if mode = 0 then some (0, 64640) else if mode = 1 then some (9216, 53760) else none

/-- One analogue sample (R339, R340). -/
def Analogue.sample (x : Analogue) (mode code : Nat) (fieldOk supOff : Bool) : Analogue :=
  let ok := match anRange mode with
    | none => false
    | some q => decide (q.1 ≤ code) && decide (code ≤ q.2) && fieldOk && (mode != 1 || (!x.shuntOff && !supOff))
  { x with code := BitVec.ofNat 16 (if mode = 2 then 0 else code), valid := ok }

/-- AN_SHUNT_OFF (R340). -/
def IoRun.shuntOff (r : IoRun) (now : Tick) (n : AnId) : IoRun :=
  ({ r with io := { r.io with
      an := vmod r.io.an n fun x => { x with shuntOff := true, overRun := 0, retry := some (after now 20000), valid := false }
      anEvents := r.io.anEvents ||| 4#32 } } : IoRun).raise 0x0021 n.val 0

/-- The shunt is connected again (R340). -/
def IoRun.shuntRetry (r : IoRun) (n : AnId) : IoRun :=
  { r with io := { r.io with an := vmod r.io.an n fun x : Analogue => { x with shuntOff := false, retry := none } } }

/-- AN_SUPPLY_TRIP (R340). -/
def IoRun.anSupplyTrip (r : IoRun) (now : Tick) : IoRun :=
  ({ r with io := { r.io with anSupOff := true, anSupRetry := some (after now 20000), anEvents := r.io.anEvents ||| 2#32 } } : IoRun).raise 0x0022 0xFF 0

/-- AN_SUP is tried again (R340). -/
def IoRun.anSupplyRetry (r : IoRun) : IoRun := { r with io := { r.io with anSupOff := false, anSupRetry := none } }

/-- SENSOR_SUPPLY_TRIP of a connector, 0 for X3 and 1 for X4 (R31). -/
def IoRun.sensorTrip (r : IoRun) (now : Tick) (k : Fin 2) : IoRun :=
  ({ r with io := { r.io with snsOff := r.io.snsOff ||| (1#2 <<< k.val), snsRetry := r.io.snsRetry.set k (some (after now 20000)) } } : IoRun).raise
    0x0015 0xFF 0

/-- SNS+ of a connector is tried again (R31). -/
def IoRun.sensorRetry (r : IoRun) (k : Fin 2) : IoRun :=
  { r with io := { r.io with snsOff := r.io.snsOff &&& ~~~(1#2 <<< k.val), snsRetry := r.io.snsRetry.set k none } }

/-- One analogue input in a tick (R339, R340). -/
def IoRun.anTick (r : IoRun) (c : Cfg) (now : Tick) (code : Nat) (over30 : Bool) (n : AnId) : IoRun :=
  let mode := c.n F.anMode n.val
  let x := r.io.an[n]
  let r := match x.retry with
    | some t => if reached now t then r.shuntRetry n else r
    | none => r
  let x := r.io.an[n]
  let run := if mode = 1 ∧ x.shuntOff = false then runOf x.overRun over30 else 0
  let r := { r with io := { r.io with an := vmod r.io.an n fun x =>
      { (x.sample mode code (!r.io.sup.invalid) r.io.anSupOff) with overRun := run } } }
  if 2 ≤ run then r.shuntOff now n else r

/-! ## The two halves of a tick -/

/-- Analogue and hardware samples of a tick. -/
structure IoSense where
  /-- Field channels. -/
  f : FieldSense
  /-- Load switches. -/
  ls : Vector LsSense 16
  /-- AN0 to AN3 codes. -/
  an : Vector Nat 4
  /-- Each reads above 30 mA. -/
  over30 : BitVec 4
  /-- AN_SUP exceeds 100 mA. -/
  anOver : Bool
  /-- SNS+ of X3 and X4 exceed 2.0 A. -/
  snsOver : BitVec 2
  /-- Field supply, 0.01 V. -/
  v : Nat
  /-- Channel B's measurement of it. -/
  vB : Nat
  /-- Entries of the sample queue with a parity error, numbered as F0 to F63, AN0 to AN3, pair word, supply word (R77, R443). -/
  bad : BitVec 70
  /-- Entries of the command queue with a parity error: F0 to F63, L0 to L15, BOLT_A, BOLT_B (R77, R443). -/
  cmdBad : BitVec 82
  deriving DecidableEq, Repr

/-- The snapshot half (R66, R71): supply, inputs, counts, analogue inputs, output supervision. `time` is the compare
instant in 100 ns since the start. DESIGN CHOICE (log 33). -/
def IoRun.snapshot (r : IoRun) (c : Cfg) (now : Tick) (s : IoSense) (time : Nat) (t0 : Bool) (housing : Int) : IoRun :=
  let r := r.supplyTick now (if s.bad.getLsbD 69 then r.io.sup.v else s.v) s.vB
  let r : IoRun := { r with io := { r.io with bad := s.bad } }
  let fieldOk := !r.io.sup.invalid
  let r := r.allChan fun k x =>
    let x := x.sense (sensedNow c now k) (s.bad.getLsbD k) (s.f.chA.getLsbD k) (s.f.chB.getLsbD k) fieldOk (!r.io.sup.invalidB) now
    if c.counting k && !s.bad.getLsbD k then
      let x := { x with latched := x.count }
      if fieldOk then x.frequency (c.n F.freqGateMs k) time else x
    else x
  let r := match r.io.anSupRetry with
    | some t => if reached now t then r.anSupplyRetry else r
    | none => r
  let r := if s.anOver && !r.io.anSupOff then r.anSupplyTrip now else r
  let r := (fins 4).foldl (fun r n =>
    if s.bad.getLsbD (64 + n.val) then { r with io := { r.io with an := vmod r.io.an n fun x => { x with valid := false } } }
    else r.anTick c now (vget s.an n.val 0) (s.over30.getLsbD n.val) n) r
  let r := (fins 2).foldl (fun r k =>
    match r.io.snsRetry[k] with
    | some t => if reached now t then r.sensorRetry k else r
    | none => if s.snsOver.getLsbD k.val then r.sensorTrip now k else r) r
  let r := if now.toNat % 20 = 0 then r.limits c t0 housing else r
  let r := (fins 64).foldl (fun r ch => r.chanCheck c now s.f ch) r
  let r := (fins 16).foldl (fun r l => r.lsCheck c now (s.ls[l]) l) r
  r.group c now

/-- The output half at 40.00 µs (R330, R333 to R342): commands, slots, ramps and the restore sequence. `lamps` and
`fouts` are the commanded outputs, `live` is false where no output may be on (R81), and a command lost to a parity error leaves
the former one (R443). -/
def IoRun.outputs (r : IoRun) (c : Cfg) (now : Tick) (s : IoSense) (lamps : BitVec 16) (fouts : BitVec 64) (live : Bool) : IoRun :=
  let hold := decide (r.io.iGrp < r.io.sum)
  let r := (r.allSw fun _ x => { x with drove := x.driving }).allChan fun _ x => { x with drove := x.driving }
  let r := r.allSw fun k x => if s.cmdBad.getLsbD (64 + k) then x else { x with cmd := live && lamps.getLsbD k }
  let r := r.allChan fun k x => if s.cmdBad.getLsbD k then x else { x with cmd := live && c.mode k == 1 && fouts.getLsbD k }
  let r := r.allSw fun k x => x.rampTick (vget s.ls k ⟨0, 0, false, false, false, false, false, false, false⟩).near hold
  let u := r.io.sup
  let r := r.allSw fun k x =>
    let x := if tickDue x.slot now && turnPassed u k then x.atSlot (c.n F.lsRetryMs k) (c.n F.lsInrushMs k) hold now else x
    x.obey (turnPassed u k) hold (c.n F.lsInrushMs k)
  let r := r.allChan fun k x =>
    let x := if tickDue x.retry now && turnPassed u (k + 16) then x.retryNow else x
    x.obey (turnPassed u (k + 16))
  if r.io.sup.restore.isSome && reached now r.io.sup.turn then r.restoreTurn c now else r

/-- FIELD_EVENTS.IO_ROLE_MISMATCH with the field whose use a channel's mode does not serve (R322). DEDUCED (log 41). -/
def IoRun.roleMismatch (r : IoRun) (ch field : Nat) : IoRun :=
  (r.sup fun s => { s with events := s.events ||| 32#32 }).raise 0x4105 ch (BitVec.ofNat 32 field)

/-- The fields of R322 that name a field channel for a use, in ascending ID order: field ID, whether an element names
channel `ch`, and whether its mode serves the use. -/
def roleUses (c : Cfg) (ch : Nat) : List (Nat × Bool × Bool) :=
  let names := fun (f n : Nat) => (List.range n).any fun k => c.n f k == ch
  let input := c.mode ch != 1
  let outs := fun f => (List.range 16).any fun k => c.n f k == ch + 16
  let gear := (List.range 64).any fun a => c.n F.gearSource a == 2 && c.n F.gearMaster a == ch
  let foll := (List.range 64).any fun a => c.n F.followSource a == 2 && c.n F.followInput a == ch
  let puls := (List.range 64).any fun a => c.kind a == 2 && c.n F.stepSource a == 1 && c.n F.stepPulseCh a == ch
  [(0x0306, names F.closedInput 16, input), (0x0307, names F.lockedInput 16, input), (0x0308, names F.isolatedInput 16, input),
   (0x0309, names F.isoLockedInput 16, input), (0x030B, names F.buttonIn 16, input), (0x030C, names F.buttonOut 16, input),
   (0x030D, outs F.lampOut, c.mode ch == 1), (0x030E, outs F.buzzerOut, c.mode ch == 1), (0x030F, outs F.heaterOut, c.mode ch == 1),
   (0x0340, names F.sideOpenInput 2, input), (0x0341, names F.sideCloseInput 2, input), (0x0429, names F.homeInput 64, input),
   (0x0430, names F.limitNegInput 64, input), (0x0431, names F.limitPosInput 64, input)] ++
  [((fieldDef F.gearMaster).id, gear, c.counting ch), ((fieldDef F.stepPulseCh).id, puls, c.mode ch == 3),
   ((fieldDef F.followInput).id, foll, c.counting ch)]

/-- IO_ROLE_MISMATCH of every channel in the first tick of DISCOVER (R322). -/
def IoRun.roleCheck (r : IoRun) (c : Cfg) : IoRun :=
  (List.range 64).foldl (fun r ch =>
    let bad := (roleUses c ch).filter fun u => u.2.1 && !u.2.2
    match bad.foldl (fun (m : Option Nat) u => match m with | none => some u.1 | some x => some (min x u.1)) none with
    | none => r
    | some f => r.roleMismatch ch f) r

end Sys2Proof.Machine
end

