-- ==== Sys2Proof/Machine/PartsPair.lean ====
section
/-! DEFINITION. Parts of State: hinge pair and cycle recorder. One structure per unit of the module with its value at
the start of BOOT; a field's line gives its width, the rule that names it and its reset value. -/

namespace Sys2Proof.Machine

/-! ## The hinge pair (ch. 12) -/

/-- A record of the MIRROR area (R374). -/
inductive MirrorRec where
  /-- 01h WRITE: register address and the value the host wrote. -/
  | write (addr : Nat) (value : Word)
  /-- 02h COMMAND: Keyway command code and argument. -/
  | command (code : Nat) (arg : Word)
  /-- 03h STREAM: SEQ, ACK and stream data. -/
  | stream (seq ack : Nat) (data : List Byte)
  /-- 04h REQUEST: copy unit and instance. -/
  | request (unit inst : Nat)
  deriving DecidableEq, Repr

/-- The heartbeat payload of R373. -/
structure Heartbeat where
  /-- ROLE code (8 bits, R373). -/
  role : Nat
  /-- FLAGS bit 0 FAULT_DECLARED (1 bit, R373). -/
  fault : Bool
  /-- FLAGS bit 1 YIELDING (1 bit, R373). -/
  yielding : Bool
  /-- FLAGS bit 2 LEASE_HELD (1 bit, R373). -/
  lease : Bool
  /-- STATE (8 bits, R373). -/
  state : Nat
  /-- TICK (32 bits, R373). -/
  tick : Tick
  /-- EPOCH (16 bits, R373). -/
  epoch : BitVec 16
  /-- UNIT_ADDR (16 bits, R373). -/
  addr : Nat
  /-- SERIAL (32 bits, R373). -/
  serial : Word
  /-- HEALTH (32 bits, R373). -/
  health : Word
  /-- SAMPLE_MASK (32 bits, R373). -/
  samples : Word
  /-- TAU, ns (32 bits, R373). -/
  tau : Int
  /-- RECORDS_PREV (8 bits, R373). -/
  recordsPrev : Nat
  /-- MIRROR records in order (64 bytes, R374). -/
  records : List MirrorRec
  deriving DecidableEq, Repr

/-- The STATE of a UNIT copy (R375): unit state and bank selections; the mirrored
command state of doorways and axes is in their own copies. -/
structure CopyUnit where
  /-- UNIT_STATUS.STATE (R375). -/
  st : UnitState
  /-- BANK.ACTIVE of AX0 to AX63 (R375). -/
  banks : BitVec 64
  deriving DecidableEq, Repr

/-- The UNIT, INSTANCE and STATE of a copy frame (R375). -/
inductive CopyState where
  /-- 1 AXIS. -/
  | axis (a : Fin 64) (x : Axis)
  /-- 2 DOORWAY. -/
  | door (d : Fin 16) (x : Door)
  /-- 3 UNIT. -/
  | unit (x : CopyUnit)
  deriving DecidableEq, Repr

/-- UNIT and INSTANCE of a copy (R375). -/
def CopyState.place : CopyState → Nat × Nat
  | .axis a _ => (1, a.val)
  | .door d _ => (2, d.val)
  | .unit _ => (3, 0)

/-- A copy frame: the tick whose compute phase left the state, and the state (R375). -/
structure CopyOut where
  /-- TICK (32 bits, R375). -/
  tick : Tick
  /-- UNIT, INSTANCE and STATE (114 bytes, R375). -/
  state : CopyState
  deriving DecidableEq, Repr

/-- What a request that waits for room in a heartbeat is (R384). -/
inductive WaitForm where
  /-- WRITE. -/
  | write
  /-- WRITE_BLOCK from an address. -/
  | block (addr : Nat)
  /-- APPLY. -/
  | apply
  /-- COMMAND ENTER_MAINTENANCE or EXIT_MAINTENANCE: its code. -/
  | command (code : Nat)
  deriving DecidableEq, Repr

/-- A host write or command that waits for a heartbeat with room (R384). -/
structure MirrorWait where
  /-- Session that sent it. -/
  sess : SessId
  /-- Its TAG. -/
  tag : Nat
  /-- What it is. -/
  form : WaitForm
  /-- Register address and value of each word still to write, in ascending order; a command has none. -/
  words : List (Nat × Word)
  /-- Words already written by this request. -/
  done : Nat
  /-- `num` of that session: a later session of the same index gets no answer to it (R455). -/
  num : Nat
  deriving DecidableEq, Repr

/-- The hinge of one module. -/
structure Hinge where
  /-- UNIT_STATUS.ROLE (2 bits, R370, reset 0). -/
  role : Role
  /-- The pin link receiver holds code-group sync (1 bit, R376, reset live 0). -/
  sync : Bool
  /-- HP_SILENCE (16 bits, R376, reset live 0). -/
  silence : Nat
  /-- Consecutive good heartbeats, at most 20 (5 bits, R376, reset 0). -/
  goodRun : Nat
  /-- PINLINK_LOST has been raised and PINLINK_RESTORED has not followed (1 bit, R376, reset 0). -/
  linkLost : Bool
  /-- Last good partner heartbeat of the own address and, once the role is settled, of the own tick (96 bytes, R373, R376, reset live none). -/
  partner : Option Heartbeat
  /-- Good heartbeat that has arrived for use in the next compute phase (96 bytes, R372, reset none). -/
  next : Option Heartbeat
  /-- The heartbeat used in the last compute phase was of the own address and, once the role is settled, of the own tick (1 bit, R376, reset 0). -/
  heeded : Bool
  /-- TAU of the last good partner heartbeat, of whatever address and tick, ns (32 bits, R376, R377, reset 0). -/
  tauIn : Int
  /-- No good heartbeat has yet come in the slot in progress; NAK goes out at its end (1 bit, R372, reset 0). -/
  nakOut : Bool
  /-- NAK has arrived for the heartbeat last sent (1 bit, R372, reset 0). -/
  nakIn : Bool
  /-- The heartbeat last sent has been re-sent (1 bit, R372, reset 0). -/
  resent : Bool
  /-- Heartbeat last sent (96 bytes, R372, reset none). -/
  sent : Option Heartbeat
  /-- Copy frame that leaves at 1.00 µs of the next tick (120 bytes, R372, R380, reset none). -/
  copyOut : Option CopyOut
  /-- Next unit of the copy cycle: 0 to 63 axes, 64 to 79 doorways, 80 UNIT (7 bits, R380, reset 0). -/
  copyPos : Nat
  /-- REQUEST records waiting for a copy frame, oldest first, at most 16 (R380, reset none). -/
  requests : List (Nat × Nat)
  /-- REQUEST records to send, oldest first (R379, reset none). -/
  wanted : List (Nat × Nat)
  /-- FAULT_DECLARED (1 bit, R373, reset 0). -/
  declared : Bool
  /-- Consecutive ticks in which the partner's heartbeats have carried FAULT_DECLARED, at most 20 (5 bits, R370, reset 0). -/
  faultRun : Nat
  /-- A good partner heartbeat has carried FAULT_DECLARED or YIELDING since the partner's last lease frames (1 bit, R389, reset 0). -/
  gone : Bool
  /-- Ticks for which YIELDING is still set (5 bits, R391, reset 0). -/
  yielding : Nat
  /-- SPLIT (1 bit, R391, reset 0). -/
  split : Bool
  /-- EPOCH held or claimed (16 bits, R388, reset live 0). -/
  epoch : BitVec 16
  /-- HP_EPOCH.HIGHEST (16 bits, R395, reset live 0). -/
  highest : BitVec 16
  /-- HP_WITNESS of the last snapshot (24 bits, R387, reset live 0). -/
  witness : Word
  /-- LEASE_HELD (1 bit, R395, reset 0). -/
  lease : Bool
  /-- Tick of the claim that CLAIMING shows (33 bits, R388, reset none). -/
  claim : Option Tick
  /-- An ACTIVE or ALONE of R386 rows 1, 4 and 5 has still to claim (1 bit, R388, reset 0). -/
  claimDue : Bool
  /-- S: the tick in which row 6 of R386 applied, while rounds go on (33 bits, R388, reset none). -/
  rounds : Option Tick
  /-- Tick in which DISCOVER was entered (33 bits, R386, reset none). -/
  discTick : Option Tick
  /-- Ticks since DISCOVER or the last good partner heartbeat (32 bits, R386, reset 0). -/
  quiet : Nat
  /-- Consecutive ticks with good heartbeats of ROLE 0 and own SERIAL lower (5 bits, R386, reset 0). -/
  equalRun : Nat
  /-- Consecutive ticks with good heartbeats of ROLE STANDBY (32 bits, R386, reset 0). -/
  standbyRun : Nat
  /-- Consecutive ticks of FOREIGN_LEASE on each port whose stage is held (32 times 2 bits, R391, reset 0). -/
  foreign : Vector Nat 32
  /-- The partner's last three heartbeats, newest first: FIT and SYNCED both 1, SAMPLE_MASK (3 times 33 bits, R392, reset none). -/
  recent : List (Bool × Word)
  /-- TAU: arrival of the partner's TM minus the own marker, ns (32 bits, R373, reset 0). -/
  tau : Int
  /-- HP_PHASE: p, ns (32 bits, R377, reset live 0). -/
  phase : Int
  /-- ns by which the tick in progress is longer, or shorter when negative (R377 R378, reset 0). -/
  stretch : Int
  /-- ns by which the next tick will be longer, or shorter when negative (R377 R378, reset 0). -/
  stretchNext : Int
  /-- TICK_COUNT of the next tick, taken from the partner or a stage by an event of this tick (32 bits, R377, R378, reset none). -/
  nextTick : Option Tick
  /-- ALIGN_SRC: 1 stages (1 bit, R378, reset live 0). -/
  alignStages : Bool
  /-- Ticks of the failed echo checks of the last 20,000 ticks, newest first, at most 255 (R383, reset none). -/
  echoes : List Tick
  /-- First tick of the copy cycle being received (33 bits, R383, reset none). -/
  cycleStart : Option Tick
  /-- Axes copied in that cycle (64 bits, R383, reset 0). -/
  cycleAxes : BitVec 64
  /-- Doorways copied in that cycle (16 bits, R383, reset 0). -/
  cycleDoors : BitVec 16
  /-- Copies loaded in that cycle (R383, reset 0). -/
  cycleDiff : Nat
  /-- The latest complete copy cycle: first tick and copies loaded (R383, reset none). -/
  lastCycle : Option (Tick × Nat)
  /-- First tick of the sweep being received (33 bits, R383, reset none). -/
  sweepStart : Option Tick
  /-- Sweep units loaded in that sweep (R383, reset 0). -/
  sweepDiff : Nat
  /-- The latest complete sweep: first tick and units loaded (R383, reset none). -/
  lastSweep : Option (Tick × Nat)
  /-- Last tick with a failed echo check, a lost heartbeat with records or a late record (33 bits, R383, reset none). -/
  dirty : Option Tick
  /-- Sweep units changed by a mirrored record or by learning: kind, instance, tick (R381, reset none). -/
  changed : List (Nat × Nat × Tick)
  /-- Place of the sweep unit being sent in the order of R381 (8 bits, R381, reset 0). -/
  sweepPos : Nat
  /-- Bytes of that unit still to send (R381, reset none). -/
  sweepOut : List Byte
  /-- STREAM record in flight: SEQ and data (61 bytes, R374, reset none). -/
  flight : Option (Nat × List Byte)
  /-- SEQ of the last STREAM record sent with data (8 bits, R374, reset 0). -/
  seqOut : Nat
  /-- ACK: SEQ of the last STREAM record delivered (8 bits, R374, reset 0). -/
  seqIn : Nat
  /-- Sweep bytes received that do not yet make a unit (R381, reset none). -/
  sweepIn : List Byte
  /-- WRITE and COMMAND records for the next heartbeat, oldest first, at most 4 (R384, reset none). -/
  records : List MirrorRec
  /-- WRITE and COMMAND records of the heartbeat last sent: RECORDS_PREV of the next (8 bits, R373, reset 0). -/
  recordsPrev : Nat
  /-- Accepted requests that wait for a later snapshot, oldest first (R384, reset none). -/
  waiting : List MirrorWait
  /-- HP_UNFIT (4 bits, R382, reset 0). -/
  unfit : BitVec 4
  /-- HP_EVENTS (9 bits, R395, reset 0). -/
  events : Word
  /-- HP_TAKEOVER_TICK (32 bits, R389, reset 0). -/
  takeoverTick : Tick
  /-- HP_HB_CRC (32 bits, R395, reset 0). -/
  hbCrc : Nat
  /-- HP_HB_RESEND (32 bits, R395, reset 0). -/
  hbResend : Nat
  /-- HP_HB_LOST (32 bits, R395, reset 0). -/
  hbLost : Nat
  /-- HP_ECHO_ERR (32 bits, R379, reset 0). -/
  echoErr : Nat
  /-- HP_COPY_DIFF (32 bits, R380, reset 0). -/
  copyDiff : Nat
  /-- HP_LATE_RECORDS (32 bits, R384, reset 0). -/
  lateRecords : Nat
  deriving DecidableEq, Repr

/-- The hinge at the start of BOOT. -/
def Hinge.reset : Hinge :=
  { role := .unsettled, sync := false, silence := 0, goodRun := 0, linkLost := false, partner := none, next := none,
    heeded := false, tauIn := 0, nakOut := false, nakIn := false, resent := false, sent := none, copyOut := none, copyPos := 0, requests := [],
    wanted := [], declared := false, faultRun := 0, gone := false, yielding := 0, split := false, epoch := 0,
    highest := 0, witness := 0, lease := false, claim := none, claimDue := false, rounds := none, discTick := none, quiet := 0, equalRun := 0,
    standbyRun := 0, foreign := Vector.replicate 32 0, recent := [], tau := 0, phase := 0, stretch := 0, stretchNext := 0, nextTick := none,
    alignStages := false, echoes := [], cycleStart := none, cycleAxes := 0, cycleDoors := 0, cycleDiff := 0,
    lastCycle := none, sweepStart := none, sweepDiff := 0, lastSweep := none, dirty := none, changed := [],
    sweepPos := 0, sweepOut := [], flight := none, seqOut := 0, seqIn := 0, sweepIn := [], records := [],
    recordsPrev := 0, waiting := [], unfit := 0, events := 0, takeoverTick := 0, hbCrc := 0, hbResend := 0, hbLost := 0,
    echoErr := 0, copyDiff := 0, lateRecords := 0 }

/-! ## The cycle recorder (ch. 13) -/

/-- A record before it enters the open page and takes its REC_SEQ and OP_TIME (R402, R413). -/
structure RecBody where
  /-- KIND (8 bits, R403). -/
  kind : Nat
  /-- FLAGS bit 0 STANDBY (1 bit, R402). -/
  standby : Bool
  /-- FLAGS bit 1 PRE_MOUNT (1 bit, R402). -/
  preMount : Bool
  /-- UNIT_ADDR (16 bits, R402). -/
  addr : Nat
  /-- TICK (32 bits, R402). -/
  tick : Tick
  /-- Bytes after the header (R406 to R412). -/
  body : List Byte
  deriving DecidableEq, Repr

/-- A page of records being filled or waiting for its commit (R399, R413). -/
structure RecPage where
  /-- Record data: RECORDS up to USED (3904 bytes, R399). -/
  data : List Byte
  /-- FIRST_REC (16 bits, R399, reset none). -/
  first : Option Nat
  /-- REC_SEQ_LAST (32 bits, R399, reset none). -/
  last : Option Nat
  /-- Records with bytes in the page, oldest first (R427). -/
  bodies : List RecBody
  /-- FLAGS bit 0 FLUSH (1 bit, R399). -/
  flush : Bool
  /-- FLAGS bit 1 STAGING_PARITY (1 bit, R417). -/
  parity : Bool
  /-- FLAGS bit 2 FIRST_AFTER_START (1 bit, R399). -/
  firstAfter : Bool
  deriving DecidableEq, Repr

/-- An empty page. -/
def RecPage.empty : RecPage := ⟨[], none, none, [], false, false, false⟩

/-- A programmed page of the NAND (R396 to R399). -/
structure NandPage where
  /-- Physical page number (32 bits, R399). -/
  phys : Nat
  /-- Log page, bytes 0 to 4,063 (4064 bytes, R397). -/
  bytes : List Byte
  /-- The parity of the BCH code, main bytes 4,064 to 4,095 and spare bytes 0 to 247 (280 bytes, R397). -/
  parity : List Byte
  /-- The four bytes of the valid mark, spare bytes 248 to 251 (32 bits, R397, R398): FFFF_FFFFh erased, 0 programmed. -/
  mark : Word
  deriving DecidableEq, Repr

/-- How the read of a page went: the most bits in error in any sector that the code corrects, and the bytes as read where another sector
has more than 40, and the page is uncorrectable (R397). -/
structure PageRead where
  /-- Most bits corrected in any sector, 0 to 40. -/
  corrected : Nat
  /-- The bytes as read of a damaged page. -/
  damaged : Option (List Byte)
  deriving DecidableEq, Repr

/-- A mark is present: at least 24 of its 32 bits read 0 (R398). -/
def markPresent (mark : Word) : Bool := decide (24 ≤ ((fins 32).filter fun k => !mark.getLsbD k.val).length)

/-- The NAND flash, which keeps its contents without power. -/
structure Nand where
  /-- Programmed pages, last programmed first (65536 times 64 times 4064 bytes, R396, reset DESIGN CHOICE none, log 3). -/
  pages : List NandPage
  /-- The four bytes of the retire mark, spare bytes 252 to 255 of page 63, of each block in which they are not FFFF_FFFFh
  (65536 times 32 bits, R396 to R398, R423, reset DESIGN CHOICE none, log 3). -/
  retireMarks : List (Nat × Word)
  deriving DecidableEq, Repr

/-- The retired blocks: the retire mark in page 63 is present (R398, R423). -/
def Nand.retired (d : Nand) : List Nat := (d.retireMarks.filter fun x => markPresent x.2).map (·.1)

/-- An empty NAND. DESIGN CHOICE (log 3). -/
def Nand.reset : Nand := ⟨[], []⟩

/-- REC_STATUS.STATE (R430). -/
inductive RecState where
  /-- 0 MOUNTING. -/
  | mounting
  /-- 1 RECORDING. -/
  | recording
  /-- 2 ERASING. -/
  | erasing
  /-- 3 FULL. -/
  | full
  /-- 4 FAULT. -/
  | fault
  deriving DecidableEq, Repr

/-- A LOG_ERASE in progress (R427). -/
structure EraseSt where
  /-- Records that were open at acceptance, oldest first (R427). -/
  kept : List RecBody
  /-- SHA-256 of the MAINTAINER's certificate, for LOG_ERASED, the first record of the new log (32 bytes, R410, R427). -/
  cert : Option (List Byte)
  /-- Next block to erase; the commits of step 1 come before block 0 (16 bits, R427). -/
  next : Nat
  /-- ERASE_COUNT has been incremented (1 bit, R427). -/
  counted : Bool
  /-- The new log has begun: a log block that is not retired has been erased (1 bit, R427). -/
  begun : Bool
  deriving DecidableEq, Repr

/-- A sample of a PROFILE record (R407): z and r_n of slots 0 and 1. -/
structure ProfSample where
  /-- Tick of the sample (32 bits, R407). -/
  tick : Tick
  /-- z of slot 0 (16 bits, R407). -/
  z0 : Int
  /-- r_n of slot 0 (16 bits, R407). -/
  r0 : Int
  /-- z of slot 1 (16 bits, R407). -/
  z1 : Int
  /-- r_n of slot 1 (16 bits, R407). -/
  r1 : Int
  deriving DecidableEq, Repr

/-- One confirmation in a CYCLE record (R406). -/
structure CycleObst where
  /-- Tick (32 bits, R406). -/
  tick : Tick
  /-- Axis (8 bits, R406). -/
  axis : Nat
  /-- Reaction code (8 bits, R406). -/
  reaction : Nat
  /-- x_meas, um (32 bits, R406). -/
  x : Int
  /-- r_n, 0.1 N (16 bits, R406). -/
  r : Int
  /-- v_meas, mm/s (16 bits, R406). -/
  v : Int
  deriving DecidableEq, Repr

/-- PEAK of one slot (R406). -/
structure CyclePeak where
  /-- An armed tick has been seen (1 bit, R406). -/
  armed : Bool
  /-- Highest r_n in an armed tick, 0.1 N (16 bits, R406). -/
  r : Int
  /-- Highest |v_meas|, mm/s (16 bits, R406). -/
  v : Nat
  /-- Highest |f_motor|, 0.1 N (16 bits, R406). -/
  f : Nat
  deriving DecidableEq, Repr

/-- The doorway cycle in progress (R405 to R407). -/
structure Cycle where
  /-- A cycle is in progress (1 bit, R405, reset 0). -/
  active : Bool
  /-- FIRST_STATE (8 bits, R406, reset 0). -/
  first : Nat
  /-- START_TICK (32 bits, R406, reset 0). -/
  start : Tick
  /-- START_OP_TIME (48 bits, R406, reset 0). -/
  startOp : Nat
  /-- REOPENS (8 bits, R406, reset 0). -/
  reopens : Nat
  /-- OBSTACLES (8 bits, R406, reset 0). -/
  obstacles : Nat
  /-- FLAGS (16 bits, R406, reset 0). -/
  flags : BitVec 16
  /-- ATTEMPTS (8 bits, R406, reset 0). -/
  attempts : Nat
  /-- Ticks spent in states 4 to 14 (11 times 32 bits, R406, reset 0). -/
  ticks : Vector Nat 11
  /-- The last four confirmations, newest first (4 times 16 bytes, R406, reset none). -/
  obst : List CycleObst
  /-- PEAK of slots 0 to 3 (4 times 8 bytes, R406, reset 0). -/
  peaks : Vector CyclePeak 4
  /-- Samples of the cycle, newest first, at most 442 (3536 bytes, R407, reset none). -/
  samples : List ProfSample
  /-- Samples up to the last tick in CLOSING, newest first (3536 bytes, R407, reset none). -/
  span : List ProfSample
  deriving DecidableEq, Repr

/-- No cycle. -/
def Cycle.reset : Cycle :=
  { active := false, first := 0, start := 0, startOp := 0, reopens := 0, obstacles := 0, flags := 0, attempts := 0,
    ticks := Vector.replicate 11 0, obst := [], peaks := Vector.replicate 4 ⟨false, 0, 0, 0⟩, samples := [], span := [] }

/-- The recorder. -/
structure Rec where
  /-- STATE (3 bits, R430, reset 0 MOUNTING). -/
  st : RecState
  /-- The open page (3904 bytes, R413, reset empty). -/
  opened : RecPage
  /-- Tick count at which the open page first held data (R413, reset none). -/
  since : Option Nat
  /-- Sealed pages awaiting commit, oldest first, at most 3 (3 times 3904 bytes, R413, reset none). -/
  sealedPages : List RecPage
  /-- A cause has sealed the open page while three sealed pages wait; its FLUSH (2 bits, R413, reset none). -/
  sealDue : Option Bool
  /-- Records that wait for the mount or for the new log, oldest first (R416 R427, reset none). -/
  waiting : List RecBody
  /-- REC_PAGE_SEQ (32 bits, R430, reset live none). -/
  pageSeq : Option Nat
  /-- REC_SEQ: REC_SEQ_LAST of the last committed page (32 bits, R430, reset live FFFFFFFFh). -/
  recSeq : Nat
  /-- REC_CHAIN: CHAIN of the last committed page (32 bytes, R430, reset live 0). -/
  chain : List Byte
  /-- SHA-256 over the last committed page: PREV_DIGEST of the next (32 bytes, R399, reset live 0). -/
  digest : List Byte
  /-- REC_SEQ of the next record (32 bits, R402, reset 1). -/
  nextSeq : Nat
  /-- Bytes in committed pages of a record that continues in the next page (3903 bytes, R401, R420, reset none). -/
  carry : List Byte
  /-- A record whose last bytes wait for room behind a full open page, with its REC_SEQ and those bytes (3903 bytes, R416, reset none). -/
  rest : Option (RecBody × Nat × List Byte)
  /-- Physical page on which writing goes on (32 bits, R418, reset 256). -/
  nextPhys : Nat
  /-- Log pages committed since the last erase (32 bits, R424, reset live 0). -/
  committed : Nat
  /-- The block in which writing resumed after a programmed, unmarked page; it is retired when writing leaves it (17 bits, R418, reset none). -/
  leave : Option Nat
  /-- The next page to be sealed is the first of this start (1 bit, R399, reset 1). -/
  firstAfter : Bool
  /-- LOG_75, LOG_90 and LOG_99 raised (3 bits, R424, reset 0). -/
  warned : BitVec 3
  /-- The LOG_FULL page has still to be committed (1 bit, R425, reset 0). -/
  fullDue : Bool
  /-- Records dropped since RECORDS_LOST was last raised (32 bits, R416, reset 0). -/
  lost : Nat
  /-- REC_DROPPED (32 bits, R430, reset 0). -/
  dropped : Nat
  /-- OP_TIME at tick count 0 of this start, ms (48 bits, R404, reset live 0). -/
  opBase : Nat
  /-- A LOG_ERASE in progress (R427, reset none). -/
  erase : Option EraseSt
  /-- REC_ERASE_PROGRESS (16 bits, R430, reset 0). -/
  progress : Nat
  /-- Tick count of the last LOG_READ served (R430, reset none). -/
  readAt : Option Nat
  /-- Tick count at which the last flash of LED LOG began, with a committed page (R44, reset none). -/
  flashAt : Option Nat
  /-- Tick count of the last ANCHOR accepted (R409, reset none). -/
  anchorAt : Option Nat
  /-- REC_LAST_ANCHOR (32 bits, R430, reset 0). -/
  lastAnchor : Tick
  /-- REC_MAX_CORR (8 bits, R430, reset 0). -/
  maxCorr : Nat
  /-- REC_EVENTS (10 bits, R430, reset 0). -/
  events : Word
  /-- Cycles in progress of DW0 to DW15. -/
  cycles : Vector Cycle 16
  /-- The NAND. -/
  nand : Nand
  deriving DecidableEq, Repr

/-- The recorder at the start of BOOT. -/
def Rec.reset : Rec :=
  { st := .mounting, opened := .empty, since := none, sealedPages := [], sealDue := none, waiting := [], pageSeq := none,
    recSeq := 0xFFFFFFFF, chain := List.replicate 32 0, digest := List.replicate 32 0, nextSeq := 1,
    carry := [], rest := none, nextPhys := 256, committed := 0, leave := none, firstAfter := true, warned := 0,
    fullDue := false, lost := 0, dropped := 0, opBase := 0, erase := none, progress := 0, readAt := none, flashAt := none,
    anchorAt := none, lastAnchor := 0, maxCorr := 0, events := 0, cycles := Vector.replicate 16 .reset, nand := .reset }

end Sys2Proof.Machine
end

