-- ==== Sys2Proof/Machine/PartsKeyway.lean ====
section
/-! DEFINITION. Parts of State: memory integrity, sessions, security and network. One structure per unit of the module with its value at
the start of BOOT; a field's line gives its width, the rule that names it and its reset value. -/

namespace Sys2Proof.Machine

/-! ## Memory integrity (ch. 14) -/

/-- Memory integrity and host scratch. Word indexes run over the SRAM (0 to 1,048,575), the page code store and the
scratch bitmap in the order of R439. -/
structure Mem where
  /-- Wrong bits of stored words, word indexes rising, no entry without a wrong bit (72 bits a word, R433, reset none). -/
  flips : List (Nat × BitVec 72)
  /-- Wrong data bits over which a page code was rebuilt, word indexes rising, no entry without a wrong bit: the code takes them for
  right (64 bits a word, R438, reset none). -/
  codeOff : List (Nat × BitVec 72)
  /-- Poisoned words, indexes rising (R435, reset none). -/
  poisoned : List Nat
  /-- Host scratch: address and byte, addresses rising, no zero byte listed (262144 bytes, R444, reset 0). -/
  scratch : List Host.Cell
  /-- The firmware code in pages 0 to 255, none before the boot ROM has copied it (1048576 bytes, R432, reset none). -/
  code : Option (List Byte)
  /-- Scratch bitmap: the written bits (65536 bits, R444, reset 0). -/
  written : BitVec 65536
  /-- MEM_SCRUB_POS: word k of the present pass (21 bits, R439, reset live 0). -/
  pos : Nat
  /-- Tick count from which the schedule of R439 runs (R439 R445, reset 0). -/
  schedTick : Nat
  /-- Word from which that schedule runs (21 bits, R445, reset 0). -/
  schedWord : Nat
  /-- SCRUB_PERIOD_S of that schedule (9 bits, R445, reset img). -/
  schedPeriod : Nat
  /-- Corrections made in the present pass (R440, reset 0). -/
  passCorr : Nat
  /-- MEM_SCRUB_PASSES (32 bits, R447, reset 0). -/
  passes : Word
  /-- Correction history: word and count, oldest entry first, at most 256 (256 entries, R441, reset none). -/
  history : List (Nat × Nat)
  /-- The remap table in use: word and POWER_CYCLE, at most 16 (16 entries, R441, reset live none). -/
  remap : List (Nat × Nat)
  /-- MEM_DMA_STATUS: halted channels (4 bits, R447, reset live 0). -/
  dma : BitVec 4
  /-- MEM_CORR_ONFLY (32 bits, R447, reset 0). -/
  onFly : Nat
  /-- MEM_CORR_SCRUB (32 bits, R447, reset 0). -/
  corrScrub : Nat
  /-- MEM_PAGE_CORR (32 bits, R447, reset 0). -/
  pageCorr : Nat
  /-- MEM_UNCORR (32 bits, R447, reset 0). -/
  uncorr : Nat
  /-- MEM_WRITE_REFUSED (32 bits, R447, reset 0). -/
  refused : Nat
  /-- MEM_PARITY (32 bits, R447, reset 0). -/
  parity : Nat
  /-- MEM_NOT_INIT (32 bits, R447, reset 0). -/
  notInit : Nat
  /-- MEM_LAST_ERR (32 bits, R447, reset 0). -/
  lastErr : Word
  /-- MEM_LAST_ERR_INFO (6 bits, R447, reset 0). -/
  lastInfo : Word
  /-- MEM_EVENTS (7 bits, R447, reset 0). -/
  events : Word
  /-- MEM_PARITY_SRC (8 bits, R447, reset 0). -/
  paritySrc : Word
  /-- MEM_UNCORRECTABLE raised as class F is active: its bit has not been cleared since (1 bit, R487, reset 0). -/
  uncorrActive : Bool
  deriving DecidableEq, Repr

/-- Memory integrity at the start of BOOT. -/
def Mem.reset : Mem :=
  { flips := [], codeOff := [], poisoned := [], scratch := [], code := none, written := 0, pos := 0, schedTick := 0, schedWord := 0,
    schedPeriod := 16, passCorr := 0, passes := 0, history := [], remap := [], dma := 0, onFly := 0, corrScrub := 0,
    pageCorr := 0, uncorr := 0, refused := 0, parity := 0, notInit := 0, lastErr := 0, lastInfo := 0, events := 0,
    paritySrc := 0, uncorrActive := false }

/-! ## Keyway sessions, identity, network and census (ch. 15) -/

/-- Role of a session (R452, R474). -/
inductive KwRole where
  /-- 0 OPERATOR. -/
  | operator
  /-- 1 MAINTAINER. -/
  | maintainer
  /-- 2 INFORMATION. -/
  | information
  /-- 3 OBSERVER. -/
  | observer
  /-- 4, an enrolment session (R462). -/
  | enrolment
  deriving DecidableEq, Repr

/-- An entry of a session's event queue (R464). -/
structure EventEntry where
  /-- EVENT_SEQ (32 bits, R464). -/
  seq : Nat
  /-- CODE (16 bits, R464). -/
  code : Code
  /-- INSTANCE (8 bits, R464). -/
  inst : Nat
  /-- FLAGS bit 0 LOST (1 bit, R464). -/
  lost : Bool
  /-- TICK (32 bits, R464). -/
  tick : Tick
  /-- DETAIL (32 bits, R464). -/
  detail : Word
  /-- DROPPED (32 bits, R464). -/
  dropped : Nat
  deriving DecidableEq, Repr

/-- The answer to a request (R455): RESPONSE payload, or ERROR code, address and DETAIL. -/
inductive Answer where
  /-- 0Fh RESPONSE. -/
  | response (tag : Nat) (payload : List Byte)
  /-- 10h ERROR. -/
  | error (tag : Nat) (code : Code) (addr detail : Word)
  deriving DecidableEq, Repr

/-- The rest of a message header (R454). -/
inductive Header where
  /-- TYPE, FLAGS and LENGTH are those of the row's own message. -/
  | asRow
  /-- TYPE, FLAGS and LENGTH are these. -/
  | other (typ flags : BitVec 8) (length : Nat)
  deriving DecidableEq, Repr

/-- LENGTH is too long, and the module closes the session (R454). -/
def Header.closes : Header → Bool
  | .asRow => false
  | .other _ _ n => decide (65536 < n)

/-- The header is answered with BAD_MESSAGE (R454): an unknown TYPE, one that only the module sends, a reserved FLAGS bit, or a length
that is wrong for the TYPE (R455). -/
def Header.bad : Header → Bool
  | .asRow => false
  | .other t f n =>
    let t := t.toNat
    let lengthOk :=
      if t = 1 ∨ t = 5 ∨ t = 6 ∨ t = 7 then n == 4
      else if t = 2 ∨ t = 3 ∨ t = 10 then n == 8
      else if t = 4 then decide (8 ≤ n) && decide (n % 4 = 0)
      else if t = 8 then decide (4 ≤ n) && decide (n % 4 = 0)
      else if t = 11 then n == 36
      else if t = 12 ∨ t = 13 then decide (8 ≤ n)
      else decide (4 ≤ n)
    t == 0 || t == 9 || decide (14 < t) || !(f == 0 || t == 6 && f == 1) || !lengthOk

/-- Who sends a Keyway request: session and message header (R454). -/
structure Req where
  /-- Session. -/
  sess : SessId
  /-- TAG. -/
  tag : BitVec 16
  /-- TYPE, FLAGS and LENGTH. -/
  head : Header
  deriving DecidableEq, Repr

/-- BLOCK and instance of APPLY, CLAIM and RELEASE as the payload's bytes 0 and 1 carry them (R455). -/
structure BlockReq where
  /-- 0 unit, 1 doorway, 2 axis. -/
  block : BitVec 8
  /-- Instance. -/
  inst : BitVec 8
  deriving DecidableEq, Repr

/-- A request as its payload carries it (R455, R458, R459, R463). -/
inductive Form where
  /-- READ. -/
  | read (addr : Nat)
  /-- READ_BLOCK. -/
  | readBlock (addr count : Nat)
  /-- WRITE. -/
  | write (addr : Nat) (value : Word)
  /-- WRITE_BLOCK. -/
  | writeBlock (addr count : Nat) (values : List Word)
  /-- APPLY. -/
  | apply (b : BlockReq)
  /-- CLAIM, with FORCE or without. -/
  | claim (b : BlockReq) (force : Bool)
  /-- RELEASE. -/
  | release (b : BlockReq)
  /-- SUBSCRIBE SET and CLEAR, or ADD. -/
  | subscribe (add : Bool) (entries : List (Code × BitVec 8))
  /-- SUBSCRIBE ACK. -/
  | ack (seq : Word)
  /-- LOG_READ, with how the flash reads. -/
  | logRead (first count : Nat) (pages : List PageRead)
  /-- LOG_ERASE. -/
  | logErase (seq : Nat) (chain : List Byte)
  /-- BEGIN of FW_STAGE or IMAGE_STAGE. -/
  | stageBegin (fw : Bool) (slot : BitVec 8) (len : Nat)
  /-- DATA. -/
  | stageData (fw : Bool) (offset : Nat) (data : List Byte)
  /-- END. -/
  | stageEnd (fw : Bool)
  /-- CANCEL. -/
  | stageCancel (fw : Bool)
  /-- COMMAND RESTART. -/
  | restart
  /-- COMMAND ENTER_MAINTENANCE or EXIT_MAINTENANCE: its code. -/
  | maint (code : Nat)
  /-- COMMAND ENROL. -/
  | enrol (index : BitVec 8) (cert sig : List Byte)
  /-- COMMAND UNENROL. -/
  | unenrol (index : BitVec 8)
  /-- COMMAND ANCHOR. -/
  | anchor (utc : BitVec 64) (uncertainty : Word)
  deriving DecidableEq, Repr

/-- A request that waits for a later tick snapshot (R457). -/
structure Later where
  /-- Who sent it. -/
  req : Req
  /-- What it asks. -/
  form : Form
  deriving DecidableEq, Repr

/-- A cipher suite that a client offers (R451). -/
inductive TlsSuite where
  /-- TLS_AES_256_GCM_SHA384. -/
  | aes256
  /-- TLS_AES_128_GCM_SHA256. -/
  | aes128
  /-- Another. -/
  | other
  deriving DecidableEq, Repr

/-- An open Keyway session. -/
structure Session where
  /-- Role (3 bits, R452). -/
  role : KwRole
  /-- KW_Si_PEER (32 bits, R474). -/
  peer : Word
  /-- KW_Si_OPEN_TICK (32 bits, R474). -/
  openTick : Tick
  /-- SHA-256 of the leaf certificate (32 bytes, R453). -/
  cert : List Byte
  /-- Cipher suite of its connection (R451). -/
  suite : TlsSuite
  /-- The server certificates of its handshake (R451). -/
  server : List (List Byte)
  /-- How many sessions the module had opened before it since its start (R450). -/
  num : Nat
  /-- Index of the anchor its chain ends at, none for an enrolment session (2 bits, R462). -/
  anchor : Option (Fin 2)
  /-- Subscription list: code and instance, FFh any, at most 32 (32 times 24 bits, R463, reset empty). -/
  subs : List (Code × Nat)
  /-- Event queue, oldest first, at most 256 (256 times 20 bytes, R464, reset empty). -/
  queue : List EventEntry
  /-- EVENT_SEQ of the next event (32 bits, R464, reset 1). -/
  nextSeq : Nat
  /-- Events dropped since the last event queued (32 bits, R464, reset 0). -/
  drops : Nat
  /-- KW_Si_QUEUE dropped (16 bits, R474, reset 0). -/
  dropTotal : Nat
  /-- Tick count of its last message (R453). -/
  lastMsg : Nat
  deriving DecidableEq, Repr

/-- A session just opened. -/
def Session.fresh (role : KwRole) (peer : Word) (tick : Tick) (cert : List Byte) (anchor : Option (Fin 2))
    (up : Nat) (suite : TlsSuite) (server : List (List Byte)) (num : Nat) : Session :=
  { role := role, peer := peer, openTick := tick, cert := cert, suite := suite, server := server, num := num, anchor := anchor, subs := [], queue := [], nextSeq := 1,
    drops := 0, dropTotal := 0, lastMsg := up }

/-- An image or firmware being collected, or its NOR write in progress (R458). -/
structure Staging where
  /-- Session that sent BEGIN (3 bits, R458). -/
  sess : SessId
  /-- SLOT B, for an image (1 bit, R458). -/
  slotB : Bool
  /-- Total length (32 bits, R458). -/
  len : Nat
  /-- Data collected so far (2097152 bytes, R458). -/
  data : List Byte
  /-- TAG of the END being written, none while data is collected (17 bits, R458). -/
  writing : Option Nat
  /-- `num` of that session: a later session of the same index gets no answer to its END (R455, R458). -/
  num : Nat
  deriving DecidableEq, Repr

/-- Sessions, claims and staging. -/
structure Keyway where
  /-- Sessions 0 to 7 (R450, reset none). -/
  sess : Vector (Option Session) 8
  /-- Sessions opened since the start (R450, reset 0). -/
  opened : Nat
  /-- The last RESPONSE or ERROR sent on each session index (8 answers, R455, reset none). -/
  answers : Vector (Option Answer) 8
  /-- Requests of each session taken into the present tick snapshot (8 times 5 bits, R457, reset 0). -/
  taken : Vector Nat 8
  /-- Requests that wait for a later snapshot, oldest first, at most 32 of a session (R457, reset none). -/
  later : List Later
  /-- KW_CLAIM_UNIT: holder (4 bits, R474, reset live none). -/
  unitClaim : Option SessId
  /-- KW_CLAIM_DW0 and DW1: holders (16 times 4 bits, R474, reset live none). -/
  doorClaim : Vector (Option SessId) 16
  /-- KW_CLAIM_AX0 to AX7: holders (64 times 4 bits, R474, reset live none). -/
  axisClaim : Vector (Option SessId) 64
  /-- Handshake failures of the last 60 s: address and tick count, newest first (R453, reset none). -/
  fails : List (Word × Nat)
  /-- Addresses refused without a handshake, and until which tick count (R453, reset none). -/
  blocked : List (Word × Nat)
  /-- KW_AUTH_FAILS (32 bits, R474, reset 0). -/
  authFails : Nat
  /-- KW_EVENTS (8 bits, R474, reset 0). -/
  events : Word
  /-- Image staging (R458, reset none). -/
  image : Option Staging
  /-- Firmware staging (R458, reset none). -/
  fw : Option Staging
  deriving DecidableEq, Repr

/-- Sessions at the start of BOOT. -/
def Keyway.reset : Keyway :=
  { sess := Vector.replicate 8 none, opened := 0, answers := Vector.replicate 8 none, taken := Vector.replicate 8 0, later := [],
    unitClaim := none, doorClaim := Vector.replicate 16 none,
    axisClaim := Vector.replicate 64 none, fails := [], blocked := [], authFails := 0, events := 0, image := none, fw := none }

/-- The secure element, which keeps its contents without power. -/
structure SecureEl where
  /-- POWER_CYCLE (32 bits, R404, reset DESIGN CHOICE 0, log 3). -/
  powerCycle : Nat
  /-- Saved OP_TIME, ms (48 bits, R404, reset DESIGN CHOICE 0, log 3). -/
  opTime : Nat
  /-- ERASE_COUNT (32 bits, R427, reset DESIGN CHOICE 0, log 3). -/
  eraseCount : Nat
  /-- Saved remap table: word and POWER_CYCLE (16 entries, R442, reset DESIGN CHOICE none, log 3). -/
  remap : List (Nat × Nat)
  /-- Accepted safety bitting (64 bits, R103, reset DESIGN CHOICE none, log 3). -/
  safety : Option (BitVec 64)
  /-- Anti-rollback counter: FW_ROLLBACK (32 bits, R467, reset DESIGN CHOICE 0, log 3). -/
  rollback : Nat
  /-- Owner trust anchors: certificate DER (2 times 2048 bytes, R462, reset DESIGN CHOICE none, log 3). -/
  anchors : Vector (Option (List Byte)) 2
  /-- HP_SERIAL: module serial number (32 bits, R395, reset DESIGN CHOICE 0, log 3). -/
  serial : Word
  /-- Device certificate DER (1024 bytes, R465, reset DESIGN CHOICE empty, log 3). -/
  cert : List Byte
  deriving DecidableEq, Repr

/-- A secure element with nothing stored. DESIGN CHOICE (log 3). -/
def SecureEl.reset : SecureEl :=
  { powerCycle := 0, opTime := 0, eraseCount := 0, remap := [], safety := none, rollback := 0,
    anchors := Vector.replicate 2 none, serial := 0, cert := [] }

/-- FW_STATUS.STAGED_RESULT (R474). -/
inductive FwResult where
  /-- 0 not tried. -/
  | notTried
  /-- 1 would boot. -/
  | wouldBoot
  /-- 2 blank. -/
  | blank
  /-- 3 header or digest invalid. -/
  | invalid
  /-- 4 signature invalid. -/
  | badSignature
  /-- 5 below the anti-rollback counter. -/
  | rolledBack
  deriving DecidableEq, Repr

/-- The NOR flash and the firmware in use. -/
structure Firmware where
  /-- Image slots A and B as programmed; bytes beyond are FFh (2 times 1048576 bytes, R92, reset DESIGN CHOICE blank, log 3). -/
  slots : Vector (List Byte) 2
  /-- Firmware slots FW0 and FW1 as programmed; bytes beyond are FFh (2 times 2097152 bytes, R466, reset DESIGN CHOICE blank, log 3). -/
  fw : Vector (List Byte) 2
  /-- BOOTED: FW1 runs (1 bit, R474, reset live 0). -/
  booted : Bool
  /-- NON_RELEASE (1 bit, R474, reset live 0). -/
  nonRelease : Bool
  /-- FW_BUSY: the staged slot is being checked (1 bit, R474, reset live 0). -/
  busy : Bool
  /-- STAGED_RESULT (4 bits, R474, reset live 0). -/
  staged : FwResult
  /-- FW_VERSION (32 bits, R474, reset live 0). -/
  version : Nat
  /-- FW_SECURITY (32 bits, R474, reset live 0). -/
  security : Nat
  deriving DecidableEq, Repr

/-- The NOR with both kinds of slot blank. DESIGN CHOICE (log 3). -/
def Firmware.reset : Firmware :=
  { slots := Vector.replicate 2 [], fw := Vector.replicate 2 [], booted := false, nonRelease := false, busy := false,
    staged := .notTried, version := 0, security := 0 }

/-- IP_SRC of NET_STATUS (R474). -/
inductive IpSrc where
  /-- 0 none. -/
  | none
  /-- 1 DHCP. -/
  | dhcp
  /-- 2 link-local. -/
  | linkLocal
  /-- 3 static. -/
  | static
  deriving DecidableEq, Repr

/-- A census entry (R469). -/
structure CensusEntry where
  /-- UNIT_ADDR (9 bits, R474). -/
  addr : Nat
  /-- ROLE (2 bits, R474). -/
  role : Nat
  /-- STATE (4 bits, R474). -/
  state : Nat
  /-- CLASS (16 bits, R474). -/
  cls : Nat
  /-- DEVICE_SERIAL (32 bits, R474). -/
  serial : Word
  /-- Safety bitting (64 bits, R474). -/
  safety : BitVec 64
  /-- Whole-configuration bitting (64 bits, R474). -/
  whole : BitVec 64
  /-- Receiving tick (32 bits, R474). -/
  tick : Tick
  /-- The same as a tick count that does not wrap (R469). -/
  up : Nat
  /-- FRESH (1 bit, R469). -/
  fresh : Bool
  /-- FLAGS of the datagram (16 bits, R474). -/
  flags : Nat
  /-- POWER_CYCLE last accepted (32 bits, R469). -/
  power : Nat
  /-- CENSUS_SEQ last accepted (32 bits, R469). -/
  seq : Nat
  deriving DecidableEq, Repr

/-- A UDP datagram as it is sent (R468). -/
structure Datagram where
  /-- Destination address, first octet in [31:24]. -/
  dest : Word
  /-- Destination port. -/
  port : Nat
  /-- TTL. -/
  ttl : Nat
  /-- Payload. -/
  bytes : List Byte
  deriving DecidableEq, Repr

/-- Ethernet, addresses and the census. The switch between the ports is seen by the network alone (log 98). -/
structure Net where
  /-- E1_UP (1 bit, R474, reset live 0). -/
  e1 : Bool
  /-- E2_UP (1 bit, R474, reset live 0). -/
  e2 : Bool
  /-- BYPASS: the relay joins E1 to E2 (1 bit, R448, reset live 1). -/
  bypass : Bool
  /-- IP_SRC (2 bits, R474, reset live 0). -/
  src : IpSrc
  /-- K of R449, once decided (2 bits, R449, reset none). -/
  k : Option Bool
  /-- NET_IP (32 bits, R474, reset live 0). -/
  ip : Word
  /-- NET_PREFIX (8 bits, R474, reset live 0). -/
  prefixLen : Nat
  /-- CENSUS_SEQ of the next datagram (32 bits, R468, reset 0). -/
  seq : Nat
  /-- The client identifier under which the module asks for a DHCP lease (20 bytes, R449, reset none). -/
  clientId : Option (List Byte)
  /-- Census datagram last sent (1228 bytes, R468, reset none). -/
  sent : Option Datagram
  /-- Tick count in which it was sent (R468, reset none). -/
  sentAt : Option Nat
  /-- Census table: slot number and entry, at most 1024 (1024 times 32 bytes, R469, reset none). -/
  table : List (Nat × CensusEntry)
  /-- SHA-256 of verified certificates, newest first, at most 1024 (1024 times 32 bytes, R469, reset none). -/
  verified : List (List Byte)
  /-- CENSUS_STATUS.SPLIT (1 bit, R470, reset live 0). -/
  split : Bool
  /-- CENSUS_DROPPED (32 bits, R474, reset 0). -/
  dropped : Nat
  deriving DecidableEq, Repr

/-- The network at the start of BOOT. -/
def Net.reset : Net :=
  { e1 := false, e2 := false, bypass := true, src := .none, k := none, ip := 0, prefixLen := 0, seq := 0, clientId := none, sent := none,
    sentAt := none, table := [], verified := [], split := false, dropped := 0 }

end Sys2Proof.Machine
end

