-- ==== Sys2Proof/Machine/Memory.lean ====
section
/-! DEFINITION. Memory integrity (ch. 14): host scratch as bytes, SECDED and the page code, poison, the scrubber, remapping,
and the parity of buffers. -/

namespace Sys2Proof.Machine

/-! ## Bytes of host scratch in one canonical form -/

/-- The byte at an address; an unlisted address holds 0 (R86, R444). -/
def memGet (m : List Host.Cell) (a : Nat) : Byte :=
  match m with
  | [] => 0
  | (k, b) :: rest => if k = a then b else if a < k then 0 else memGet rest a

/-- A byte written; writing 0 removes the entry. -/
def memSet (m : List Host.Cell) (a : Nat) (b : Byte) : List Host.Cell :=
  match m with
  | [] => if b = 0 then [] else [(a, b)]
  | (k, c) :: rest =>
    if a < k then (if b = 0 then (k, c) :: rest else (a, b) :: (k, c) :: rest)
    else if a = k then (if b = 0 then rest else (a, b) :: rest)
    else (k, c) :: memSet rest a b

/-- Every address of a memory is above `lo`, the addresses rise and no byte is 0. -/
def memAbove (lo : Option Nat) : List Host.Cell → Bool
  | [] => true
  | (k, b) :: rest =>
    (match lo with
     | none => true
     | some l => decide (l < k)) && decide (b ≠ 0) && memAbove (some k) rest

/-- The canonical form: addresses strictly rising and no entry equal to what an unlisted address reads as. DEDUCED (log 61). -/
def memWf (m : List Host.Cell) : Bool := memAbove none m

/-- Bytes written from an address on. -/
def memSetBytes (m : List Host.Cell) (a : Nat) : List Byte → List Host.Cell
  | [] => m
  | b :: bs => memSetBytes (memSet m a b) (a + 1) bs

/-- `n` bytes from an address. -/
def memBytes (m : List Host.Cell) (a n : Nat) : List Byte := (List.range n).map fun k => memGet m (a + k)

/-- The bytes of an address range cleared. -/
def memClear (m : List Host.Cell) (lo hi : Nat) : List Host.Cell := m.filter fun c => decide (c.1 < lo ∨ hi ≤ c.1)

/-! ## Stored words and their errors (R433 to R436) -/

/-- Memory integrity under computation and the codes raised, newest first. -/
structure MemRun where
  /-- Memory integrity. -/
  m : Mem
  /-- Codes raised. -/
  ev : List Raised
  deriving DecidableEq, Repr

/-- Who reads a word (R437, R447). -/
inductive Reader where
  /-- Sequencer cores. -/
  | cores
  /-- A DMA channel: 0 ENGINE, 1 KEYWAY, 2 PINLINK, 3 CRYPTO. -/
  | dma (c : Fin 4)
  /-- Channel KEYWAY, for an outgoing TLS record of a session. -/
  | record (i : SessId)
  /-- The scrubber. -/
  | scrubber
  /-- A writer that needs the word decoded. -/
  | writer
  deriving DecidableEq, Repr

/-- Words of the SRAM (R431). -/
def sramWords : Nat := 1048576

/-- N: words of a pass (R439). -/
def passWords : Nat := 1057792

/-- State changed. -/
def MemRun.upd (r : MemRun) (f : Mem → Mem) : MemRun := { r with m := f r.m }

/-- A code raised with its bit of MEM_EVENTS (R447). -/
def MemRun.event (r : MemRun) (k : Nat) (code : Code) (detail : Nat) : MemRun :=
  { r with m := { r.m with events := r.m.events ||| BitVec.ofNat 32 (2 ^ k) }, ev := ⟨code, 255, BitVec.ofNat 32 detail⟩ :: r.ev }

/-- Where a word is stored: in its place, or, once it is remapped, in the spare word of its entry; spare word k stands after the words of a
pass (R441). DESIGN CHOICE (log 99). -/
def Mem.place (m : Mem) (w : Nat) : Nat :=
  match m.remap.findIdx? fun x => x.1 == w with
  | some k => passWords + k
  | none => w

/-- The word that a storage place holds; none of one that is remapped, or of a spare word not in use (R441). DESIGN CHOICE (log 99). -/
def Mem.wordAt (m : Mem) (loc : Nat) : Option Nat :=
  if passWords ≤ loc then (m.remap[loc - passWords]?).map (·.1)
  else if m.remap.any fun x => x.1 == loc then none else some loc

/-- The wrong bits of a word, where it is stored. -/
def Mem.flip (m : Mem) (w : Nat) : BitVec 72 := (m.flips.lookup (m.place w)).getD 0

/-- The places of the wrong bits. -/
def flipPlaces (f : BitVec 72) : List Nat := (List.range 72).filter fun k => f.getLsbD k

/-- What SECDED reports for a word that is not poisoned (R433). -/
inductive Secded where
  /-- No error. -/
  | ok
  /-- One wrong bit, corrected. -/
  | single
  /-- An error it cannot correct. -/
  | bad
  /-- Three or more wrong bits taken for none or for one. -/
  | missed
  deriving DecidableEq, Repr

/-- SECDED of a word's wrong bits: one is corrected and two are detected (R433); of more the code promises nothing. DEDUCED (log 59). -/
def secded (f : BitVec 72) : Secded :=
  let ps := flipPlaces f
  if ps.length = 0 then .ok
  else if ps.length = 1 then .single
  else if ps.length = 2 then .bad
  else if Config.secdedSeen ps then .bad else .missed

/-- The wrong bits of a word replaced; entries rise and hold at least one wrong bit. -/
def putFlip (w : Nat) (f : BitVec 72) : List (Nat × BitVec 72) → List (Nat × BitVec 72)
  | [] => if f = 0 then [] else [(w, f)]
  | (k, g) :: rest =>
    if w < k then (if f = 0 then (k, g) :: rest else (w, f) :: (k, g) :: rest)
    else if w = k then (if f = 0 then rest else (w, f) :: rest)
    else (k, g) :: putFlip w f rest

/-- A storage place suffers an error (R433): bits 0 to 63 data, 64 to 71 check bits. The 16 spare words stand after the words of a pass. DESIGN CHOICE (log 99). -/
def Mem.upset (m : Mem) (loc : Nat) (f : BitVec 72) : Mem := { m with flips := putFlip loc ((m.flips.lookup loc).getD 0 ^^^ f) m.flips }

/-- A word written with valid check bits, where it is stored. -/
def Mem.clean (m : Mem) (w : Nat) : Mem := { m with flips := putFlip (m.place w) 0 m.flips }

/-- A word poisoned, indexes rising. -/
def insertWord (w : Nat) : List Nat → List Nat
  | [] => [w]
  | k :: rest => if w < k then w :: k :: rest else if w = k then k :: rest else k :: insertWord w rest

/-- The SRAM page of a word (R431). -/
def pageOf (w : Nat) : Nat := w / 512

/-- Symbols of 16 bits with a wrong bit in a word's data (R434). -/
def wrongSymbolsOf (f : BitVec 72) : Nat :=
  ([0, 1, 2, 3].filter fun k => decide ((f.toNat / 2 ^ (16 * k)) % 65536 ≠ 0)).length

/-- The wrong data bits that the page code takes for right in a word (R438). -/
def Mem.offset (m : Mem) (w : Nat) : BitVec 72 := (m.codeOff.lookup w).getD 0

/-- The words of a page that are wrong, or whose page code is. -/
def Mem.wrongIn (m : Mem) (p : Nat) : List Nat :=
  (m.flips.filterMap (fun x => m.wordAt x.1) ++ m.codeOff.map (·.1)).eraseDups.filter fun w => pageOf w == p

/-- Symbols of a word's data that differ from what the page code was taken over (R434). -/
def Mem.wrongSymbols (m : Mem) (w : Nat) : Nat := wrongSymbolsOf (m.flip w ^^^ m.offset w)

/-- The page code of page `p` can be used: none of its four words is uncorrectable (R434). -/
def Mem.codeReadable (m : Mem) (p : Nat) : Bool :=
  [0, 1, 2, 3].all fun k => decide (secded (m.flip (sramWords + 4 * p + k)) = .ok ∨ secded (m.flip (sramWords + 4 * p + k)) = .single)

/-- The page decodes: at most 8 wrong symbols (R434). -/
def Mem.decodes (m : Mem) (p : Nat) : Bool :=
  m.codeReadable p && decide ((m.wrongIn p).foldl (fun n w => n + m.wrongSymbols w) 0 ≤ 8)

/-- The reader's code in MEM_LAST_ERR_INFO (R447). -/
def Reader.info : Reader → Nat
  | .cores => 0
  | .dma c => 1 + 16 * c.val
  | .record _ => 1 + 16
  | .scrubber => 2
  | .writer => 3

/-- First host address of scratch (R444). -/
def scratchBase : Nat := 0x01000000

/-- Bits of a word's data changed, in the words whose data the model holds: those of host scratch (R431). -/
def Mem.alter (m : Mem) (w : Nat) (f : BitVec 72) : Mem :=
  if f = 0 ∨ w < 0xA0000 ∨ 0xA8000 ≤ w then m
  else
    let a := scratchBase + 8 * (w - 0xA0000)
    { m with scratch := memSetBytes m.scratch a (leBytes 8 ((BitVec.ofNat 64 (leNat (memBytes m.scratch a 8))) ^^^ f.setWidth 64).toNat) }

/-- A decode writes a word back as the page code has it, with valid check bits (R436). -/
def Mem.settle (m : Mem) (w : Nat) : Mem :=
  { (m.alter w (m.offset w)).clean w with codeOff := putFlip w 0 m.codeOff }

/-- A word of the page code store that belongs to a page: four words of it hold the code (R434). -/
def codeWordOf (p loc : Nat) : Bool := decide (sramWords + 4 * p ≤ loc) && decide (loc < sramWords + 4 * p + 4)

/-- The page code of a page rebuilt from all its words as stored: their wrong data bits stay in it, and its four words of the page code store
are written with valid check bits (R438). -/
def Mem.rebuild (m : Mem) (p : Nat) : Mem :=
  let stored := (m.flips.filterMap fun x => (m.wordAt x.1).map fun w => (w, x.2 &&& 0x00FFFFFFFFFFFFFFFF#72)).filter fun x => pageOf x.1 == p
  { m with codeOff := stored.foldl (fun l x => putFlip x.1 x.2 l) (m.codeOff.filter fun x => pageOf x.1 != p)
           flips := m.flips.filter fun x => !codeWordOf p x.1 }

/-- The words of a page that a decode corrects: their data differ, or SECDED reports them uncorrectable (R435, R436). -/
def Mem.corrects (m : Mem) (p : Nat) : List Nat :=
  (m.wrongIn p).filter fun w => !m.poisoned.contains w && (decide (0 < m.wrongSymbols w) || secded (m.flip w) == .bad)

/-- The words of a page that a failed decode poisons (R436). -/
def Mem.poisons (m : Mem) (p : Nat) : List Nat :=
  (m.wrongIn p).filter fun w => !m.poisoned.contains w && secded (m.flip w) == .bad

/-- The page code is used on an uncorrectable word (R436). Answers whether it decoded, and the words it corrected. A trap
of the cores is raised as class H alone (R487), so its poisoning raises nothing here. -/
def MemRun.decode (r : MemRun) (w : Nat) (who : Reader) : MemRun × Bool × List Nat :=
  let p := pageOf w
  if r.m.decodes p then
    let ws := r.m.corrects p
    ((r.upd fun m => { ws.foldl Mem.settle m with pageCorr := satN (m.pageCorr + 1) 32 }).event 0 0x4701 0, true, ws)
  else
    let ws := r.m.poisons p
    let r := r.upd fun m => { m with
      poisoned := ws.foldl (fun l x => insertWord x l) m.poisoned, uncorr := satN (m.uncorr + ws.length) 32
      lastErr := BitVec.ofNat 32 (8 * (ws.getLast?.getD w)), lastInfo := BitVec.ofNat 32 who.info }
    (if who = .cores then r else (r.upd fun m => { m with uncorrActive := true }).event 1 0x4702 (8 * w), false, [])

/-- A read of a word (R436). Answers whether its data are returned. -/
def MemRun.read (r : MemRun) (w : Nat) (who : Reader) : MemRun × Bool :=
  if r.m.poisoned.contains w then (r, false)
  else
    match secded (r.m.flip w) with
    | .ok => (r, true)
    | .missed => (r, true)
    | .single => (r.upd fun m => { m with onFly := satN (m.onFly + 1) 32 }, true)
    | .bad => let (r, ok, _) := r.decode w who; (r, ok)

/-- A DMA channel halts (R437). DEDUCED (log 60). -/
def MemRun.halt (r : MemRun) (c : Fin 4) : MemRun :=
  (r.upd fun m => { m with dma := m.dma ||| BitVec.ofNat 4 (2 ^ c.val) }).event 4 0x4705 c.val

/-- A read by a DMA channel, which halts on an uncorrectable or poisoned word (R437). -/
def MemRun.dmaRead (r : MemRun) (w : Nat) (c : Fin 4) : MemRun × Bool :=
  let (r, ok) := r.read w (.dma c)
  if ok then (r, true) else (r.halt c, false)

/-- A halted channel resumes; ENGINE stays halted (R437). DEDUCED (log 60). -/
def MemRun.resume (r : MemRun) (c : Fin 4) : MemRun :=
  if c = 0 then r else r.upd fun m => { m with dma := m.dma &&& ~~~(BitVec.ofNat 4 (2 ^ c.val)) }

/-! ## Writes (R432, R438) -/

/-- Words of pages 0 to 255 (R431). -/
def codeWords : Nat := 131072

/-- The firmware copied into pages 0 to 255, with the bytes of the copy that came out wrong (R432). -/
def copyOf (code : List Byte) (wrong : List (Nat × Byte)) : List Byte := wrong.foldl (fun bs x => bs.set x.1 x.2) code

/-- A write to a word, of all of it or of a part: an uncorrectable word is decoded first; pages 0 to 255 once the firmware stands in
them, and a poisoned word that is written in part, refuse it (R432, R438). Answers whether the write goes on. -/
def MemRun.vetted (r : MemRun) (w : Nat) (whole : Bool) : MemRun × Bool :=
  let refuse := fun (r : MemRun) => (r.upd fun m => { m with refused := satN (m.refused + 1) 32 }, false)
  if r.m.code.isSome && decide (w < codeWords) then refuse r
  else
    let r := if !r.m.poisoned.contains w && secded (r.m.flip w) == .bad then (r.decode w .writer).1 else r
    if r.m.poisoned.contains w && !whole then refuse r else (r, true)

/-- A core or a datapath writes a word; a whole-word write to a poisoned word rebuilds the page code and ends the poison (R438).
Answers whether it is written. -/
def MemRun.write (r : MemRun) (w : Nat) (whole : Bool) : MemRun × Bool :=
  let (r, ok) := r.vetted w whole
  if !ok then (r, false)
  else if r.m.poisoned.contains w then
    (r.upd fun m => ({ m.clean w with poisoned := m.poisoned.filter fun x => x != w } : Mem).rebuild (pageOf w), true)
  else (r.upd fun m => m.clean w, true)

/-! ## Host scratch (R438, R444) -/

/-- The SRAM word that holds a scratch address (R431): scratch lies at a multiple of its 256 KB. -/
def scratchWord (addr : Nat) : Nat := 0xA0000 + addr % 0x40000 / 8

/-- The index of a 32-bit scratch word. -/
def scratchIndex (addr : Nat) : Nat := addr % 0x40000 / 4

/-- The 8 data bytes of the SRAM word at a scratch address, as SECDED returns them. -/
def Mem.wordData (m : Mem) (addr : Nat) : List Byte :=
  let bs := memBytes m.scratch (addr - addr % 8) 8
  let f := m.flip (scratchWord addr)
  if secded f = .missed then leBytes 8 (Config.secdedMiss (BitVec.ofNat 64 (leNat bs)) (flipPlaces f)).toNat else bs

/-- What a host gets from a scratch word (R444). -/
inductive ScratchRead where
  /-- The value. -/
  | value (v : Word)
  /-- NOT_INITIALISED. -/
  | unwritten
  /-- MEM_UNCORRECTABLE. -/
  | lost
  deriving DecidableEq, Repr

/-- A host read of a scratch word (R437, R444). DEDUCED (log 61). -/
def MemRun.readScratch (r : MemRun) (addr : Nat) : MemRun × ScratchRead :=
  if !r.m.written.getLsbD (scratchIndex addr) then (r.upd fun m => { m with notInit := satN (m.notInit + 1) 32 }, .unwritten)
  else
    let (r, ok) := r.dmaRead (scratchWord addr) 1
    if ok then (r, .value (BitVec.ofNat 32 (leNat (slice (r.m.wordData addr) (addr % 8) 4)))) else (r, .lost)

/-- A host write of a scratch word, which is a partial write (R438). Answers whether it is written. -/
def MemRun.writeScratch (r : MemRun) (addr : Nat) (v : Word) : MemRun × Bool :=
  let w := scratchWord addr
  let (r, ok) := r.vetted w false
  if !ok then (r, false)
  else
    let bs := r.m.wordData addr
    let off := addr % 8
    let new := bs.take off ++ leBytes 4 v.toNat ++ bs.drop (off + 4)
    (r.upd fun m => { m.clean w with
      scratch := memSetBytes m.scratch (addr - off) new
      written := m.written ||| BitVec.ofNat 65536 (2 ^ scratchIndex addr) }, true)

/-- MEM_SCRATCH_CLEAR on a scratch page (R444): zero in whole words, no poison, the page code rebuilt, no written bit. -/
def Mem.clearPage (m : Mem) (p : Nat) : Mem :=
  let lo := scratchBase + 4096 * p
  let w := scratchWord lo
  let mine := fun x => decide (w ≤ x) && decide (x < w + 512)
  { m with scratch := memClear m.scratch lo (lo + 4096), 
           flips := m.flips.filter fun x => !((m.wordAt x.1).map mine).getD false && !codeWordOf (pageOf w) x.1,
           codeOff := m.codeOff.filter fun x => !mine x.1, poisoned := m.poisoned.filter fun x => !mine x,
           written := m.written &&& ~~~(BitVec.ofNat 65536 ((2 ^ 1024 - 1) * 2 ^ (1024 * p))) }

/-! ## The scrubber (R439 to R442, R445) -/

/-- The entry of the history that a new word replaces: the lowest count, the oldest of equals (R441). -/
def lowestEntry (h : List (Nat × Nat)) : Option (Nat × Nat) :=
  h.foldl (fun m x => match m with
    | none => some x
    | some y => if x.2 < y.2 then some x else some y) none

/-- A correction counts in a word's history, which may remap the word: the corrected value is copied into the spare word of the next free
entry (R441, R442). -/
def MemRun.count (r : MemRun) (power w : Nat) : MemRun :=
  match r.m.history.lookup w with
  | some 4 => r
  | some n =>
    if n + 1 < 4 || sramWords ≤ w then
      r.upd fun m => { m with history := m.history.map fun x => if x.1 = w then (w, min 4 (n + 1)) else x }
    else if r.m.remap.length < 16 then
      (r.upd fun m => { m with
        history := m.history.filter fun x => x.1 != w, remap := m.remap ++ [(w, power)]
        flips := putFlip (passWords + m.remap.length) 0 m.flips }).event 2 0x4703 0
    else
      (r.upd fun m => { m with history := m.history.map fun x => if x.1 = w then (w, 4) else x }).event 3 0x4704 0
  | none =>
    if r.m.history.length < 256 then r.upd fun m => { m with history := m.history ++ [(w, 1)] }
    else
      let out := (lowestEntry r.m.history).getD (0, 0)
      r.upd fun m => { m with history := (m.history.filter fun x => x.1 != out.1) ++ [(w, 1)] }

/-- The scrubber at one word (R440). -/
def MemRun.scrubWord (r : MemRun) (power w : Nat) : MemRun :=
  if r.m.poisoned.contains w then r
  else
    match secded (r.m.flip w) with
    | .ok => r
    | .missed => r
    | .single =>
      (r.upd fun m => { m.clean w with corrScrub := satN (m.corrScrub + 1) 32, passCorr := m.passCorr + 1 }).count power w
    | .bad =>
      if sramWords ≤ w then r
      else
        let (r, ok, ws) := r.decode w .scrubber
        if ok then ws.foldl (fun r x => r.count power x) (r.upd fun m => { m with passCorr := m.passCorr + 1 }) else r

/-- The tick count in which word `k` of the present pass is due (R439). -/
def Mem.dueAt (m : Mem) (k : Nat) : Nat := m.schedTick + (k - m.schedWord) * 20000 * m.schedPeriod / passWords

/-- The next word of the pass is scrubbed; the last ends the pass and the next begins in the tick after (R439, R440). -/
def MemRun.scrubNext (r : MemRun) (power up period : Nat) : MemRun :=
  let r := r.scrubWord power r.m.pos
  if r.m.pos + 1 < passWords then r.upd fun m => { m with pos := m.pos + 1 }
  else
    let r := if 0 < r.m.passCorr then r.event 6 0x4707 r.m.passCorr else r
    r.upd fun m => { m with pos := 0, passes := m.passes + 1, passCorr := 0, schedTick := up + 1, schedWord := 0, schedPeriod := period }

/-- Words still due in this tick, at most `n`. -/
def MemRun.scrubDue (r : MemRun) (power up period : Nat) : Nat → MemRun
  | 0 => r
  | n + 1 => if r.m.dueAt r.m.pos ≤ up then (r.scrubNext power up period).scrubDue power up period n else r

/-- The scrubber's accesses of a tick (R439): the next word, and every further word that is due. -/
def MemRun.scrub (r : MemRun) (power up period : Nat) : MemRun := (r.scrubNext power up period).scrubDue power up period 52

/-- SCRUB_PERIOD_S written during a pass: the remaining words are spread anew (R445). -/
def Mem.respread (m : Mem) (up period : Nat) : Mem :=
  if m.schedPeriod = period then m else { m with schedTick := up, schedWord := m.pos, schedPeriod := period }

/-- REMAP_FULL at a start (R442). -/
def MemRun.startCheck (r : MemRun) : MemRun := if 16 ≤ r.m.remap.length then r.event 3 0x4704 0 else r

/-- A byte parity error in the buffer of MEM_PARITY_SRC bit `src` (R443). -/
def MemRun.bufParity (r : MemRun) (src : Nat) : MemRun :=
  (r.upd fun m => { m with parity := satN (m.parity + 1) 32, paritySrc := m.paritySrc ||| BitVec.ofNat 32 (2 ^ src) }).event 5 0x4706 src

end Sys2Proof.Machine
end

