-- ==== Sys2Proof/Machine/Recorder.lean ====
section
/-! DEFINITION. The cycle recorder (ch. 13): records, the staging buffer, page commits, the mount, the chain, erasing and
offload. -/

namespace Sys2Proof.Machine

/-- The recorder under computation and the codes raised, newest first. -/
structure RecRun where
  /-- The recorder. -/
  rc : Rec
  /-- Codes raised. -/
  ev : List Raised
  deriving DecidableEq, Repr

/-- What the recorder reads from its surroundings. -/
structure RecIn where
  /-- Tick in progress. -/
  now : Tick
  /-- Ticks since the start, not wrapping. -/
  up : Nat
  /-- Unit address number in use; FFFFh if invalid. -/
  addr : Nat
  /-- UNIT_STATUS.ROLE is STANDBY. -/
  standby : Bool
  /-- POWER_CYCLE. -/
  power : Nat
  /-- DEVICE_SERIAL. -/
  serial : Word
  /-- ERASE_COUNT. -/
  erase : Nat
  /-- A page sealed now is committed during supply loss or a reset (R399, R413). -/
  flush : Bool
  deriving DecidableEq, Repr

/-- The recorder changed. -/
def RecRun.upd (r : RecRun) (f : Rec → Rec) : RecRun := { r with rc := f r.rc }

/-- A code raised with its bit of REC_EVENTS (R430). -/
def RecRun.event (r : RecRun) (k : Nat) (code : Code) (detail : Nat) : RecRun :=
  { r with rc := { r.rc with events := r.rc.events ||| BitVec.ofNat 32 (2 ^ k) }, ev := ⟨code, 255, BitVec.ofNat 32 detail⟩ :: r.ev }

/-- OP_TIME in ms (R404). -/
def Rec.opTime (rc : Rec) (up : Nat) : Nat := (rc.opBase + up / 20) % 2 ^ 48

/-- The genesis value C₀ (R420). -/
def genesis (serial : Word) (erase : Nat) : List Byte :=
  sha256 ([0x5A, 0x4C, 0x4F, 0x47, 0x43, 0x48, 0x4E, 0x30] ++ leBytes 4 serial.toNat ++ leBytes 4 erase)

/-! ## Records (R402 to R412) -/

/-- A record as it is raised in this tick. -/
def RecIn.body (i : RecIn) (kind : Nat) (bs : List Byte) : RecBody := ⟨kind, i.standby, false, i.addr, i.now, bs⟩

/-- The EVENT record of a code (R408). -/
def RecIn.eventBody (i : RecIn) (e : Raised) : RecBody :=
  i.body 3 (leBytes 2 e.code.toNat ++ leBytes 1 e.inst ++ [0] ++ leBytes 4 e.detail.toNat)

/-- A SECURITY record (R410): DATA is cut or filled to 32 bytes. -/
def RecIn.securityBody (i : RecIn) (code : Code) (inst : Nat) (detail : Nat) (data : List Byte) : RecBody :=
  i.body 5 (leBytes 2 code.toNat ++ leBytes 1 inst ++ [0] ++ leBytes 4 detail ++ (data ++ List.replicate 32 0).take 32)

/-- A BLOCK record (R412). -/
def RecIn.blockBody (i : RecIn) (block reason : Nat) : RecBody := i.body 7 (leBytes 4 block ++ leBytes 1 reason ++ [0, 0, 0])

/-- The bytes of a record with the REC_SEQ and OP_TIME it takes (R402). -/
def RecBody.bytes (b : RecBody) (seq power op : Nat) : List Byte :=
  leBytes 1 b.kind ++ leBytes 1 ((if b.standby then 1 else 0) + (if b.preMount then 2 else 0)) ++ leBytes 2 (24 + b.body.length) ++
    leBytes 4 seq ++ leBytes 4 power ++ leBytes 6 op ++ leBytes 2 b.addr ++ leBytes 4 b.tick.toNat ++ b.body

/-! ## The staging buffer (R413, R416) -/

/-- Record bytes of one page (R399). -/
def pageRoom : Nat := 3904

/-- The open page is sealed: it joins the sealed pages, or waits for room among them (R413). -/
def Rec.seal (rc : Rec) (flush : Bool) : Rec :=
  if rc.opened.data.isEmpty then rc
  else if 3 ≤ rc.sealedPages.length then { rc with sealDue := some (flush || rc.sealDue.getD false) }
  else
    { rc with sealedPages := rc.sealedPages ++ [{ rc.opened with flush := flush, firstAfter := rc.firstAfter }],
              opened := .empty, since := none, firstAfter := false, sealDue := none }

/-- Bytes of a record placed from the open page on; `n` bounds the pages (R401). Where the open page is full and three sealed pages
wait, the bytes left over wait for room (R416). DEDUCED (log 45). -/
def Rec.place (rc : Rec) (b : RecBody) (seq : Nat) (up : Nat) : Nat → Bool → List Byte → Rec
  | 0, _, bs => { rc with rest := some (b, seq, bs) }
  | n + 1, head, bs =>
    let room := pageRoom - rc.opened.data.length
    let p := rc.opened
    let p := if head && decide (0 < room) then { p with first := p.first.orElse fun _ => some (32 + p.data.length) } else p
    let p := { p with data := p.data ++ bs.take room, bodies := if room = 0 then p.bodies else p.bodies ++ [b] }
    let ends := decide (bs.length ≤ room)
    let p := if ends then { p with last := some seq } else p
    let rc := { rc with opened := p, since := if rc.since.isNone then some up else rc.since }
    let rc := if p.data.length = pageRoom then rc.seal false else rc
    if ends then rc else Rec.place rc b seq up n (head && decide (room = 0)) (bs.drop room)

/-- Log blocks that are not retired (R424). -/
def Rec.goodBlocks (rc : Rec) : Nat := 65532 - (rc.nand.retired.filter fun b => decide (4 ≤ b)).length

/-- Log pages from the writing position on: REC_PAGES_FREE less the pages staged (R430). -/
def Rec.pagesLeft (rc : Rec) : Nat :=
  let b := rc.nextPhys / 64
  if 65536 ≤ b then 0
  else 64 - rc.nextPhys % 64 + 64 * (65535 - b - (rc.nand.retired.filter fun x => decide (b < x)).length)

/-- The open page is full and three sealed pages wait (R416). -/
def Rec.stagingFull (rc : Rec) : Bool := decide (pageRoom ≤ rc.opened.data.length) && decide (3 ≤ rc.sealedPages.length)

/-- Pages beyond the open one that a record of `len` bytes needs. -/
def Rec.morePages (rc : Rec) (len : Nat) : Nat := (len - (pageRoom - rc.opened.data.length) + (pageRoom - 1)) / pageRoom

/-- Records neither enter nor wait: dropped and counted (R416, R418, R425). -/
def Rec.drop (rc : Rec) : Rec := { rc with dropped := satN (rc.dropped + 1) 32, lost := rc.lost + 1 }

/-- The log is full (R425). -/
def RecRun.becomeFull (r : RecRun) (i : RecIn) : RecRun :=
  (r.upd fun rc => { (rc.seal i.flush) with st := .full, fullDue := true }).event 3 0x4604 0

/-- The log is open for records: mounted, and in an erase the new log has begun (R416, R427). -/
def Rec.logOpen (rc : Rec) : Bool :=
  match rc.st with
  | .recording => true
  | .erasing => (rc.erase.map (·.begun)).getD true
  | _ => false

/-- A record enters the open page (R402, R413), or is dropped: the log is full (R425), or the staging buffer is (R416). -/
def RecRun.enter (r : RecRun) (i : RecIn) (b : RecBody) : RecRun :=
  let rc := r.rc
  let len := 24 + b.body.length
  if rc.pagesLeft < rc.sealedPages.length + 1 + rc.rest.toList.length + rc.morePages len then (r.upd Rec.drop).becomeFull i
  else if rc.stagingFull then r.upd Rec.drop
  else
    r.upd fun rc => { (rc.place b rc.nextSeq i.up 2 true (b.bytes rc.nextSeq i.power (rc.opTime i.up))) with nextSeq := rc.nextSeq + 1 }

/-- A record is raised: it enters the log, waits, or is dropped. -/
def RecRun.add (r : RecRun) (i : RecIn) (b : RecBody) : RecRun :=
  match r.rc.st with
  | .full => r.upd Rec.drop
  | .fault => r.upd Rec.drop
  | _ =>
    if r.rc.logOpen then r.enter i b
    else
      let used := r.rc.waiting.foldl (fun n x => n + 24 + x.body.length) 0
      let b := if r.rc.st == RecState.mounting then { b with preMount := true } else b
      if 4 * pageRoom ≤ used then r.upd Rec.drop else r.upd fun rc => { rc with waiting := rc.waiting ++ [b] }

/-- Records one after the other. -/
def RecRun.addAll (r : RecRun) (i : RecIn) (bs : List RecBody) : RecRun := bs.foldl (fun r b => r.add i b) r

/-- The EVENT record of a code that is raised (R403, R408). RECORDS_LOST alone has entered its own: it is the first to enter (R416). -/
def RecRun.addEvent (r : RecRun) (i : RecIn) (e : Raised) : RecRun := if e.code == 0x4605 then r else r.add i (i.eventBody e)

/-- RECORDS_LOST once there is room after drops: its EVENT record enters at once (R416). -/
def RecRun.room (r : RecRun) (i : RecIn) : RecRun :=
  if r.rc.lost = 0 || !r.rc.logOpen || r.rc.stagingFull then r
  else ((r.upd fun rc => { rc with lost := 0 }).add i (i.eventBody ⟨0x4605, 255, BitVec.ofNat 32 r.rc.lost⟩)).event 4 0x4605 r.rc.lost

/-! ## Committing (R397 to R400, R413 to R417, R423 to R425) -/

/-- The first block from `b` that is not retired; `n` bounds the search. -/
def Nand.usable (d : Nand) : Nat → Nat → Nat
  | 0, b => b
  | n + 1, b => if d.retired.contains b then d.usable n (b + 1) else b

/-- The block from `b` on in which writing goes on. -/
def Nand.nextBlock (d : Nand) (b : Nat) : Nat := d.usable (d.retired.length + 1) b

/-- FILL_PCT (R424). -/
def Rec.fill (rc : Rec) : Nat := if rc.goodBlocks = 0 then 100 else rc.committed * 100 / (64 * rc.goodBlocks)

/-- LOG_75, LOG_90 and LOG_99: their bit, the fill and the code (R424, R430). -/
def fillLevels : List (Nat × Nat × Code) := [(0, 75, 0x4601#16), (1, 90, 0x4602#16), (2, 99, 0x4603#16)]

/-- LOG_75, LOG_90 and LOG_99, once each (R424). -/
def RecRun.fillMarks (r : RecRun) : RecRun :=
  fillLevels.foldl (fun r x =>
    if x.2.1 ≤ r.rc.fill && !r.rc.warned.getLsbD x.1 then
      (r.upd fun rc => { rc with warned := rc.warned ||| BitVec.ofNat 3 (2 ^ x.1) }).event x.1 x.2.2 0
    else r) r

/-- The levels that the fill has reached by the mount: they were raised when it first did. DEDUCED (log 43). -/
def Rec.fillReached (rc : Rec) : BitVec 3 :=
  fillLevels.foldl (fun (w : BitVec 3) x => if x.2.1 ≤ rc.fill then w ||| BitVec.ofNat 3 (2 ^ x.1) else w) 0

/-- A block is retired: its mark is programmed in page 63 with four bytes of 00h, its BLOCK record and BLOCK_RETIRED (R398, R423). The fill
counts the blocks that are left (R424). -/
def RecRun.retire (r : RecRun) (i : RecIn) (block reason : Nat) : RecRun :=
  if r.rc.nand.retired.contains block then r
  else
    let r := r.upd fun rc => { rc with nand := { rc.nand with retireMarks := (block, 0) :: rc.nand.retireMarks } }
    ((r.event 5 0x4606 block).add i (i.blockBody block reason)).fillMarks

/-- A block found bad is retired, and writing does not go on in it (R423). -/
def RecRun.badBlock (r : RecRun) (i : RecIn) (block reason : Nat) : RecRun :=
  (r.upd fun rc => if rc.nextPhys / 64 = block then { rc with nextPhys := 64 * rc.nand.nextBlock (block + 1) } else rc).retire i block reason

/-- The LOG_FULL page (R425). -/
def RecRun.fullPage (r : RecRun) (i : RecIn) : RecPage :=
  let b := i.body 8 (leBytes 4 r.rc.committed ++ leBytes 4 r.rc.nand.retired.length)
  let bs := b.bytes r.rc.nextSeq i.power (r.rc.opTime i.up)
  { RecPage.empty with data := bs, first := some 32, last := some r.rc.nextSeq, bodies := [b], flush := i.flush, firstAfter := r.rc.firstAfter }

/-- The chain over the records that end in the bytes of a page (R420), and the bytes of the record that goes on beyond them. The records lie
where the module placed them. DEDUCED (log 45). -/
def chainOver : List RecBody → List Byte → List Byte → List Byte → List Byte × List Byte
  | [], chain, carry, _ => (chain, carry)
  | b :: rs, chain, carry, bs =>
    let need := 24 + b.body.length - carry.length
    if bs.length < need then (chain, carry ++ bs) else chainOver rs (sha256 (chain ++ carry ++ bs.take need)) [] (bs.drop need)

/-- CHAIN after a page, and the bytes of the record that goes on beyond it (R399, R420). -/
def Rec.chainAfter (rc : Rec) (p : RecPage) : List Byte × List Byte := chainOver p.bodies rc.chain rc.carry p.data

/-- PAGE_SEQ of the next page. -/
def Rec.nextPage (rc : Rec) : Nat :=
  match rc.pageSeq with
  | none => 0
  | some n => n + 1

/-- Bytes 0 to 3,999 of a log page (R399). -/
def pageHead (rc : Rec) (i : RecIn) (p : RecPage) (phys : Nat) (full : Bool) : List Byte :=
  let flags := (if p.flush then 1 else 0) + (if p.parity then 2 else 0) + (if p.firstAfter then 4 else 0) + (if full then 8 else 0)
  let chain := (rc.chainAfter p).1
  [0x5A, 0x4C, 0x4F, 0x47] ++ leBytes 2 1 ++ leBytes 2 flags ++ leBytes 4 rc.nextPage ++ leBytes 4 phys ++ leBytes 4 i.erase ++
    leBytes 2 (p.first.getD 0xFFFF) ++ leBytes 2 p.data.length ++ leBytes 4 (p.last.getD 0xFFFFFFFF) ++ leBytes 4 i.serial.toNat ++
    p.data ++ List.replicate (pageRoom - p.data.length) 0 ++ chain ++ rc.digest

/-- The 4,064 bytes of a log page, signed (R400). -/
def pageBytes (rc : Rec) (i : RecIn) (p : RecPage) (phys : Nat) (full : Bool) : List Byte :=
  let head := pageHead rc i p phys full
  head ++ (Config.ecdsaSign head ++ List.replicate 64 0).take 64

/-- A page programmed with its parity (R397). -/
def programmed (phys : Nat) (bytes : List Byte) (mark : Word) : NandPage :=
  ⟨phys, bytes, (Config.bchParity bytes ++ List.replicate 280 0).take 280, mark⟩

/-- The page now part of the log. -/
def Rec.store (rc : Rec) (p : RecPage) (phys : Nat) (bytes : List Byte) : Rec :=
  { rc with nand := { rc.nand with pages := programmed phys bytes 0 :: rc.nand.pages }, pageSeq := some rc.nextPage,
            recSeq := p.last.getD 0xFFFFFFFF, chain := (rc.chainAfter p).1, carry := (rc.chainAfter p).2, digest := sha256 bytes }

/-- A page programmed without its valid mark (R398, R415). -/
def Nand.unmarked (d : Nand) (phys : Nat) (bytes : List Byte) : Nand := { d with pages := programmed phys bytes 0xFFFFFFFF :: d.pages }

/-- Writing moves to the next physical page; a block that held an unmarked page is retired when it is left (R418). -/
def RecRun.advance (r : RecRun) (i : RecIn) (next : Nat) : RecRun :=
  let old := r.rc.nextPhys / 64
  let r := r.upd fun rc => { rc with nextPhys := if next % 64 = 0 then 64 * rc.nand.nextBlock (next / 64) else next }
  match r.rc.leave with
  | some b => if b = old && r.rc.nextPhys / 64 != old then (r.upd fun rc => { rc with leave := none }).retire i b 4 else r
  | none => r

/-- After a page has left the staging buffer: a due seal, the bytes that waited for room, and RECORDS_LOST. -/
def RecRun.freed (r : RecRun) (i : RecIn) : RecRun :=
  let r := match r.rc.sealDue with
    | some f => r.upd fun rc => ({ rc with sealDue := none } : Rec).seal f
    | none => r
  let r := match r.rc.rest with
    | some (b, seq, bs) => r.upd fun rc => ({ rc with rest := none } : Rec).place b seq i.up 2 false bs
    | none => r
  r.room i

/-- A page is committed: LED LOG flashes, at most once per second (R44). -/
def Rec.flash (rc : Rec) (up : Nat) : Rec :=
  if (rc.flashAt.map fun t => decide (up < t + 20000)).getD false then rc else { rc with flashAt := some up }

/-- Records in staged pages, oldest first: one that goes on in a next page counts once. -/
def stagedRecords (ps : List RecPage) : Nat :=
  ps.foldl (fun n p => n + p.bodies.length - (if n = 0 ∨ p.first = some 32 ∨ p.bodies = [] then 0 else 1)) 0

/-- No log page is left for the staged pages, blocks having failed: their records are dropped and the log is full, unless it is being erased
(R423, R425). DEDUCED (log 45). -/
def RecRun.strand (r : RecRun) (i : RecIn) : RecRun :=
  let n := stagedRecords (r.rc.sealedPages ++ [r.rc.opened])
  let r := r.upd fun rc => { rc with
    sealedPages := [], opened := .empty, since := none, sealDue := none, rest := none, carry := [], dropped := satN (rc.dropped + n) 32,
    lost := rc.lost + n, nextSeq := (rc.recSeq + 1) % 2 ^ 32 }
  if r.rc.st == RecState.full || r.rc.erase.isSome then r else r.becomeFull i

/-- The block has still to be erased before use (R419, R427). -/
def Rec.unerased (rc : Rec) (block : Nat) : Bool := (rc.erase.map fun e => e.counted && decide (e.next ≤ block)).getD false

/-- A sealed page is programmed on the physical page where writing goes on (R414, R415, R423); it waits while that block has still to be
erased. -/
def RecRun.commitPage (r : RecRun) (i : RecIn) (p : RecPage) (ps : List RecPage) (ok loss : Bool) : RecRun :=
  let phys := r.rc.nextPhys
  let bytes := pageBytes r.rc i p phys false
  if 64 * 65536 ≤ phys then r.strand i
  else if r.rc.unerased (phys / 64) then r
  else if ok then
    let r := r.upd fun rc => ({ (rc.store p phys bytes) with sealedPages := ps, committed := rc.committed + 1 } : Rec).flash i.up
    ((r.freed i).advance i (phys + 1)).fillMarks
  else
    let r := r.upd fun rc => { rc with nand := rc.nand.unmarked phys bytes, sealedPages := if loss then ps else p :: ps }
    if loss then (r.freed i).advance i (phys + 1) else r.badBlock i (phys / 64) 3

/-- The LOG_FULL page is programmed in the first of blocks 0 to 3 that is not retired (R396, R423, R425). -/
def RecRun.commitFull (r : RecRun) (i : RecIn) (ok loss : Bool) : RecRun :=
  let p := r.fullPage i
  let block := r.rc.nand.nextBlock 0
  let bytes := pageBytes r.rc i p (64 * block) true
  if 4 ≤ block then r.upd fun rc => { rc with fullDue := false }
  else if ok then
    r.upd fun rc => { (rc.store p (64 * block) bytes).flash i.up with
      fullDue := false, nextSeq := rc.nextSeq + 1, firstAfter := false }
  else
    let r := r.upd fun rc => { rc with nand := rc.nand.unmarked (64 * block) bytes, fullDue := !loss }
    if loss then r else r.retire i block 3

/-- A sealed page as it is read for signing: with a parity error its bytes are as read (R417). -/
def RecPage.asRead (p : RecPage) (parity : Option (List Byte)) : RecPage :=
  match parity with
  | none => p
  | some bs => { p with data := (bs ++ List.replicate p.data.length 0).take p.data.length, parity := true }

/-- One commit of R414. `ok` is the success of the programs, `parity` a staging parity error met on reading the page for
signing, with its record bytes as read (R417), `loss` that supply loss is declared (R415). -/
def RecRun.commit (r : RecRun) (i : RecIn) (ok : Bool) (parity : Option (List Byte)) (loss : Bool) : RecRun :=
  match r.rc.sealedPages with
  | p :: ps =>
    let r := if parity.isSome then r.event 6 0x4607 0 else r
    r.commitPage i (p.asRead parity) ps ok loss
  | [] => if r.rc.fullDue && r.rc.opened.data.isEmpty then r.commitFull i ok loss else r

/-! ## The mount (R404, R411, R418, R419) -/

/-- A page is part of the log of an ERASE_COUNT (R419). -/
def NandPage.valid (p : NandPage) (erase : Nat) : Bool := markPresent p.mark && leAt p.bytes 16 4 == erase

/-- Offsets of the whole records in a run of record bytes, and the offset after the last; `n` bounds them. -/
def walkRecords (bs : List Byte) : Nat → Nat → Option Nat × Nat
  | 0, off => (none, off)
  | n + 1, off =>
    let len := leAt bs (off + 2) 2
    if bs.length < off + 24 ∨ len < 24 ∨ bs.length < off + len then (none, off)
    else
      match walkRecords bs n (off + len) with
      | (some h, e) => (some h, e)
      | (none, e) => (some off, e)

/-- The record bytes of a page in use. -/
def NandPage.records (p : NandPage) : List Byte := slice p.bytes 32 (leAt p.bytes 22 2)

/-- FIRST_REC of a page as an offset in its records. -/
def NandPage.firstRec (p : NandPage) : Nat := if leAt p.bytes 20 2 = 0xFFFF then (leAt p.bytes 22 2) else leAt p.bytes 20 2 - 32

/-- The page of a PAGE_SEQ (R426). -/
def Nand.page (d : Nand) (erase seq : Nat) : Option NandPage := d.pages.find? fun p => p.valid erase && leAt p.bytes 8 4 == seq

/-- FLAGS bit 2 of a page, FIRST_AFTER_START: it begins with a new record (R399, R421). -/
def NandPage.firstAfter (p : NandPage) : Bool := decide (leAt p.bytes 6 2 / 4 % 2 = 1)

/-- OP_TIME of the last whole record of the log that ends in its last page, and the bytes after it (R404, R418). The fragment of an earlier
start before a FIRST_AFTER_START page was discarded at that start (R419, R421). -/
def Nand.tail (d : Nand) (erase : Nat) (p : NandPage) : Option Nat × Nat :=
  let seq := leAt p.bytes 8 4
  let before := if seq = 0 || p.firstAfter then none else d.page erase (seq - 1)
  let bs := (before.map fun q => q.records).getD [] ++ p.records
  let start := match before with
    | some q => q.firstRec
    | none => p.firstRec
  let (h, e) := walkRecords bs 400 start
  (h.map fun o => leAt bs (o + 12) 6, bs.length - e)

/-- The last page of the log by PAGE_SEQ. -/
def Nand.lastPage (d : Nand) (erase : Nat) : Option NandPage :=
  (d.pages.filter fun p => p.valid erase).foldl (fun m p => match m with
    | none => some p
    | some q => if leAt q.bytes 8 4 < leAt p.bytes 8 4 then some p else some q) none

/-- START_CAUSE (R411). -/
def StartCause.code : StartCause → Nat
  | .powerOn => 1
  | .reset => 2
  | .supply => 3
  | .restart => 4

/-- Blocks not retired that hold a page programmed without its valid mark since the last erase (R415, R418). -/
def Nand.strayBlocks (d : Nand) (erase : Nat) : List Nat :=
  ((d.pages.filter fun p => !markPresent p.mark && leAt p.bytes 16 4 == erase && !d.retired.contains (p.phys / 64)).map
    (·.phys / 64)).eraseDups

/-- The flash as it is read where pages of it are uncorrectable: their bytes are as read (R419). -/
def Nand.asRead (d : Nand) (bad : List (Nat × List Byte)) : Nand :=
  { d with pages := d.pages.map fun p => match bad.find? fun x => x.1 == p.phys with
    | some x => { p with bytes := (x.2 ++ List.replicate 4064 0).take 4064 }
    | none => p }

/-- The mount (R418): the block in which writing resumes is retired when writing leaves it, any other that holds an unmarked page
at once (R415). `reads` is none where it cannot read the flash, else the uncorrectable pages met, with their bytes as read (R419). START is the
first record, RECORDS_LOST comes before the records that waited (R403, R416). DEDUCED (log 43). -/
def RecRun.mount (r : RecRun) (i : RecIn) (reads : Option (List (Nat × List Byte))) (saved fwVersion : Nat) (cause : StartCause) : RecRun :=
  if r.rc.st != RecState.mounting then r
  else match reads with
  | none =>
    let n := r.rc.waiting.length
    (r.upd fun rc => { rc with st := .fault, waiting := [], dropped := satN (rc.dropped + n) 32, lost := rc.lost + n }).event 9 0x460A 0
  | some bad =>
    let d := r.rc.nand.asRead bad
    let c0 := genesis i.serial i.erase
    let log := d.pages.filter fun p => p.valid i.erase && decide (256 ≤ p.phys)
    let top := log.foldl (fun m p => max m (p.phys + 1)) 256
    let current := d.pages.filter fun p => leAt p.bytes 16 4 == i.erase && decide (top ≤ p.phys) && (p.phys / 64 == (top - 1) / 64 || p.phys / 64 == top / 64)
    let used := current.foldl (fun m p => max m (p.phys + 1)) top
    let old := (d.pages.filter fun p => leAt p.bytes 16 4 != i.erase && !d.retired.contains (p.phys / 64)).map fun p => p.phys / 64
    let full := d.pages.any fun p => p.valid i.erase && decide (p.phys < 256)
    let last := d.lastPage i.erase
    let (op, discarded) := match last with
      | some p => d.tail i.erase p
      | none => (none, 0)
    let next := if used % 64 = 0 || d.retired.contains (used / 64) then 64 * d.nextBlock (used / 64) else used
    let stray := d.strayBlocks i.erase
    let waiting := r.rc.waiting
    let r := r.upd fun rc => { rc with
      pageSeq := last.map fun p => leAt p.bytes 8 4
      recSeq := (last.map fun p => leAt p.bytes 24 4).getD 0xFFFFFFFF
      chain := (last.map fun p => slice p.bytes 3936 32).getD c0
      digest := (last.map fun p => sha256 p.bytes).getD c0
      carry := []
      nextSeq := (last.map fun p => (leAt p.bytes 24 4 + 1) % 2 ^ 32).getD 1
      committed := log.length, waiting := []
      nextPhys := next
      leave := if stray.contains (next / 64) then some (next / 64) else none
      opBase := max saved ((op.map (· + 1)).getD 0)
      st := if full then .full else if old.isEmpty then .recording else .erasing
      erase := if full || old.isEmpty then none else some ⟨[], none, old.foldl min 65536, true, true⟩ }
    let start := i.body 6 (leBytes 4 fwVersion ++ leBytes 2 cause.code ++ leBytes 2 current.length ++ leBytes 2 discarded ++ [0, 0] ++
      leBytes 4 d.retired.length)
    let r := (((r.upd fun rc => { rc with warned := rc.fillReached }).add i start).room i).addAll i waiting
    (stray.filter (· != next / 64)).foldl (fun r b => r.retire i b 4) r

/-! ## Erasing and offload (R426, R427) -/

/-- LOG_ERASE is accepted (R427 step 1). -/
def RecRun.erase (r : RecRun) (i : RecIn) (cert : List Byte) : RecRun :=
  let kept := r.rc.opened.bodies
  r.upd fun rc => { (rc.seal i.flush) with st := .erasing, erase := some ⟨kept, some cert, 0, false, false⟩, progress := 0 }

/-- The new log begins in the first log block that is not retired, block 4 if it is good, once that is erased (R427 step 4). LOG_ERASED, the
first record, names the last page erased (R410); RECORDS_LOST comes between the records kept and those that waited (R416). -/
def RecRun.newLog (r : RecRun) (i : RecIn) (e : EraseSt) (block : Nat) : RecRun :=
  let c0 := genesis i.serial i.erase
  let waiting := r.rc.waiting
  let gone := r.rc.pageSeq.getD 0xFFFFFFFF
  let chain := r.rc.chain.take 16
  let r := r.upd fun rc => { rc with
    pageSeq := none, recSeq := 0xFFFFFFFF, chain := c0, digest := c0, carry := [], rest := none, nextSeq := 1, committed := 0, warned := 0,
    leave := none, nextPhys := 64 * block, opened := .empty, since := none, sealDue := none, waiting := []
    erase := rc.erase.map fun e => { e with begun := true } }
  let r := match e.cert with
    | some c => (r.add i (i.securityBody 0x4609 255 gone (chain ++ c.take 16))).event 8 0x4609 gone
    | none => r
  ((r.addAll i e.kept).room i).addAll i waiting

/-- The pages of a block erased. -/
def Nand.eraseBlock (d : Nand) (b : Nat) : Nand := { d with pages := d.pages.filter fun p => p.phys / 64 != b }

/-- ERASING ends (R427). -/
def RecRun.eraseEnd (r : RecRun) : RecRun := r.upd fun rc => { rc with st := if rc.st == RecState.erasing then .recording else rc.st, erase := none }

/-- The erase of a block completes (R427), with a factory mark or a failure that retires it (R423). -/
def RecRun.blockErased (r : RecRun) (i : RecIn) (b : Nat) (bad : Option Nat) : RecRun :=
  match r.rc.erase with
  | none =>
    let r := r.upd fun rc => { rc with nand := { rc.nand with pages := rc.nand.pages.filter fun p => p.phys / 64 != b || leAt p.bytes 16 4 == i.erase } }
    match bad with
    | some k => r.badBlock i b k
    | none => r
  | some e =>
    let skipped := decide (b - e.next ≤ r.rc.nand.retired.length) && (List.range (b - e.next)).all fun k => r.rc.nand.retired.contains (e.next + k)
    if b < e.next || 65536 ≤ b || !skipped || !e.counted then r
    else
      let r := r.upd fun rc => { rc with nand := rc.nand.eraseBlock b, progress := rc.progress + 1, erase := some { e with next := b + 1 } }
      let r := match bad with
        | some k => r.badBlock i b k
        | none => if e.begun || decide (b < 4) then r else r.newLog i e b
      if 65536 ≤ r.rc.nand.nextBlock (b + 1) then r.eraseEnd else r

/-- The last block is erased (R427): every block from the erasing position on that is not retired has been. -/
def RecRun.eraseRest (r : RecRun) (i : RecIn) : RecRun :=
  match r.rc.erase with
  | none => r
  | some e =>
    if !e.counted then r
    else
      let left := 65536 - e.next - (r.rc.nand.retired.filter fun b => decide (e.next ≤ b)).length
      let r := r.upd fun rc => { rc with
        nand := { rc.nand with pages := rc.nand.pages.filter fun p => decide (p.phys / 64 < e.next) || rc.nand.retired.contains (p.phys / 64) }
        progress := rc.progress + left, erase := some { e with next := 65536 } }
      (if e.begun then r else r.newLog i e (r.rc.nand.nextBlock (max 4 e.next))).eraseEnd

/-- ERASE_COUNT has been incremented in the secure element (R427 step 2): once every sealed page is committed. DEDUCED (log 45). -/
def Rec.eraseCounts (rc : Rec) : Bool := rc.sealedPages.isEmpty && (rc.erase.map fun e => !e.counted).getD false

/-- Step 2 of R427 is done. -/
def RecRun.counted (r : RecRun) : RecRun := r.upd fun rc => { rc with erase := rc.erase.map fun e => { e with counted := true } }

/-- The most bits corrected in any sector: the code corrects at most 40 (R397). -/
def PageRead.most (x : PageRead) : Nat := min 40 x.corrected

/-- One page of a LOG_READ response: descriptor and bytes (R426). -/
def readPage (d : Nand) (erase seq : Nat) (x : PageRead) : List Byte :=
  match d.page erase seq with
  | none => leBytes 4 seq ++ [3, 0, 0, 0] ++ List.replicate 4064 0
  | some p =>
    let st := if x.damaged.isSome then 2 else if 0 < x.most then 1 else 0
    leBytes 4 seq ++ leBytes 1 st ++ leBytes 1 x.most ++ [0, 0] ++ ((x.damaged.getD p.bytes) ++ List.replicate 4064 0).take 4064

/-- A LOG_READ is served (R423, R426): its pages, REC_MAX_CORR and LOG_READ_MARGIN. DEDUCED (log 46). -/
def RecRun.read (r : RecRun) (i : RecIn) (first count : Nat) (xs : List PageRead) : RecRun × List Byte :=
  let x := fun k => xs.getD k ⟨0, none⟩
  let bytes := (List.range count).flatMap fun k => readPage r.rc.nand i.erase (first + k) (x k)
  let r := (List.range count).foldl (fun r k =>
    if (r.rc.nand.page i.erase (first + k)).isNone then r
    else
      let r := r.upd fun rc => { rc with maxCorr := max rc.maxCorr (x k).most }
      if 30 < (x k).most then r.event 7 0x4608 (first + k) else r) r
  (r.upd fun rc => { rc with readAt := some i.up }, bytes)

end Sys2Proof.Machine
end

