-- ==== Sys2Proof/Machine/Payload.lean ====
section
/-! DEFINITION. What the commands carry: Keyway requests, frames on the wires, samples of a tick, certificates. -/

namespace Sys2Proof.Machine

/-- A frame as a receiver takes it: payload bytes, the CRC that came with it, and what the line and the receive buffer
showed. -/
structure WireFrame where
  /-- Payload between the delimiters, without the CRC. -/
  payload : List Byte
  /-- CRC field. -/
  crc : Word
  /-- No code violation, and both delimiters in place (R130, R131). -/
  lineOk : Bool
  /-- It arrived after its time limit. -/
  late : Bool
  /-- The receive buffer found a parity error in it (R443). -/
  parity : Bool
  deriving DecidableEq, Repr

/-- What follows the payload of a frame on the pin link, and what its receiver found (R131, R371). -/
structure FrameEnd where
  /-- CRC field. -/
  crc : Word
  /-- No code violation, and both delimiters in place (R130, R131). -/
  lineOk : Bool
  /-- The receive buffer found a parity error in the frame (R443). -/
  parity : Bool
  deriving DecidableEq, Repr

/-- Positions of the front panel and the pins of a start. -/
structure PowerUp where
  /-- The 16 readings of ADR0 to ADR8 and ADR_P (R37). -/
  readings : List (BitVec 10)
  /-- First sample of RST_IN: pressed (R51). -/
  rst : Bool
  /-- Ward switches (R40). -/
  ward : BitVec 12
  /-- The reed contact shows cover W lifted (R43). -/
  cover : Bool
  /-- Module supply, 0.1 V (R57). -/
  moduleV : BitVec 16
  /-- Hold-up time of the store, ms (R49). -/
  holdupMs : Nat
  /-- Housing temperature, signed 0.1 °C (R57). -/
  housingT : BitVec 16
  /-- The module is a ZD-6432-T0 (R8). -/
  variantT0 : Bool
  /-- Bytes of the firmware copy in SRAM that came out wrong, by their place in the code (R432). -/
  copyWrong : List (Nat × Byte)
  deriving DecidableEq, Repr

/-- A write to an SRAM word by the sequencer cores or by a DMA channel (R438). -/
structure SramWrite where
  /-- The word. -/
  word : Nat
  /-- The whole word is written. -/
  whole : Bool
  /-- The DMA channel; none for the cores. -/
  dma : Option (Fin 4)
  deriving DecidableEq, Repr

/-- What the hardware samples and measures in one tick (R71). -/
structure Snapshot where
  /-- Module supply, 0.1 V (R57). -/
  moduleV : BitVec 16
  /-- Housing temperature, signed 0.1 °C (R57). -/
  housingT : BitVec 16
  /-- Address pins as they stand (R57). -/
  pins : BitVec 10
  /-- Ward switches (R40). -/
  ward : BitVec 12
  /-- The reed contact shows cover W lifted (R43). -/
  cover : Bool
  /-- RST_IN reads pressed (R51). -/
  rst : Bool
  /-- CLOCK_STATUS [8:1] (R84). -/
  locks : BitVec 8
  /-- Field samples. -/
  io : IoSense
  /-- Internal nodes of the four BOLT switches, 0.1 V (R287). -/
  boltNode : Vector Nat 4
  /-- Terminals BOLT_A and BOLT_B, 0.1 V (R287). -/
  boltTerm : Vector Nat 2
  /-- Currents of BOLT_A and BOLT_B, mA (R294). -/
  boltAmps : Vector Nat 2
  /-- Doorways whose closure word fails its check in channel B (R288). -/
  wordBad : BitVec 16
  /-- Parity errors found in buffers in this tick, numbered as MEM_PARITY_SRC; those of the field queues stand in `io`, those of the
  knuckle transmit queues in `txBad` (R443). -/
  parity : BitVec 8
  /-- Ports whose frame is read from the knuckle transmit queue with a parity error (R443). -/
  txBad : BitVec 32
  /-- SRAM words read in this tick and by whom (R435). -/
  reads : List (Nat × Reader)
  /-- SRAM words written in this tick by the cores and by DMA channels (R438). -/
  writes : List SramWrite
  /-- Arrival of the partner's tick marker minus the own marker, ns (R373). -/
  tau : Option Int
  /-- Arrival of the upstream SOF on each port relative to the own marker, ns, none where it did not come (R378). -/
  sof : Vector (Option Int) 32
  deriving DecidableEq, Repr

/-- Nothing sensed on a load switch. -/
def LsSense.quiet : LsSense := ⟨0, 250, false, true, true, false, false, false, false⟩

/-- A tick in which every input is inactive and the supplies are in range: 110.0 V module supply, 24.00 V field supply. -/
def Snapshot.quiet : Snapshot :=
  { moduleV := 1100, housingT := 250, pins := 0x200, ward := 0, cover := false, rst := false, locks := 0xFF,
    io := { f := ⟨0, 0, 0, -1, -1, 0, 0, 0⟩, ls := Vector.replicate 16 .quiet, an := Vector.replicate 4 0, over30 := 0,
            anOver := false, snsOver := 0, v := 2400, vB := 2400, bad := 0, cmdBad := 0 },
    boltNode := Vector.replicate 4 0, boltTerm := Vector.replicate 2 0, boltAmps := Vector.replicate 2 0, wordBad := 0,
    parity := 0, txBad := 0, reads := [], writes := [], tau := none, sof := Vector.replicate 32 none }

/-- One certificate of a chain, as its checks of R452 read it. -/
structure CertInfo where
  /-- X.509 v3. -/
  v3 : Bool
  /-- P-256 key. -/
  p256 : Bool
  /-- Signed with ecdsa-with-SHA256, and the signature verifies under its issuer. -/
  signed : Bool
  /-- basicConstraints cA = TRUE. -/
  ca : Bool
  /-- extendedKeyUsage: none where absent, else whether it includes clientAuth. -/
  eku : Option Bool
  deriving DecidableEq, Repr

/-- A TLS handshake (R451 to R453). -/
structure Handshake where
  /-- Session index it takes; the lowest free one where none is given or it is not free. -/
  index : Option SessId
  /-- Peer IPv4 address, first octet in [31:24]. -/
  peer : Word
  /-- The client speaks TLS 1.3 (RFC 8446). -/
  v13 : Bool
  /-- The cipher suites it offers, in its order of preference. -/
  suites : List TlsSuite
  /-- It offers ECDHE on secp256r1. -/
  secp256r1 : Bool
  /-- It offers ecdsa_secp256r1_sha256. -/
  ecdsaP256 : Bool
  /-- It rests on a PSK, a resumption or 0-RTT. -/
  psk : Bool
  /-- Its CertificateVerify and Finished messages verify: it proves its key. -/
  proved : Bool
  /-- Certificates of the chain, leaf first, the anchor last. -/
  chain : List CertInfo
  /-- Roles that organizationalUnitNames of the leaf subject name. -/
  units : List KwRole
  /-- Leaf DER. -/
  leaf : List Byte
  /-- DER of the last certificate. -/
  root : List Byte
  deriving DecidableEq, Repr

/-- The cipher suite of a handshake that stays inside the profile of R451: the first of the client's that the module takes; none where the
handshake is refused. -/
def Handshake.suite (h : Handshake) : Option TlsSuite :=
  if h.v13 && h.secp256r1 && h.ecdsaP256 && !h.psk && h.proved then h.suites.find? fun x => x != .other else none

/-- What a fault of the clocks is (R76). -/
inductive ClockFaultKind where
  /-- A strobe is out of its window. -/
  | strobe
  /-- A fixed-domain PLL loses lock: bit of CLOCK_STATUS [8:1]. -/
  | pll (k : Fin 8)
  deriving DecidableEq, Repr

/-- What the cores trap on (R437, R487). -/
inductive TrapCause where
  /-- An uncorrectable error in a fetch, or in data: the word. -/
  | memory (word : Nat)
  /-- A bus error. -/
  | bus
  deriving DecidableEq, Repr

/-- Where code-group sync is gained or lost (R130). -/
inductive LinkId where
  /-- Knuckle port Ks. -/
  | port (s : PortId)
  /-- The pin link. -/
  | pin
  deriving DecidableEq, Repr

/-- A dual-clock queue (R78). -/
inductive QueueId where
  /-- A queue of a knuckle port. -/
  | knuckle (s : PortId)
  /-- A queue of field I/O. -/
  | field
  /-- A queue of the pin link. -/
  | pinLink
  /-- A queue of another unit. -/
  | other
  deriving DecidableEq, Repr

end Sys2Proof.Machine
end

