-- ==== Sys2Proof/Syntax.lean ====
section
/-! DEFINITION. The commands: one constructor per row of the table. A constructor's line says what happens in the row's own
words and names its rule. A row of a Keyway request carries who sends it and what its payload holds. -/

namespace Sys2Proof

open Machine

/-- A command or event that reaches the block. -/
inductive Instr where
  /-- POWER_ON (R79): The module supply becomes valid or a restart is taken, and the module enters BOOT and runs the boot ROM steps. -/
  | powerOn (p : PowerUp)
  /-- BOOT_WAIT_EXPIRY (R86): The wait to 0.5 s after the start of BOOT ends, and CONFIG runs steps 3-7 on the image slots. -/
  | bootWaitExpiry
  /-- MOUNT_COMPLETE (R418): The log mount finds the last valid page and sets where writing resumes, and waiting records take their numbers. -/
  | mountComplete (reads : Option (List (Nat × List Byte)))
  /-- SUPPLY_LOSS (R46): The module supply is below 14.0 V on 2 consecutive ticks, and the module runs from its hold-up store and flushes the staging buffer. -/
  | supplyLoss
  /-- SUPPLY_RETURN (R47): The supply is above 16.8 V for 20 ticks during hold-up, and the module clears HOLDUP and carries on. -/
  | supplyReturn
  /-- HOLDUP_END (R47): The hold-up store reaches its minimum, and the module switches the BOLT outputs off, stops sending frames and stops. -/
  | holdupEnd
  /-- SUPPLY_HIGH (R50): The module supply rises above 154 V, and the warning is raised. -/
  | supplyHigh
  /-- HOUSING_HOT (R27): The housing temperature exceeds the variant's limit, and the warning is raised. -/
  | housingHot
  /-- ADDR_CHANGED (R38): The address pins differ from the address in use on 3 consecutive readings. -/
  | addrChanged (reading : BitVec 10)
  /-- RESET_PRESS_ACCEPTED (R51): The 20th consecutive pressed sample makes the RESET press accepted. -/
  | resetPressAccepted
  /-- RESET_RELEASE_ACCEPTED (R53): A RESET release is accepted, and the hold time decides whether the press is ignored or resets the module. -/
  | resetReleaseAccepted
  /-- RESET_STUCK (R53): The hold time reaches 160,001 ticks, and the input is declared stuck and disarmed. -/
  | resetStuck
  /-- RESET_ARMED (R52): The filtered RESET input has read released for 20,000 ticks, and the input arms. -/
  | resetArmed
  /-- WARD_SWITCH_CHANGE (R40): A ward switch has read a new position for 20 ms, and its debounced position changes. -/
  | wardSwitchChange (k : Fin 12) (on : Bool)
  /-- COVER_OPEN (R43): The reed contact shows cover W lifted, and the module sets the status bits and writes a security record. -/
  | coverOpen
  /-- COMPUTE_PHASE (R160): In each tick the compute phase runs the tick snapshot through all axes, doorways and unit functions. -/
  | computePhase (snap : Snapshot)
  /-- PHASE_OVERRUN (R69): The engine has not flagged completion by 28.00 us, so no frames are sent and the unit enters FAULT_HELD. -/
  | phaseOverrun
  /-- QUEUE_FULL (R78): A dual-clock queue refuses a write when full, which is a hardware fault. -/
  | queueFull (q : QueueId)
  /-- CLOCK_FAULT (R76): A domain strobe is out of its window or a fixed PLL loses lock, and the unit enters FAULT_HELD. -/
  | clockFault (kind : ClockFaultKind) (late : Bool)
  /-- LOCKSTEP_MISMATCH (R485): The lockstep cores disagree, and the unit enters FAULT_HELD. -/
  | lockstepMismatch (late : Bool)
  /-- CORE_TRAP (R437): The sequencer cores trap on an uncorrectable fetch or a bus error, and the unit enters FAULT_HELD. -/
  | coreTrap (cause : TrapCause) (late : Bool)
  /-- UPSTREAM_FRAME (R135): An upstream frame arrives on a knuckle port, and its CRC, tick and port fields are checked. -/
  | upstreamFrame (k : PortId) (f : WireFrame)
  /-- RESEND_REQUEST (R141): No good upstream frame has arrived by 8.00 us, and RQ is sent on the port. -/
  | resendRequest (k : PortId)
  /-- UPSTREAM_RESEND_FRAME (R138): An upstream re-send frame carrying the sample part arrives. -/
  | upstreamResendFrame (k : PortId) (f : WireFrame)
  /-- MISSED_TICK (R68): No good sample part arrives by 12.00 us, and the port's axes run on a stale sample. -/
  | missedTick (k : PortId)
  /-- NAK_RECEIVED (R141): A NAK arrives from a stage by 39.00 us. -/
  | nakReceived (k : PortId)
  /-- DOWNSTREAM_RESEND (R141): The identical downstream frame is re-sent at 40.00 us on a port that returned NAK. -/
  | downstreamResend (k : PortId) (copyGood : Bool)
  /-- LINK_LOST (R142): A READY port has 3 consecutive missed ticks and is declared lost. -/
  | linkLost (k : PortId)
  /-- LINK_RESTORED (R143): A lost port has 20 good ticks and returns to READY, or goes to MISMATCH. -/
  | linkRestored (k : PortId)
  /-- STAGE_UNEXPECTED (R150): An UNUSED port reaches code-group sync, and a warning is raised. -/
  | stageUnexpected (k : PortId)
  /-- IDENT_PAGE (R146): A stage's identity page arrives on the bulk channel. -/
  | identPage (k : PortId) (page : Nat) (data : List Byte)
  /-- PARAM_VALUE (R150): A stage confirms a parameter value, which is compared with the value written. -/
  | paramValue (k : PortId) (index : Nat) (value : BitVec 64)
  /-- PARAM_REFUSED (R150): A stage refuses a parameter write, and the port goes to MISMATCH. -/
  | paramRefused (k : PortId) (index : Nat) (reason : Nat)
  /-- FAULT_REPORT (R145): A stage sends a fault report on the bulk channel. -/
  | faultReport (k : PortId) (data : List Byte)
  /-- PARAM_WRITE_TIMEOUT (R150): A parameter write goes unanswered for 20 ticks, and the port goes to MISMATCH. -/
  | paramWriteTimeout (k : PortId)
  /-- DISCOVER_TIMEOUT (R149): 2 s after DISCOVER began, ports that have not answered are set ABSENT and the unit moves on. -/
  | discoverTimeout
  /-- REDISCOVER (R157): A write to Kn_CTRL.REDISCOVER restarts discovery on a port in MISMATCH or ABSENT. -/
  | rediscover (r : Req) (k : PortId)
  /-- TABLE_ENTRY_WRITE (R61): A host writes a friction or cogging entry, which is clamped and takes effect at the tick boundary. -/
  | tableEntryWrite (r : Req) (a : AxisId) (cogging : Bool) (entry : Nat) (value : Word)
  /-- TRACE_ARM (R188): A write to TRACE_CTRL.ARM clears the record and arms the trace. -/
  | traceArm (r : Req)
  /-- TRACE_STOP (R188): A write to TRACE_CTRL.STOP stops the trace. -/
  | traceStop (r : Req)
  /-- TRACE_FORCE (R189): A write to TRACE_CTRL.FORCE triggers the trace at the next tick. -/
  | traceForce (r : Req)
  /-- TRACE_DONE (R188): The last post-trigger sample is recorded, and the trace becomes DONE. -/
  | traceDone
  /-- READ (R455): A READ request returns one register word, and clears an RC register for a privileged claimant. -/
  | read (r : Req) (addr : Word)
  /-- READ_BLOCK (R455): A READ_BLOCK request returns consecutive words from one snapshot. -/
  | readBlock (r : Req) (addr : Word) (count : Nat)
  /-- WRITE (R455): A WRITE request writes a register that has no row of its own, subject to role, claim, state and clamping. -/
  | write (r : Req) (addr : Word) (value : Word)
  /-- WRITE_BLOCK (R455): A WRITE_BLOCK request writes words in ascending order and stops at the first refusal. -/
  | writeBlock (r : Req) (addr : Word) (count : Nat) (values : List Word)
  /-- APPLY (R455): An APPLY request applies the pending shadows of a block. -/
  | apply (r : Req) (b : BlockReq)
  /-- CFG_APPLY (R117): A write of 1 to an APPLY register bit schedules the block's pending shadows for the next tick boundary. -/
  | cfgApply (r : Req) (b : BlockReq)
  /-- DEFERRED_EFFECT (R63): Writes, APPLYs and bank swaps completed in the previous tick take effect in step 1 of this tick. -/
  | deferredEffect
  /-- BITTINGS_RECOMPUTED (R123): After a runtime change the changed bittings are recomputed and shown within 40 ticks. -/
  | bittingsRecomputed
  /-- IMAGE_STAGE_BEGIN (R458): IMAGE_STAGE BEGIN starts collecting an image for a slot. -/
  | imageStageBegin (r : Req) (slot : BitVec 8) (len : Nat)
  /-- IMAGE_STAGE_DATA (R458): IMAGE_STAGE DATA adds image bytes in offset order. -/
  | imageStageData (r : Req) (offset : Nat) (data : List Byte)
  /-- IMAGE_STAGE_END (R458): IMAGE_STAGE END writes the NOR slot and starts a dry run. -/
  | imageStageEnd (r : Req)
  /-- IMAGE_STAGE_CANCEL (R458): IMAGE_STAGE CANCEL discards the collected data. -/
  | imageStageCancel (r : Req)
  /-- DRY_RUN_COMPLETE (R93): The background dry run of a staged slot finishes and sets STAGED_RESULT and the staged bitting. -/
  | dryRunComplete
  /-- FW_STAGE_BEGIN (R458): FW_STAGE BEGIN starts collecting a firmware image. -/
  | fwStageBegin (r : Req) (len : Nat)
  /-- FW_STAGE_DATA (R458): FW_STAGE DATA adds firmware bytes in offset order. -/
  | fwStageData (r : Req) (offset : Nat) (data : List Byte)
  /-- FW_STAGE_END (R458): FW_STAGE END writes the firmware slot that is not booted. -/
  | fwStageEnd (r : Req)
  /-- FW_STAGE_CANCEL (R458): FW_STAGE CANCEL discards the collected firmware. -/
  | fwStageCancel (r : Req)
  /-- FW_STAGE_CHECK_COMPLETE (R467): The staged firmware slot has been checked as the boot ROM would check it, and FW_STATUS shows the result. -/
  | fwStageCheckComplete
  /-- CLAIM (R460): A CLAIM request is granted or refused for a block. -/
  | claim (r : Req) (b : BlockReq)
  /-- FORCE_CLAIM (R460): A CLAIM with FORCE by a MAINTAINER takes a held block, and the former holder receives CLAIM_LOST. -/
  | forceClaim (r : Req) (b : BlockReq)
  /-- RELEASE (R460): RELEASE ends a claim and discards its pending shadows. -/
  | release (r : Req) (b : BlockReq)
  /-- MOVE_LANDED (R203): A planned move reaches its target and ends in IDLE, and the sequencer may set the next target. -/
  | moveLanded (a : AxisId)
  /-- QUICK_STOP_COMPLETE (R206): A quick stop reaches rest, and held doorway targets are planned. -/
  | quickStopComplete (a : AxisId)
  /-- HOME_POSITION_FOUND (R211): The homing reference is detected, and the frame is shifted by delta. -/
  | homePositionFound (a : AxisId) (position : Int)
  /-- HOME_CHATTER (R213): HOME_INPUT changes too often within the window, and homing fails. -/
  | homeChatter (a : AxisId)
  /-- HOME_TIMEOUT (R215): HOME_TIMEOUT passes since homing started, and homing fails. -/
  | homeTimeout (a : AxisId)
  /-- TRAVEL_LIMIT (R214): A travel limit trips after debounce, which fails homing or makes the axis stop quickly. -/
  | travelLimit (a : AxisId) (positive : Bool)
  /-- STALL (R225): A stepper's deviation exceeds STALL_WINDOW on STALL_TICKS samples, and its phase is realigned. -/
  | stall (a : AxisId)
  /-- STEPPER_HOLD (R223): A stepper has rested on its target for HOLD_DELAY, and its amplitude is reduced. -/
  | stepperHold (a : AxisId)
  /-- OBST_CONFIRMED (R235): The confirmation count reaches OBST_CONFIRM, and the obstacle is confirmed. -/
  | obstConfirmed (a : AxisId)
  /-- SIBLING_REVERSAL (R238): The other closing leaves of the doorway reverse in the tick after a confirmation. -/
  | siblingReversal (d : DoorId)
  /-- REACTION_BRAKING_END (R237): Reaction braking ends, and the held or reopen target is planned. -/
  | reactionBrakingEnd (a : AxisId)
  /-- LEAF_EVALUATION (R244): After the settle time and 20 good samples, the leaf's gap g is computed. -/
  | leafEvaluation (a : AxisId) (x : Int)
  /-- CLOSURE_LOST (R251): A monitored closure fails on 4 samples or loses a leaf port, and CLOSED is withdrawn. -/
  | closureLost (d : DoorId)
  /-- LEARN_RESET (R256): A write to LEARN_RESET resets the doorway's learnt closed positions and signature centres. -/
  | learnReset (r : Req) (d : DoorId)
  /-- DOORWAY_OPEN (R262): DWn_CMD.OPEN gives an open command to a doorway. -/
  | doorwayOpen (r : Req) (d : DoorId)
  /-- DOORWAY_CLOSE (R262): DWn_CMD.CLOSE gives a close command to a doorway. -/
  | doorwayClose (r : Req) (d : DoorId)
  /-- DOORWAY_HOME (R278): DWn_CMD.HOME starts homing of an UNHOMED doorway. -/
  | doorwayHome (r : Req) (d : DoorId)
  /-- DOOR_RESET (R266): DWn_CMD.DOOR_RESET takes a doorway from FAULT to UNHOMED, or is refused. -/
  | doorReset (r : Req) (d : DoorId)
  /-- OPEN_LEFT (R285): DOOR_SIDE_CMD.OPEN_LEFT gives an open command to every used left-side doorway. -/
  | openLeft (r : Req)
  /-- OPEN_RIGHT (R285): DOOR_SIDE_CMD.OPEN_RIGHT gives an open command to every used right-side doorway. -/
  | openRight (r : Req)
  /-- CLOSE_LEFT (R285): DOOR_SIDE_CMD.CLOSE_LEFT gives a close command to every used left-side doorway. -/
  | closeLeft (r : Req)
  /-- CLOSE_RIGHT (R285): DOOR_SIDE_CMD.CLOSE_RIGHT gives a close command to every used right-side doorway. -/
  | closeRight (r : Req)
  /-- SIDE_OPEN_INPUT (R262): A rising edge of a side-open input gives an open command to that side. -/
  | sideOpenInput (right : Bool)
  /-- SIDE_CLOSE_INPUT (R262): A rising edge of a side-close input gives a close command to that side. -/
  | sideCloseInput (right : Bool)
  /-- BUTTON_PRESS (R262): A rising edge of a passenger button gives an open command unless the buttons are blocked. -/
  | buttonPress (d : DoorId) (outside : Bool)
  /-- ISOLATION_ON (R266): ISOLATED_INPUT becomes active, and the doorway enters ISOLATED. -/
  | isolationOn (d : DoorId)
  /-- ISOLATION_OFF (R266): ISOLATED_INPUT becomes inactive, and the doorway enters UNHOMED. -/
  | isolationOff (d : DoorId)
  /-- DOOR_EGRESS (R275): EGRESS_PAIR becomes active, and the doorway enters EGRESS. -/
  | doorEgress (d : DoorId)
  /-- EGRESS_CLEARED (R275): EGRESS_PAIR becomes inactive. -/
  | egressCleared (d : DoorId)
  /-- RELEASE_LOST (R305): A release or zero-speed signal goes, and moving doorways go to WARNING. -/
  | releaseLost (gone : BitVec 3)
  /-- ZERO_SPEED_PRESENT (R276): The zero-speed signal becomes present, and a deferred egress unlocks. -/
  | zeroSpeedPresent
  /-- AUTO_CLOSE_EXPIRY (R266): AUTO_CLOSE_MS passes in OPEN, and the doorway enters WARNING. -/
  | autoCloseExpiry (d : DoorId)
  /-- WARNING_END (R272): TICK_COUNT reaches DWn_WARN_END, and the doorway enters CLOSING. -/
  | warningEnd (d : DoorId)
  /-- REOPEN_PAUSE_EXPIRY (R271): REOPEN_PAUSE_MS passes, and the doorway recloses, retries its target or goes to OBSTRUCTED_OPEN. -/
  | reopenPauseExpiry (d : DoorId)
  /-- STEP_RETRY_EXPIRY (R271): STEP_RETRY_MS passes in STEP_IN, and the step is retried or the doorway goes to FAULT with STEP_JAM. -/
  | stepRetryExpiry (d : DoorId)
  /-- LOCK_CONFIRM_EXPIRY (R266): LOCK_CONFIRM_MS passes without CLOSED_LOCKED, and the doorway goes to CLOSED_UNLOCKED. -/
  | lockConfirmExpiry (d : DoorId)
  /-- ANNOUNCE_HOLD (R273): A write to DWn_ANNOUNCE_HOLD extends the warning up to its ceiling. -/
  | announceHold (r : Req) (d : DoorId) (ms : Word)
  /-- CHIME (R274): A write to DWn_CHIME sounds the buzzer for CHIME_MS. -/
  | chime (r : Req) (d : DoorId) (value : Word)
  /-- CHIME_END (R274): CHIME_MS passes, and the chime ends. -/
  | chimeEnd (d : DoorId)
  /-- JOG_GO (R281): DWn_JOG.GO starts or continues a maintenance jog. -/
  | jogGo (r : Req) (d : DoorId) (value : Word)
  /-- JOG_STOP (R282): DWn_JOG.STOP ends a jog at the stopping point. -/
  | jogStop (r : Req) (d : DoorId)
  /-- JOG_TIMEOUT (R282): 200 ms pass without GO, and the jog ends. -/
  | jogTimeout (d : DoorId)
  /-- BOLT_TEST_CYCLE (R293): A due test cycle switches off the four BOLT switches in turn. -/
  | boltTestCycle
  /-- BOLT_TEST_FAIL (R294): A BOLT readback check fails, and the fault latches. -/
  | boltTestFail
  /-- BOLT_OVERLOAD (R294): The hardware overload trip of a BOLT output latches the fault. -/
  | boltOverload
  /-- BOLT_EXT_DRIVEN (R294): An off BOLT terminal reads above 5 V on 2 ticks outside a hinge pair, and the fault latches. -/
  | boltExtDriven
  /-- BOLT_CHANNEL_DIFFER (R290): The two channels differ in 2 consecutive ticks, and the fault latches. -/
  | boltChannelDiffer
  /-- PAIR_DISCREPANCY (R300): A pair's disagreement count reaches D, and the pair enters discrepancy. -/
  | pairDiscrepancy (p : PairId)
  /-- PAIR_RESTORED (R301): A pair has 20 samples agreeing on its safe reading and leaves discrepancy. -/
  | pairRestored (p : PairId)
  /-- SAFE_TELEGRAM_COPY (R311): A RELEASE telegram copy arrives and is checked for validity, staleness and delay. -/
  | safeTelegramCopy (bus : BusId) (format : Bool) (bytes : List Byte)
  /-- PAIR_WAIT_DEADLINE (R313): A pair wait reaches its deadline, and the telegram is accepted single. -/
  | pairWaitDeadline
  /-- SAFE_TG_TIMEOUT (R315): The connection is not refreshed within SAFE_RX_TIMEOUT_MS, and the telegram signals become absent. -/
  | safeTgTimeout
  /-- DOOR_STATE_SEND (R310): A due DOOR_STATE telegram is written into buffer 0 of both buses. -/
  | doorStateSend
  /-- DOOR_STATE_RECEIVED (R391): A DOOR_STATE telegram of the module's own address is received and read for yield or split. -/
  | doorStateReceived (format : Bool) (bytes : List Byte)
  /-- QUAD_ERROR (R327): Both quadrature tracks change within one filter step, and no count is made. -/
  | quadError (c : ChanId)
  /-- SHORT (R331): An output is in current limit for 60 us, is switched off by hardware and trips. -/
  | short (out : Fin 80)
  /-- READBACK (R331): An output commanded on reads low on 2 ticks, is switched off and trips. -/
  | readback (out : Fin 80)
  /-- STUCK_ON (R331): An output commanded off reads on at its internal node on 2 ticks. -/
  | stuckOn (out : Fin 80)
  /-- EXT_DRIVEN (R331): An off output's terminal is driven externally for 100 ms. -/
  | extDriven (out : Fin 80)
  /-- OVERLOAD (R334): A load switch exceeds its limit for LS_OVLD_MS, is switched off and trips. -/
  | overload (l : LoadId)
  /-- LS_THERMAL_WARN (R332): A switch junction reaches 150 C. -/
  | lsThermalWarn (l : LoadId)
  /-- LS_THERMAL_SHUTDOWN (R336): A switch reaches 170 C, shuts down and sets its thermal latch. -/
  | lsThermalShutdown (l : LoadId)
  /-- RETRY_SLOT (R335): A retry slot falls due, and the channel switches on again or returns to OFF. -/
  | retrySlot (l : LoadId)
  /-- RETRIES_CLEARED (R335): The channel has been on for 10 s without a trip, and RETRIES returns to 0. -/
  | retriesCleared (l : LoadId)
  /-- FIELD_OUTPUT_RETRY (R330): 1 s after a field-output trip, the output retries if it is commanded on. -/
  | fieldOutputRetry (c : ChanId)
  /-- CLEAR_LOCKOUT (R335): A write to Ln_CTRL.CLEAR_LOCKOUT clears LOCKOUT and RETRIES. -/
  | clearLockout (r : Req) (l : LoadId)
  /-- LS_GROUP_SHED (R337): The group sum exceeds its limit for 20 ticks, and the highest channel is shed. -/
  | lsGroupShed
  /-- LS_BLANKING_END (R333): The blanking window after a switch-on ends, and overload checks begin. -/
  | lsBlankingEnd (l : LoadId)
  /-- LIMIT_RECOMPUTE (R334): Every 1 ms the channel and group limits are recomputed from the housing temperature. -/
  | limitRecompute
  /-- FIELD_LOW (R341): The field supply is below 16.8 V for 20 ticks. -/
  | fieldLow
  /-- FIELD_LOW_CLEAR (R341): The field supply is at 17.3 V or above for 20 ticks, and FIELD_LOW clears. -/
  | fieldLowClear
  /-- FIELD_INVALID (R341): The field supply falls below 14.0 V, becomes invalid and withdraws BOLT. -/
  | fieldInvalid
  /-- FIELD_RESTORED (R341): The field supply is 14.5 V or above for 20 ticks and becomes valid. -/
  | fieldRestored
  /-- OUTPUTS_DROPPED (R341): Below 9.0 V every output drops by hardware, and commands are kept. -/
  | outputsDropped
  /-- RESTORE_SEQUENCE_START (R342): The supply is 12.0 V or above for 20 ticks after a drop, and the restore sequence starts. -/
  | restoreSequenceStart
  /-- RESTORE_TURN (R342): Every second tick the next waiting output takes its turn to switch on. -/
  | restoreTurn
  /-- FIELD_HIGH (R341): The field supply is above 31.0 V for 20 ticks. -/
  | fieldHigh
  /-- FIELD_HIGH_CLEAR (R341): The field supply is at 30.5 V or below for 20 ticks, and FIELD_HIGH clears. -/
  | fieldHighClear
  /-- SENSOR_SUPPLY_TRIP (R31): SNS+ of a connector exceeds its 2.0 A limit and is switched off. -/
  | sensorSupplyTrip (k : Fin 2)
  /-- SENSOR_SUPPLY_RETRY (R31): A tripped SNS+ supply is tried again every 1 s. -/
  | sensorSupplyRetry (k : Fin 2)
  /-- AN_SHUNT_OFF (R340): A current input reads above 30 mA on 2 ticks, and its shunt is disconnected. -/
  | anShuntOff (n : AnId)
  /-- AN_SHUNT_RETRY (R340): A disconnected shunt is tried again every 1 s. -/
  | anShuntRetry (n : AnId)
  /-- AN_SUPPLY_TRIP (R340): AN_SUP exceeds 100 mA and is switched off. -/
  | anSupplyTrip
  /-- AN_SUPPLY_RETRY (R340): AN_SUP is tried again every 1 s. -/
  | anSupplyRetry
  /-- CAN_FRAME_RECEIVED (R357): A valid CAN frame is routed to the safe path, a filter queue entry, or discarded. -/
  | canFrameReceived (bus : BusId) (f : CanFrame) (parity : Bool) (ts : Word)
  /-- CAN_PEX (R363): A protocol exception is met, and the controller integrates without counting an error. -/
  | canPex (bus : BusId)
  /-- TX_SUCCESS (R354): A transmit attempt succeeds, and the buffer becomes SENT. -/
  | txSuccess (bus : BusId) (b : Fin 3) (ts : Word)
  /-- TX_LOST_ARBITRATION (R354): A transmit attempt loses arbitration, and the buffer returns to PENDING. -/
  | txLostArbitration (bus : BusId) (b : Fin 3)
  /-- TX_ERROR (R354): A transmit attempt ends in an error, which is counted, and the frame is retransmitted. -/
  | txError (bus : BusId) (b : Fin 3) (kind : Nat) (unchanged : Bool)
  /-- CAN_BUS_OFF (R361): TEC exceeds 255, and the controller enters bus-off. -/
  | canBusOff (bus : BusId)
  /-- TX_SEND (R352): CANx_TXBb_CTRL.SEND makes a host buffer PENDING. -/
  | txSend (r : Req) (bus : BusId) (b : Fin 3)
  /-- TX_ABORT (R355): CANx_TXBb_CTRL.ABORT aborts a host buffer. -/
  | txAbort (r : Req) (bus : BusId) (b : Fin 3)
  /-- CAN_RECOVER (R362): CANx_CTRL.RECOVER starts recovery from bus-off. -/
  | canRecover (r : Req) (bus : BusId)
  /-- CAN_RECOVERED (R362): 128 recessive sequences are counted, and the controller becomes error active. -/
  | canRecovered (bus : BusId)
  /-- RESTRICT_ON (R351): CANx_CTRL.RESTRICT_ON requests restricted mode. -/
  | restrictOn (r : Req) (bus : BusId)
  /-- RESTRICT_OFF (R351): CANx_CTRL.RESTRICT_OFF requests normal mode. -/
  | restrictOff (r : Req) (bus : BusId)
  /-- CAN_MODE_CHANGE (R351): A requested mode change takes effect at the next bus idle or at the end of recovery. -/
  | canModeChange (bus : BusId)
  /-- RX_ACK (R358): CANx_RX_ACK frees the oldest held receive entries. -/
  | rxAck (r : Req) (bus : BusId) (n : Word)
  /-- HEARTBEAT_RECEIVED (R373): A partner heartbeat arrives on the pin link and is used in the next tick. -/
  | heartbeatReceived (f : WireFrame)
  /-- HEARTBEAT_NAK (R372): A NAK for a bad or missing heartbeat arrives from the partner. -/
  | heartbeatNak
  /-- HEARTBEAT_RESEND (R372): The heartbeat is re-sent at 40.00 us after a NAK. -/
  | heartbeatResend
  /-- COPY_FRAME (R380): The STANDBY takes a copy frame, compares it and loads it if it differs. -/
  | copyFrame (payload : List Byte) (fin : FrameEnd) (state : CopyState)
  /-- PINLINK_LOST (R376): The silence count reaches 20, and the ACTIVE becomes ALONE. -/
  | pinlinkLost
  /-- PINLINK_RESTORED (R376): 20 consecutive good heartbeats arrive. -/
  | pinlinkRestored
  /-- PAIR_WAIT_EXPIRY (R386): PAIR_WAIT_MS passes without a settled role, and the module settles ACTIVE or ALONE. -/
  | pairWaitExpiry (answered : Bool)
  /-- CLAIM_ROUND (R388): An ALONE claim round begins, and the module claims in its tick or settles as STANDBY. -/
  | claimRound (last : Bool)
  /-- CLAIM_CHECK (R388): 3 ticks after a claim, too few witnesses lead the module back to shadow frames. -/
  | claimCheck
  /-- TAKEOVER (R389): A fit STANDBY with a silent or faulted partner and a witness quorum claims a new epoch. -/
  | takeover
  /-- LEASE_YIELDED (R391): A lease holder meets a yield rule, sends shadow frames and becomes STANDBY. -/
  | leaseYielded
  /-- LOG_SEAL_EXPIRY (R413): The open page has held data for LOG_SEAL_MS and is sealed. -/
  | logSealExpiry
  /-- SEAL (R413): REC_CTRL.SEAL seals the open page. -/
  | sealPage (r : Req)
  /-- PAGE_COMMIT (R414): A sealed page is signed, programmed and marked valid. -/
  | pageCommit (ok : Bool) (parity : Option (List Byte))
  /-- LOG_READ (R426): LOG_READ returns up to 15 committed pages with descriptors. -/
  | logRead (r : Req) (first : Nat) (count : Nat) (pages : List PageRead)
  /-- LOG_ERASE (R427): LOG_ERASE with the last page's chain commits, increments ERASE_COUNT and starts erasing. -/
  | logErase (r : Req) (seq : Nat) (chain : List Byte)
  /-- ERASE_COMPLETE (R427): The last block of the log is erased, and ERASING ends. -/
  | eraseComplete
  /-- ANCHOR (R409): COMMAND ANCHOR writes an ANCHOR record, or is rate-limited. -/
  | anchor (r : Req) (utc : BitVec 64) (uncertainty : Word)
  /-- OP_TIME_SAVE (R404): Every 600 s OP_TIME is saved to the secure element. -/
  | opTimeSave
  /-- SCRUB_STEP (R440): The scrubber reads and corrects the next word or words of its pass. -/
  | scrubStep
  /-- DMA_RESUME (R437): A halted DMA channel resumes with its next transfer. -/
  | dmaResume (c : Fin 4)
  /-- SCRATCH_CLEAR (R444): MEM_SCRATCH_CLEAR zeroes a scratch page, removes poison and clears its written bits. -/
  | scratchClear (r : Req) (page : Word)
  /-- SESSION_OPEN (R453): A TLS handshake with a client chain opens a Keyway session with a role. -/
  | sessionOpen (h : Handshake)
  /-- AUTH_BLOCK_EXPIRY (R453): The 60 s refusal of an address ends. -/
  | authBlockExpiry (peer : Word)
  /-- SESSION_IDLE_TIMEOUT (R453): A session sends nothing for SESSION_IDLE_S and is closed. -/
  | sessionIdleTimeout (i : SessId)
  /-- SESSION_END (R460): A session ends, its claims end and its pending shadows are discarded. -/
  | sessionEnd (i : SessId)
  /-- SUBSCRIBE_SET (R463): SUBSCRIBE SET replaces the session's subscription list. -/
  | subscribeSet (r : Req) (entries : List (Code × BitVec 8))
  /-- SUBSCRIBE_ADD (R463): SUBSCRIBE ADD adds entries to the subscription list. -/
  | subscribeAdd (r : Req) (entries : List (Code × BitVec 8))
  /-- SUBSCRIBE_CLEAR (R463): SUBSCRIBE CLEAR empties the subscription list. -/
  | subscribeClear (r : Req)
  /-- SUBSCRIBE_ACK (R464): SUBSCRIBE ACK frees queued events up to an EVENT_SEQ. -/
  | subscribeAck (r : Req) (seq : Word)
  /-- KW_EVENT_ACK (R464): A write to KW_EVENT_ACK frees the session's queued events up to the value written. -/
  | kwEventAck (r : Req) (seq : Word)
  /-- RESTART (R459): COMMAND RESTART restarts the module from BOOT after the response. -/
  | restart (r : Req)
  /-- ENTER_MAINTENANCE (R79): COMMAND ENTER_MAINTENANCE moves RUN to MAINTENANCE while zero speed is present. -/
  | enterMaintenance (r : Req)
  /-- EXIT_MAINTENANCE (R83): COMMAND EXIT_MAINTENANCE returns to RUN, and jogs end. -/
  | exitMaintenance (r : Req)
  /-- ENROL (R462): COMMAND ENROL places an owner trust anchor in the secure element. -/
  | enrol (r : Req) (index : BitVec 8) (cert : List Byte) (sig : List Byte)
  /-- UNENROL (R462): COMMAND UNENROL removes an owner trust anchor and closes dependent sessions. -/
  | unenrol (r : Req) (index : BitVec 8)
  /-- DHCP_LEASE (R449): A DHCP lease is obtained, and its address is used. -/
  | dhcpLease (ip : Word) (prefixLen : BitVec 8)
  /-- DHCP_TIMEOUT (R449): No lease is held 10 s after CONFIG, and a link-local address is taken. -/
  | dhcpTimeout (ip : Word)
  /-- CENSUS_SEND (R468): A due census datagram is signed and multicast. -/
  | censusSend
  /-- CENSUS_RECEIVE (R469): A census datagram is checked and replaces the sender's census entry. -/
  | censusReceive (bytes : List Byte)
  /-- CENSUS_ENTRY_EXPIRY (R469): A census entry passes 60 s since its stamp and is no longer fresh. -/
  | censusEntryExpiry (serial : Word)
  /-- CODE_GROUP_SYNC_GAINED (R130): A knuckle port or pin link receiver sees three K28.5 on one code-group boundary and gains code-group sync, so LINK moves from DOWN to SYNC. -/
  | codeGroupSyncGained (k : LinkId)
  /-- CODE_GROUP_SYNC_LOST (R130): A receiver sees 4 invalid code groups among 16, or its recovered clock loses lock, and it loses sync on its port or on the pin link. -/
  | codeGroupSyncLost (k : LinkId)
  /-- COVER_CLOSED (R43): The reed contact shows cover W back in place, so WARD_STATUS.COVER_OPEN and the KW_EVAL cover cause clear. -/
  | coverClosed
  /-- FIELD_COUNT_EDGE (R327): A filtered edge on a channel in a counting mode changes its 32-bit count and its edge times. -/
  | fieldCountEdge (c : ChanId) (onTrackC : Bool) (rise : Bool) (second : Bool) (lead : Bool) (time : Nat)
  /-- CAN_RECEIVE_ERROR (R361): The controller detects an error while receiving, raises REC under ISO 11898-1, and re-integrates if RESTRICTED. -/
  | canReceiveError (bus : BusId) (kind : Nat) (plus8 : Bool)
  /-- CAN_INTEGRATED (R350): A controller leaving OFF, or re-integrating, counts 11 consecutive recessive bits and starts to take part in the bus. -/
  | canIntegrated (bus : BusId)
  /-- LOG_BLOCK_ERASED (R427): The erase of one log block completes during LOG_ERASE or before use, which advances REC_ERASE_PROGRESS, lets the new log begin once block 4 is erased, or retires the block on an erase failure. -/
  | logBlockErased (b : Nat) (bad : Option Nat)
  /-- STAGE_WRITE_COMPLETE (R458): The NOR write started by IMAGE_STAGE END or FW_STAGE END completes, the RESPONSE is sent, and the dry run or firmware check begins. -/
  | stageWriteComplete (fw : Bool)
  /-- ETH_LINK_CHANGE (R448): A 100BASE-TX link on E1 or E2 comes up or goes down, for example after auto-negotiation or a bypass-relay changeover, and NET_STATUS.E1_UP or E2_UP changes. -/
  | ethLinkChange (e2 : Bool) (up : Bool)
  /-- SRAM_BIT_FLIP (R433): A stored SRAM word suffers a bit error in service, leaving it with an error that SECDED or the page code must deal with on a later read or scrub. -/
  | sramBitFlip (word : Nat) (mask : BitVec 72)
  deriving DecidableEq, Repr

end Sys2Proof
end

