-- ==== Sys2Proof/Machine/CycleTrack.lean ====
section
/-! DEFINITION. The doorway cycle in progress: its start, flags and counts as the doorway changes (R405 to R407). -/

namespace Sys2Proof.Machine

/-- A state in which a cycle ends (R405). -/
def DoorState.endsCycle (st : DoorState) : Bool :=
  st == DoorState.closedLocked || st == DoorState.closedUnlocked || st == DoorState.isolated || st == DoorState.fault

/-- A closed state, which a cycle leaves (R405). -/
def DoorState.isClosed (st : DoorState) : Bool := st == DoorState.closedLocked || st == DoorState.closedUnlocked

/-- A flag of the CYCLE record. -/
def Cycle.mark (c : Cycle) (k : Nat) (on : Bool) : Cycle :=
  if on then { c with flags := c.flags ||| BitVec.ofNat 16 (2 ^ k) } else c

/-- A state entered from another one. -/
def entered (w0 w1 : Door) (st : DoorState) : Bool := w1.st == st && w0.st != st

/-- Release is not present in one of the four states that it sends to WARNING (R266). -/
def releaseGone (i : DoorIn) (w0 w1 : Door) : Bool :=
  !(i.side && i.zero) && entered w0 w1 .warning &&
    (w0.st == DoorState.unlocking || w0.st == DoorState.stepOut || w0.st == DoorState.opening || w0.st == DoorState.opened)

/-- The cycle follows one operation on its doorway. `op` is OP_TIME. -/
def Cycle.follow (c : Cycle) (i : DoorIn) (w0 w1 : Door) (ev : List Raised) (op : Nat) : Cycle :=
  let raised := fun code : Code => ev.any fun e => e.code == code
  let c := if !c.active && w0.st.isClosed && !w1.st.endsCycle then
      { Cycle.reset with active := true, first := w1.st.code, start := i.now, startOp := op } else c
  if !c.active then c
  else
    let c := if entered w0 w1 .reopening then { c with reopens := satN (c.reopens + 1) 8 } else c
    let c := (c.mark 0 (entered w0 w1 .egress)).mark 1 (releaseGone i w0 w1)
    let c := c.mark 2 (w0.st == DoorState.warning && w1.st == DoorState.warning && w0.warnEnd != w1.warnEnd)
    let c := (c.mark 3 (raised 0x3002)).mark 4 (entered w0 w1 .obstructedOpen)
    let c := c.mark 5 (w1.clo.locked && !w0.clo.locked && !w1.clo.seqObst && !w1.clo.seqAbandon)
    let c := (c.mark 7 (raised 0x3007 || raised 0x3008)).mark 9 (raised 0x3006)
    { c with attempts := max c.attempts w1.attempts }

/-- A value in sQ19.12 N as 0.1 N (R406). -/
def tenthN (x : Int) : Int := rdiv (x * 10) 4096

/-- The reaction code of AXn_OBST_STATUS (R255). -/
def Reaction.code : Reaction → Nat
  | .none => 0
  | .reverse => 1
  | .stop => 2
  | .sibling => 3

/-- The reaction that the registers show: a stop still in the tick in which it lands (R237). DEDUCED (log 37). -/
def MotionSt.shown (m : MotionSt) : Reaction := if m.stopEnd then .stop else m.reaction

/-- A confirmation on an axis of the doorway (R406). -/
def Cycle.obstacle (c : Cycle) (a : Nat) (x : Axis) : Cycle :=
  if !c.active then c
  else
    { c with obstacles := satN (c.obstacles + 1) 8,
             obst := (⟨x.obst.lastTick, a, x.mot.shown.code, x.obst.lastX, satS 16 (tenthN x.obst.lastR),
               satS 16 (rdiv x.obst.lastV 1000)⟩ :: c.obst).take 4 }

/-- The highest values of a slot in a tick (R406). -/
def CyclePeak.see (p : CyclePeak) (x : Axis) : CyclePeak :=
  let v := min 0xFFFF (rdiv (x.loop.vMeas.natAbs : Int) 1000).natAbs
  let f := min 0xFFFF (tenthN (x.loop.fMotor.natAbs : Int)).natAbs
  let r := satS 16 (tenthN x.obst.rn)
  ⟨p.armed || x.obst.armed, if !x.obst.armed then p.r else if p.armed then max p.r r else r, max p.v v, max p.f f⟩

/-- A leaf's z and r_n in a PROFILE sample: 8000h where the slot is empty, the axis is not driven or its sample is stale
(R407). -/
def profOf (x : Option Axis) : Int × Int :=
  match x with
  | none => (-32768, -32768)
  | some x =>
    if x.mot.driven && !x.loop.stale then (satS 16 (rdiv (x.loop.xMeas - x.obst.xClosed) 50), satS 16 (tenthN x.obst.rn))
    else (-32768, -32768)

/-- What the cycle takes from the end of a tick: time in the state, peaks, profile sample (R406, R407). `force` is the
axis of each slot, where it is a force axis. -/
def Cycle.endTick (c : Cycle) (now : Tick) (st : DoorState) (force : List (Option Axis)) (missed3 : Bool) : Cycle :=
  if !c.active then c
  else
    let c := c.mark 8 missed3
    let k := st.code
    let c := if 4 ≤ k ∧ k ≤ 14 then { c with ticks := c.ticks.set! (k - 4) (vget c.ticks (k - 4) 0 + 1) } else c
    let see := fun (j : Nat) (p : CyclePeak) => match (force.getD j none) with
      | some x => CyclePeak.see p x
      | none => p
    let c := { c with peaks := vmapIdx see c.peaks }
    let c := if now.toNat % 80 = 0 then
        let a := profOf (force.getD 0 none)
        let b := profOf (force.getD 1 none)
        { c with samples := (⟨now, a.1, a.2, b.1, b.2⟩ :: c.samples).take 442 } else c
    if st == DoorState.closing then { c with span := c.samples } else c

end Sys2Proof.Machine
end

