-- ==== Sys2Proof/Machine/Link.lean ====
section
/-! DEFINITION. Knuckle links (ch. 4): frames, the bulk channel, errors inside the tick, discovery. A port's operation
takes the port and answers it with the codes raised. -/

namespace Sys2Proof.Machine

/-- A port under computation and the codes raised, newest first. -/
structure LinkRun where
  /-- The port. -/
  p : Port
  /-- Codes raised. -/
  ev : List Raised
  deriving DecidableEq, Repr

/-- What a port reads from its surroundings. -/
structure LinkIn where
  /-- Tick in progress. -/
  now : Tick
  /-- Port number s. -/
  s : Nat
  /-- Configuration. -/
  cfg : Cfg
  /-- The unit state sends TM and frames (R129). -/
  sending : Bool
  /-- The module sends lease frames on READY ports. -/
  lease : Bool
  deriving DecidableEq, Repr

/-- The port changed. -/
def LinkRun.upd (r : LinkRun) (f : Port → Port) : LinkRun := { r with p := f r.p }

/-- A code raised with the port as INSTANCE (R478). -/
def LinkRun.raise (r : LinkRun) (i : LinkIn) (code : Code) : LinkRun := { r with ev := ⟨code, i.s, 0⟩ :: r.ev }

/-- PORT_MODE is STAGE (R147). -/
def LinkIn.stage (i : LinkIn) : Bool := i.cfg.n F.portMode i.s == 1

/-- LINK of Kn_STATUS: 0 DOWN, 1 SYNC, 2 UP (R130). -/
def Port.link (p : Port) : Nat := if !p.sync then 0 else if p.age < 3 then 2 else 1

/-- The axes that the channels of port `s` carry (R147). -/
def axesOfPort (c : Cfg) (s : Nat) : List (Nat × AxisId) :=
  [0, 1].filterMap fun ch => (finOf 64 (c.n F.axisOfChannel (2 * s + ch))).map fun a => (ch, a)

/-! ## Identity (R146) -/

/-- TYPE_CODE. -/
def Port.typeCode (p : Port) : Nat := leAt p.ident 0 4
/-- STAGE_IF. -/
def Port.stageIf (p : Port) : Nat := leAt p.ident 4 2
/-- INSTALL_SLOT. -/
def Port.slot (p : Port) : Nat := leAt p.ident 6 1
/-- CHANNELS. -/
def Port.channels (p : Port) : Nat := leAt p.ident 7 1
/-- CURRENT_LSB of channel `ch`. -/
def Port.lsb (p : Port) (ch : Nat) : Nat := leAt p.ident (8 + 2 * ch) 2
/-- SERIAL. -/
def Port.serial (p : Port) : Nat := leAt p.ident 12 4
/-- HW_REV. -/
def Port.hwRev (p : Port) : Nat := leAt p.ident 16 2
/-- FW_REV. -/
def Port.fwRev (p : Port) : Nat := leAt p.ident 18 2
/-- CAPS. -/
def Port.caps (p : Port) : Nat := leAt p.ident 20 4
/-- Kind of channel `ch`: 0 absent, 1 BLDC, 2 stepper, 3 DC. -/
def Port.chanKind (p : Port) (ch : Nat) : Nat := p.channels / 4 ^ ch % 4

/-! ## The bulk channel (R144, R145) -/

/-- The next SEQ: 1 to 255, then 1 again. -/
def nextSeq255 (n : Nat) : Nat := n % 255 + 1

/-- A block queued for the stage. The module asks with IDENT_READ and PARAM_WRITE alone. DESIGN CHOICE (log 89). -/
def Port.ask (p : Port) (op : Nat) (data : List Byte) : Port := { p with bulkQueue := p.bulkQueue ++ [⟨op, data⟩] }

/-- The block of the next frame: the one in flight, or the next of the queue. -/
def Port.nextBlock (p : Port) : Port :=
  match p.bulkOut, p.bulkQueue with
  | none, b :: bs => { p with bulkOut := some (b, nextSeq255 p.seqOut), seqOut := nextSeq255 p.seqOut, bulkQueue := bs }
  | _, _ => p

/-- The 16 bytes of a bulk block. -/
def bulkBytes (op seq ack : Nat) (data : List Byte) : List Byte :=
  let d := data.take 10
  let head := leBytes 1 op ++ leBytes 1 seq ++ leBytes 1 ack ++ leBytes 1 d.length ++ d ++ List.replicate (10 - d.length) 0
  head ++ leBytes 2 (crc16 head)

/-- The block that a port sends now. -/
def Port.bulkNow (p : Port) : List Byte :=
  match p.bulkOut with
  | none => bulkBytes 0 0 p.seqIn []
  | some (b, seq) => bulkBytes b.op seq p.seqIn b.data

/-! ## Discovery (R149, R150) -/

/-- Discovery begins: IDENT_READ of pages 0 to 3. A page that the stage acknowledges and never answers is not asked for again. DESIGN CHOICE
(log 77). -/
def Port.discover (p : Port) (now : Tick) : Port :=
  { p with disc := .pages, discTick := now, pages := 0, paramTick := none,
           bulkQueue := [0, 1, 2, 3].map fun k => ⟨1, leBytes 1 k⟩ }

/-- The axis kind allows the channel kind (R150 check 4, R195). -/
def kindFits (kind chanKind : Nat) : Bool :=
  chanKind != 0 && (kind != 1 || chanKind == 1 || chanKind == 3) && (kind != 2 || chanKind == 2)

/-- The first failing check of R150, 1 to 4 by its order, as its REASON; 0 where they pass. -/
def identReason (c : Cfg) (s : Nat) (p : Port) : Nat :=
  let mask := c.n F.stageTypeMask s
  if p.stageIf ≠ 1 then 3
  else if Nat.land p.typeCode mask ≠ Nat.land (c.n F.stageType s) mask then 1
  else if p.slot ≠ s then 2
  else if !((axesOfPort c s).all fun x => kindFits (c.kind x.2.val) (p.chanKind x.1)) then 4
  else 0

/-- LINK_RESTORED where the port was being restored (R143). -/
def LinkRun.restored (r : LinkRun) (i : LinkIn) : LinkRun :=
  if r.p.restoring then (r.upd fun p => { p with restoring := false }).raise i 0x0002 else r

/-- The port goes to MISMATCH with its REASON and the manner of a parameter's failure. -/
def LinkRun.mismatch (r : LinkRun) (i : LinkIn) (reason how preason index : Nat) : LinkRun :=
  ((r.upd fun p => { p with st := .mismatch, reason := reason, paramHow := how, paramReason := preason,
                            paramIndex := index, disc := .idle, bulkQueue := [], paramTick := none }).raise i 0x0004).restored i

/-- All checks pass: READY with a new start window. -/
def LinkRun.ready (r : LinkRun) (i : LinkIn) : LinkRun :=
  (r.upd fun p => { p with st := .ready, reason := 0, paramHow := 0, paramReason := 0, paramIndex := 0, disc := .idle,
                           paramTick := none, window := none, missRun := 0, readySerial := p.serial }).restored i

/-- The STAGE_PARAM elements of a port in element order (R149). -/
def portParams (c : Cfg) (s : Nat) : List StageParam := c.params.filter fun q => q.port == s

/-- The k-th PARAM_WRITE, or READY after the last. -/
def LinkRun.param (r : LinkRun) (i : LinkIn) (k : Nat) : LinkRun :=
  match (portParams i.cfg i.s)[k]? with
  | none => r.ready i
  | some q => r.upd fun p => ({ p with disc := .params k, paramTick := none }).ask 3 (leBytes 2 q.index ++ leBytes 8 q.value.toNat)

/-- An identity page arrives (R146): the record's bytes 9p to 9p + 8. With the fourth page the stage has answered and
the checks follow. -/
def LinkRun.identPage (r : LinkRun) (i : LinkIn) (page : Nat) (data : List Byte) : LinkRun :=
  if r.p.disc ≠ .pages ∨ 4 ≤ page then r
  else
    let r := r.upd fun p =>
      { p with ident := p.ident.take (9 * page) ++ (data ++ List.replicate 9 0).take 9 ++ p.ident.drop (9 * page + 9),
               pages := p.pages ||| BitVec.ofNat 4 (2 ^ page) }
    if r.p.pages ≠ 15 then r
    else
      let reason := identReason i.cfg i.s r.p
      if reason ≠ 0 then r.mismatch i reason 0 0 0 else r.param i 0

/-- PARAM_VALUE: the value now in force (R150 check 5). -/
def LinkRun.paramValue (r : LinkRun) (i : LinkIn) (index : Nat) (value : BitVec 64) : LinkRun :=
  match r.p.disc with
  | .params k =>
    match (portParams i.cfg i.s)[k]? with
    | none => r
    | some q =>
      if q.index ≠ index then r
      else if q.value = value then r.param i (k + 1)
      else r.mismatch i 5 2 0 index
  | _ => r

/-- PARAM_REFUSED. -/
def LinkRun.paramRefused (r : LinkRun) (i : LinkIn) (index reason : Nat) : LinkRun :=
  match r.p.disc with
  | .params k =>
    match (portParams i.cfg i.s)[k]? with
    | none => r
    | some q => if q.index ≠ index then r else r.mismatch i 5 1 reason index
  | _ => r

/-- A parameter write goes unanswered (R145, R150). -/
def LinkRun.paramTimeout (r : LinkRun) (i : LinkIn) : LinkRun :=
  match r.p.disc with
  | .params k =>
    match (portParams i.cfg i.s)[k]? with
    | none => r
    | some q => r.mismatch i 5 3 0xFF q.index
  | _ => r

/-- The parameter write has stood unanswered for 20 ticks since the stage delivered it, which is the tick before its acknowledgement
arrives (R144, R145, R150). -/
def LinkRun.paramDue (r : LinkRun) (i : LinkIn) : Bool :=
  match r.p.disc, r.p.paramTick with
  | .params _, some t => reached i.now (after t 19)
  | _, _ => false

/-- A delivered block's operation (R145). -/
def LinkRun.bulkOp (r : LinkRun) (i : LinkIn) (op : Nat) (data : List Byte) : LinkRun :=
  if op = 0x81 then r.identPage i (leAt data 0 1) (slice data 1 9)
  else if op = 0x82 then r.paramValue i (leAt data 0 2) (BitVec.ofNat 64 (leAt data 2 8))
  else if op = 0x83 then r.paramRefused i (leAt data 0 2) (leAt data 2 1)
  else if op = 0x84 then r.upd fun p => { p with faultReport := some data }
  else r

/-- The bulk block of a good upstream frame (R144): acknowledgement, then delivery of a new block. -/
def LinkRun.bulkIn (r : LinkRun) (i : LinkIn) (blk : List Byte) : LinkRun :=
  if crc16 (blk.take 14) ≠ leAt blk 14 2 then r
  else
    let op := leAt blk 0 1
    let seq := leAt blk 1 1
    let ack := leAt blk 2 1
    let r := r.upd fun p =>
      match p.bulkOut with
      | some (b, q) => if q = ack then { p with bulkOut := none, paramTick := if b.op = 3 then some i.now else p.paramTick } else p
      | none => p
    if op = 0 ∨ seq = r.p.seqIn then r
    else
      (r.upd fun p => { p with seqIn := seq }).bulkOp i op ((slice blk 4 10).take (leAt blk 3 1) ++ List.replicate (10 - min 10 (leAt blk 3 1)) 0)

/-! ## Upstream (R131, R135 to R142) -/

/-- A sample record (R137). -/
def sampleOf (bs : List Byte) : Sample :=
  ⟨BitVec.ofNat 32 (leAt bs 0 4), BitVec.ofNat 16 (leAt bs 4 2), BitVec.ofNat 16 (leAt bs 6 2), BitVec.ofNat 16 (leAt bs 8 2),
   BitVec.ofNat 16 (leAt bs 10 2)⟩

/-- The port is declared lost (R142). -/
def LinkRun.lose (r : LinkRun) (i : LinkIn) : LinkRun :=
  (r.upd fun p => { p with st := .lost, goodRun := 0, retained := true, restoring := false, disc := .idle, bulkQueue := [] }).raise i 0x0001

/-- The kept COMMAND_CRC for a low 16-bit tick (R140). -/
def keptFor (kept : List (Tick × Word)) (t : BitVec 16) : Option Word :=
  (kept.find? fun k => decide (BitVec.setWidth 16 k.1 = t)).map (·.2)

/-- What is kept of the last 8 ticks, with the frame of this one. -/
def keepCrc (kept : List (Tick × Word)) (now : Tick) (crc : Option Word) : List (Tick × Word) :=
  (crc.map fun c => (now, c)).toList ++ kept.filter fun k => decide (since now k.1 < 8)

/-- The echo check applies to the frame just stored (R140): the port is READY with a lease frame sent since, the
command was applied, held or ramped, and in the start window it is one of the window's. -/
def Port.echoChecked (p : Port) (now : Tick) : Bool :=
  match p.window with
  | none => false
  | some w =>
    p.st == PortState.ready && decide (1 ≤ p.how ∧ p.how ≤ 4) &&
      (decide (8 ≤ since now w) || (List.range 8).any fun k => decide (BitVec.setWidth 16 (after w k) = p.appliedTick))

/-- The lease holder's echo check (R140). -/
def LinkRun.echo (r : LinkRun) (i : LinkIn) : LinkRun :=
  if i.lease && r.p.echoChecked i.now && keptFor r.p.kept r.p.appliedTick != some r.p.appliedCrc then
    ((r.upd fun p => { p with echoErr := satN (p.echoErr + 1) 32 }).raise i 0x0006).lose i
  else r

/-- The STANDBY's echo check (R379): none where the frame is not checked. -/
def Port.shadowEcho (p : Port) : Option Bool :=
  if p.how = 1 ∨ p.how = 2 then (keptFor p.shadows p.appliedTick).map fun c => decide (c = p.appliedCrc) else none

/-- The sample part is stored, and taken as the tick's sample where TICK is N (R141). -/
def Port.samplePart (p : Port) (i : LinkIn) (bs : List Byte) (seen : Bool) : Port :=
  let ok := seen && decide (BitVec.ofNat 32 (leAt bs 4 4) = i.now)
  let p := { p with status := BitVec.ofNat 8 (leAt bs 0 1), miss := leAt bs 1 1, epoch := BitVec.ofNat 16 (leAt bs 2 2),
                    upTick := BitVec.ofNat 32 (leAt bs 4 4), age := 0 }
  if ok then { p with good := true, smp := #v[sampleOf (slice bs 8 12), sampleOf (slice bs 20 12)] } else p

/-- The frame passes the checks of R131. -/
def frameGood (n : Nat) (payload : List Byte) (crc : Word) (lineOk : Bool) : Bool :=
  lineOk && decide (payload.length = n) && decide (crc32 payload = crc)

/-- An upstream frame arrives (R135). -/
def LinkRun.upstream (r : LinkRun) (i : LinkIn) (payload : List Byte) (crc : Word) (lineOk late : Bool) : LinkRun :=
  if !i.stage || !i.sending then r
  else if late then r.upd fun p => { p with late := satN (p.late + 1) 32 }
  else if !frameGood 64 payload crc lineOk then r.upd fun p => { p with upCrc := satN (p.upCrc + 1) 32 }
  else
    let r := r.upd fun p =>
      { (p.samplePart i payload (decide (leAt payload 39 1 = i.s))) with
        whole := true, appliedCrc := BitVec.ofNat 32 (leAt payload 32 4), appliedTick := BitVec.ofNat 16 (leAt payload 36 2),
        how := leAt payload 38 1, dcBus := BitVec.ofNat 16 (leAt payload 40 2), temp := BitVec.ofNat 16 (leAt payload 42 2) }
    (r.bulkIn i (slice payload 48 16)).echo i

/-- RQ is sent on a port without a whole good frame (R141). -/
def LinkRun.request (r : LinkRun) (i : LinkIn) : LinkRun :=
  if i.stage && i.sending && !r.p.whole && !r.p.rq then r.upd fun p => { p with rq := true, upResend := satN (p.upResend + 1) 32 } else r

/-- An upstream re-send frame arrives (R138). -/
def LinkRun.resendFrame (r : LinkRun) (i : LinkIn) (part : List Byte) (crc : Word) (lineOk late : Bool) : LinkRun :=
  if !i.stage || !i.sending || !r.p.rq then r
  else if late then r.upd fun p => { p with late := satN (p.late + 1) 32 }
  else if !frameGood 32 part crc lineOk then r.upd fun p => { p with upCrc := satN (p.upCrc + 1) 32 }
  else r.upd fun p => p.samplePart i part true

/-- The tick is missed for the port (R68, R141): no good sample part by 12.00 µs. -/
def LinkRun.missed (r : LinkRun) (i : LinkIn) : LinkRun :=
  if i.stage && i.sending && !r.p.good && !r.p.missedNow then
    r.upd fun p => { p with missedNow := true, missed := satN (p.missed + 1) 32, missRun := min 3 (p.missRun + 1), goodRun := 0 }
  else r

/-- Three consecutive missed ticks of a READY port (R142). -/
def LinkRun.lostCheck (r : LinkRun) (i : LinkIn) : LinkRun :=
  if r.p.st == PortState.ready && decide (3 ≤ r.p.missRun) then r.lose i else r

/-- Every mapped channel reports POS_RETAINED in the tick's sample (R143, R486). -/
def Port.retainedNow (p : Port) (c : Cfg) (s : Nat) : Bool :=
  (axesOfPort c s).all fun x => (vget p.smp x.1 .reset).flags.getLsbD 1

/-- A good tick of a port (R142, R143). A link that fails again while the identity of a lost port is read neither stops the reading
nor asks for 20 new good ticks. DESIGN CHOICE (log 77). -/
def LinkRun.goodTick (r : LinkRun) (i : LinkIn) : LinkRun :=
  if !r.p.good then r
  else
    r.upd fun p =>
      let p := { p with missRun := 0 }
      if p.st == PortState.lost && !p.restoring then
        { p with retained := (p.goodRun == 0 || p.retained) && p.retainedNow i.cfg i.s, goodRun := min 20 (p.goodRun + 1) }
      else p

/-- 20 good ticks of a lost port are over: its identity is read again (R143). -/
def LinkRun.restore (r : LinkRun) (i : LinkIn) : LinkRun :=
  if r.p.st == PortState.lost && decide (20 ≤ r.p.goodRun) && !r.p.restoring then
    r.upd fun p => { (p.discover i.now) with restoring := true }
  else r

/-- A port in UNUSED mode reaches sync, or loses it again (R150). DEDUCED (log 47). -/
def LinkRun.unexpected (r : LinkRun) (i : LinkIn) : LinkRun :=
  if i.stage then r
  else if r.p.sync && r.p.st == PortState.unused then (r.upd fun p => { p with st := .unexpected }).raise i 0x0005
  else if !r.p.sync && r.p.st == PortState.unexpected then r.upd fun p => { p with st := .unused }
  else r

/-- The port at the snapshot of a tick (R68, R71, R141 to R143). -/
def LinkRun.snapshot (r : LinkRun) (i : LinkIn) : LinkRun :=
  let r := r.unexpected i
  if !i.stage || !i.sending then r
  else
    let r := r.request i
    let r := ((r.missed i).goodTick i).lostCheck i
    let r := if r.paramDue i then r.paramTimeout i else r
    r.restore i

/-- 2 s without an answer: ABSENT (R149). -/
def LinkRun.absent (r : LinkRun) (i : LinkIn) : LinkRun :=
  if i.stage && r.p.st == PortState.discovering && r.p.pages != 15 then (r.upd fun p => { p with st := .absent }).raise i 0x0003 else r

/-- The stage of a port has answered, or the port needs no answer (R149). -/
def Port.answered (p : Port) (c : Cfg) (s : Nat) : Bool := c.n F.portMode s != 1 || p.pages == 15

/-- Discovery starts on a STAGE port on entry to DISCOVER (R149). -/
def Port.enterDiscover (p : Port) (c : Cfg) (s : Nat) (now : Tick) : Port :=
  if c.n F.portMode s = 1 then { (p.discover now) with st := .discovering } else p

/-- Kn_CTRL.REDISCOVER on a port in MISMATCH or ABSENT (R157). After DISCOVER no time limit ends it. DESIGN CHOICE (log 77). -/
def Port.rediscover (p : Port) (now : Tick) : Port :=
  if p.st = .mismatch ∨ p.st = .absent then
    { (p.discover now) with st := .discovering, reason := 0, paramHow := 0, paramReason := 0, paramIndex := 0 }
  else p

/-! ## Downstream (R132, R133, R139, R141) -/

/-- The 12 bytes of a command record. -/
def StageCmd.bytes (c : StageCmd) : List Byte :=
  leBytes 1 c.mode ++ leBytes 1 c.flags ++ leBytes 2 c.aux ++ leBytes 2 c.sp.toNat ++ [0, 0] ++ leBytes 4 c.rate.toNat

/-- Bytes 4 to 31 of a downstream payload: TICK, CMD0 and CMD1. -/
def commandPart (tick : Tick) (c0 c1 : StageCmd) : List Byte := leBytes 4 tick.toNat ++ c0.bytes ++ c1.bytes

/-- COMMAND_CRC (R139). -/
def commandCrc (tick : Tick) (c0 c1 : StageCmd) : Word := crc32 (commandPart tick c0 c1)

/-- A frame as it is sent: the payload and its CRC-32, little-endian (R131). -/
def frameBytes (payload : List Byte) : List Byte := payload ++ leBytes 4 (crc32 payload).toNat

/-- A frame read with a parity error is sent with its CRC inverted (R443). -/
def spoiledBytes (payload : List Byte) : List Byte := payload ++ leBytes 4 (~~~(crc32 payload)).toNat

/-- The downstream frame of a tick is sent (R132): lease frames on READY and lost ports of a lease holder, shadow frames
otherwise and in DISCOVER, OFF on every port that is not READY; `bad` marks a parity error in the transmit queue (R443). DISCOVERY marks DISCOVER and every port under discovery (R149). -/
def LinkRun.send (r : LinkRun) (i : LinkIn) (discover : Bool) (epoch : BitVec 16) (c0 c1 : StageCmd) (bad : Bool) : LinkRun :=
  if !i.stage || !i.sending then r.upd fun p => { p with sent := none }
  else
    r.upd fun p =>
      let p := p.nextBlock
      let isReady := p.st == PortState.ready
      let lease := i.lease && !discover && (isReady || p.st == PortState.lost)
      let discovery := discover || p.st == PortState.discovering || p.st == PortState.absent
      let c0 := if isReady then c0 else StageCmd.off
      let c1 := if isReady then c1 else StageCmd.off
      let ctrl := (if lease then 1 else 0) + (if discovery then 2 else 0) + 16
      let payload := leBytes 1 ctrl ++ leBytes 1 i.s ++ leBytes 2 epoch.toNat ++ commandPart i.now c0 c1 ++ p.bulkNow
      let crc := commandCrc i.now c0 c1
      { p with sent := some (if bad then spoiledBytes payload else frameBytes payload), nak := false, resent := false,
               kept := keepCrc p.kept i.now (if lease then some crc else none)
               shadows := keepCrc p.shadows i.now (if lease then none else some crc)
               window := if lease && isReady && p.window.isNone then some i.now else p.window }

/-- NAK arrives by 39.00 µs for the frame sent (R141). -/
def LinkRun.nak (r : LinkRun) : LinkRun :=
  if r.p.sent.isSome && !r.p.nak then r.upd fun p => { p with nak := true, downNak := satN (p.downNak + 1) 32 } else r

/-- The identical frame is re-sent at 40.00 µs from the kept copy (R141); a shadow frame never is (R132), nor one whose kept copy has a
parity error (R443). -/
def LinkRun.resend (r : LinkRun) (copyGood : Bool) : LinkRun :=
  match r.p.sent with
  | some bs => if r.p.nak && !r.p.resent && copyGood && (bs.getD 0 0).getLsbD 0 then
      r.upd fun p => { p with resent := true, sent := some (frameBytes (bs.take 48)) }
    else r
  | none => r

/-- What a port carries over to the next tick. The tick in progress is the first of R130's last 3, and a good re-send frame counts as a good
upstream frame. DESIGN CHOICE (log 77). -/
def Port.endTick (p : Port) : Port :=
  { p with age := if p.whole || p.good then p.age else min 3 (p.age + 1), whole := false, good := false, rq := false, missedNow := false }

end Sys2Proof.Machine
end

