-- ==== Sys2Proof/Machine/Hinge.lean ====
section
/-! DEFINITION. The hinge pair (ch. 12): heartbeats, roles, claims of the lease, takeover and yielding, the copy cycle
and the sweep. Operations take the hinge and answer it with the codes raised. -/

namespace Sys2Proof.Machine

/-- The hinge under computation, the codes raised, newest first, and the tick number it takes over, if any. -/
structure HingeRun where
  /-- The hinge. -/
  h : Hinge
  /-- Codes raised. -/
  ev : List Raised
  /-- TICK_COUNT of the next tick, where the module takes it from its partner or a stage (R377, R378). -/
  retick : Option Tick
  deriving DecidableEq, Repr

/-- What the hinge reads from its surroundings. -/
structure HingeIn where
  /-- Tick in progress. -/
  now : Tick
  /-- Configuration. -/
  cfg : Cfg
  /-- The knuckle ports. -/
  ports : Vector Port 32
  /-- The unit state. -/
  st : UnitState
  /-- HP_SERIAL. -/
  serial : Word
  /-- Unit address number in use. -/
  addr : Nat
  /-- A configuration is loaded. -/
  loaded : Bool
  deriving DecidableEq, Repr

/-- The hinge changed. -/
def HingeRun.upd (r : HingeRun) (f : Hinge → Hinge) : HingeRun := { r with h := f r.h }

/-- A code raised with its bit of HP_EVENTS (R395). -/
def HingeRun.event (r : HingeRun) (k : Nat) (code : Code) : HingeRun :=
  { r with h := { r.h with events := r.h.events ||| BitVec.ofNat 32 (2 ^ k) }, ev := ⟨code, 255, 0⟩ :: r.ev }

/-- HINGE_MODE is PAIR (R394). -/
def HingeIn.pair (i : HingeIn) : Bool := i.cfg.n F.hingeMode 0 == 1

/-- The pin link is in use (R372): in a pair, and in UNCONFIGURED and a FAULT_HELD without a configuration, where no image says whether
the module is in one. DEDUCED (log 83). -/
def HingeIn.sends (i : HingeIn) : Bool := i.pair || !i.loaded && (i.st == UnitState.unconfigured || i.st == UnitState.faultHeld)

/-- The module's knuckle frames carry LEASE = 1 (R132, R373): it holds or claims the lease, and no DISCOVER is in progress. -/
def Hinge.leases (h : Hinge) (i : HingeIn) : Bool := h.lease && i.st != UnitState.discover

/-- The lease epoch held or claimed; 0 if none (R373). -/
def Hinge.heldEpoch (h : Hinge) : BitVec 16 := if h.lease then h.epoch else 0

/-- Epoch `b` is higher than `a` (R155). -/
def epochHigher (b a : BitVec 16) : Bool := decide (1 ≤ (b - a).toNat ∧ (b - a).toNat ≤ 32767)

/-- The highest of some epochs, none where there are none (R388). -/
def highestEpoch (es : List (BitVec 16)) : Option (BitVec 16) :=
  es.foldl (fun m e => match m with
    | none => some e
    | some x => if epochHigher e x then some e else some x) none

/-- An epoch with the value 0 skipped (R388, R389). -/
def skipZero (e : BitVec 16) : BitVec 16 := if e = 0 then 1 else e

/-! ## Witnesses (R136, R387) -/

/-- HOLDER_IS_THIS. -/
def Port.holder (p : Port) : Bool := p.status.getLsbD 0
/-- LEASED. -/
def Port.leased (p : Port) : Bool := p.status.getLsbD 1
/-- FOREIGN_LEASE. -/
def Port.foreignLease (p : Port) : Bool := p.status.getLsbD 5

/-- The port is READY and its upstream frame of the tick is good (R387). -/
def Port.reports (p : Port) : Bool := p.st == PortState.ready && p.whole

/-- The port is a configured witness (R387). -/
def isWitness (c : Cfg) (s : Nat) : Bool := c.n F.portMode s == 1 && c.n F.witness s == 1

/-- W: ports in STAGE mode with WITNESS (R387). -/
def witnessCount (c : Cfg) : Nat := ((List.range 32).filter (isWitness c)).length

/-- Q: the quorum (R387). -/
def quorum (c : Cfg) : Nat := max 1 ((witnessCount c + 1) / 2)

/-- The ports whose witness report counts now (R387). -/
def HingeIn.witnesses (i : HingeIn) : List Port :=
  ((fins 32).filter fun s => isWitness i.cfg s.val && (i.ports[s]).reports).map fun s => i.ports[s]

/-- Every port in READY. -/
def HingeIn.readyPorts (i : HingeIn) : List Port := ((fins 32).map fun s => i.ports[s]).filter fun p => p.st == PortState.ready

/-- Row 2 of R386: a quorum of witnesses is held by the other module. -/
def HingeIn.heldByOther (i : HingeIn) : Bool :=
  decide (quorum i.cfg ≤ (i.witnesses.filter fun p => p.leased && decide (p.miss < 3) && !p.holder).length)

/-- Witnesses that report an epoch with HOLDER_IS_THIS (R388, R391). -/
def HingeIn.heldHere (i : HingeIn) (e : BitVec 16) : Nat := (i.witnesses.filter fun p => p.holder && decide (p.epoch = e)).length

/-- m of R388: the highest EPOCH that the witnesses report; 0 where there is none. -/
def HingeIn.topEpoch (i : HingeIn) : BitVec 16 := (highestEpoch (i.witnesses.map (·.epoch))).getD 0

/-- A stage reports that its holder is gone: MISS of 3 or more, or no holder (R389). -/
def Port.lapsed (p : Port) : Bool := decide (3 ≤ p.miss) || !p.leased

/-- The epoch that most of some ports report, the earliest of equals; 0 where none is leased (R389). -/
def commonEpoch (ps : List Port) : BitVec 16 :=
  let es := (ps.filter (·.leased)).map (·.epoch)
  (es.foldl (fun (m : BitVec 16 × Nat) e => if m.2 < es.count e then (e, es.count e) else m) (0, 0)).1

/-- The second condition of R389 with its epoch E, none where it fails. -/
def HingeIn.lapsedEpoch (i : HingeIn) : Option (BitVec 16) :=
  let w := witnessCount i.cfg
  let pool := if w = 0 then i.readyPorts else i.witnesses
  let gone := pool.filter fun p => p.whole && p.lapsed
  let e := commonEpoch gone
  let n := (gone.filter fun p => !p.leased || decide (p.epoch = e)).length
  if w = 0 then if n = pool.length ∧ 0 < n then some e else none
  else if quorum i.cfg ≤ n then some e else none

/-- HP_WITNESS (R395). DEDUCED (log 64). -/
def HingeIn.witnessWord (i : HingeIn) (e : BitVec 16) : Word :=
  put (witnessCount i.cfg) 8 0 ||| put (i.witnesses.filter fun p => decide (3 ≤ p.miss)).length 8 8 ||| put (i.heldHere e) 8 16

/-! ## The mirror area and the heartbeat payload (R373, R374) -/

/-- The bytes of a record. -/
def MirrorRec.bytes : MirrorRec → List Byte
  | .write a v => [1, 12, 0, 0] ++ leBytes 4 a ++ leBytes 4 v.toNat
  | .command c v => [2, 8] ++ leBytes 2 c ++ leBytes 4 v.toNat
  | .stream q k d => [3] ++ leBytes 1 (4 + d.length) ++ leBytes 1 q ++ leBytes 1 k ++ d
  | .request u n => [4, 4] ++ leBytes 1 u ++ leBytes 1 n

/-- A record read from its bytes, TYPE and LEN included. -/
def mirrorRec (bs : List Byte) : Option MirrorRec :=
  let ty := leAt bs 0 1
  if ty = 1 then some (.write (leAt bs 4 4) (BitVec.ofNat 32 (leAt bs 8 4)))
  else if ty = 2 then some (.command (leAt bs 2 2) (BitVec.ofNat 32 (leAt bs 4 4)))
  else if ty = 3 then some (.stream (leAt bs 2 1) (leAt bs 3 1) ((bs.take (leAt bs 1 1)).drop 4))
  else if ty = 4 then some (.request (leAt bs 2 1) (leAt bs 3 1))
  else none

/-- The records of a MIRROR area, at most `n`. -/
def mirrorRecs : Nat → List Byte → List MirrorRec
  | 0, _ => []
  | n + 1, bs =>
    let len := leAt bs 1 1
    if bs.length < 4 ∨ len < 4 ∨ bs.length < len then []
    else
      match mirrorRec bs with
      | none => mirrorRecs n (bs.drop len)
      | some r => r :: mirrorRecs n (bs.drop len)

/-- The 96 bytes of a heartbeat. -/
def Heartbeat.bytes (b : Heartbeat) : List Byte :=
  let m := b.records.flatMap MirrorRec.bytes
  [1] ++ leBytes 1 b.role ++ leBytes 1 ((if b.fault then 1 else 0) + (if b.yielding then 2 else 0) + (if b.lease then 4 else 0)) ++
    leBytes 1 b.state ++ leBytes 4 b.tick.toNat ++ leBytes 2 b.epoch.toNat ++ leBytes 2 b.addr ++ leBytes 4 b.serial.toNat ++
    leBytes 4 b.health.toNat ++ leBytes 4 b.samples.toNat ++ leBytesS 4 b.tau ++ leBytes 1 b.recordsPrev ++
    leBytes 1 m.length ++ [0, 0] ++ m ++ List.replicate (64 - m.length) 0

/-- A heartbeat read from its payload; none where KIND is not 01h. -/
def heartbeatOf (bs : List Byte) : Option Heartbeat :=
  if leAt bs 0 1 ≠ 1 then none
  else
    some { role := leAt bs 1 1, fault := (bs.getD 2 0).getLsbD 0, yielding := (bs.getD 2 0).getLsbD 1, lease := (bs.getD 2 0).getLsbD 2,
           state := leAt bs 3 1, tick := BitVec.ofNat 32 (leAt bs 4 4), epoch := BitVec.ofNat 16 (leAt bs 8 2), addr := leAt bs 10 2,
           serial := BitVec.ofNat 32 (leAt bs 12 4), health := BitVec.ofNat 32 (leAt bs 16 4), samples := BitVec.ofNat 32 (leAt bs 20 4),
           tau := signedOf 4 (leAt bs 24 4), recordsPrev := leAt bs 28 1,
           records := mirrorRecs 16 ((slice bs 32 64).take (leAt bs 29 1)) }

/-- A heartbeat frame arrives (R372): a good one is used in the next compute phase, a bad or missing one is answered with NAK. -/
def HingeRun.received (r : HingeRun) (payload : List Byte) (crc : Word) (lineOk : Bool) : HingeRun :=
  match (if frameGood 96 payload crc lineOk then heartbeatOf payload else none) with
  | some b => r.upd fun h => { h with next := some b, nakOut := false }
  | none => r.upd fun h => { h with hbCrc := satN (h.hbCrc + 1) 32, nakOut := true }

/-- NAK arrives for the heartbeat sent (R372). -/
def HingeRun.nak (r : HingeRun) : HingeRun := if r.h.sent.isSome then r.upd fun h => { h with nakIn := true } else r

/-- The heartbeat is re-sent at 40.00 µs (R372). -/
def HingeRun.resend (r : HingeRun) : HingeRun :=
  if r.h.sent.isSome && r.h.nakIn && !r.h.resent then r.upd fun h => { h with resent := true, hbResend := satN (h.hbResend + 1) 32 } else r

/-! ## Roles (R370, R386) -/

/-- The role settles (R386). -/
def HingeRun.settle (r : HingeRun) (role : Role) (claimDue : Bool) : HingeRun :=
  (r.upd fun h => { h with role := role, claimDue := claimDue }).event 2 0x4503

/-- The tick number that follows the partner's: its heartbeat of tick T is used in the partner's tick T + 1 (R372, R377). -/
def Hinge.partnerNext (h : Hinge) : Option Tick :=
  if h.silence = 0 && h.heeded then h.partner.map fun b => after b.tick 2 else none

/-- The tick number that follows a stage's, from the lowest reporting witness port (R378). -/
def HingeIn.stageNext (i : HingeIn) : Option Tick := (i.witnesses.head?).map fun p => after p.upTick 1

/-- The pin link is up (R376). -/
def Hinge.up (h : Hinge) : Bool := h.sync && decide (h.silence < 3)

/-- The module settles as STANDBY: it stretches one tick to its partner's marker and takes TICK_COUNT from it, or from
the stages where the pin link is not up (R377, R378). -/
def HingeRun.standby (r : HingeRun) (i : HingeIn) : HingeRun :=
  let r := r.settle .standby false
  { (r.upd fun h => { h with rounds := none, claim := none, stretch := h.phase % 50000 - h.phase % 50000 % 200 }) with
    retick := if r.h.up then r.h.partnerNext else i.stageNext }

/-- A heartbeat that counts for R386: good in the last tick, of the own address and tick (R376), and without FAULT_DECLARED. -/
def Hinge.present (h : Hinge) : Option Heartbeat :=
  if h.silence = 0 && h.heeded then h.partner.bind fun b => if b.fault then none else some b else none

/-- PAIR_WAIT_MS in ticks. -/
def HingeIn.pairWait (i : HingeIn) : Nat := msTicks (i.cfg.n F.pairWaitMs 0)

/-- Row 6 of R386: ALONE, by rounds from this tick. -/
def HingeRun.aloneByRounds (r : HingeRun) (i : HingeIn) : HingeRun :=
  (r.settle .alone false).upd fun h => { h with rounds := some i.now }

/-- The rows of R386 for a module whose role is not settled. DEDUCED (log 49). -/
def HingeRun.settleRows (r : HingeRun) (i : HingeIn) : HingeRun :=
  if !i.pair then r.settle .alone true
  else if i.heldByOther then r.standby i
  else if (r.h.present.map fun b => b.role == 1 || b.role == 2).getD false then r.standby i
  else if 20 ≤ r.h.equalRun then r.settle .active true
  else if i.pairWait ≤ r.h.standbyRun then r.settle .active true
  else if i.pairWait ≤ r.h.quiet then r.aloneByRounds i
  else r

/-- The unit states in which a role settles and levels 1 to 4 run (R79, R386). -/
def operating (st : UnitState) : Bool :=
  st == UnitState.discover || st == UnitState.homing || st == UnitState.run || st == UnitState.maintenance

/-- The PAIR_WAIT_MS rows of R386 with the wait over. -/
def HingeRun.pairWaitOver (r : HingeRun) (i : HingeIn) : HingeRun :=
  if r.h.role != Role.unsettled || !i.pair || !operating i.st then r
  else
    match r.h.present with
    | some b => if b.role = 3 then r.settle .active true else r
    | none => r.aloneByRounds i

/-- R370: the changes between ACTIVE and ALONE. -/
def HingeRun.aloneOrActive (r : HingeRun) (i : HingeIn) : HingeRun :=
  if !i.pair then r
  else if r.h.role == Role.active && (decide (20 ≤ r.h.silence) || decide (20 ≤ r.h.faultRun)) then r.upd fun h => { h with role := .alone }
  else if r.h.role == Role.alone && (r.h.present.map fun b => b.role == 3).getD false then r.upd fun h => { h with role := .active }
  else r

/-! ## Claims, takeover and yielding (R388 to R392) -/

/-- The module claims epoch `e`: lease frames go out on every READY port from this tick (R388). DEDUCED (log 49). -/
def HingeRun.claim (r : HingeRun) (i : HingeIn) (e : BitVec 16) : HingeRun :=
  r.upd fun h => { h with epoch := skipZero e, lease := true, claim := some i.now, claimDue := false }

/-- Bit k of SERIAL (R388). -/
def roundBit (serial : Word) (k : Nat) : Bool := serial.getLsbD (k % 32)

/-- The round in progress (R388). -/
def roundOf (s now : Tick) : Nat := since now s / 80

/-- The claim of round k (R388): epoch m + 1 + bit k. -/
def HingeRun.roundClaim (r : HingeRun) (i : HingeIn) (k : Nat) : HingeRun :=
  r.claim i (i.topEpoch + 1 + (if roundBit i.serial k then 1 else 0))

/-- 3 ticks after a claim of R388: shadow frames again where too few witnesses report it, else the rounds are over. -/
def HingeRun.claimCheck (r : HingeRun) (i : HingeIn) : HingeRun :=
  match r.h.claim with
  | none => r
  | some _ =>
    if r.h.rounds.isSome && decide (i.heldHere r.h.epoch < quorum i.cfg) then r.upd fun h => { h with lease := false, claim := none }
    else r.upd fun h => { h with claim := none, rounds := none }

/-- A claim round begins, or its 40th tick comes (R388): STANDBY by row 2, or the claim. -/
def HingeRun.claimRound (r : HingeRun) (i : HingeIn) (atTick : Nat) : HingeRun :=
  match r.h.rounds with
  | none => r
  | some s =>
    if r.h.lease then r
    else if atTick = 0 && i.heldByOther then r.standby i
    else if roundBit i.serial (roundOf s i.now) == decide (atTick = 0) then r.roundClaim i (roundOf s i.now)
    else r

/-- Claims of the tick (R388). -/
def HingeRun.claims (r : HingeRun) (i : HingeIn) : HingeRun :=
  let r := match r.h.claim with
    | some t => if 3 ≤ since i.now t then r.claimCheck i else r
    | none => r
  if r.h.claimDue && (i.st == UnitState.homing || i.st == UnitState.run || i.st == UnitState.maintenance) then r.claim i (i.topEpoch + 1)
  else
    match r.h.rounds with
    | some s =>
      let off := since i.now s % 80
      if off = 0 then r.claimRound i 0 else if off = 39 then r.claimRound i 39 else r
    | none => r

/-- The module is fit (R382): an ACTIVE or ALONE always is. -/
def Hinge.fit (h : Hinge) : Bool := h.unfit == 0 || h.role == Role.active || h.role == Role.alone

/-- SYNCED (R383). -/
def Hinge.synced (h : Hinge) : Bool :=
  h.role == Role.active || h.role == Role.alone ||
    (h.fit && h.up &&
      match h.lastCycle, h.lastSweep with
      | some (tc, 0), some (ts, 0) =>
        match h.dirty with
        | none => true
        | some t => !reached t tc && !reached t ts
      | _, _ => false)

/-- The takeover (R389): the epoch after E is claimed and the module becomes ACTIVE, or ALONE at once under R370. It adjusts its tick no
more (R377). -/
def HingeRun.takeover (r : HingeRun) (i : HingeIn) (e : BitVec 16) : HingeRun :=
  let synced := r.h.synced
  let r := (r.claim i (e + 1)).upd fun h => { h with role := .active, gone := false, takeoverTick := i.now, stretch := 0, stretchNext := 0, nextTick := none }
  let r := { r with retick := none }
  let r := if synced then r.event 3 0x4504 else r.event 4 0x4505
  r.aloneOrActive i

/-- Whether a takeover applies, with its epoch E (R389). -/
def HingeRun.takeoverEpoch (r : HingeRun) (i : HingeIn) : Option (BitVec 16) :=
  if r.h.role == Role.standby && r.h.fit && operating i.st && (decide (20 ≤ r.h.silence) || r.h.gone) then i.lapsedEpoch else none

/-- The module yields (R391): shadow frames, YIELDING for 20 ticks, STANDBY with SYNCED 0. -/
def HingeRun.yield (r : HingeRun) (i : HingeIn) : HingeRun :=
  (r.upd fun h => { h with role := .standby, lease := false, yielding := 20, claim := none, claimDue := false, rounds := none,
                           lastCycle := none, lastSweep := none, cycleStart := none, sweepStart := none, dirty := some i.now }).event 5 0x4506

/-- Y1: a stage reports a higher EPOCH on any of the module's ports. -/
def HingeRun.y1 (r : HingeRun) (i : HingeIn) : Bool := (fins 32).any fun s => (i.ports[s]).whole && epochHigher (i.ports[s]).epoch r.h.epoch

/-- Y2: a good partner heartbeat carries LEASE_HELD with a higher EPOCH. -/
def HingeRun.y2 (r : HingeRun) : Bool :=
  r.h.silence == 0 && r.h.heeded && (r.h.partner.map fun b => b.lease && epochHigher b.epoch r.h.epoch).getD false

/-- Y3: a held stage has reported FOREIGN_LEASE on 3 consecutive ticks. -/
def HingeRun.y3 (r : HingeRun) : Bool := r.h.foreign.toList.any fun n => decide (3 ≤ n)

/-- R392 second case: the partner could take port `s` over. -/
def HingeRun.y5 (r : HingeRun) (i : HingeIn) (lost : BitVec 32) : Bool :=
  r.h.role == Role.active && i.cfg.n F.portYield 0 == 1 && decide (r.h.recent.length = 3) &&
    (List.range 32).any fun s => lost.getLsbD s && r.h.recent.all fun x => x.1 && x.2.getLsbD s

/-- A cause to yield is there: Y1 to Y3, or Y5 for the ports `lost` (R391). -/
def HingeRun.yieldCause (r : HingeRun) (i : HingeIn) (lost : BitVec 32) : Bool := r.y1 i || r.y2 || r.y3 || r.y5 i lost

/-- The yield rules of a tick in which the ports `lost` were declared lost (R391); a SINGLE module never changes role (R370). -/
def HingeRun.yields (r : HingeRun) (i : HingeIn) (lost : BitVec 32) : Bool := i.pair && r.h.leases i && r.yieldCause i lost

/-- A DOOR_STATE telegram of the own address with ROLE ACTIVE or ALONE (Y4, R391): yield, or PAIR_SPLIT. -/
def HingeRun.doorState (r : HingeRun) (i : HingeIn) : HingeRun :=
  if !r.h.leases i then r
  else if decide (i.heldHere r.h.epoch < quorum i.cfg) || r.yieldCause i 0 then (if i.pair then r.yield i else r)
  else (r.upd fun h => { h with split := true }).event 6 0x4507

/-- Consecutive FOREIGN_LEASE reports of held stages (R391): a tick without a good frame reports none. -/
def HingeRun.countForeign (r : HingeRun) (i : HingeIn) : HingeRun :=
  r.upd fun h =>
    { h with foreign := vmapIdx (fun (s : Nat) (n : Nat) =>
        let p := vget i.ports s .reset
        if p.whole && p.holder && p.foreignLease then min 3 (n + 1) else 0) h.foreign }

/-! ## The heartbeat of a tick (R372 to R377, R383, R384) -/

/-- A heartbeat or record counts against SYNCED from this tick (R383). -/
def HingeRun.soil (r : HingeRun) (i : HingeIn) : HingeRun := r.upd fun h => { h with dirty := some i.now }

/-- The WRITE and COMMAND records of a heartbeat. -/
def Heartbeat.commands (b : Heartbeat) : List MirrorRec :=
  b.records.filter fun x => match x with
    | .write _ _ => true
    | .command _ _ => true
    | .stream _ _ _ => false
    | .request _ _ => false

/-- A STREAM record (R374, R381): acknowledgement at the sender, delivery at the receiver. -/
def Hinge.stream (h : Hinge) (seq ack : Nat) (data : List Byte) : Hinge :=
  let h := match h.flight with
    | some (q, _) => if q = ack then { h with flight := none } else h
    | none => h
  if seq = 0 ∨ seq = h.seqIn then h else { h with seqIn := seq, sweepIn := h.sweepIn ++ data }

/-- REQUEST and STREAM records of a heartbeat (R374, R380). -/
def Hinge.records' (h : Hinge) (b : Heartbeat) : Hinge :=
  b.records.foldl (fun h x => match x with
    | .stream q k d => h.stream q k d
    | .request u n => if h.requests.length < 16 then { h with requests := h.requests ++ [(u, n)] } else h
    | .write _ _ => h
    | .command _ _ => h) h

/-- A tick without a good heartbeat (R376). -/
def HingeRun.silentTick (r : HingeRun) : HingeRun :=
  let r := r.upd fun h => { h with silence := min 0xFFFF (h.silence + 1), goodRun := 0, quiet := h.quiet + 1, equalRun := 0,
                                   standbyRun := 0, hbLost := satN (h.hbLost + 1) 32 }
  if r.h.silence = 20 then (r.upd fun h => { h with linkLost := true }).event 0 0x4501 else r

/-- PINLINK_LOST with the silence count at 20 (R376, R370). -/
def HingeRun.linkDown (r : HingeRun) (i : HingeIn) : HingeRun :=
  if i.sends && !r.h.linkLost && (operating i.st || i.st == UnitState.faultHeld || i.st == UnitState.unconfigured) then
    ((r.upd fun h => { h with silence := max 20 h.silence, goodRun := 0, linkLost := true }).event 0 0x4501).aloneOrActive i
  else r

/-- PINLINK_RESTORED after 20 consecutive good heartbeats (R376). DEDUCED (log 58). -/
def HingeRun.linkBack (r : HingeRun) : HingeRun :=
  if r.h.linkLost then (r.upd fun h => { h with linkLost := false }).event 1 0x4502 else r

/-- A cause of R382 found: the module is unfit from now on. DEDUCED (log 51). -/
def HingeRun.becomeUnfit (r : HingeRun) (k : Nat) : HingeRun :=
  if r.h.unfit.getLsbD k then r else (r.upd fun h => { h with unfit := h.unfit ||| BitVec.ofNat 4 (2 ^ k) }).event 7 0x4508

/-- A heartbeat of the own address and, once the role is settled, of the own tick (R376): it is used in the tick after its own. -/
def HingeIn.heeds (i : HingeIn) (role : Role) (b : Heartbeat) : Bool :=
  decide (b.addr = i.addr) && (role == Role.unsettled || decide (after b.tick 1 = i.now))

/-- A heartbeat that reaches a STANDBY one tick after its own (R384). -/
def HingeIn.tardy (i : HingeIn) (role : Role) (b : Heartbeat) : Bool :=
  decide (b.addr = i.addr) && role == Role.standby && decide (after b.tick 2 = i.now)

/-- What every good heartbeat does, whatever its address and tick: the silence count, TAU and ADDR of R382 (R376, R377). -/
def HingeRun.heard (r : HingeRun) (i : HingeIn) (b : Heartbeat) : HingeRun :=
  let standby := r.h.role == Role.standby
  let r := r.upd fun h => { h with silence := 0, goodRun := min 20 (h.goodRun + 1), tauIn := b.tau, heeded := i.heeds h.role b }
  let r := if r.h.goodRun = 20 then r.linkBack else r
  if standby && decide (b.addr ≠ i.addr) then r.becomeUnfit 0 else r

/-- The runs of ticks of R370 and R386. A heartbeat that is not heeded counts as none, and one with FAULT_DECLARED leaves its
sender absent. -/
def Hinge.countRuns (h : Hinge) (i : HingeIn) (b : Heartbeat) : Hinge :=
  let here := h.heeded && !b.fault
  { h with
    quiet := if here then 0 else h.quiet + 1,
    equalRun := if here && decide (b.role = 0) && decide (i.serial.toNat < b.serial.toNat) then min 20 (h.equalRun + 1) else 0,
    standbyRun := if here && decide (b.role = 3) then h.standbyRun + 1 else 0,
    faultRun := if !h.heeded then h.faultRun else if b.fault then min 20 (h.faultRun + 1) else 0 }

/-- Records of a STANDBY's partner that were lost or come late (R383, R384). -/
def HingeRun.miss (r : HingeRun) (i : HingeIn) (n : Nat) : HingeRun :=
  if n = 0 then r else (r.upd fun h => { h with lateRecords := satN (h.lateRecords + n) 32 }).soil i

/-- A heartbeat that is heeded becomes the partner's last one (R373, R389, R392). -/
def HingeRun.heed (r : HingeRun) (b : Heartbeat) : HingeRun :=
  let r := if b.fault && !((r.h.partner.map (·.fault)).getD false) then r.event 8 0x4509 else r
  r.upd fun h => { h with
    partner := some b,
    gone := if b.fault || b.yielding then true else if b.lease then false else h.gone,
    recent := ((b.health.getLsbD 0 && b.health.getLsbD 1, b.samples) :: h.recent).take 3 }

/-- A good heartbeat is used (R372 to R376, R382, R384, R389). -/
def HingeRun.goodTick (r : HingeRun) (i : HingeIn) (b : Heartbeat) : HingeRun :=
  let was := r.h
  let standby := was.role == Role.standby
  let tardy := i.tardy was.role b
  let r := (r.heard i b).upd fun h => h.countRuns i b
  let r := if r.h.heeded then r.heed b else r.upd fun h => { h with recent := [] }
  if !r.h.heeded && !tardy then r
  else
    let r := if standby && decide (1 ≤ was.silence) then r.miss i b.recordsPrev else r
    let r := if tardy then r.miss i b.commands.length else r
    r.upd fun h => h.records' b

/-- The heartbeat of the tick before is used at the start of the compute phase (R372). Answers the WRITE and COMMAND
records that a STANDBY applies (R384). -/
def HingeRun.heartbeat (r : HingeRun) (i : HingeIn) : HingeRun × List MirrorRec :=
  if !i.sends then (r, [])
  else
    match r.h.next with
    | none => (({ r.silentTick with h := { r.silentTick.h with recent := [] } }).aloneOrActive i, [])
    | some b =>
      let recs := if r.h.role == Role.standby && (i.heeds r.h.role b || i.tardy r.h.role b) then b.commands else []
      (((r.upd fun h => { h with next := none }).goodTick i b).aloneOrActive i, recs)

/-- The median of some values (R378); of an even number, the upper of the two in the middle. DESIGN CHOICE (log 80). -/
def median (xs : List Int) : Int := (xs.mergeSort (fun a b => decide (a ≤ b))).getD (xs.length / 2) 0

/-- 0.20 µs more where the first condition holds, 0.20 µs less where the second does (R377, R378). -/
def tickStep (more less : Bool) : Int := if more then 200 else if less then -200 else 0

/-- The arrivals of the upstream SOF on the module's READY witness ports (R378, R387). -/
def HingeIn.witnessSof (i : HingeIn) (sof : Vector (Option Int) 32) : List Int :=
  (fins 32).filterMap fun k => if isWitness i.cfg k.val && (i.ports[k]).st == PortState.ready then sof[k] else none

/-- How a STANDBY adjusts its next tick while the pin link is not up (R378). -/
def sofStep (sof : List Int) : Int := if sof.isEmpty then 0 else tickStep (decide (1500 < median sof)) (decide (median sof < 500))

/-- Tick alignment (R377, R378). `tau` is the arrival of the partner's TM, where received, and `sof` the arrivals of the
upstream SOF, in ns after the own marker. p is rounded down to 1 ns where it is shown; a STANDBY compares it unrounded.
DESIGN CHOICE (log 80). -/
def HingeRun.align (r : HingeRun) (i : HingeIn) (tau : Option Int) (sof : Vector (Option Int) 32) : HingeRun :=
  let d := tau.getD r.h.tau - r.h.tauIn
  let r := r.upd fun h => { h with tau := tau.getD h.tau, phase := d / 2, stretchNext := 0, alignStages := false }
  if r.h.role != Role.standby then r
  else if r.h.up then r.upd fun h => { h with stretchNext := tickStep (decide (400 < d)) (decide (d < -400)) }
  else
    let r := r.upd fun h => { h with alignStages := true, stretchNext := sofStep (i.witnessSof sof) }
    match i.stageNext with
    | some t => if t = after i.now 1 then r else { r with retick := some t }
    | none => r

/-- The health word (R383). -/
def HingeRun.health (r : HingeRun) (i : HingeIn) : Word :=
  let h := r.h
  let reach := ((fins 32).filter fun s => isWitness i.cfg s.val && (i.ports[s]).st == PortState.ready).length
  let div := (h.lastCycle.map (·.2)).getD 0 + (h.lastSweep.map (·.2)).getD 0
  flag h.fit 0 ||| flag h.synced 1 ||| flag h.up 2 ||| flag (decide (quorum i.cfg ≤ reach)) 3 |||
    flag (i.st == UnitState.run || i.st == UnitState.maintenance) 4 |||
    put i.readyPorts.length 8 8 ||| put (min 255 div) 8 16 ||| put (min 255 h.echoes.length) 8 24

/-- The code of a role (R84). -/
def Role.code : Role → Nat
  | .unsettled => 0
  | .alone => 1
  | .active => 2
  | .standby => 3

/-- The code of a unit state (R84). -/
def UnitState.code : UnitState → Nat
  | .boot => 0
  | .config => 1
  | .discover => 2
  | .homing => 3
  | .run => 4
  | .maintenance => 5
  | .faultHeld => 6
  | .unconfigured => 7

/-- The STREAM record of the next heartbeat (R374): the one in flight again, a new one where sweep data wait, or an
acknowledgement alone. -/
def Hinge.streamOut (h : Hinge) (room : Nat) : MirrorRec × Hinge :=
  match h.flight with
  | some (q, d) => if d.length ≤ room then (.stream q h.seqIn d, h) else (.stream 0 h.seqIn [], h)
  | none =>
    let d := h.sweepOut.take (min 60 room)
    if d.isEmpty then (.stream 0 h.seqIn [], h)
    else
      let q := nextSeq255 h.seqOut
      (.stream q h.seqIn d, { h with flight := some (q, d), seqOut := q, sweepOut := h.sweepOut.drop d.length })

/-- The heartbeat of the tick is built and sent at 30.00 µs, and the slot for the partner's begins (R372, R373). -/
def HingeRun.sendHeartbeat (r : HingeRun) (i : HingeIn) : HingeRun :=
  if !i.sends then r
  else
    let recs := r.h.records.take 4
    let used := (recs.flatMap MirrorRec.bytes).length
    let (st, h) := r.h.streamOut (60 - used)
    let want := if h.role == Role.standby then h.wanted.take ((60 - used - (match st with | .stream _ _ d => d.length | _ => 0)) / 4) else []
    let held := i.st == UnitState.faultHeld || i.st == UnitState.unconfigured
    let b : Heartbeat :=
      { role := if held then 0 else h.role.code, fault := h.declared, yielding := decide (0 < h.yielding), lease := h.leases i,
        state := i.st.code, tick := i.now, epoch := h.heldEpoch, addr := i.addr, serial := i.serial,
        health := ({ r with h := h } : HingeRun).health i,
        samples := packWord ((fins 32).map fun s => (i.ports[s]).good), tau := h.tau, recordsPrev := h.recordsPrev,
        records := recs ++ [st] ++ want.map fun x => MirrorRec.request x.1 x.2 }
    { r with h := { h with sent := some b, nakIn := false, resent := false, nakOut := true, records := h.records.drop 4,
                           recordsPrev := recs.length, wanted := h.wanted.drop want.length, yielding := h.yielding - 1 } }

/-! ## Echo, copies and the sweep (R379 to R383) -/

/-- A failed echo check of the STANDBY: counted, and copies of the port's axes requested (R379). -/
def HingeRun.echoFailed (r : HingeRun) (i : HingeIn) (s : Nat) : HingeRun :=
  (r.upd fun h => { h with
    echoErr := satN (h.echoErr + 1) 32, echoes := (i.now :: h.echoes).take 255,
    wanted := (axesOfPort i.cfg s).foldl (fun w x => if w.contains (1, x.2.val) then w else w ++ [(1, x.2.val)]) h.wanted }).soil i

/-- Failed echo checks older than 20,000 ticks no longer count (R383); a tick that lies so far back that no sweep or copy cycle
in progress began before it is forgotten (R381, R383). -/
def HingeRun.ageEchoes (r : HingeRun) (i : HingeIn) : HingeRun :=
  r.upd fun h => { h with
    echoes := h.echoes.filter fun t => decide (since i.now t < 20000),
    dirty := h.dirty.filter fun t => decide (since i.now t < 2 ^ 31 - 1),
    changed := h.changed.filter fun x => decide (since i.now x.2.2 < 2 ^ 31 - 1) }

/-- The units of the copy cycle in order: axes of a kind, used doorways, UNIT (R380). -/
def copyUnits (c : Cfg) : List (Nat × Nat) :=
  ((List.range 64).filter fun a => c.kind a != 0).map (fun a => (1, a)) ++
    ((List.range 16).filter fun d => c.n F.doorUsed d == 1).map (fun d => (2, d)) ++ [(3, 0)]

/-- The unit's place in the copy cycle: axes 0 to 63, doorways 64 to 79, UNIT 80. -/
def copyPlace (x : Nat × Nat) : Nat := if x.1 = 1 then x.2 else if x.1 = 2 then 64 + x.2 else 80

/-- The payload of a copy frame (R375). -/
def CopyOut.bytes (x : CopyOut) : List Byte :=
  let p := x.state.place
  [2] ++ leBytes 1 p.1 ++ leBytes 1 p.2 ++ [0] ++ leBytes 4 x.tick.toNat ++ (Config.stateLayout x.state).toList

/-- The copy frame as it goes out, with its CRC-32 (R131, R371). -/
def CopyOut.frame (x : CopyOut) : List Byte := frameBytes x.bytes

/-- The unit whose copy goes out next, a REQUEST first, else the next of the cycle (R380). -/
def HingeRun.copyTurn (r : HingeRun) (i : HingeIn) : HingeRun × (Nat × Nat) :=
  match r.h.requests with
  | x :: xs => (r.upd fun h => { h with requests := xs }, x)
  | [] =>
    let us := copyUnits i.cfg
    let x := ((us.find? fun u => decide (r.h.copyPos ≤ copyPlace u)).orElse fun _ => us.head?).getD (3, 0)
    (r.upd fun h => { h with copyPos := if x.1 = 3 then 0 else copyPlace x + 1 }, x)

/-- The ACTIVE sends one copy frame per tick while its partner is STANDBY; `state` gives the state of a unit (R380). -/
def HingeRun.sendCopy (r : HingeRun) (i : HingeIn) (state : Nat × Nat → CopyState) : HingeRun :=
  if r.h.role == Role.active && (r.h.present.map fun b => b.role == 3).getD false then
    (r.copyTurn i).1.upd fun h => { h with copyOut := some ⟨i.now, state (r.copyTurn i).2⟩ }
  else r.upd fun h => { h with copyOut := none }

/-- A copy of a unit has been taken (R380, R383): a difference is counted, and the cycle goes on or ends. -/
def HingeRun.copied (r : HingeRun) (i : HingeIn) (unit inst : Nat) (differs : Bool) : HingeRun :=
  let us := copyUnits i.cfg
  let starts := us.head? == some (unit, inst)
  r.upd fun h =>
    let h := if differs then { h with copyDiff := satN (h.copyDiff + 1) 32 } else h
    let h := if starts then { h with cycleStart := some i.now, cycleAxes := 0, cycleDoors := 0, cycleDiff := 0 } else h
    let h := { h with
      cycleAxes := if unit = 1 then h.cycleAxes ||| BitVec.ofNat 64 (2 ^ inst) else h.cycleAxes,
      cycleDoors := if unit = 2 then h.cycleDoors ||| BitVec.ofNat 16 (2 ^ inst) else h.cycleDoors,
      cycleDiff := if differs then h.cycleDiff + 1 else h.cycleDiff }
    let whole := us.all fun u => if u.1 = 1 then h.cycleAxes.getLsbD u.2 else if u.1 = 2 then h.cycleDoors.getLsbD u.2 else true
    if unit = 3 then
      { h with lastCycle := if whole then h.cycleStart.map fun t => (t, h.cycleDiff) else h.lastCycle, cycleStart := none }
    else h

/-- An axis with the part of it that a copy carries taken from the copy (R375): the planner, homing, loop, observer,
confirmation, evaluation and stepper state; tables, learning, learnt values, counters and event bits are the module's own. DEDUCED (log 51). -/
def Axis.copyFrom (own c : Axis) : Axis :=
  { loop := { c.loop with handovers := own.loop.handovers, satTicks := own.loop.satTicks, fric := own.loop.fric, cog := own.loop.cog,
                          learnt := own.loop.learnt, learn := own.loop.learn, capTick := own.loop.capTick }
    mot := { c.mot with events := own.mot.events, cmd := own.mot.cmd }
    obst := { c.obst with xLearnt := own.obst.xLearnt, centres := own.obst.centres, total := own.obst.total } }

/-- A doorway likewise (R375): state, timers, attempt count, closing sequence and monitoring. DEDUCED (log 51). -/
def Door.copyFrom (own c : Door) : Door :=
  { c with events := own.events, closeCount := own.closeCount, holdIgnored := own.holdIgnored,
           clo := { c.clo with events := own.clo.events } }

/-- A sweep unit being collected: KIND, INSTANCE, capture tick and data (R381). -/
structure SweepUnit where
  /-- KIND. -/
  kind : Nat
  /-- INSTANCE. -/
  inst : Nat
  /-- Capture tick. -/
  tick : Tick
  /-- Data. -/
  data : List Byte
  deriving DecidableEq, Repr

/-- The bytes of a sweep unit (R381). -/
def SweepUnit.bytes (u : SweepUnit) : List Byte :=
  leBytes 1 u.kind ++ leBytes 1 u.inst ++ leBytes 2 u.data.length ++ leBytes 4 u.tick.toNat ++ u.data

/-- The order of a sweep: IDENT, the sections, LEARNT of every FORCE axis, END (R381). -/
def sweepOrder (c : Cfg) : List (Nat × Nat) :=
  (0, 0) :: ([1, 3, 4, 5, 6, 7, 8].map fun s => (1, s)) ++ ((List.range 64).filter fun a => c.kind a == 1).map (fun a => (2, a)) ++ [(3, 0)]

/-- A complete unit at the front of the bytes received, and the rest. LENGTH is taken as the receiver's own length of
the unit where it agrees with it modulo 65,536. DESIGN CHOICE (log 50). -/
def takeSweep (ownLen : Nat → Nat → Nat) (bs : List Byte) : Option (SweepUnit × List Byte) :=
  if bs.length < 8 then none
  else
    let kind := leAt bs 0 1
    let inst := leAt bs 1 1
    let len := if ownLen kind inst % 65536 = leAt bs 2 2 then ownLen kind inst else leAt bs 2 2
    if bs.length < 8 + len then none
    else some (⟨kind, inst, BitVec.ofNat 32 (leAt bs 4 4), slice bs 8 len⟩, bs.drop (8 + len))

/-- The comparison of a unit is skipped: it has been changed here since the capture tick (R381). -/
def Hinge.skips (h : Hinge) (u : SweepUnit) : Bool := h.changed.any fun x => x.1 == u.kind && x.2.1 == u.inst && reached x.2.2 u.tick

/-- A sweep unit changed by a mirrored record or by learning in this tick (R381). -/
def Hinge.touch (h : Hinge) (kind inst : Nat) (now : Tick) : Hinge :=
  { h with changed := (kind, inst, now) :: h.changed.filter fun x => !(x.1 == kind && x.2.1 == inst) }

/-- The outcome of a sweep unit (R381, R383): values loaded or not. -/
def HingeRun.swept (r : HingeRun) (u : SweepUnit) (loaded : Bool) : HingeRun :=
  let r := if u.kind = 0 then r.upd fun h => { h with sweepStart := some u.tick, sweepDiff := 0 } else r
  let r := if loaded then r.upd fun h => { h with copyDiff := satN (h.copyDiff + 1) 32, sweepDiff := h.sweepDiff + 1 } else r
  if u.kind = 3 then
    r.upd fun h => { h with lastSweep := (h.sweepStart.map fun t => (t, h.sweepDiff)).orElse fun _ => h.lastSweep, sweepStart := none }
  else r

/-- The items of field `f` in a section's canonical encoding, and the bytes after the field; none where its head or
length is another. -/
def fieldIn (c : Cfg) (f : Nat) (bs : List Byte) : Option (List Byte × List Byte) :=
  let own := fieldEncoding c f
  if own.take 6 = bs.take 6 ∧ own.length ≤ bs.length then some ((bs.take own.length).drop 6, bs.drop own.length) else none

/-- The items of a field that differ from the values that a SECTION unit carries: field, item and value carried. -/
def differing (c : Cfg) (f : Nat) (d : FieldDef) (raw : List Byte) : List (Nat × Nat × Int) :=
  ((readItems d (d.inst * d.items) raw).zipIdx.filter fun x => c.v f x.2 != x.1).map fun x => (f, x.2, x.1)

/-- A SECTION unit against the module's own values (R381): the runtime-writable values that differ, and whether another difference was found. -/
def compareRows (sec : Nat) (c : Cfg) : List FieldDef → Nat → List Byte → List (Nat × Nat × Int) × Bool
  | [], _, bs => ([], !bs.isEmpty)
  | d :: ds, f, bs =>
    if d.sec ≠ sec then compareRows sec c ds (f + 1) bs
    else
      match fieldIn c f bs with
      | none => ([], true)
      | some (raw, rest) =>
        let r := compareRows sec c ds (f + 1) rest
        if raw = (fieldEncoding c f).drop 6 then r
        else if d.runtime then (differing c f d raw ++ r.1, r.2)
        else (r.1, true)

/-- A SECTION unit compared (R381). -/
def compareSection (c : Cfg) (s : Nat) (data : List Byte) : List (Nat × Nat × Int) × Bool :=
  if data.take 3 = (sectionEncoding c s).take 3 then compareRows s c catalogue 0 (data.drop 3) else ([], true)

end Sys2Proof.Machine
end

