-- ==== Sys2Proof/Machine/State.lean ====
section
/-! DEFINITION. The state of the block, its value at the start of BOOT, and the reasons for which a step stops. -/

namespace Sys2Proof.Machine

/-- Why a step may fault. No meaning of this model faults: every command has the effect the spec gives it. -/
inductive Fault where
  /-- Raised by nobody: kept so that the type has a value. Safe. -/
  | none
  deriving DecidableEq, Repr

/-- Why a step may be refused. -/
inductive Refusal where
  /-- Raised by the arm of a command that has no meaning yet. Safe: nothing can be proved of such a step. -/
  | notModelled (mnemonic : String)
  deriving DecidableEq, Repr

/-- The module as the last completed tick left it: what a host reads of level 0 and of the loop windows, and what a clearing read
returns and clears (R16, R58, R60). -/
structure Shown where
  /-- Unit status. -/
  unit : UnitSt
  /-- Pins, supply and front panel. -/
  panel : Panel
  /-- The configuration in use. -/
  eff : Cfg
  /-- K0 to K31. -/
  ports : Vector Port 32
  /-- AX0 to AX63. -/
  axes : Vector Axis 64
  /-- DW0 to DW15. -/
  doors : Vector Door 16
  /-- BOLT, pairs, release, safe telegrams. -/
  il : Interlock
  /-- Field I/O. -/
  io : FieldIo
  /-- CAN A and CAN B. -/
  can : Vector Can 2
  /-- Hinge pair. -/
  hinge : Hinge
  /-- Cycle recorder. -/
  recorder : Rec
  /-- Memory integrity. -/
  mem : Mem
  /-- Sessions. -/
  kw : Keyway
  /-- Network and census. -/
  net : Net
  /-- The axes as the loop windows captured them at 28.00 µs of the last tick whose compute phase finished (R60). -/
  window : Vector Axis 64
  deriving DecidableEq, Repr

/-- The module before its first tick is complete. -/
def Shown.reset : Shown :=
  { unit := .reset, panel := .reset, eff := CfgSt.reset.eff, ports := Vector.replicate 32 .reset, axes := Vector.replicate 64 .reset,
    doors := Vector.replicate 16 .reset, il := .reset, io := .reset, can := Vector.replicate 2 .reset, hinge := .reset,
    recorder := .reset, mem := .reset, kw := .reset, net := .reset,
    window := Vector.replicate 64 .reset }

/-- The module with the queue of the commands that wait for it. -/
structure State where
  /-- TICK_COUNT: number N of the tick in progress (32 bits, R64, reset 0). -/
  tick : Tick
  /-- Ticks since the start, not wrapped (R64, reset 0). -/
  up : Nat
  /-- Unit status. -/
  unit : UnitSt
  /-- Pins, supply and front panel. -/
  panel : Panel
  /-- Configuration. -/
  cfg : CfgSt
  /-- K0 to K31. -/
  ports : Vector Port 32
  /-- AX0 to AX63. -/
  axes : Vector Axis 64
  /-- Trace. -/
  trace : TraceSt
  /-- DW0 to DW15. -/
  doors : Vector Door 16
  /-- BOLT, pairs, release, safe telegrams. -/
  il : Interlock
  /-- Field I/O. -/
  io : FieldIo
  /-- CAN A and CAN B. -/
  can : Vector Can 2
  /-- Hinge pair. -/
  hinge : Hinge
  /-- Cycle recorder. -/
  recorder : Rec
  /-- Memory integrity and host scratch. -/
  mem : Mem
  /-- Sessions, claims, staging. -/
  kw : Keyway
  /-- Secure element. -/
  se : SecureEl
  /-- NOR flash. -/
  fw : Firmware
  /-- Ethernet, addresses, census. -/
  net : Net
  /-- Ports declared lost in the tick in progress (32 bits, R391, reset 0). -/
  lostNow : BitVec 32
  /-- The module as the last completed tick left it (R16, R58, R60). -/
  shown : Shown
  /-- W1C bits that hardware has set in the tick in progress: register address and bit (R16, reset none). -/
  setNow : List (Nat × Nat)
  /-- Values taken in the tick in progress, between two compute phases, by registers that hold the largest or smallest value: register
  address and value (R16, reset none). -/
  taken : List (Nat × Nat)
  /-- The model's own counter of free values drawn (reset DESIGN CHOICE 0, log 2). -/
  free : Nat
  /-- Commands that wait, first in, first out (the model's own queue, reset empty). -/
  pending : List Instr
  deriving DecidableEq, Repr

/-- The module at the start of BOOT. DESIGN CHOICE (log 3). -/
def State.reset : State :=
  { tick := 0, up := 0, unit := .reset, panel := .reset, cfg := .reset, ports := Vector.replicate 32 .reset,
    axes := Vector.replicate 64 .reset, trace := .reset, doors := Vector.replicate 16 .reset, il := .reset, io := .reset,
    can := Vector.replicate 2 .reset, hinge := .reset, recorder := .reset, mem := .reset, kw := .reset, se := .reset,
    fw := .reset, net := .reset, lostNow := 0, shown := .reset, setNow := [], taken := [], free := 0, pending := [] }

end Sys2Proof.Machine
end

