-- ==== Sys2Proof/Machine/Ops.lean ====
section
/-! DEFINITION. Operations over the whole state that the commands share: raising a code (R22, R464, R477), the pieces of
state that a unit's operation sees, and entering a held state (R81, R485). -/

namespace Sys2Proof.Machine

/-! ## Raising a code -/

/-- What the recorder sees of the module (R402). -/
def State.recIn (s : State) : RecIn :=
  { now := s.tick, up := s.up, addr := if s.panel.addrValid then s.panel.pinsUsed.toNat % 512 else 0xFFFF,
    standby := s.hinge.role == Role.standby, power := s.se.powerCycle, serial := s.se.serial, erase := s.se.eraseCount,
    flush := s.panel.holdup || !s.unit.running && s.unit.cause == StartCause.reset }

/-- The recorder runs; answers the codes it raises, newest first. -/
def State.runRec (s : State) (f : RecRun → RecRun) : State × List Raised :=
  let r := f ⟨s.recorder, []⟩
  ({ s with recorder := r.rc }, r.ev)

/-- A subscription list names the code for the instance (R463). -/
def Session.wants (x : Session) (code : Code) (inst : Nat) : Bool :=
  x.subs.any fun e => e.1 == code && (e.2 == 0xFF || e.2 == inst)

/-- An event reaches a queue (R464): the 257th is dropped and counted. -/
def Session.push (x : Session) (tick : Tick) (e : Raised) : Session :=
  if 256 ≤ x.queue.length then { x with drops := satN (x.drops + 1) 32, dropTotal := satN (x.dropTotal + 1) 16 }
  else
    { x with queue := x.queue ++ [⟨x.nextSeq, e.code, e.inst, decide (0 < x.drops), tick, e.detail, x.drops⟩],
             nextSeq := (x.nextSeq + 1) % 2 ^ 32, drops := 0 }

/-- An event reaches every queue whose list matches it, CLAIM_LOST none this way (R464). -/
def State.queueEvent (s : State) (e : Raised) : State :=
  { s with kw := { s.kw with sess := vmap (fun o : Option Session => o.map fun x =>
      if e.code != 0x4804 && x.wants e.code e.inst then x.push s.tick e else x) s.kw.sess } }

/-- The trace sees a code that matches its trigger (R189). DEDUCED (log 62). -/
def State.traceSee (s : State) (e : Raised) : State :=
  let w := s.cfg.eff.n F.traceTrigCode 0
  if s.cfg.eff.n F.traceTrig 0 % 4 == 1 && w % 65536 == e.code.toNat && (w / 65536 % 256 == 0xFF || w / 65536 % 256 == e.inst) then
    { s with trace := { s.trace with hit := true } }
  else s

/-- The event registers whose bits carry codes (R228, R255, R284, R320, R344, R365, R395, R430, R447, R474): address of instance 0, step from one
instance to the next, and the codes of bits 0, 1 and so on. Those of outputs are numbered by R261. -/
def eventTable : List (Nat × Nat × List Code) :=
  [(0x20028, 0, [0x4501, 0x4502, 0x4503, 0x4504, 0x4505, 0x4506, 0x4507, 0x4508, 0x4509]),
   (0x30008, 0, [0x4201, 0x4202, 0x4203, 0x4204, 0x4205, 0x4206]),
   (0x30424, 0, [0x420A, 0x420B, 0x420C, 0x420D, 0x4208]),
   (0x3C00C, 0x20, [0x3010, 0x3011, 0x3012]),
   (0x40020, 0x1000, [0x4401, 0x4402, 0x4403, 0x4404, 0x4405, 0x4406, 0x4407, 0x4408]),
   (0x51024, 0, [0x0010, 0x0011, 0x0012, 0x0013, 0x0014, 0x4105]),
   (0x7004C, 0, [0x4601, 0x4602, 0x4603, 0x4604, 0x4605, 0x4606, 0x4607, 0x4608, 0x4609, 0x460A]),
   (0x80038, 0, [0x4701, 0x4702, 0x4703, 0x4704, 0x4705, 0x4706, 0x4707]),
   (0x90008, 0, [0x4801, 0x4802, 0x4803, 0x4805, 0x4806, 0x4807, 0x4808, 0x4809]),
   (0x100014, 0x1000, [0x3001, 0x3003, 0x3004, 0x3005, 0x3006, 0x3007, 0x3008, 0x3009, 0x300A, 0x300B, 0x3002]),
   (0x200028, 0x1000, [0x2007, 0x2005, 0x2006, 0x2004, 0x2002, 0x2008, 0x2009, 0x200A, 0x200B, 0x2003])]

/-- The W1C bits of codes of one output in the numbering of R261 (R344). -/
def outputTable (out : Nat) : Nat × List Code :=
  if out < 16 then (0x60018 + 0x20 * out, [0x4301, 0x4305, 0x4306, 0x4307, 0x4302, 0x4304, 0x4303, 0x4308, 0x4309])
  else (0x50014 + 0x20 * (out - 16), [0x4301, 0x4302, 0x4303, 0x4304, 0x0020])

/-- The W1C bits that a code sets: register address and bit. -/
def Raised.places (e : Raised) : List (Nat × Nat) :=
  let k := if e.inst = 0xFF then 0 else e.inst
  let at' := fun (addr : Nat) (cs : List Code) => ((cs.findIdx? (· == e.code)).map fun b => (addr, b)).toList
  match e.code.toNat with
  | 0x4207 => [(0x30048, k)]
  | 0x0020 => [(0x50014 + 0x20 * k, 4)]
  | 0x0021 => [(0x58040, 2)]
  | 0x0022 => [(0x58040, 1)]
  | 0x4007 => [(0x114, 3)]
  | 0x400C => [(0x100, 11)]
  | 0x4010 => [(0x104, 17)]
  | 0x4706 => [(0x80038, 5), (0x80040, e.detail.toNat)]
  | n =>
    if 0x4301 ≤ n ∧ n ≤ 0x4309 then at' (outputTable k).1 (outputTable k).2
    else eventTable.flatMap fun x => at' (x.1 + x.2.1 * k) x.2.2

/-- Hardware sets the W1C bits of a code in the tick in progress (R16). -/
def State.noteSet (s : State) (e : Raised) : State := { s with setNow := e.places ++ s.setNow }

/-- A register that holds an extreme takes a value in the tick in progress, between two compute phases (R16). -/
def State.noteTaken (s : State) (addr v : Nat) : State := { s with taken := (addr, v) :: s.taken }

/-- One code is recorded, queued and shown to the trace; answers the codes that the recorder raises in turn, oldest first. DEDUCED (log 43). -/
def State.raiseOne (s : State) (e : Raised) : State × List Raised :=
  let x := s.runRec fun r => r.addEvent s.recIn e
  (((x.1.queueEvent e).traceSee e).noteSet e, x.2.reverse)

/-- Codes in the order in which they are raised. `depth` bounds how often recording raises a further code: a record may
fill a page, and a page may fill the log, no more. -/
def State.raiseAll (s : State) : Nat → List Raised → State
  | 0, _ => s
  | depth + 1, es => es.foldl (fun s e => (s.raiseOne e).1.raiseAll depth (s.raiseOne e).2) s

/-- The codes of a unit's operation, newest first. -/
@[irreducible] def State.deliver (s : State) (ev : List Raised) : State := s.raiseAll 4 ev.reverse

/-- The codes of an operation, but for the unit-level ones of order 1: FIELD_INVALID and PAIR_DISCREPANCY, which are applied after
every doorway-level event of that order (R72, R73); they are answered, newest first. -/
def State.deliverBut (s : State) (ev : List Raised) : State × List Raised :=
  let late := fun e : Raised => e.code == 0x0011 || e.code == 0x4207
  (s.deliver (ev.filter (!late ·)), ev.filter late)

/-- One code is raised. -/
@[irreducible] def State.raise (s : State) (code : Code) (inst : Nat) (detail : Word) : State := s.raiseAll 4 [⟨code, inst, detail⟩]

/-- The recorder runs, and what it raises is delivered. -/
def State.onRec (s : State) (f : RecRun → RecIn → RecRun) : State :=
  let x := s.runRec fun r => f r s.recIn
  x.1.deliver x.2

/-- A security record (R410). -/
def State.security (s : State) (code : Code) (detail : Nat) (data : List Byte) : State :=
  s.onRec fun r i => r.add i (i.securityBody code 0xFF detail data)

/-- A code of KW_EVENTS is raised with its bit and its security record (R453, R458, R460, R462, R474). DEDUCED (log 29). -/
def State.kwEvent (s : State) (k : Nat) (code : Code) (detail : Word) (data : List Byte) : State :=
  let s := { s with kw := { s.kw with events := s.kw.events ||| BitVec.ofNat 32 (2 ^ k) } }
  (s.security code detail.toNat data).raise code 0xFF detail

/-- A fresh free value. DESIGN CHOICE (log 2). -/
def State.draw (s : State) : Word × State := (Config.freeValue s.free, { s with free := s.free + 1 })

/-! ## The last completed tick (R16, R58, R60) -/

/-- What is shown of a tick that is complete. -/
def State.toShown (s : State) : Shown :=
  { unit := s.unit, panel := s.panel, eff := s.cfg.eff, ports := s.ports, axes := s.axes, doors := s.doors, il := s.il, io := s.io,
    can := s.can, hinge := s.hinge, recorder := s.recorder, mem := s.mem, kw := s.kw, net := s.net, window := s.shown.window }

/-- The module as the last completed tick left it. DEDUCED (log 12). -/
def State.atTick (s : State) : State :=
  let b := s.shown
  { s with unit := b.unit, panel := b.panel, cfg := { s.cfg with eff := b.eff }, ports := b.ports, axes := b.axes, doors := b.doors, il := b.il,
           io := b.io, can := b.can, hinge := b.hinge, recorder := b.recorder, mem := b.mem, kw := b.kw, net := b.net }

/-- The module as a loop window shows it: one capture for all axes (R60). -/
def State.atCapture (s : State) : State := { s.atTick with axes := s.shown.window }

/-- The loop windows are captured (R60). -/
def State.captureWindow (s : State) : State :=
  let axes := vmap (fun (x : Axis) => { x with loop := { x.loop with capTick := s.tick } }) s.axes
  { s with axes := axes, shown := { s.shown with window := axes } }

/-- A tick is complete (R58). DEDUCED (log 12). -/
def State.keepTick (s : State) : State := { s with shown := s.toShown, setNow := [], taken := [] }

/-- A host's clearing acts on the module and on what is shown of it, each from what it held (R16). -/
def State.clearBoth (s : State) (live shown : State → State) : State := { live s with shown := (shown s.atTick).toShown }

/-! ## Unit facts -/

/-- The unit address number (R35). DEDUCED (log 64). -/
def State.addr (s : State) : Nat := s.panel.pinsUsed.toNat % 512

/-- TM and frames are sent (R129). -/
def State.sending (s : State) : Bool := operating s.unit.st

/-- The unit is in FAULT_HELD or UNCONFIGURED (R81). -/
def State.held (s : State) : Bool := s.unit.st == UnitState.faultHeld || s.unit.st == UnitState.unconfigured

/-- Runtime state RUN or MAINTENANCE (R114). -/
def State.runs (s : State) : Bool := s.unit.st == UnitState.run || s.unit.st == UnitState.maintenance

/-- The boot ROM's recovery service serves the session (R81). -/
def State.recovery (s : State) : Bool := s.unit.st == UnitState.faultHeld && s.unit.holdCode == 0x4002

/-- The module is STANDBY. -/
def State.standby (s : State) : Bool := s.hinge.role == Role.standby

/-- A STANDBY or a module whose role is not settled, in the states of R369. -/
def State.passive (s : State) : Bool := operating s.unit.st && (s.standby || s.hinge.role == Role.unsettled)

/-- Debounced ward switch k, 1 to 12, is ON (R40). -/
def State.ward (s : State) (k : Nat) : Bool := s.panel.ward.getLsbD (k - 1)

/-- Levels 1 to 4 are computed: the unit is operating and its role is settled (R160, R368). -/
def State.computes (s : State) : Bool := operating s.unit.st && s.hinge.role != Role.unsettled

/-- The unit enters a state (R79): its first tick is `t`. HOMING has its homing to start (R368). -/
def State.enter (s : State) (st : UnitState) (t : Tick) : State :=
  { s with unit := { s.unit with st := st, entryTick := t, homingDue := st == UnitState.homing } }

/-! ## A unit's operation on its part of the state -/

/-- What an operation on a port sees. -/
def State.linkIn (s : State) (k : PortId) : LinkIn := ⟨s.tick, k.val, s.cfg.eff, s.sending, s.hinge.lease⟩

/-- An axis that loses its homing. -/
def Axis.unhome (x : Axis) : Axis := { x with mot := { x.mot with home := { x.mot.home with homed := false } } }

/-- A lost port has come back to READY with another stage, or with one that has not kept every position, or goes to MISMATCH (R143). -/
def Port.unhomes (was p : Port) : Bool :=
  was.st == PortState.lost &&
    (p.st == PortState.mismatch || p.st == PortState.ready && !(decide (was.readySerial = p.serial) && p.retained))

/-- An operation on a port. A port that it declares lost is marked for the yield rules (R391); one that it restores with its
positions lost leaves its axes unhomed (R143). -/
def State.onPort (s : State) (k : PortId) (f : LinkRun → LinkIn → LinkRun) : State :=
  let was := s.ports[k]
  let r := f ⟨was, []⟩ (s.linkIn k)
  let lost := r.p.st == PortState.lost && was.st != PortState.lost
  let axes := if Port.unhomes was r.p then
      vmapIdx (fun (a : Nat) (x : Axis) => if s.cfg.eff.portOf a == some k.val then x.unhome else x) s.axes
    else s.axes
  let s := { s with ports := s.ports.set k r.p, axes := axes, lostNow := if lost then s.lostNow ||| (1#32 <<< k.val) else s.lostNow }
  s.deliver r.ev

/-- What an operation of the hinge sees. -/
def State.hingeIn (s : State) : HingeIn := ⟨s.tick, s.cfg.eff, s.ports, s.unit.st, s.se.serial, s.addr, s.cfg.loaded⟩

/-- An operation of the hinge; a new tick number is taken at the end of the tick. -/
def State.onHinge (s : State) (f : HingeRun → HingeIn → HingeRun) : State :=
  let r := f ⟨s.hinge, [], none⟩ s.hingeIn
  State.deliver { s with hinge := { r.h with nextTick := r.retick.orElse fun _ => r.h.nextTick } } r.ev

/-- An operation of field I/O. -/
def State.onIo (s : State) (f : IoRun → IoRun) : State :=
  let r := f ⟨s.io, []⟩
  State.deliver { s with io := r.io } r.ev

/-- An operation of the interlock. -/
def State.onLock (s : State) (f : LockRun → LockRun) : State :=
  let r := f ⟨s.il, []⟩
  State.deliver { s with il := r.il } r.ev

/-- An operation of a CAN controller. -/
def State.onCan (s : State) (b : BusId) (f : CanRun → CanRun) : State :=
  let r := f ⟨s.can[b], []⟩
  State.deliver { s with can := s.can.set b r.can } r.ev

/-- An operation of memory integrity. -/
def State.onMem (s : State) (f : MemRun → MemRun) : State :=
  let r := f ⟨s.mem, []⟩
  State.deliver { s with mem := r.m } r.ev

/-- A byte parity error in the buffer of MEM_PARITY_SRC bit `src` (R443). -/
def State.parityError (s : State) (src : Nat) : State := s.onMem fun r => r.bufParity src

/-! ## Axes and doorways -/

/-- The readings of all field channels, and which are valid (R325). -/
def State.readings (s : State) : BitVec 64 × BitVec 64 := s.io.readings s.cfg.eff

/-- An input that names a doorway input, as channel A reads it (R260); a pair whose sample's entry fails its parity reads invalid (R443). -/
def State.input (s : State) (name : Nat) : Bool × Bool :=
  inputReads s.il false s.readings.1 s.readings.2 (!s.io.sup.invalid && !s.io.bad.getLsbD 68) name

/-- The sample of an input channel, where it was sensed in this tick with a valid reading (R212, R325). -/
def State.sensedInput (s : State) (name : Nat) : Option Bool :=
  match finOf 64 name with
  | none => none
  | some ch =>
    if (s.io.ch[ch]).sensed && (s.io.ch[ch]).senseTick == s.tick && chanValid s.cfg.eff s.io ch then some (s.io.ch[ch]).value else none

/-- The latched count of a counter channel, where valid, as a signed number. DEDUCED (log 35). -/
def State.count (s : State) (ch : Nat) (pulseDir : Bool) : Option (BitVec 32) :=
  match finOf 64 ch with
  | none => none
  | some k => if countValid s.cfg.eff s.io ch pulseDir then some (s.io.ch[k]).latched else none

/-- The master position of a geared axis with 44 fractional bits (R217, R219). -/
def State.gearMaster (s : State) (a : Nat) : Option Int :=
  let c := s.cfg.eff
  let g := c.n F.gearMaster a
  if c.n F.gearSource a = 1 then
    match finOf 64 g with
    | none => none
    | some b =>
      let lost := match (c.portOf g).bind (finOf 32) with
        | some k => (s.ports[k]).st == PortState.lost
        | none => true
      if (s.axes[b]).mot.driven && !lost then some ((s.axes[b]).mot.xRef * 2 ^ 44) else none
  else if c.n F.gearSource a = 2 then (s.count g false).map fun n => n.toInt * c.v F.gearCntScale a * 2 ^ 24
  else none

/-- The followed input of an axis (R220). -/
def State.followInput (s : State) (a : Nat) : Option Int :=
  let c := s.cfg.eff
  if c.n F.followSource a = 1 then
    match finOf 4 (c.n F.followInput a) with
    | none => none
    | some n => if (s.io.an[n]).valid then some ((s.io.an[n]).code.toNat : Int) else none
  else if c.n F.followSource a = 2 then (s.count (c.n F.followInput a) false).map BitVec.toInt
  else none

/-- The axis is a leaf of a used doorway (R244). -/
def State.isLeaf (s : State) (a : Nat) : Bool :=
  match doorOfAxis s.cfg.eff a with
  | none => false
  | some x => decide (x.2 < 2)

/-- The axis is a leaf of a monitored doorway (R251). -/
def State.monitoredLeaf (s : State) (a : Nat) : Bool :=
  match doorOfAxis s.cfg.eff a with
  | none => false
  | some (d, k) => decide (k < 2) && ((finOf 16 d).map fun d => (s.doors[d]).clo.monitor).getD false

/-- What the compute phase sees of an axis. -/
def State.axIn (s : State) (a : AxisId) : AxIn :=
  let c := s.cfg.eff
  let port := (c.portOf a.val).bind (finOf 32)
  let p : Port := match port with
    | some k => s.ports[k]
    | none => .reset
  let ch := ((c.chanOf a.val).getD 0) % 2
  let isReady := port.isSome && p.st == PortState.ready
  { now := s.tick, a := a.val, ready := isReady, good := isReady && p.good, smp := vget p.smp ch .reset, lsb := p.lsb ch,
    hasIndex := p.caps.testBit (2 + ch),
    unitDrives := s.unit.st == UnitState.homing || s.unit.st == UnitState.run || s.unit.st == UnitState.maintenance,
    homeIn := s.sensedInput (c.n F.homeInput a.val), limNegIn := s.sensedInput (c.n F.limitNegInput a.val),
    limPosIn := s.sensedInput (c.n F.limitPosInput a.val), master := s.gearMaster a.val, followIn := s.followInput a.val,
    leaf := s.isLeaf a.val, monitored := s.monitoredLeaf a.val,
    pulse := if c.kind a.val = 2 && c.n F.stepSource a.val == 1 then s.count (c.n F.stepPulseCh a.val) true else none,
    housing := s.panel.housingT.toInt, stageTemp := p.temp.toInt, cfg := c }

/-- An operation on one axis. -/
def State.onAxis (s : State) (a : AxisId) (f : AxRun → AxIn → AxRun) : State :=
  let r := f ⟨s.axes[a], []⟩ (s.axIn a)
  State.deliver { s with axes := s.axes.set a r.ax } (r.ev.map fun e => ⟨e.1, a.val, e.2⟩)

/-- The inputs of a doorway as it reads them now: active and valid, in the order of DWn_INPUTS (R260, R284). -/
def State.doorInputs (s : State) (d : Nat) : BitVec 7 × BitVec 7 :=
  let c := s.cfg.eff
  let rs := [F.closedInput, F.lockedInput, F.isolatedInput, F.isoLockedInput, F.egressPair, F.buttonIn, F.buttonOut].map
    fun f => s.input (c.n f d)
  ((packBools (rs.map (·.1))).setWidth 7, (packBools (rs.map (·.2))).setWidth 7)

/-- What an operation on a doorway sees: inputs as given. -/
def State.doorInWith (s : State) (d : DoorId) (inputs : BitVec 7 × BitVec 7) (stalled armed : BitVec 64) : DoorIn :=
  let c := s.cfg.eff
  { now := s.tick, d := d.val, cfg := c,
    ready := packWord ((fins 32).map fun k => (s.ports[k]).st == PortState.ready),
    good := (fins 64).foldl (fun (m : BitVec 64) a => if (s.axIn a).good then m ||| (1#64 <<< a.val) else m) 0,
    stalled := stalled, armed := armed, active := inputs.1, valid := inputs.2,
    side := s.il.release.getLsbD (c.n F.doorSide d.val), zero := s.il.release.getLsbD 2, homeable := s.runs }

/-- What an operation on a doorway sees between compute phases: the inputs as the sequencer last read them. -/
def State.doorIn (s : State) (d : DoorId) : DoorIn :=
  s.doorInWith d ((s.doors[d]).active, (s.doors[d]).valid) 0
    ((fins 64).foldl (fun (m : BitVec 64) a => if (s.axes[a]).obst.armed then m ||| (1#64 <<< a.val) else m) 0)

/-- A doorway operation with what it sees; the doorway's cycle follows it. -/
def State.runDoor (s : State) (d : DoorId) (i : DoorIn) (f : DoorRun → DoorIn → DoorRun) : State :=
  let r := f ⟨s.doors[d], s.axes, []⟩ i
  let c := (s.recorder.cycles[d]).follow i s.doors[d] r.door r.ev (s.recorder.opTime s.up)
  State.deliver { s with doors := s.doors.set d r.door, axes := r.axes,
                         recorder := { s.recorder with cycles := s.recorder.cycles.set d c } } r.ev

/-- An operation on a used doorway while levels 2 to 4 are computed. -/
def State.onDoor (s : State) (d : DoorId) (f : DoorRun → DoorIn → DoorRun) : State :=
  if s.cfg.eff.n F.doorUsed d.val = 1 && s.computes then s.runDoor d (s.doorIn d) f else s

/-- A command of a host for a doorway, which an unused one refuses as an unhomed one does (R257, R263). -/
def State.onDoorCmd (s : State) (d : DoorId) (f : DoorRun → DoorIn → DoorRun) : State :=
  if s.computes then s.runDoor d (s.doorIn d) f else s

/-- The same operation on every doorway that satisfies a condition, in ascending order (R73). -/
def State.onDoors (s : State) (p : DoorId → Bool) (f : DoorRun → DoorIn → DoorRun) : State :=
  (fins 16).foldl (fun s d => if p d then s.onDoor d f else s) s

/-- An axis of the doorway is carried by the port. -/
def doorOnPort (c : Cfg) (d : Nat) (k : PortId) : Bool := (axesOf c d).any fun a => c.portOf a.val == some k.val

/-- Every doorway with an axis on a port that is lost is told so (R266, R279). -/
def State.doorsLose (s : State) (k : PortId) : State :=
  s.onDoors (fun d => doorOnPort s.cfg.eff d.val k) fun r i => r.linkLost i

/-- A port operation between compute phases: a loss that it declares reaches the doorways at once. -/
def State.portEvent (s : State) (k : PortId) (f : LinkRun → LinkIn → LinkRun) : State :=
  let was := (s.ports[k]).st
  let s := s.onPort k f
  if was != PortState.lost && (s.ports[k]).st == PortState.lost then s.doorsLose k else s

/-! ## Held states (R81, R485) -/

/-- An axis when levels 1 to 4 stop: not driven, MODE OFF. -/
def Axis.stop (x : Axis) : Axis :=
  { x with loop := x.loop.disengage
           mot := { x.mot with want := false, driven := false, source := .off, phase := .idle, qstop := false, reaction := .none, stopEnd := false,
                               braking := false, qbrake := false, jog := false, follow := false, wait := none, held := false, vp := 0, vRef := 0,
                               aRef := 0, cmd := .off, home := { x.mot.home with phase := .none } }
           obst := { x.obst with armed := false, count := 0, marked := false, confirmed := false } }

/-- What every held state does on entry (R81, R373): no role, no lease, nothing driven. Requests that wait for room in a heartbeat are
refused when the tick's end serves them (R81, R455). -/
def State.holdAll (s : State) : State :=
  { s with
    axes := vmap Axis.stop s.axes
    hinge := { s.hinge with role := .unsettled, lease := false, claim := none, claimDue := false, rounds := none,
                            copyOut := none, records := [] } }

/-- Every homing in progress ends with HOME_ABORT: its axis stops being driven (R215). -/
def State.abortHomings (s : State) : State :=
  (fins 64).foldl (fun s a => if (s.axes[a]).mot.home.phase == HomePhase.none then s else s.onAxis a fun r _ => r.homeFailCode 8) s

/-- FAULT_HELD from the tick in progress on (R79, R81, R485): a module that leaves HOMING, RUN or MAINTENANCE, or whose cores
trap, declares its fault to its partner (R373), the open page is sealed (R413), and every jog ends with MAINTENANCE (R282).
DEDUCED (log 15). -/
def State.faultHeld (s : State) (code : Code) (trap : Bool) : State :=
  let said := trap || s.unit.st == UnitState.homing || s.runs
  let s := (s.enter .faultHeld s.tick).abortHomings.holdAll
  { s with unit := { s.unit with holdCode := code, maintSess := none, coreLine := false }
           recorder := s.recorder.seal s.panel.holdup
           doors := vmap (fun w : Door => { w with jog := none, jogStop := 0 }) s.doors
           hinge := { s.hinge with declared := s.hinge.declared || said } }

/-- A code of class H is raised, in the tick before where its cause was detected after 28.00 µs of it (R485). DEDUCED (log 6). -/
def State.raiseHold (s : State) (code : Code) (late : Bool) : State :=
  if late then
    let x := State.raise { s with tick := s.tick - 1 } code 0xFF 0
    { x with tick := s.tick }
  else s.raise code 0xFF 0

/-- A cause of FAULT_HELD (R79, R485). One detected after 28.00 µs of a tick reaches the model when the compute phase of
that tick has run: in both cases the tick in progress is the first tick of the state. Nothing happens in BOOT, FAULT_HELD
and UNCONFIGURED. DEDUCED (log 15). -/
def State.holdCause (s : State) (code : Code) (late trap : Bool) : State :=
  if s.unit.st == UnitState.boot || s.held then s else (s.raiseHold code late).faultHeld code trap

end Sys2Proof.Machine
end

