-- ==== Sys2Proof/Machine/Flags.lean ====
section
/-! DEFINITION. Status that is computed from the state: the evaluated configuration (R24, R471), the census counts (R469,
R470), the codes that are active (R477) and the front LEDs (R44). -/

namespace Sys2Proof.Machine

/-! ## The evaluated configuration (R471) -/

/-- Open sessions. -/
def State.openSessions (s : State) : List Session := s.kw.sess.toList.filterMap id

/-- Owner anchors enrolled. -/
def SecureEl.anchorCount (e : SecureEl) : Nat := (e.anchors.toList.filter Option.isSome).length

/-- KW_EVAL (R471, R474). -/
def State.evalCauses (s : State) : Word :=
  let c := s.cfg.eff
  flag (c.n F.sessionIdleS 0 == 0) 0 ||| flag (c.n F.authFailLimit 0 == 0) 1 ||| flag (c.n F.censusEnable 0 == 0) 2 |||
    flag (s.ward 9 || s.ward 10) 3 ||| flag s.panel.coverOpen 4 ||| flag s.fw.nonRelease 5 |||
    flag (s.se.anchorCount == 0) 6 ||| flag (s.openSessions.any fun x => x.role == KwRole.enrolment) 7

/-- UNIT_STATUS.EVAL_CONFIG (R471). -/
def State.evalConfig (s : State) : Bool := s.evalCauses == 0

/-- WARD_STATUS.KEY_MATCH (R57). -/
def State.keyMatch (s : State) : Bool := s.panel.ward.toNat % 256 == s.cfg.eff.n F.wardKey 0

/-! ## The census (R469, R470) -/

/-- Safety bitting shown: section 2 (R121). -/
def CfgSt.safety (c : CfgSt) : BitVec 64 := c.bits[1]

/-- The fresh entries of the table. DEDUCED (log 32). -/
def Net.fresh (n : Net) : List CensusEntry := (n.table.map (·.2)).filter (·.fresh)

/-- The distinct safety bittings in the module's own class: its own values count as a fresh entry (R469, R470). -/
def State.bittingsInClass (s : State) : List (BitVec 64) :=
  (s.cfg.safety :: (s.net.fresh.filter fun e => e.cls == s.cfg.eff.n F.censusClass 0).map (·.safety)).eraseDups

/-! ## Active codes (R477)

A W or F code is active while the condition or status bit of its raising rule holds; where the rule names only a W1C bit,
while that bit is set. -/

/-- A port that carries an axis of a used, non-isolated doorway is lost (R296). -/
def State.usedPortLost (s : State) : Bool :=
  (fins 16).any fun d => s.cfg.eff.n F.doorUsed d.val == 1 && (s.doors[d]).st != DoorState.isolated &&
    (fins 32).any fun k => (s.ports[k]).st == PortState.lost && doorOnPort s.cfg.eff d.val k

/-- A pair that the BOLT decision reads disagrees (R296, R304). -/
def State.safetyPairDisagrees (s : State) : Bool :=
  (fins 32).any fun p => ((s.il.pairs[p]).a.disagrees || (s.il.pairs[p]).b.disagrees) && (fins 16).any fun d =>
    [F.closedInput, F.lockedInput, F.isolatedInput, F.isoLockedInput].any fun f => s.cfg.eff.n f d.val == 0x80 + p.val

/-- An active fault withdraws the BOLT outputs (classes B and L). -/
def State.boltFault (s : State) : Bool :=
  s.il.bolt.latched != 0 || s.io.sup.invalid || s.il.bolt.withheld == 0x4706 || s.il.bolt.differed || s.usedPortLost || s.safetyPairDisagrees

/-- A port shows an F code: LINK_LOST, ECHO_MISMATCH, STAGE_ABSENT, STAGE_MISMATCH. -/
def Port.faulty (p : Port) : Bool := p.st == PortState.lost || p.st == PortState.absent || p.st == PortState.mismatch

/-- A doorway shows an F code: DOOR_OBSTRUCTED, DOOR_FAULT, DOOR_HOME_FAILED. -/
def Door.faulty (w : Door) : Bool := w.st == DoorState.obstructedOpen || w.st == DoorState.fault || w.homeFailed

/-- A field output or load switch is in a state that an F code of R331, R334 to R336 names: tripped, stuck on, driven from outside
and not paired, thermally latched, locked out. -/
def FieldIo.faulty (io : FieldIo) (c : Cfg) : Bool :=
  (fins 64).any (fun k =>
    let x := io.ch[k]
    x.out == OutState.tripped || decide (2 ≤ x.stuckRun) || x.extSeen && c.n F.fcPaired k.val != 1) ||
  (fins 16).any fun l =>
    let x := io.ls[l]
    x.st == LsState.tripped || x.st == LsState.lockout || x.latch || decide (2 ≤ x.stuckRun) || x.extSeen && c.n F.lsPaired l.val != 1

/-- The safe-telegram connection shows an F code: SAFE_TG_DIFFER, SAFE_SINGLE_EXPIRED, SAFE_TG_TIMEOUT. -/
def SafeSt.faulty (f : SafeSt) : Bool := f.differ || f.expired || f.timedOut

/-- Any other fault of class F, or of class B where it does not withdraw the outputs, is active. -/
def State.otherFault (s : State) : Bool :=
  s.ports.toList.any Port.faulty || s.doors.toList.any Door.faulty || s.io.faulty s.cfg.eff || s.io.sup.dropped || s.il.safe.faulty ||
    s.il.pairs.toList.any (fun p => p.a.disc) || s.can.toList.any (fun c => c.bus == CanBusState.busOff) || s.hinge.split ||
    s.hinge.unfit != 0 || s.recorder.st == RecState.fault || s.mem.uncorrActive || s.mem.dma != 0 || bit s.mem.events 5

/-- WARD_OPEN: switch 9 or 10 is ON in RUN (R42). -/
def State.wardOpen (s : State) : Bool := (s.ward 9 || s.ward 10) && s.unit.st == UnitState.run

/-- CLAMP_REPORT_FULL (R113). -/
def ClampReport.isFull (r : ClampReport) : Bool := decide (1024 < r.total)

/-- A warning of class W is active. -/
def State.warning (s : State) : Bool :=
  let p := s.panel
  let io := s.io
  p.addrChanged || p.holdupLow || p.supplyHigh || p.housingHot || p.rst.stuck || s.wardOpen || s.ward 12 ||
    s.cfg.report.isFull || s.ports.toList.any (fun k => k.st == PortState.unexpected) || io.sup.low || io.sup.high ||
    bit io.sup.events 5 || io.snsOff != 0 || io.anSupOff || io.an.toList.any (·.shuntOff) || io.ls.toList.any (·.thermWarn) ||
    s.axes.toList.any (fun x => x.mot.followBad || x.obst.learnBound || x.obst.compBound || x.obst.sigDrift) ||
    s.il.safe.single || s.can.toList.any (fun c => 96 ≤ c.tec || 96 ≤ c.rec' || c.tx.toList.any (·.noListener)) ||
    s.hinge.linkLost || (s.hinge.partner.map (·.fault)).getD false || bit s.recorder.events 7 || decide (16 ≤ s.mem.remap.length) ||
    s.net.split

/-! ## The front LEDs (R44) -/

/-- LED RUN. -/
def State.ledRun (s : State) : Led :=
  match s.unit.st with
  | .faultHeld => .steadyAmber
  | .unconfigured => .slowAmber
  | .maintenance => .fastGreen
  | .run => .steadyGreen
  | _ => .slowGreen

/-- LED ROLE. -/
def State.ledRole (s : State) : Led :=
  if s.hinge.linkLost then .slowAmber
  else match s.hinge.role with
    | .active => .steadyGreen
    | .standby => .slowGreen
    | .alone => .steadyAmber
    | .unsettled => .off

/-- LED FAULT. -/
def State.ledFault (s : State) : Led :=
  if s.boltFault then .steadyRed else if s.otherFault then .slowRed else if s.warning then .steadyAmber else .off

/-- A LOG_READ was served in the last 1 s (R430). -/
def State.offload (s : State) : Bool :=
  match s.recorder.readAt with
  | some t => decide (s.up < t + 20000)
  | none => false

/-- A flash of LED LOG, 100 ms on and 900 ms off, is running: one follows each committed page, at most one per second (R44). -/
def State.flashing (s : State) : Bool := (s.recorder.flashAt.map fun t => decide (s.up < t + 20000)).getD false

/-- LED LOG. DEDUCED (log 32). -/
def State.ledLog (s : State) : Led :=
  let f := s.recorder.fill
  if s.recorder.st == RecState.full then .steadyRed
  else if 90 ≤ f then .slowAmber
  else if 75 ≤ f then .steadyAmber
  else if s.offload || s.recorder.st == RecState.erasing then .fastGreen
  else if s.recorder.st == RecState.recording && s.flashing then .flashGreen
  else .off

/-- The LEDs of a tick; the lamp test of the first 0.5 s shows steady amber. -/
def State.leds (s : State) : Vector Led 4 :=
  if s.unit.st == UnitState.boot && decide (s.up < 10000) then Vector.replicate 4 .steadyAmber
  else ⟨#[s.ledRun, s.ledRole, s.ledFault, s.ledLog], rfl⟩

end Sys2Proof.Machine
end

