-- ==== Sys2Proof/Machine/Operands.lean ====
section
/-! DEFINITION. Operand forms: the blocks of the address map (R455, R475), the numbering of outputs (R261), and the pins of
the front panel. -/

namespace Sys2Proof.Machine

/-- A block that a session can claim (R460). -/
inductive Block where
  /-- The unit. -/
  | unit
  /-- Doorway d. -/
  | door (d : DoorId)
  /-- Axis a. -/
  | axis (a : AxisId)
  deriving DecidableEq, Repr

/-- BLOCK and instance of a request (R455); none where no such block exists. The unit has instance 0 only (log 4). -/
def BlockReq.block? (b : BlockReq) : Option Block :=
  match b.block.toNat with
  | 0 => if b.inst = 0 then some .unit else none
  | 1 => (finOf 16 b.inst.toNat).map .door
  | 2 => (finOf 64 b.inst.toNat).map .axis
  | _ => none

/-- The block as CLAIM_LOST carries it: APPLY byte 0 × 100h + instance (R464). -/
def Block.code : Block → Nat
  | .unit => 0
  | .door d => 0x100 + d.val
  | .axis a => 0x200 + a.val

/-- A row of the address map (R475), one instance of it for doorways and axes: first and last address, and the block whose
claim a write needs. -/
structure Region where
  /-- First address. -/
  base : Nat
  /-- Last address. -/
  last : Nat
  /-- Claim. -/
  block : Block
  deriving DecidableEq, Repr

/-- The rows of the address map other than doorways and axes. -/
def unitRegions : List (Nat × Nat) :=
  [(0x00000000, 0x0000FFFF), (0x00010000, 0x0001FFFF), (0x00020000, 0x0002FFFF), (0x00030000, 0x0003FFFF),
   (0x00040000, 0x00040FFF), (0x00041000, 0x00041FFF), (0x00048000, 0x00049FFF), (0x0004A000, 0x0004BFFF),
   (0x00050000, 0x00057FFF), (0x00058000, 0x0005FFFF), (0x00060000, 0x0006FFFF), (0x00070000, 0x0007FFFF),
   (0x00080000, 0x0008FFFF), (0x00090000, 0x0009FFFF), (0x00300000, 0x0030FFFF), (0x00400000, 0x0067FFFF),
   (0x00800000, 0x008FFFFF), (0x01000000, 0x0103FFFF)]

/-- The row that holds an address, if any. -/
def regionOf (addr : Nat) : Option Region :=
  if 0x100000 ≤ addr ∧ addr < 0x110000 then
    (finOf 16 ((addr - 0x100000) / 0x1000)).map fun d => ⟨0x100000 + d.val * 0x1000, 0x100000 + d.val * 0x1000 + 0xFFF, .door d⟩
  else if 0x200000 ≤ addr ∧ addr < 0x240000 then
    (finOf 64 ((addr - 0x200000) / 0x1000)).map fun a => ⟨0x200000 + a.val * 0x1000, 0x200000 + a.val * 0x1000 + 0xFFF, .axis a⟩
  else (unitRegions.find? fun r => decide (r.1 ≤ addr) && decide (addr ≤ r.2)).map fun r => ⟨r.1, r.2, .unit⟩

/-- The block that holds a live register (R116). -/
def blockOf (addr : Nat) : Option Block := (regionOf addr).map (·.block)

/-- The distance from a live register of a block to its shadow (R116). -/
def Block.shadowStep : Block → Nat
  | .unit => 0x800000
  | .door _ => 0x800
  | .axis _ => 0x300

/-- First address of a block's registers. -/
def Block.base : Block → Nat
  | .unit => 0
  | .door d => 0x100000 + d.val * 0x1000
  | .axis a => 0x200000 + a.val * 0x1000

/-- The live address whose shadow lies at an address (R116): none where the address is no shadow. -/
def liveOf (addr : Nat) : Option Nat :=
  match regionOf addr with
  | none => none
  | some r =>
    let off := addr - r.base
    match r.block with
    | .unit => if 0x800000 ≤ addr ∧ addr ≤ 0x8FFFFF then some (addr - 0x800000) else none
    | .door _ => if 0x800 ≤ off ∧ off < 0xFFC then some (addr - 0x800) else none
    | .axis _ => if 0x300 ≤ off ∧ off < 0x5FC then some (addr - 0x300) else none

/-- An output in the numbering of R261: L0 to L15, then F0 to F63. -/
inductive OutputId where
  /-- A load switch. -/
  | load (l : LoadId)
  /-- A field output. -/
  | field (c : ChanId)
  deriving DecidableEq, Repr

/-- The output of a number of R261, 0 to 79. -/
def outputOf (n : Fin 80) : OutputId :=
  if h : n.val < 16 then .load ⟨n.val, h⟩ else .field ⟨n.val - 16, by omega⟩

/-- The output that a field names; none for FFh (R261). -/
def outputNamed (n : Nat) : Option OutputId := (finOf 80 n).map outputOf

end Sys2Proof.Machine
end

