-- ==== Sys2Proof/Machine/Claims.lean ====
section
/-! DEFINITION. Claims and pending shadows (R118, R460), and what a module loses when it yields (R391). -/

namespace Sys2Proof.Machine

/-- The session that holds a block. -/
def Keyway.holder (k : Keyway) : Block → Option SessId
  | .unit => k.unitClaim
  | .door d => k.doorClaim[d]
  | .axis a => k.axisClaim[a]

/-- The holder of a block set. -/
def Keyway.setHolder (k : Keyway) (b : Block) (h : Option SessId) : Keyway :=
  match b with
  | .unit => { k with unitClaim := h }
  | .door d => { k with doorClaim := k.doorClaim.set d h }
  | .axis a => { k with axisClaim := k.axisClaim.set a h }

/-- Every block, in ascending order: the unit, doorways, axes. -/
def allBlocks : List Block := Block.unit :: (fins 16).map Block.door ++ (fins 64).map Block.axis

/-- The blocks that a session holds. -/
def Keyway.held (k : Keyway) (i : SessId) : List Block := allBlocks.filter fun b => k.holder b == some i

/-- The pending shadows of a block are discarded (R118). -/
def State.dropShadows (s : State) (b : Block) : State :=
  { s with cfg := { s.cfg with shadows := s.cfg.shadows.filter fun p => blockOf p.1 != some b } }

/-- CLAIM_LOST: recorded as every class E code, and sent to the former holder alone (R460, R464). DEDUCED (log 29). -/
def State.claimLost (s : State) (i : SessId) (b : Block) : State :=
  let e : Raised := ⟨0x4804, 0xFF, BitVec.ofNat 32 b.code⟩
  let s := s.raise e.code e.inst e.detail
  { s with kw := { s.kw with sess := vmod s.kw.sess i fun x => x.map fun x => x.push s.tick e } }

/-- A claim ends: its holder receives CLAIM_LOST where its session is still open, and the block's pending shadows are
discarded (R118, R460). -/
def State.endClaim (s : State) (b : Block) : State :=
  match s.kw.holder b with
  | none => s
  | some i =>
    let s := s.dropShadows b
    let s := { s with kw := s.kw.setHolder b none }
    if (s.kw.sess[i]).isSome then s.claimLost i b else s

/-- Some claims end, in order. -/
def State.endClaims (s : State) (bs : List Block) : State := bs.foldl State.endClaim s

/-- A holder of the lease yields: every claim ends (R391, R460). -/
def State.yieldLease (s : State) : State := (s.onHinge fun r i => r.yield i).endClaims allBlocks

/-- A session is gone: no CLAIM_LOST reaches it, its claims end, its shadows and the data it was staging are discarded
(R118, R458, R460). -/
def State.closeSession (s : State) (i : SessId) : State :=
  let bs := s.kw.held i
  let keep := fun g : Option Staging => g.filter fun g => g.sess != i || g.writing.isSome
  let s := { s with kw := { s.kw with
    sess := s.kw.sess.set i none, image := keep s.kw.image, fw := keep s.kw.fw
    later := s.kw.later.filter fun q => q.req.sess != i } }
  s.endClaims bs

end Sys2Proof.Machine
end

