-- ==== Sys2Proof/Machine/LoopWindow.lean ====
section
/-! DEFINITION. The loop window of an axis (R193) and the trace that records its words (R187 to R191). -/

namespace Sys2Proof.Machine

/-! ## The loop window (R193) -/

/-- SELECTED (R192). -/
def selCode : Option Loop → Nat
  | some .v => 0
  | some .f => 1
  | some .e => 2
  | none => 3

/-- AXn_LOOP_STATUS (R192). -/
def loopStatus (l : LoopSt) : Word := put (selCode l.sel) 2 0 ||| flag (decide (l.dir = -1)) 2 ||| flag l.engaged 3

/-- AXn_LW_STATE. -/
def loopState (l : LoopSt) : Word :=
  loopStatus l ||| flag l.stale 4 ||| flag l.reseeded 5 ||| flag l.posRun 6 ||| flag l.saturated 7 |||
    flag l.lv.frozen 8 ||| flag l.lf.frozen 9 ||| flag l.le.frozen 10 ||| flag l.bank 11

/-- The six words of one loop: ERR, P, I, D, FF, OUT. -/
def LoopCh.words (c : LoopCh) : List Word := [c.err, c.p, c.i, c.d, c.ff, c.out].map wordOfInt

/-- Words 0 to 44 of the window. DEDUCED (log 38). -/
def loopWords0 (x : Axis) : List Word :=
  let l := x.loop
  [l.capTick, loopState l] ++ [x.mot.xRef, l.xMeas, x.mot.vRef, l.vCorr, l.vSet, l.vMeas, x.mot.aRef, l.vCap, l.fLim].map wordOfInt ++
    [0] ++ l.lv.words ++ [0, 0] ++ l.lf.words ++ [0, 0] ++ l.le.words ++ [0, 0] ++ [wordOfInt l.cmdForce] ++
    [put (BitVec.ofInt 16 l.sp).toNat 16 0 ||| put l.aux 16 16] ++
    [l.fMotor, l.fInertia, l.fTable, l.fVisc, l.rRaw, l.r, l.iMeas].map wordOfInt

/-- The words that the loop window holds (R193). -/
def loopListed (k : Nat) : Bool :=
  [(0, 10), (12, 17), (20, 25), (28, 33), (36, 44), (64, 68), (72, 87), (88, 90)].any fun r => decide (r.1 ≤ k) && decide (k ≤ r.2)

/-- Word k of the loop window of axis a; a stepper's words read 0 (R158). -/
def loopWord (c : Cfg) (x : Axis) (a k : Nat) : Word :=
  let l := x.loop
  if c.kind a = 2 then 0
  else if k ≤ 44 then (loopWords0 x).getD k 0
  else if 64 ≤ k ∧ k ≤ 68 then wordOfInt ([l.alphaV, l.alphaR, l.lv.ad, l.lf.ad, l.le.ad].getD (k - 64) 0) &&& 0xFFFFFF
  else if 72 ≤ k ∧ k ≤ 87 then wordOfInt ((bankWords c l.bank a).getD (k - 72) 0)
  else if k = 88 then put (c.n F.forceConst a) 16 0 ||| put (c.n F.refMass a) 16 16
  else if k = 89 then put (c.n F.viscFriction a) 16 0 ||| put (c.n F.obsCorner a) 16 16
  else if k = 90 then put (c.n F.tableLimit a) 16 0
  else 0

/-! ## The trace (R187 to R191) -/

/-- TRACE_CHc_SEL is enabled. -/
def chanOn (c : Cfg) (k : Nat) : Bool := (c.n F.traceCh k).testBit 16

/-- The channels that are enabled now. -/
def traceEnabled (c : Cfg) : BitVec 16 := (packBools ((List.range 16).map (chanOn c))).setWidth 16

/-- The sample of channel k in this tick. -/
def State.traceWord (s : State) (k : Nat) : Word :=
  let w := s.cfg.eff.n F.traceCh k
  match finOf 64 (w % 64) with
  | none => 0
  | some a => loopWord s.cfg.eff s.axes[a] a.val (w / 256 % 256)

/-- The samples of the enabled channels. DEDUCED (log 28). -/
def State.traceRow (s : State) : List Word :=
  (List.range 16).map fun k => if s.trace.enabled.getLsbD k then s.traceWord k else 0

/-- The trace is armed from this tick on: the record is cleared (R188). -/
def TraceSt.arm (t : TraceSt) (c : Cfg) : TraceSt :=
  { t with st := .armed, preValid := 0, truncated := false, recorded := 0, since := 0, left := 0, lastLevel := none, samples := [],
           enabled := traceEnabled c }

/-- The record ends where it stands (R188). -/
def TraceSt.truncate (t : TraceSt) : TraceSt :=
  if t.st == TraceState.triggered then { t with st := .done, truncated := true, recorded := t.samples.length } else t

/-- STOP and ARM of an earlier tick take effect at the start of this one, STOP first where both were written (R188). DESIGN CHOICE
(log 76). -/
def TraceSt.boundary (t : TraceSt) (c : Cfg) (now : Tick) : TraceSt :=
  let due := fun r : Option Tick => match r with
    | some x => decide (x ≠ now)
    | none => false
  let t := if due t.stopReq then
      { (if t.st == TraceState.armed then { t with st := .idle, samples := [] } else t.truncate) with stopReq := none } else t
  if due t.armReq then { (t.arm c) with armReq := none } else t

/-- A crossing of TRACE_TRIG_LEVEL between two samples (R189). -/
def crosses (edge : Nat) (level : Int) (was now : Word) : Bool :=
  let a := was.toInt
  let b := now.toInt
  (edge.testBit 0 && decide (a < level) && decide (level ≤ b)) || (edge.testBit 1 && decide (level ≤ a) && decide (b < level))

/-- The trigger of this tick (R189). A level is compared only with the sample of an armed tick before it, and only on an enabled
channel. DESIGN CHOICE (log 76). -/
def State.triggered (s : State) : Bool :=
  let c := s.cfg.eff
  let w := c.n F.traceTrig 0
  let ch := w / 16 % 16
  let forced := match s.trace.forceReq with
    | some t => decide (t = s.tick - 1)
    | none => false
  let level := w % 4 == 2 && s.trace.enabled.getLsbD ch &&
    match s.trace.lastLevel with
    | some x => crosses (w / 256 % 4) (c.v F.traceTrigLevel 0) x (s.traceWord ch)
    | none => false
  forced || (w % 4 == 1 && s.trace.hit) || level

/-- The last sample of a record has been taken (R188). DEDUCED (log 62). -/
def TraceSt.finish (t : TraceSt) : TraceSt :=
  if t.st == TraceState.triggered then { t with st := .done, recorded := t.samples.length } else t

/-- The samples of this tick are recorded (R187, R188). -/
def State.traceRecord (s : State) : State :=
  let c := s.cfg.eff
  let row := s.traceRow
  let t := s.trace
  let p := c.n F.tracePre 0
  let t := match t.st with
    | .armed =>
      if s.triggered then
        let n := min p t.since
        let left := c.n F.traceDepth 0 - p - 1
        let t := { t with st := .triggered, trigTick := s.tick, preValid := n, samples := row :: t.samples.take n, left := left }
        if left = 0 then t.finish else t
      else { t with samples := (row :: t.samples).take p, since := min 32768 (t.since + 1) }
    | .triggered =>
      let t := { t with samples := row :: t.samples, left := t.left - 1 }
      if t.left = 0 then t.finish else t
    | _ => t
  let lvl := s.traceWord (c.n F.traceTrig 0 / 16 % 16)
  { s with trace := { t with hit := false, lastLevel := if t.st == TraceState.armed then some lvl else t.lastLevel,
                             forceReq := if t.forceReq = some s.tick then t.forceReq else none } }

/-- The trace at the end of a compute phase: it arms itself in the first tick of RUN where the image says so (R191). -/
def State.traceTick (s : State) : State :=
  let s := if s.unit.st == UnitState.run && s.cfg.eff.n F.traceArmAtStart 0 == 1 && !s.trace.autoArmed then
      { s with trace := { (s.trace.arm s.cfg.eff) with autoArmed := true } } else s
  s.traceRecord

/-- A word of the sample window: sample i of channel c (R190). -/
def TraceSt.sample (t : TraceSt) (ch i : Nat) : Word :=
  if t.enabled.getLsbD ch && decide (i < t.recorded) then ((t.samples.reverse.getD i []).getD ch 0) else 0

end Sys2Proof.Machine
end

