-- ==== Sys2Proof/Machine/RegBase.lean ====
section
/-! DEFINITION. Register words: views, and the fields of the configuration that a register shows (R12 to R17, R114). -/

namespace Sys2Proof.Machine

/-- A register word by view (R17): the fields that every role reads, the fields that privileged roles read, and whether the
word holds a field of view U. -/
structure Reg where
  /-- Fields of view U. -/
  u : Word
  /-- Fields of view P. -/
  p : Word
  /-- The word holds a field of view U. -/
  hasU : Bool
  deriving DecidableEq, Repr

/-- A word of view U. -/
def regU (w : Word) : Reg := ⟨w, 0, true⟩

/-- A word of view P. -/
def regP (w : Word) : Reg := ⟨0, w, false⟩

/-- A word with fields of both views. -/
def regUP (u p : Word) : Reg := ⟨u, p, true⟩

/-- A word of view U that holds a number. -/
def regN (n : Nat) : Reg := regU (BitVec.ofNat 32 n)

/-- A word of view U that holds a signed value. -/
def regI (x : Int) : Reg := regU (wordOfInt x)

/-- What a role reads of a word; none is NOT_PERMITTED (R17). -/
def Reg.seen (r : Reg) (privileged : Bool) : Option Word :=
  if privileged then some (r.u ||| r.p) else if r.hasU then some r.u else none

/-- A place in a register word that shows an item of a configuration field: lowest bit, bits, catalogue row, element and
item within the element. -/
structure Part where
  /-- Lowest bit. -/
  lo : Nat
  /-- Bits. -/
  w : Nat
  /-- Catalogue row. -/
  f : Nat
  /-- Element. -/
  elem : Nat
  /-- Item of the element. -/
  item : Nat
  deriving DecidableEq, Repr

/-- A register of the effective configuration: view U or P, and its places. -/
structure ImgReg where
  /-- View U. -/
  viewU : Bool
  /-- Places. -/
  parts : List Part
  deriving DecidableEq, Repr

/-- The item of a place among the field's items. -/
def Part.index (p : Part) : Nat := p.elem * (fieldDef p.f).items + p.item

/-- The value of a place in a register word. -/
def Part.bits (p : Part) (x : Int) : Word := put ((x % (2 ^ p.w : Int)).toNat) p.w p.lo

/-- The value that a word carries in a place; reserved bits written 1 are ignored (R14). -/
def Part.value (p : Part) (w : Word) : Int :=
  let n := fld w (p.lo + p.w - 1) p.lo
  let x := if (fieldDef p.f).signed && decide (2 ^ (p.w - 1) ≤ n) then (n : Int) - 2 ^ p.w else (n : Int)
  clearReserved (fieldDef p.f).chk x

/-- A host may write the place at runtime (R114). -/
def Part.rw (p : Part) : Bool := (fieldDef p.f).runtime

/-- The word of some places. -/
def partsWord (c : Cfg) (ps : List Part) : Word := ps.foldl (fun w p => w ||| p.bits (c.v p.f p.index)) 0

/-- The register as a read sees it. -/
def ImgReg.reg (r : ImgReg) (c : Cfg) : Reg := if r.viewU then regU (partsWord c r.parts) else regP (partsWord c r.parts)

/-- A host may write some place of the register. -/
def ImgReg.rw (r : ImgReg) : Bool := r.parts.any Part.rw

/-- A whole word that shows one item of a field's element. -/
def itemReg (viewU : Bool) (f elem item : Nat) : ImgReg := ⟨viewU, [⟨0, 32, f, elem, item⟩]⟩

/-- A register made of places of one element: lowest bit, bits, catalogue row. -/
def placesReg (viewU : Bool) (elem : Nat) (ps : List (Nat × Nat × Nat)) : ImgReg :=
  ⟨viewU, ps.map fun p => ⟨p.1, p.2.1, p.2.2, elem, 0⟩⟩

/-- A register at an offset of a table that holds (offset, register). -/
def atOffset {α : Type} (off : Nat) : List (Nat × α) → Option α
  | [] => none
  | x :: xs => if x.1 = off then some x.2 else atOffset off xs

/-- The k-th 32-bit word of a byte string, byte 4k in [7:0]; bytes beyond its end read 0. -/
def wordAt (bs : List Byte) (k : Nat) : Word := BitVec.ofNat 32 (leNat (slice bs (4 * k) 4))

end Sys2Proof.Machine
end

