-- ==== Sys2Proof/Machine/RegRow.lean ====
section
/-! DEFINITION. A register as a host meets it (R11 to R17): what it reads, which configuration fields a write reaches, and
what a write or a clearing read does. -/

namespace Sys2Proof.Machine

/-- What a write of a register that holds no configuration field does: the next state, or the ERROR CODE that refuses it. -/
abbrev WriteResult := Except Code State

/-- Who writes: a session, or none for a mirrored record, which passes the checks of role, claim, unit state and ward switch
(R384). -/
abbrev Sender := Option SessId

/-- A role that a sender needs: a record has passed the check at its source. -/
def State.isA (s : State) (i : Sender) (r : KwRole) : Bool :=
  match i with
  | none => true
  | some i => (s.kw.sess[i]).map (·.role) == some r

/-- An RC register: the value it counts or watches, its replacement, and the value that no event has touched (R16). -/
structure ClearRead where
  /-- The value. -/
  get : State → Nat
  /-- The value replaced. -/
  put : Nat → State → State
  /-- The value with nothing counted. -/
  zero : Nat := 0
  /-- Of a register that holds the largest or smallest value since it was last read: which of two values it keeps. Otherwise it counts. -/
  keeps : Option (Nat → Nat → Nat) := none

/-- What a clearing read leaves of the tick in progress: what has been counted in it, or the extreme of the values `taken` in it (R16). -/
def ClearRead.left (c : ClearRead) (taken : List Nat) (live base : Nat) : Nat :=
  match c.keeps with
  | none => live - base
  | some f => taken.foldl f c.zero

/-- A listed register. -/
structure RegRow where
  /-- What a read returns, by view (R15, R17). -/
  reg : Reg
  /-- Configuration fields of the word (R114). -/
  parts : List Part := []
  /-- Bits of the W1C and WO fields. -/
  mask : Word := 0
  /-- W1C: the bits that a word clears (R15). -/
  clear : Option (Word → State → State) := none
  /-- WO: the action of a word (R15). -/
  act : Option (Sender → Word → State → WriteResult) := none
  /-- RC: the value that a clearing read takes (R16). -/
  readClear : Option ClearRead := none
  /-- A read is refused with BAD_STATE (R190). -/
  shut : Bool := false

/-- A read-only register. -/
def roRow (r : Reg) : RegRow := { reg := r }

/-- A register of view U whose only fields are W1C bits. -/
def w1cRow (w mask : Word) (f : Word → State → State) : RegRow := { reg := regU w, mask := mask, clear := some f }

/-- An RC register of view U. -/
def rcRow (s : State) (c : ClearRead) : RegRow := { reg := regN (c.get s), readClear := some c }

/-- A register whose only fields are WO. -/
def woRow (viewU : Bool) (mask : Word) (f : Sender → Word → State → WriteResult) : RegRow :=
  { reg := if viewU then regU 0 else regP 0, mask := mask, act := some f }

/-- Bits cleared by a W1C write. -/
def w1c (old w : Word) : Word := old &&& ~~~w

/-- A write that does nothing but what a session may ask between compute phases. -/
def did (s : State) : WriteResult := .ok s

/-- Low and high word of a 64-bit value. -/
def loWord (x : BitVec 64) : Word := x.setWidth 32

/-- High word of a 64-bit value. -/
def hiWord (x : BitVec 64) : Word := (x >>> 32).setWidth 32

/-- The rows of an offset table, from an offset in steps, one for each number below n. -/
def rowsFrom (base step n : Nat) (f : Nat → RegRow) : List (Nat × RegRow) := (List.range n).map fun k => (base + step * k, f k)

end Sys2Proof.Machine
end

