-- ==== Sys2Proof/Machine/RegsField.lean ====
section
/-! DEFINITION. Registers of BOLT, pairs and safe telegrams (R320), of obstacles and closure (R255), of the CAN controllers
(R365) and of field I/O (R344). -/

namespace Sys2Proof.Machine

/-! ## BOLT, pairs, safe telegrams (R320) -/

/-- BOLT_STATUS. -/
def BoltSt.status (b : BoltSt) : Word :=
  put b.withheld.toNat 16 16 ||| flag (b.latched != 0) 12 ||| flag b.extSeen 11 ||| flag b.test.isSome 10 |||
    put b.nodes.toNat 4 6 ||| put b.outs.toNat 2 4 ||| flag b.decB 1 ||| flag b.decA 0

/-- SAFE_RX_STATUS. -/
def SafeSt.status (f : SafeSt) : Word :=
  flag f.fresh 0 ||| flag f.single 1 ||| flag f.expired 2 ||| flag f.wait.isSome 3 ||| put f.flags.toNat 3 4 ||| flag f.car 7

/-- A change of BOLT from a host. -/
def State.bolt (s : State) (f : BoltSt → BoltSt) : State := { s with il := { s.il with bolt := f s.il.bolt } }

/-- A change of the safe-telegram connection from a host. -/
def State.safe (s : State) (f : SafeSt → SafeSt) : State := { s with il := { s.il with safe := f s.il.safe } }

/-- An RC counter of the safe-telegram connection. -/
def safeRc (s : State) (get : SafeSt → Nat) (put : Nat → SafeSt → SafeSt) : RegRow :=
  rcRow s { get := fun s => get s.il.safe, put := fun n s => s.safe (put n) }

/-- One bit a pair. -/
def pairBits (v : Vector Pair 32) (f : Pair → Bool) : Word := packWord (v.toList.map f)

/-- BOLT registers and safe telegrams. -/
def boltRows (s : State) : List (Nat × RegRow) :=
  let il := s.il
  let b := il.bolt
  let f := il.safe
  [(0x000, roRow (regU b.status)), (0x004, roRow (regU (put b.countsB.toNat 16 16 ||| put b.countsA.toNat 16 0))),
   (0x008, w1cRow b.events 0x3F fun w s => s.bolt fun b => { b with events := w1c b.events w }),
   (0x00C, rcRow s { get := (·.il.bolt.differCount), put := fun n s => s.bolt fun b => { b with differCount := n } }),
   (0x010, roRow (regU b.onTick)), (0x014, roRow (regU b.offTick)),
   (0x018, roRow (regU (put b.termB.toNat 16 16 ||| put b.termA.toNat 16 0))),
   (0x020, roRow (regU (put il.release.toNat 3 0 ||| put il.relPair.toNat 3 4 ||| put il.relTg.toNat 3 8))),
   (0x040, roRow (regU (pairBits il.pairs fun p => p.a.value))), (0x044, roRow (regU (pairBits il.pairs fun p => p.a.disc))),
   (0x048, w1cRow il.pairEvents 0xFFFFFFFF fun w s => { s with il := { s.il with pairEvents := w1c s.il.pairEvents w } }),
   (0x410, roRow (regU f.status)), (0x414, roRow (regU f.seq)), (0x418, roRow (regU f.tick)), (0x41C, roRow (regU f.singleStart)),
   (0x420, roRow (regU f.txSeq)), (0x424, w1cRow f.events 0x1F fun w s => s.safe fun f => { f with events := w1c f.events w }),
   (0x430, safeRc s (·.dual) fun n f => { f with dual := n }), (0x434, safeRc s (·.singles) fun n f => { f with singles := n }),
   (0x438, safeRc s (·.differs) fun n f => { f with differs := n }), (0x43C, safeRc s (·.codeErr) fun n f => { f with codeErr := n }),
   (0x440, safeRc s (·.stales) fun n f => { f with stales := n }), (0x444, safeRc s (·.delayed) fun n f => { f with delayed := n }),
   (0x448, safeRc s (·.timeouts) fun n f => { f with timeouts := n }), (0x44C, safeRc s (·.txOverrun) fun n f => { f with txOverrun := n })]

/-- A change of a pair from a host. -/
def State.pairOf (s : State) (p : PairId) (f : Pair → Pair) : State := { s with il := { s.il with pairs := vmod s.il.pairs p f } }

/-- Pair p, offset within its registers. -/
def State.pairRow (s : State) (p : PairId) (off : Nat) : Option RegRow :=
  let x := s.il.pairs[p]
  atOffset off
    [(0x0, roRow (regU (flag (s.cfg.eff.pairSafe p.val) 17))), (0x4, roRow (regN (s.cfg.eff.pairLimit p.val))), (0x8, roRow (regN x.a.c)),
     (0xC, rcRow s { get := fun s => (s.il.pairs[p]).maxCount, keeps := some max, put := fun n s => s.pairOf p fun x => { x with maxCount := n } })]

/-! ## Obstacles and closure (R255) -/

/-- A value as a signed 16-bit field, saturating, at bit `lo`. -/
def put16 (x : Int) (lo : Nat) : Word := put ((satS 16 x) % 65536).toNat 16 lo

/-- A bin mean in 0.1 N; a bin not evaluated reads 8000h. -/
def meanWord (m : Option (Int × Int)) (lo : Nat) : Word :=
  match m with
  | none => put 0x8000 16 lo
  | some q => put16 (rdiv (q.1 * 10) (4096 * q.2)) lo

/-- AXn_OBST_STATUS. -/
def Axis.obstStatus (x : Axis) : Word :=
  put x.obst.threshold 16 16 ||| flag (x.obst.compBound || x.obst.learnBound) 11 ||| flag x.obst.sigDrift 10 |||
    flag x.obst.inSeal 9 ||| flag x.obst.armed 8 ||| put x.obst.count 2 4 ||| put x.mot.shown.code 2 0

/-- RESULT of the signature check. -/
def SigResult.code : SigResult → Nat
  | .none => 0
  | .pass => 1
  | .failBand => 2
  | .failSparse => 3
  | .shortStroke => 4
  | .abandoned => 5

/-- A change of an axis's obstacle state from a host. -/
def State.obstOf (s : State) (a : AxisId) (f : ObstSt → ObstSt) : State :=
  { s with axes := vmod s.axes a fun x => { x with obst := f x.obst } }

/-- Obstacle registers of axis a. -/
def State.obstRow (s : State) (a : AxisId) (off : Nat) : Option RegRow :=
  let x : Axis := s.axes[a]
  let o := x.obst
  let j := off % 64 / 4
  if 0x80 ≤ off ∧ off < 0xC0 then some (roRow (regP (put16 (o.centres.getD (2 * j) 0) 0 ||| put16 (o.centres.getD (2 * j + 1) 0) 16)))
  else if 0xC0 ≤ off then some (roRow (regP (meanWord (o.means.getD (2 * j) none) 0 ||| meanWord (o.means.getD (2 * j + 1) none) 16)))
  else atOffset off
    [(0x00, roRow (regU x.obstStatus)),
     (0x04, roRow (regU (put16 (tenthN o.rn) 0 ||| put (satU 16 (tenthN x.loop.fLim)).toNat 16 16))),
     (0x08, roRow (regU o.lastTick)), (0x0C, roRow (regI o.lastX)),
     (0x10, roRow (regU (put16 (tenthN o.lastR) 0 ||| put16 (rdiv o.lastV 1000) 16))),
     (0x14, rcRow s { get := fun s => (s.axes[a]).obst.total, put := fun n s => s.obstOf a fun o => { o with total := n } }),
     (0x18, roRow (regI o.xLearnt)), (0x1C, roRow (regI o.xClosed)), (0x20, roRow (regI o.gap)),
     (0x24, roRow (regU (put o.sigEvaluated 8 0 ||| put o.sigFailed 8 8 ||| put o.sigFirst 5 16 ||| put o.sig.code 3 24))),
     (0x28, roRow (regU o.evalTick))]

/-- DWn_CLOSURE. -/
def Closure.status (c : Closure) : Word :=
  put c.withheld 4 16 ||| put c.evaluated.toNat 4 8 ||| flag c.monitor 6 ||| flag c.inputsOk 5 ||| flag c.lockOk 4 |||
    flag c.sigPass 3 ||| flag c.gapPass 2 ||| flag c.closed 1 ||| flag c.locked 0

/-- A change of a doorway's closure from a host. -/
def State.closureOf (s : State) (d : DoorId) (f : Closure → Closure) : State :=
  { s with doors := vmod s.doors d fun w => { w with clo := f w.clo } }

/-- DWn_CLOSURE_CTRL.LEARN_RESET (R256): a MAINTAINER, with the unit claim that R17 asks of every write, in MAINTENANCE. DEDUCED (log 43). -/
def State.learnResetWrite (s : State) (d : DoorId) (i : Sender) (w : Word) : WriteResult :=
  if !bit w 0 then .ok s
  else if !s.isA i .maintainer then .error 0x4F03
  else if i.isSome && s.unit.st != UnitState.maintenance then .error 0x4F06
  else
    let cert := match i.bind fun i => s.kw.sess[i] with
      | some x => x.cert
      | none => List.replicate 32 0
    .ok (s.closureOf d fun c => { c with reset := some (if i.isSome then s.tick else s.tick - 1, cert) })

/-- Closure registers of doorway d. -/
def State.closureRow (s : State) (d : DoorId) (off : Nat) : Option RegRow :=
  let c := (s.doors[d]).clo
  atOffset off
    [(0x00, roRow (regU c.status)), (0x04, roRow (regI c.g)), (0x08, roRow (regU c.tick)),
     (0x0C, w1cRow c.events 7 fun w s => s.closureOf d fun c => { c with events := w1c c.events w }),
     (0x1C, woRow false 1 fun i w s => s.learnResetWrite d i w)]

/-- The whole block at 0003_0000h. -/
def State.boltRow (s : State) (off : Nat) : Option RegRow :=
  if 0x100 ≤ off ∧ off < 0x300 then (finOf 32 ((off - 0x100) / 16)).bind fun p => s.pairRow p (off % 16)
  else if 0x8000 ≤ off ∧ off < 0xC000 then (finOf 64 ((off - 0x8000) / 256)).bind fun a => s.obstRow a (off % 256)
  else if 0xC000 ≤ off then (finOf 16 ((off - 0xC000) / 32)).bind fun d => s.closureRow d (off % 32)
  else atOffset off (boltRows s)

/-! ## CAN controllers (R365) -/

/-- A change of a controller from a host. -/
def State.canOf (s : State) (b : BusId) (f : Can → Can) : State := { s with can := vmod s.can b f }

/-- MODE of CANx_STATUS. -/
def CanMode.code : CanMode → Nat
  | .normal => 0
  | .restricted => 1
  | .off => 2

/-- CANx_STATUS. -/
def Can.status (c : Can) : Word :=
  put c.lastError 4 20 ||| flag c.modeReq.isSome 7 ||| put c.mode.code 2 5 ||| flag c.warn 4 ||| put c.errState 3 0

/-- CANx_CTRL (R351, R362). -/
def State.canCtrl (s : State) (b : BusId) (w : Word) : WriteResult :=
  if bit w 1 && bit w 2 then .error 0x4F07
  else
    let post := fun (on : Bool) (q : CanReq) (s : State) => if on then s.canOf b fun c => c.post s.tick q else s
    .ok (post (bit w 2) (.restrict false) (post (bit w 1) (.restrict true) (post (bit w 0) .recover s)))

/-- Entries acknowledged and not yet freed (R358). -/
def Can.acked (c : Can) : Nat :=
  (c.reqs.map fun q => match q.2 with
    | .ack n => n
    | _ => 0).foldl (· + ·) 0

/-- The entries that are held: an acknowledged entry is no longer held, though the controller frees it later (R358). -/
def Can.heldEntries (c : Can) : List RxEntry := c.rx.drop c.acked

/-- CANx_RX_ACK (R358): an entry is held until it is acknowledged. DEDUCED (log 22). -/
def State.rxAckWrite (s : State) (b : BusId) (w : Word) : WriteResult :=
  let n := fld w 6 0
  if n = 0 ∨ (s.can[b]).heldEntries.length < n then .error 0x4F07
  else .ok (s.canOf b fun c => c.post s.tick (.ack n))

/-- A transmit buffer is PENDING or SENDING. -/
def TxBuf.busy (x : TxBuf) : Bool := x.st == TxState.pending || x.st == TxState.sending

/-- CANx_TXBb_CTRL (R352, R355). DEDUCED (log 22). -/
def State.txCtrl (s : State) (b : BusId) (k : Fin 3) (w : Word) : WriteResult :=
  let x : TxBuf := (s.can[b]).tx[k]
  if k = 0 ∨ bit w 0 && bit w 1 then .error 0x4F07
  else if bit w 0 then
    if x.busy || (bit x.id 29 && bit x.fmt 4) then .error 0x4F07 else .ok (s.canOf b fun c => c.post s.tick (.send k))
  else if bit w 1 then .ok (s.canOf b fun c => c.post s.tick (.abort k))
  else .ok s

/-- A host write to the contents of a transmit buffer (R352). -/
def State.txWrite (s : State) (b : BusId) (k : Fin 3) (f : TxBuf → TxBuf) : WriteResult :=
  if k = 0 ∨ ((s.can[b]).tx[k]).busy then .error 0x4F07 else .ok (s.canOf b fun c => { c with tx := vmod c.tx k f })

/-- STATE of a transmit buffer. -/
def TxState.code : TxState → Nat
  | .empty => 0
  | .pending => 1
  | .sending => 2
  | .sent => 3
  | .aborted => 4
  | .parity => 5

/-- A content word of a transmit buffer. -/
def txWordRow (b : BusId) (k : Fin 3) (w mask : Word) (f : Word → TxBuf → TxBuf) : RegRow :=
  { reg := regP w, mask := mask, act := some fun _ w s => s.txWrite b k (f (w &&& mask)) }

/-- Transmit buffer k, offset within it. -/
def State.txRow (s : State) (b : BusId) (k : Fin 3) (off : Nat) : Option RegRow :=
  let x : TxBuf := (s.can[b]).tx[k]
  match (if 0x20 ≤ off ∧ off < 0x60 then finOf 16 ((off - 0x20) / 4) else none) with
  | some j => some (txWordRow b k x.data[j] 0xFFFFFFFF fun w x => { x with data := x.data.set j w })
  | none => atOffset off
    [(0x00, woRow false 3 fun _ w s => s.txCtrl b k w),
     (0x04, roRow (regU (put x.st.code 3 0 ||| flag x.noListener 3 ||| put (min 16 x.ackErrors) 5 8))), (0x08, roRow (regU x.ts)),
     (0x0C, txWordRow b k x.id 0x7FFFFFFF fun w x => { x with id := w }), (0x10, txWordRow b k x.fmt 0x3F fun w x => { x with fmt := w })]

/-- CANx_TDC (R349): OFFSET 0 means the data sample point. DEDUCED (log 32). -/
def State.tdcWord (s : State) (b : BusId) : Word :=
  let c := s.cfg.eff
  let d := c.n F.dataTiming b.val
  let o := c.n F.tdcOffset b.val
  let o := if o = 0 then (d % 32 + 1) * (1 + (d / 256 % 32 + 1)) else o
  put (s.can[b]).measured 8 0 ||| put (min 127 o) 7 8 ||| flag (c.n F.tdcEnable b.val == 1) 15

/-- A filter register word: identifier, IDE and ENABLE, or the mask (R348, R365). -/
def State.filterWord (s : State) (b : BusId) (f k : Nat) : Word :=
  let x := s.cfg.eff.n F.rxFilter (8 * b.val + f)
  if k = 0 then BitVec.ofNat 32 x &&& 0xDFFFFFFF else BitVec.ofNat 32 (x / 2 ^ 32) &&& 0x1FFFFFFF

/-- A counter of a controller. -/
def canRc (s : State) (b : BusId) (get : Can → Nat) (put : Nat → Can → Can) : RegRow :=
  rcRow s { get := fun s => get s.can[b], put := fun n s => s.canOf b (put n) }

/-- The timestamp counter at 12.00 µs of a tick (R360). -/
def canTime (t : Tick) : Word := BitVec.ofNat 32 (t.toNat * 50 + 12)

/-- Registers of bus b below 50h. -/
def canRows (s : State) (b : BusId) : List (Nat × RegRow) :=
  let c := s.can[b]
  let oldest := (c.heldEntries.head?.map (·.index)).getD c.rxNext
  [(0x00, roRow (regU c.status)), (0x04, roRow (regU (put c.tec 9 0 ||| put c.rec' 8 16 ||| put c.recoverSeq 8 24))),
   (0x08, woRow false 7 fun _ w s => s.canCtrl b w), (0x0C, roRow (regU (canTime s.tick))), (0x10, roRow (regU (s.tdcWord b))),
   (0x20, w1cRow c.events 0xFF fun w s => s.canOf b fun c => { c with events := w1c c.events w }),
   (0x24, canRc s b (·.rxFrames) fun n c => { c with rxFrames := n }), (0x28, canRc s b (·.txFrames) fun n c => { c with txFrames := n }),
   (0x2C, canRc s b (·.rxDropped) fun n c => { c with rxDropped := n }), (0x30, canRc s b (·.errFrames) fun n c => { c with errFrames := n }),
   (0x34, canRc s b (·.busOffs) fun n c => { c with busOffs := n }), (0x38, canRc s b (·.pex) fun n c => { c with pex := n }),
   (0x40, roRow (regP (put oldest 6 0 ||| put c.heldEntries.length 7 8))), (0x44, woRow false 0x7F fun _ w s => s.rxAckWrite b w),
   (0x48, roRow (regP c.rxSerial))]

/-- The block of bus b. -/
def State.canRow (s : State) (b : BusId) (off : Nat) : Option RegRow :=
  if 0x80 ≤ off ∧ off < 0xC0 then some (roRow (regP (s.filterWord b ((off - 0x80) / 8) (off / 4 % 2))))
  else if 0x200 ≤ off ∧ off < 0x380 then (finOf 3 ((off - 0x200) / 128)).bind fun k => s.txRow b k (off % 128)
  else atOffset off (canRows s b)

/-- Word k of a receive entry. -/
def RxEntry.word (e : RxEntry) (k : Nat) : Word :=
  match k with
  | 0 => e.id
  | 1 => e.fmt
  | 2 => e.ts
  | 3 => e.serial
  | _ => wordAt e.data (k - 4)

/-- The receive window of bus b: every word reads 0 while the entry is not held (R358). -/
def State.rxRow (s : State) (b : BusId) (off : Nat) : Option RegRow :=
  let k := off / 4 % 32
  if 20 ≤ k then none
  else some (roRow (regP ((((s.can[b]).heldEntries.find? fun e => e.index == off / 128).map fun e => e.word k).getD 0)))

/-! ## Field I/O (R344) -/

/-- OUT_STATE. -/
def OutState.code : OutState → Nat
  | .off => 0
  | .on => 1
  | .tripped => 2
  | .dropped => 3
  | .waitRestore => 4

/-- Fn_STATE. -/
def State.chanStatus (s : State) (c : ChanId) : Word :=
  let x : Channel := s.io.ch[c]
  flag x.extSeen 11 ||| put x.out.code 3 8 ||| flag x.inLimit 6 ||| flag x.internalOn 5 ||| flag x.terminalOn 4 |||
    flag x.cmd 3 ||| flag x.valueB 2 ||| flag (chanValid s.cfg.eff s.io c) 1 ||| flag (s.readings.1.getLsbD c.val) 0

/-- A change of field I/O from a host. -/
def State.ioOf (s : State) (f : FieldIo → FieldIo) : State := { s with io := f s.io }

/-- A change of a channel from a host. -/
def State.chanOf (s : State) (c : ChanId) (f : Channel → Channel) : State := s.ioOf fun io => { io with ch := vmod io.ch c f }

/-- Channel c, offset within its registers. -/
def State.chanRow (s : State) (c : ChanId) (off : Nat) : Option RegRow :=
  let x : Channel := s.io.ch[c]
  let e := s.cfg.eff
  atOffset off
    [(0x00, roRow (regU (put (e.n F.fcMode c.val) 3 0 ||| put (e.n F.fcPaired c.val) 1 9))), (0x04, roRow (regU (s.chanStatus c))),
     (0x08, roRow (regU x.senseTick)), (0x0C, roRow (regU x.latched)), (0x10, roRow (regN x.freqWord)),
     (0x14, w1cRow x.events 0x1F fun w s => s.chanOf c fun x => { x with events := w1c x.events w }),
     (0x18, rcRow s { get := fun s => (s.io.ch[c]).trips, put := fun n s => s.chanOf c fun x => { x with trips := n } }),
     (0x1C, rcRow s { get := fun s => (s.io.ch[c]).quadErr, put := fun n s => s.chanOf c fun x => { x with quadErr := n } })]

/-- Summary words. -/
def fieldRows (s : State) : List (Nat × RegRow) :=
  let v := s.readings.1
  let ok := (fins 64).foldl (fun (m : BitVec 64) c => if chanValid s.cfg.eff s.io c then m ||| (1#64 <<< c.val) else m) 0
  let on := (fins 64).foldl (fun (m : BitVec 64) c => if (s.io.ch[c]).out == OutState.on then m ||| (1#64 <<< c.val) else m) 0
  let p := s.io.sup
  [(0x1000, roRow (regU (loWord v))), (0x1004, roRow (regU (hiWord v))), (0x1008, roRow (regU (loWord ok))),
   (0x100C, roRow (regU (hiWord ok))), (0x1010, roRow (regU (loWord on))), (0x1014, roRow (regU (hiWord on))),
   (0x1020, roRow (regU (flag p.low 0 ||| flag p.invalid 1 ||| flag p.dropped 2 ||| flag p.restore.isSome 3 ||| flag p.high 4 ||| flag p.invalidB 5))),
   (0x1024, w1cRow p.events 0x3F fun w s => s.ioOf fun io => { io with sup := { io.sup with events := w1c io.sup.events w } }),
   (0x1028, rcRow s { get := (·.io.sup.minV), zero := 0xFFFF, keeps := some min, put := fun n s => s.ioOf fun io => { io with sup := { io.sup with minV := n } } })]

/-- The field-channel block. -/
def State.fieldRow (s : State) (off : Nat) : Option RegRow :=
  if off < 0x800 then (finOf 64 (off / 32)).bind fun c => s.chanRow c (off % 32) else atOffset off (fieldRows s)

/-- ANn_VALUE: OVER and UNDER compare the code with the valid codes of the mode; an input in mode OFF has none (R339). -/
def State.analogueWord (s : State) (n : AnId) : Word :=
  let x : Analogue := s.io.an[n]
  let q := anRange (s.cfg.eff.n F.anMode n.val)
  flag x.shuntOff 19 ||| flag ((q.map fun q => decide (q.2 < x.code.toNat)).getD false) 18 |||
    flag ((q.map fun q => decide (x.code.toNat < q.1)).getD false) 17 ||| flag x.valid 16 ||| put x.code.toNat 16 0

/-- The analogue block. -/
def State.analogueRow (s : State) (off : Nat) : Option RegRow :=
  if off < 0x40 then
    if off % 16 = 0 then (finOf 4 (off / 16)).map fun n => roRow (regU (s.analogueWord n)) else none
  else if off = 0x40 then
    some (w1cRow (flag s.io.anSupOff 0 ||| s.io.anEvents &&& 6) 6 fun w s => s.ioOf fun io => { io with anEvents := w1c io.anEvents (w &&& 6) })
  else none

/-- STATE of a load switch. -/
def LsState.code : LsState → Nat
  | .off => 0
  | .ramp => 1
  | .on => 2
  | .tripped => 3
  | .thermal => 4
  | .lockout => 5
  | .dropped => 6
  | .waitRestore => 7
  | .shed => 8

/-- Ln_STATUS. -/
def LoadSwitch.status (x : LoadSwitch) : Word :=
  flag x.internalOn 27 ||| flag x.extSeen 26 ||| flag x.thermWarn 25 ||| put (min 16 x.retries) 5 20 ||| put x.st.code 4 16 |||
    flag (decide (0 < x.blank)) 15 ||| flag x.held 14 ||| flag x.cmd 13 ||| put x.current 12 0

/-- A change of a load switch from a host. -/
def State.loadOf (s : State) (l : LoadId) (f : LoadSwitch → LoadSwitch) : State := s.ioOf fun io => { io with ls := vmod io.ls l f }

/-- Load switch l, offset within its registers. -/
def State.switchRow (s : State) (l : LoadId) (off : Nat) : Option RegRow :=
  let x : LoadSwitch := s.io.ls[l]
  atOffset off
    [(0x00, roRow (regU x.status)), (0x04, roRow (regU (put16 x.temp 0))), (0x14, roRow (regP (put x.iEff 16 16))),
     (0x18, w1cRow x.events 0x1FF fun w s => s.loadOf l fun x => { x with events := w1c x.events w }),
     (0x1C, woRow false 1 fun _ w s => .ok (if bit w 0 then s.loadOf l LoadSwitch.clearLockout else s))]

/-- The load-switch block (R344). -/
def State.loadRow (s : State) (off : Nat) : Option RegRow :=
  let io := s.io
  if off < 0x200 then (finOf 16 (off / 32)).bind fun l => s.switchRow l (off % 32)
  else atOffset off
    [(0x200, roRow (regU (put io.sum 16 0 ||| put io.iGrp 16 16))),
     (0x204, roRow (regU (flag (decide (0 < io.overTicks)) 0 ||| flag (decide (0 < io.overTicks)) 1 ||| flag (decide (20 ≤ io.overTicks)) 2 |||
       put (min 20 io.overTicks) 5 8))),
     (0x208, rcRow s { get := (·.io.peak), keeps := some max, put := fun n s => s.ioOf fun io => { io with peak := n } })]

end Sys2Proof.Machine
end

