-- ==== Sys2Proof/Machine/RegsImg.lean ====
section
/-! DEFINITION. Where the address map shows the effective configuration (R57, R84, R124, R157, R192, R193, R194, R228, R255,
R284, R285, R320, R344, R365, R395, R430, R447, R474): the places of catalogue fields in register words. -/

namespace Sys2Proof.Machine

/-- Unit block (R285). -/
def unitImg (off : Nat) : Option ImgReg :=
  if off = 0x204 then
    some ⟨true, [⟨0, 8, F.sideOpenInput, 0, 0⟩, ⟨8, 8, F.sideOpenInput, 1, 0⟩, ⟨16, 8, F.sideCloseInput, 0, 0⟩,
      ⟨24, 8, F.sideCloseInput, 1, 0⟩]⟩
  else none

/-- Hinge block (R395). -/
def hingeImg (off : Nat) : Option ImgReg :=
  if off = 0x50 then some (placesReg false 0 [(0, 1, F.portYield), (8, 1, F.hingeMode), (16, 16, F.pairWaitMs)]) else none

/-- BOLT registers and safe telegrams (R320). -/
def boltImgTable : List (Nat × ImgReg) :=
  [(0x01C, placesReg true 0 [(0, 16, F.boltTestPeriodMs)]),
   (0x024, ⟨true, [⟨0, 8, F.releasePair, 0, 0⟩, ⟨8, 8, F.releasePair, 0, 1⟩, ⟨16, 8, F.releasePair, 0, 2⟩, ⟨24, 2, F.releaseSrc, 0, 0⟩]⟩),
   (0x400, placesReg true 0 [(0, 16, F.safeRxSrc), (16, 13, F.safeCanBase)]),
   (0x404, itemReg false F.safeConnId 0 0),
   (0x408, placesReg true 0 [(0, 8, F.safeTxPeriodMs), (8, 8, F.safeMaxDelayMs), (16, 16, F.safeRxTimeoutMs)]),
   (0x40C, placesReg true 0 [(0, 16, F.safeSingleMaxMs)])]

/-- Obstacle and closure registers of axis a (R255). -/
def obstImgTable (a : Nat) : List (Nat × ImgReg) :=
  [(0x2C, placesReg true a [(0, 16, F.obstThreshold), (16, 16, F.sealThreshold)]),
   (0x30, placesReg true a [(0, 16, F.sealZone), (16, 2, F.obstConfirm)]),
   (0x34, itemReg true F.reverseDist a 0),
   (0x38, itemReg true F.revDecel a 0),
   (0x3C, placesReg true a [(0, 16, F.closeForceLim), (16, 16, F.openForceLim)]),
   (0x40, placesReg true a [(0, 16, F.keLimit), (16, 16, F.sigBand)]),
   (0x44, itemReg true F.closedNom a 0),
   (0x48, placesReg true a [(0, 16, F.closedDriftMax), (16, 16, F.sigDriftMax)]),
   (0x4C, placesReg true a [(0, 8, F.closedTc), (8, 1, F.closedTSrc), (16, 16, F.closedStep)]),
   (0x50, placesReg true a [(0, 16, F.sigStep), (16, 16, F.closeSettle)])]

/-- The block of BOLT, pairs, safe telegrams, obstacle and closure registers (R255, R320). -/
def boltImg (off : Nat) : Option ImgReg :=
  if off < 0x100 ∨ 0x300 ≤ off ∧ off < 0x8000 then atOffset off boltImgTable
  else if off < 0x300 then
    if off % 16 = 0 then some (placesReg true ((off - 0x100) / 16) [(0, 8, F.pairChA), (8, 8, F.pairChB), (16, 1, F.pairMode)]) else none
  else if off < 0xC000 then
    let a := (off - 0x8000) / 256
    let o := off % 256
    if 0x60 ≤ o ∧ o < 0x80 then
      some ⟨true, [⟨0, 16, F.speedTable, a, (o - 0x60) / 2⟩, ⟨16, 16, F.speedTable, a, (o - 0x60) / 2 + 1⟩]⟩
    else atOffset o (obstImgTable a)
  else if off < 0xC200 ∧ off % 32 = 0x10 then some (placesReg true ((off - 0xC000) / 32) [(0, 8, F.finalGapLimit)])
  else none

/-- CAN registers of bus b (R365). -/
def canImg (b off : Nat) : Option ImgReg :=
  if off = 0x14 then some (itemReg true F.nomTiming b 0)
  else if off = 0x18 then some (itemReg true F.dataTiming b 0)
  else if off = 0x1C then some (placesReg true b [(0, 1, F.txOrder), (1, 2, F.canMode)])
  else none

/-- Field channels (R344): the fields of Fn_CFG of view P. -/
def fieldImg (off : Nat) : Option ImgReg :=
  if off < 0x800 ∧ off % 32 = 0 then some (placesReg false (off / 32) [(4, 5, F.senseDiv), (16, 16, F.freqGateMs)]) else none

/-- Analogue inputs (R344). -/
def analogueImg (off : Nat) : Option ImgReg :=
  if off < 0x40 ∧ off % 16 = 4 then some (placesReg true (off / 16) [(0, 2, F.anMode)]) else none

/-- Load switches (R344). -/
def loadImgTable (l : Nat) : List (Nat × ImgReg) :=
  [(0x08, placesReg false l [(0, 8, F.lsSlew), (8, 1, F.lsPaired), (16, 16, F.lsInrushMs)]),
   (0x0C, placesReg false l [(0, 16, F.lsOvldMs), (16, 4, F.lsRetryMax)]),
   (0x10, placesReg false l [(0, 16, F.lsRetryMs)]),
   (0x14, placesReg false l [(0, 16, F.lsLimit)])]

/-- The load-switch block. -/
def loadImg (off : Nat) : Option ImgReg := if off < 0x200 then atOffset (off % 32) (loadImgTable (off / 32)) else none

/-- Keyway block (R474). -/
def kwImg (off : Nat) : Option ImgReg :=
  if off = 0x70C then some (placesReg true 0 [(0, 16, F.keywayPort), (16, 16, F.censusPort)])
  else if off = 0x710 then
    some (placesReg true 0 [(0, 1, F.ipMode), (1, 1, F.censusEnable), (8, 8, F.authFailLimit), (16, 16, F.sessionIdleS)])
  else if off = 0x908 then some (placesReg true 0 [(0, 16, F.censusClass)])
  else none

/-- Doorway d (R284). -/
def doorImgTable (d : Nat) : List (Nat × ImgReg) :=
  [(0x000, placesReg true d [(23, 1, F.doorUsed)]),
   (0x100, ⟨true, [⟨0, 8, F.doorAxis, d, 0⟩, ⟨8, 8, F.doorAxis, d, 1⟩, ⟨16, 8, F.doorAxis, d, 2⟩, ⟨24, 8, F.doorAxis, d, 3⟩]⟩),
   (0x104, placesReg true d [(0, 8, F.closedInput), (8, 8, F.lockedInput), (16, 8, F.isolatedInput), (24, 8, F.isoLockedInput)]),
   (0x108, placesReg true d [(0, 8, F.egressPair), (8, 8, F.buttonIn), (16, 8, F.buttonOut)]),
   (0x10C, placesReg true d [(0, 8, F.lampOut), (8, 8, F.buzzerOut), (16, 8, F.heaterOut), (24, 1, F.doorSide)]),
   (0x110, itemReg false F.leafOpen d 0), (0x114, itemReg false F.proveDist d 0),
   (0x118, itemReg false F.stepOutPos d 0), (0x11C, itemReg false F.stepInPos d 0),
   (0x120, itemReg false F.lockLockedPos d 0), (0x124, itemReg false F.lockUnlockedPos d 0),
   (0x128, placesReg false d [(0, 1, F.buttonEnable), (1, 1, F.egressMoving), (2, 1, F.egressAction), (3, 1, F.heaterOn)]),
   (0x140, placesReg false d [(0, 16, F.warningMs), (16, 16, F.announceHoldMaxMs)]),
   (0x144, placesReg false d [(0, 16, F.autoCloseMs)]),
   (0x148, placesReg false d [(0, 8, F.reopenAttempts), (16, 16, F.reopenPauseMs)]),
   (0x14C, placesReg false d [(0, 16, F.lockConfirmMs), (16, 16, F.stepRetryMs)]),
   (0x150, placesReg false d [(0, 16, F.chimeMs)]),
   (0x158, itemReg false F.jogSpeedMax d 0)]

/-- Axis a (R192, R228), part 0. -/
def axisImgTable0 (a : Nat) : List (Nat × ImgReg) :=
  [(0x040, placesReg true a [(0, 2, F.axisKind), (4, 1, F.posSign), (8, 1, F.stepEncoder), (9, 1, F.stepSource)]),
   (0x044, itemReg true F.posScale a 0), (0x048, itemReg true F.softMin a 0), (0x04C, itemReg true F.softMax a 0),
   (0x050, itemReg false F.vMax a 0), (0x054, itemReg false F.vBreak a 0), (0x058, itemReg false F.vStart a 0),
   (0x05C, itemReg false F.vStop a 0), (0x060, itemReg false F.a1 a 0), (0x064, itemReg false F.a2 a 0),
   (0x068, itemReg false F.d2 a 0), (0x06C, itemReg false F.d1 a 0), (0x070, itemReg false F.qstopDecel a 0),
   (0x080, placesReg false a [(0, 3, F.homeMethod), (4, 1, F.homeDir), (8, 8, F.homeDebounce), (16, 8, F.homeChatterEdges)]),
   (0x084, itemReg false F.homeSpeed a 0),
   (0x088, placesReg false a [(0, 16, F.homeForce), (16, 8, F.homeCurrent)]),
   (0x08C, placesReg false a [(0, 16, F.homeStallTicks)]),
   (0x090, itemReg false F.homeStallV a 0), (0x094, itemReg false F.homePos a 0), (0x098, itemReg false F.homeBackoff a 0),
   (0x09C, itemReg false F.homeMaxTravel a 0),
   (0x0A0, placesReg false a [(0, 16, F.homeChatterWindow), (16, 16, F.homeTimeout)]),
   (0x0A4, placesReg false a [(0, 8, F.homeInput), (8, 8, F.limitNegInput), (16, 8, F.limitPosInput), (24, 1, F.homeInputLevel), (25, 2, F.limitLevel)])]

/-- Axis a, part 1. -/
def axisImgTable1 (a : Nat) : List (Nat × ImgReg) :=
  [(0x0B0, placesReg false a [(0, 2, F.gearSource), (4, 3, F.gearSegments), (8, 6, F.gearMaster)]),
   (0x0B4, itemReg false F.gearCntScale a 0),
   (0x0B8, itemReg false F.gearRatio a 0), (0x0BC, itemReg false F.gearRatio a 1), (0x0C0, itemReg false F.gearRatio a 2),
   (0x0C4, itemReg false F.gearRatio a 3), (0x0C8, itemReg false F.gearM1 a 0), (0x0CC, itemReg false F.gearM2 a 0),
   (0x0D0, itemReg false F.gearM3 a 0),
   (0x0E0, placesReg false a [(0, 2, F.followSource), (8, 6, F.followInput)]),
   (0x0E4, itemReg false F.followInLo a 0), (0x0E8, itemReg false F.followInHi a 0), (0x0EC, itemReg false F.followXLo a 0),
   (0x0F0, itemReg false F.followXHi a 0), (0x0F4, itemReg false F.followDeadband a 0),
   (0x100, placesReg false a [(0, 4, F.posDiv), (16, 16, F.velFc)]),
   (0x104, placesReg false a [(0, 1, F.bankAtStart)]),
   (0x108, itemReg false F.tblX0 a 0), (0x10C, itemReg false F.tblX1 a 0),
   (0x110, placesReg false a [(0, 1, F.learnEnable), (16, 16, F.learnStep)]),
   (0x114, itemReg false F.learnVmin a 0),
   (0x200, placesReg false a [(0, 6, F.stepPulseCh), (16, 9, F.stepPulseMicro)]),
   (0x204, itemReg false F.fullstepUm a 0),
   (0x208, placesReg false a [(0, 16, F.runCurrent), (16, 16, F.quietDuty)]),
   (0x20C, itemReg false F.stepModeV a 0),
   (0x210, placesReg false a [(0, 8, F.holdFraction), (16, 16, F.holdDelay)]),
   (0x214, placesReg false a [(0, 16, F.stallTicks)]),
   (0x218, itemReg false F.stallWindow a 0)]

/-- Live configuration registers of axis a (R192, R228): bank words follow one another in the catalogue. -/
def axisImg (a off : Nat) : Option ImgReg :=
  if 0x120 ≤ off ∧ off < 0x1A0 then
    if off % 4 = 0 then some (itemReg false (F.bank0KpPos + (off - 0x120) / 4) a 0) else none
  else if off < 0xB0 then atOffset off (axisImgTable0 a)
  else atOffset off (axisImgTable1 a)

/-- Knuckle port s (R157). -/
def portImg (s off : Nat) : Option ImgReg :=
  if off = 0x20 then some (itemReg true F.stageType s 0)
  else if off = 0x24 then some (itemReg true F.stageTypeMask s 0)
  else if off = 0x28 then
    some ⟨true, [⟨0, 8, F.axisOfChannel, 2 * s, 0⟩, ⟨8, 8, F.axisOfChannel, 2 * s + 1, 0⟩, ⟨16, 1, F.witness, s, 0⟩]⟩
  else none

/-- Trace registers (R194). -/
def traceImg (off : Nat) : Option ImgReg :=
  if 0x100 ≤ off ∧ off < 0x140 then if off % 4 = 0 then some (itemReg false F.traceCh ((off - 0x100) / 4) 0) else none
  else atOffset off
    [(0x10, itemReg false F.traceDepth 0 0), (0x14, itemReg false F.tracePre 0 0), (0x18, itemReg false F.traceTrig 0 0),
     (0x1C, itemReg false F.traceTrigCode 0 0), (0x20, itemReg false F.traceTrigLevel 0 0)]

/-- The configuration fields that a live register shows, by its address; shadows and tables apart. -/
def imgAt (addr : Nat) : Option ImgReg :=
  if addr < 0x10000 then unitImg addr
  else if addr < 0x20000 then none
  else if addr < 0x30000 then hingeImg (addr - 0x20000)
  else if addr < 0x40000 then boltImg (addr - 0x30000)
  else if addr < 0x41000 then canImg 0 (addr - 0x40000)
  else if addr < 0x42000 then canImg 1 (addr - 0x41000)
  else if addr < 0x50000 then none
  else if addr < 0x58000 then fieldImg (addr - 0x50000)
  else if addr < 0x60000 then analogueImg (addr - 0x58000)
  else if addr < 0x70000 then loadImg (addr - 0x60000)
  else if addr < 0x80000 then if addr = 0x70054 then some (itemReg false F.logSealMs 0 0) else none
  else if addr < 0x90000 then if addr = 0x80004 then some (placesReg false 0 [(0, 9, F.scrubPeriodS)]) else none
  else if addr < 0xA0000 then kwImg (addr - 0x90000)
  else if 0x100000 ≤ addr ∧ addr < 0x110000 then atOffset (addr % 0x1000) (doorImgTable ((addr - 0x100000) / 0x1000))
  else if 0x200000 ≤ addr ∧ addr < 0x240000 then axisImg ((addr - 0x200000) / 0x1000) (addr % 0x1000)
  else if 0x300000 ≤ addr ∧ addr < 0x302000 then portImg ((addr - 0x300000) / 0x100) (addr % 0x100)
  else if 0x400000 ≤ addr ∧ addr < 0x480000 then traceImg (addr - 0x400000)
  else none

/-- The runtime-writable places of a live register (R114): none of them is of the safety section. -/
def placesAt (addr : Nat) : List Part := ((imgAt addr).map (·.parts.filter Part.rw)).getD []

end Sys2Proof.Machine
end

