-- ==== Sys2Proof/Machine/RegsMotion.lean ====
section
/-! DEFINITION. Registers of doorways (R284), axes and their loop windows and tables (R192, R193, R228), knuckle ports (R157)
and the trace (R194). -/

namespace Sys2Proof.Machine

/-! ## Doorways (R284) -/

/-- DWn_STATUS; USED apart. -/
def Door.status (w : Door) : Word :=
  flag (w.homing != HomeStage.none) 22 ||| flag w.blocked 21 ||| flag w.jog.isSome 20 ||| flag (w.egress == EgressStage.wait) 19 |||
    flag (w.active.getLsbD 3) 18 ||| flag w.release 17 ||| put w.attempts 4 12 ||| put w.st.code 4 0

/-- DWn_INPUTS. -/
def Door.inputWord (w : Door) : Word := put w.active.toNat 7 0 ||| put w.valid.toNat 7 8

/-- A change of a doorway from a host. -/
def State.doorOf (s : State) (d : DoorId) (f : Door → Door) : State := { s with doors := vmod s.doors d f }

/-- DWn_CMD: CLOSE, OPEN, HOME and DOOR_RESET in the order of R72 (R262, R266, R278). DEDUCED (log 19). -/
def State.doorCommand (s : State) (d : DoorId) (w : Word) : State :=
  let s := if bit w 1 then s.onDoorCmd d fun r i => r.close i else s
  let s := if bit w 0 then s.onDoorCmd d fun r i => r.open i else s
  let s := if bit w 2 then s.onDoorCmd d fun r i => r.homeCommand i else s
  if bit w 3 then s.onDoorCmd d fun r i => r.doorReset i else s

/-- A jog may start in this state (R281). -/
def DoorState.jogs : DoorState → Bool
  | .closedLocked | .closedUnlocked | .opened | .obstructedOpen | .unhomed | .fault => true
  | _ => false

/-- What refuses a jog, if anything (R281, R482). DEDUCED (log 22). -/
def State.jogRefusal (s : State) (d : DoorId) (i : Sender) (k : Fin 4) : Option Code :=
  let w : Door := s.doors[d]
  let ready := match slotAxis s.cfg.eff d.val k.val with
    | none => false
    | some a => (((s.cfg.eff.portOf a.val).bind (finOf 32)).map fun p => (s.ports[p]).st == PortState.ready).getD false
  let other := match w.jog with
    | none => false
    | some j => j != k
  if !s.isA i .maintainer then some 0x4F03
  else if i.isSome && s.unit.st != UnitState.maintenance || !w.st.jogs then some 0x4F06
  else if i.isSome && !s.ward 11 || !ready || other || s.cfg.eff.n F.doorUsed d.val != 1 then some 0x4F07
  else none

/-- DWn_JOG (R281, R282): GO before STOP. DEDUCED (log 19). -/
def State.jogWrite (s : State) (d : DoorId) (i : Sender) (w : Word) : WriteResult :=
  let k : Fin 4 := Fin.ofNat 4 (fld w 1 0)
  let stop := fun s : State => if bit w 5 && (s.doors[d]).jog.isSome then s.onDoor d fun r i => r.jogEnd i else s
  if bit w 4 then
    match s.jogRefusal d i k with
    | some c => .error c
    | none => .ok (stop (s.onDoor d fun r i => r.jogGo i k))
  else .ok (stop s)

/-- Live registers of doorway d, configuration apart. -/
def doorRows (s : State) (d : DoorId) : List (Nat × RegRow) :=
  let w : Door := s.doors[d]
  [(0x000, roRow (regU w.status)), (0x004, roRow (regU w.tick)), (0x008, roRow (regU (put w.refusal.toNat 16 16 ||| put w.cause.toNat 16 0))),
   (0x00C, roRow (regU w.inputWord)), (0x010, roRow (regU w.warnEnd)),
   (0x014, w1cRow w.events 0x7FF fun x s => s.doorOf d fun w => { w with events := w1c w.events x }),
   (0x018, roRow (regN w.closeCount)), (0x01C, rcRow s { get := fun s => (s.doors[d]).holdIgnored, put := fun n s => s.doorOf d fun w => { w with holdIgnored := n } }),
   (0x040, woRow false 0xF fun _ x s => .ok (s.doorCommand d x)),
   (0x044, woRow true 0xFFFF fun _ x s => .ok (s.onDoor d fun r i => r.hold i (fld x 15 0))),
   (0x048, woRow true 1 fun _ x s => .ok (if bit x 0 then s.onDoor d fun r i => r.chime i else s)),
   (0x04C, woRow false 0xFFFFFFFF fun _ x s => .ok (s.doorOf d fun w => { w with jogTarget := x.toInt })),
   (0x050, woRow false 0x33 fun i x s => s.jogWrite d i x)]

/-! ## Axes (R192, R193, R228) -/

/-- SOURCE. -/
def Source.code : Source → Nat
  | .off => 0
  | .planner => 1
  | .homing => 2
  | .geared => 3
  | .follow => 4
  | .pulseDir => 5

/-- PHASE. -/
def Phase.code : Phase → Nat
  | .idle => 0
  | .start => 1
  | .accel1 => 2
  | .accel2 => 3
  | .cruise => 4
  | .decel2 => 5
  | .decel1 => 6
  | .away => 7
  | .qstop => 8
  | .wake => 9

/-- COIL: 0 OFF, 1 QUIET, 2 STRONG. -/
def StageCmd.coil (c : StageCmd) : Nat := if c.mode = 2 then 1 else if c.mode = 3 then 2 else 0

/-- AXn_MOTION_STATUS. -/
def MotionSt.status (m : MotionSt) : Word :=
  flag m.step.holding 18 ||| put m.cmd.coil 2 16 ||| flag m.limPos.active 13 ||| flag m.limNeg.active 12 ||| flag m.atTarget 11 |||
    flag m.deferral.isSome 10 ||| flag m.home.homed 9 ||| flag m.driven 8 ||| put m.phase.code 4 4 ||| put m.source.code 4 0

/-- A change of an axis's motion from a host. -/
def State.motOf (s : State) (a : AxisId) (f : MotionSt → MotionSt) : State :=
  { s with axes := vmod s.axes a fun x => { x with mot := f x.mot } }

/-- A change of an axis's engine from a host. -/
def State.loopOf (s : State) (a : AxisId) (f : LoopSt → LoopSt) : State :=
  { s with axes := vmod s.axes a fun x => { x with loop := f x.loop } }

/-- Live registers of axis a, configuration apart. AXn_PHASE_OFFSET is rounded down to whole counts. DESIGN CHOICE (log 91). -/
def axisRows (s : State) (a : AxisId) : List (Nat × RegRow) :=
  let x : Axis := s.axes[a]
  let m := x.mot
  let l := x.loop
  [(0x000, roRow (regU m.status)), (0x004, roRow (regI m.target)), (0x008, roRow (regI m.xRef)), (0x00C, roRow (regI m.vRef)),
   (0x010, roRow (regI m.aRef)), (0x014, roRow (regI l.xMeas)), (0x018, roRow (regI l.vMeas)), (0x01C, roRow (regP (wordOfInt m.home.offset))),
   (0x020, roRow (regN m.home.result)), (0x024, roRow (regI m.home.found)),
   (0x028, w1cRow m.events 0x3FF fun w s => s.motOf a fun m => { m with events := w1c m.events w }),
   (0x02C, rcRow s { get := fun s => (s.axes[a]).mot.step.stallDev, keeps := some max, put := fun n s => s.motOf a fun m => { m with step := { m.step with stallDev := n } } }),
   (0x030, roRow (regP (put m.step.start 16 0))), (0x034, roRow (regP (wordOfInt m.step.rate))),
   (0x038, roRow (regP (wordOfInt (fdiv m.step.offset 256)))), (0x0D4, roRow (regP (wordOfInt (rdiv m.gearX0 (2 ^ 44))))),
   (0x104, roRow (regU (flag l.bank 8))),
   (0x118, roRow (regU (flag l.learn.pass.isSome 31 ||| put l.learn.skipped 9 16 ||| put (min 65535 l.learn.passes) 16 0))),
   (0x1E0, rcRow s { get := fun s => (s.axes[a]).loop.handovers, put := fun n s => s.loopOf a fun l => { l with handovers := n } }),
   (0x1E4, rcRow s { get := fun s => (s.axes[a]).loop.satTicks, put := fun n s => s.loopOf a fun l => { l with satTicks := n } }), (0x1F0, roRow (regU (loopStatus l)))]

/-- A word of a table window (R193): entry k, or 256 + k for the cogging table. -/
def State.tableRow (s : State) (a : AxisId) (k : Nat) : RegRow :=
  let l : LoopSt := (s.axes[a]).loop
  let v := if k < 256 then l.fric.getD k 0 else l.cog.getD (k - 256) 0
  { reg := regP (flag (l.learnt.getLsbD k) 16 ||| put (v % 65536).toNat 16 0),
    parts := [⟨0, 16, if k < 256 then F.frictionTable else F.coggingTable, a.val, k % 256⟩] }

/-- Registers and windows of axis a, configuration apart. -/
def State.axisRow (s : State) (a : AxisId) (off : Nat) : Option RegRow :=
  if 0x800 ≤ off then some (s.tableRow a ((off - 0x800) / 4))
  else if 0x600 ≤ off then if loopListed ((off - 0x600) / 4) then some (roRow (regP (loopWord s.cfg.eff s.axes[a] a.val ((off - 0x600) / 4)))) else none
  else atOffset off (axisRows s a)

/-! ## Knuckle ports (R157) -/

/-- PORT_STATE. -/
def PortState.code : PortState → Nat
  | .unused => 0
  | .discovering => 1
  | .ready => 2
  | .absent => 3
  | .mismatch => 4
  | .lost => 5
  | .unexpected => 6

/-- A change of a port from a host. -/
def State.portOf (s : State) (k : PortId) (f : Port → Port) : State := { s with ports := vmod s.ports k f }

/-- A port counter. -/
def portRc (s : State) (k : PortId) (get : Port → Nat) (put : Nat → Port → Port) : RegRow :=
  rcRow s { get := fun s => get s.ports[k], put := fun n s => s.portOf k (put n) }

/-- Registers of port k, configuration apart. -/
def portRows (s : State) (k : PortId) : List (Nat × RegRow) :=
  let p : Port := s.ports[k]
  [(0x00, roRow (regU (put p.epoch.toNat 16 16 ||| put p.status.toNat 8 8 ||| put p.st.code 3 4 ||| put p.link 2 0))),
   (0x04, roRow (regU (put p.miss 8 24 ||| put p.how 8 16 ||| put p.appliedTick.toNat 16 0))), (0x08, roRow (regP p.appliedCrc)),
   (0x0C, roRow (regN p.typeCode)), (0x10, roRow (regN p.serial)),
   (0x14, roRow (regU (put p.stageIf 16 16 ||| put p.channels 8 8 ||| put p.slot 5 0))),
   (0x18, roRow (regU (put p.hwRev 16 16 ||| put p.fwRev 16 0))), (0x1C, roRow (regN p.caps)),
   (0x2C, roRow (regU (put p.temp.toNat 16 16 ||| put p.dcBus.toNat 16 0))),
   (0x30, portRc s k (·.upCrc) fun n p => { p with upCrc := n }), (0x34, portRc s k (·.upResend) fun n p => { p with upResend := n }),
   (0x38, portRc s k (·.downNak) fun n p => { p with downNak := n }), (0x3C, portRc s k (·.missed) fun n p => { p with missed := n }),
   (0x40, portRc s k (·.late) fun n p => { p with late := n }), (0x44, portRc s k (·.echoErr) fun n p => { p with echoErr := n }),
   (0x48, woRow false 1 fun _ w s => .ok (if bit w 0 then s.portOf k fun p => p.rediscover s.tick else s)),
   (0x4C, roRow (regU (put p.paramIndex 16 16 ||| put p.paramReason 8 8 ||| put p.paramHow 2 4 ||| put p.reason 4 0)))]

/-- The block of the ports. -/
def State.portRow (s : State) (off : Nat) : Option RegRow :=
  if off < 0x2000 then (finOf 32 (off / 0x100)).bind fun k => atOffset (off % 0x100) (portRows s k)
  else if off = 0x2000 then some (roRow (regU (packWord (s.ports.toList.map fun p => p.link == 2))))
  else if off = 0x2004 then some (roRow (regU (packWord (s.ports.toList.map fun p => p.st == PortState.ready))))
  else none

/-! ## The trace (R194) -/

/-- TRACE_STATUS.STATE. -/
def TraceState.code : TraceState → Nat
  | .idle => 0
  | .armed => 1
  | .triggered => 2
  | .done => 3

/-- The trace is recording or waits for its trigger. -/
def TraceSt.active (t : TraceSt) : Bool := t.st == TraceState.armed || t.st == TraceState.triggered

/-- TRACE_CTRL (R188, R189): ARM acts in IDLE and DONE, FORCE in ARMED. DEDUCED (log 19). -/
def State.traceCtrl (s : State) (w : Word) : State :=
  let t := s.trace
  let t := if bit w 2 then { t with stopReq := some s.tick } else t
  let t := if bit w 1 then { t with forceReq := some s.tick } else t
  let t := if bit w 0 && !t.active then { t with armReq := some s.tick } else t
  { s with trace := t }

/-- The trace block, configuration apart. -/
def State.traceBlock (s : State) (off : Nat) : Option RegRow :=
  let t := s.trace
  if 0x80000 ≤ off then
    some { reg := regP (t.sample ((off - 0x80000) / 0x20000) (off % 0x20000 / 4)), shut := t.active }
  else atOffset off
    [(0x00, woRow false 7 fun _ w s => .ok (s.traceCtrl w)),
     (0x04, roRow (regP (put t.preValid 15 16 ||| flag t.truncated 2 ||| put t.st.code 2 0))), (0x08, roRow (regP t.trigTick)),
     (0x0C, roRow (regP (BitVec.ofNat 32 t.recorded)))]

end Sys2Proof.Machine
end

