-- ==== Sys2Proof/Machine/RegsUnit.lean ====
section
/-! DEFINITION. Registers of the unit block (R57, R84, R285), of configuration (R124), of the hinge (R395), of the recorder
(R430), of memory integrity (R447) and of Keyway (R474). -/

namespace Sys2Proof.Machine

/-! ## Unit block -/

/-- UNIT_STATUS (R84). -/
def State.unitStatus (s : State) : Word :=
  put s.unit.holdCode.toNat 16 16 ||| flag s.unit.slotB 10 ||| flag s.evalConfig 9 ||| flag s.unit.variantT0 8 |||
    put s.hinge.role.code 2 4 ||| put s.unit.st.code 4 0

/-- CLOCK_STATUS (R84). -/
def State.clockRow (s : State) : RegRow :=
  { reg := regUP (put s.unit.locks.toNat 8 1) (flag s.unit.strobeFault 9), mask := 0x200,
    clear := some fun w s => if bit w 9 then { s with unit := { s.unit with strobeFault := false } } else s }

/-- MODULE_ADDRESS (R57). -/
def State.addressRow (s : State) : RegRow :=
  let p := s.panel
  w1cRow (put p.pinsNow.toNat 10 16 ||| flag p.addrChanged 11 ||| flag p.addrValid 10 ||| put p.pinsUsed.toNat 9 0) 0x800
    fun w s => if bit w 11 then { s with panel := { s.panel with addrChanged := false } } else s

/-- WARD_STATUS (R57). -/
def State.wardRow (s : State) : RegRow :=
  let p := s.panel
  { reg := regUP (flag p.coverOpened 17 ||| flag p.coverOpen 16 ||| flag s.keyMatch 12 ||| put (p.ward.toNat / 256) 4 8)
      (put p.ward.toNat 8 0), mask := 0x20000,
    clear := some fun w s => if bit w 17 then { s with panel := { s.panel with coverOpened := false } } else s }

/-- RESET_STATUS (R57). -/
def State.resetRow (s : State) : RegRow :=
  let r := s.panel.rst
  w1cRow (put r.hold 24 8 ||| flag r.stuckSeen 3 ||| flag r.stuck 2 ||| flag r.armed 1 ||| flag r.pressed 0) 0x8
    fun w s => if bit w 3 then { s with panel := { s.panel with rst := { s.panel.rst with stuckSeen := false } } } else s

/-- An open or close command for every used doorway of a side (R262, R285). DEDUCED (log 19). -/
def State.sideCommand (s : State) (right opening : Bool) : State :=
  s.onDoors (fun d => s.cfg.eff.n F.doorSide d.val == (if right then 1 else 0))
    fun r i => if opening then r.open i else r.close i

/-- A write of DOOR_SIDE_CMD: close commands come before open commands (R72, R285). -/
def State.sideWrite (s : State) (w : Word) : State :=
  let s := if bit w 2 then s.sideCommand false false else s
  let s := if bit w 3 then s.sideCommand true false else s
  let s := if bit w 0 then s.sideCommand false true else s
  if bit w 1 then s.sideCommand true true else s

/-- The unit block. -/
def unitRows (s : State) : List (Nat × RegRow) :=
  let p := s.panel
  [(0x000, roRow (regU s.unitStatus)), (0x004, roRow (regU s.tick)), (0x008, roRow (regU s.unit.entryTick)),
   (0x00C, s.clockRow), (0x100, s.addressRow), (0x104, s.wardRow),
   (0x108, roRow (regU (flag p.holdup 31 ||| flag p.holdupLow 30 ||| flag p.supplyHigh 29 ||| put p.holdupMs 8 16 ||| put p.moduleV.toNat 16 0))),
   (0x10C, roRow (regU (put s.io.sup.v 16 0))),
   (0x110, roRow (regU (flag p.housingHot 16 ||| put p.housingT.toNat 16 0))),
   (0x114, s.resetRow),
   (0x200, woRow false 0xF fun _ w s => .ok (s.sideWrite w))]

/-! ## Configuration block (R124) -/

/-- Entry i of the clamp report. -/
def ClampReport.entry (r : ClampReport) (i : Nat) : Option ClampEntry :=
  if i < r.rev.length then r.rev[r.rev.length - 1 - i]? else none

/-- Word k of a clamp report entry. -/
def ClampEntry.word (e : ClampEntry) (k : Nat) : Word :=
  match k with
  | 0 => put e.element 16 16 ||| put e.field 16 0
  | 1 => e.read
  | 2 => e.used
  | _ => put e.reason.code 8 0

/-- A word of the bitting registers, by its place from 0001_0100h on. DEDUCED (log 32). -/
def State.bittingWord (s : State) (k : Nat) : Option Word :=
  let x : Option (BitVec 64) :=
    if 1 ≤ k / 2 ∧ k / 2 ≤ 8 then some (vget s.cfg.bits (k / 2 - 1) 0)
    else if k / 2 = 16 then some s.cfg.whole
    else if k / 2 = 17 then some s.cfg.stagedBits
    else none
  let x := if s.unit.st == UnitState.unconfigured then x.map fun _ => (0 : BitVec 64) else x
  let x := if k / 2 = 18 then some (s.se.safety.getD 0) else x
  x.map fun b => if k % 2 = 0 then loWord b else hiWord b

/-- CFG_STATUS (R124). -/
def State.cfgStatus (s : State) : Word :=
  let c := s.cfg
  put c.staged.code 4 28 ||| put c.resultB.code 4 20 ||| put c.resultA.code 4 16 ||| flag c.stagedNeeds 4 |||
    flag c.dryRun.isSome 3 ||| flag c.report.isFull 2 ||| flag c.safetyAccepted 1 ||| flag c.fallback 0

/-- The configuration block; CFG_APPLY apart. -/
def State.cfgRow (s : State) (off : Nat) : Option RegRow :=
  let c := s.cfg
  if 0x1000 ≤ off ∧ off < 0x5000 then
    some (roRow (regP (((c.report.entry ((off - 0x1000) / 16)).map fun e => e.word (off / 4 % 4)).getD 0)))
  else if 0x100 ≤ off ∧ off < 0x1A0 then (s.bittingWord ((off - 0x100) / 4)).map fun w => roRow (regU w)
  else atOffset off
    [(0x00, roRow (regU s.cfgStatus)),
     (0x04, roRow (regU (put (min 65535 c.report.total) 16 16 ||| put c.report.rev.length 11 0))),
     (0x08, roRow (regN c.serial)), (0x0C, roRow (regN c.stagedSerial)),
     (0x14, roRow (regP (put c.write.field 16 16 ||| put c.write.reason 8 8 ||| put c.write.element 6 0))),
     (0x18, roRow (regP c.write.used))]

/-! ## Hinge block (R395) -/

/-- HP_STATUS. -/
def State.hingeStatus (s : State) : Word :=
  let h := s.hinge
  let b := h.partner
  put ((b.map (·.state)).getD 0) 4 20 ||| put ((b.map (·.role)).getD 0) 2 18 ||| put h.role.code 2 16 |||
    flag (decide (20 ≤ h.silence)) 8 ||| flag h.split 7 ||| flag ((b.map (·.fault)).getD false) 6 |||
    flag (decide (0 < h.yielding)) 5 ||| flag h.alignStages 4 ||| flag h.claim.isSome 3 ||| flag (h.leases s.hingeIn) 2 |||
    put (if h.up then 2 else if h.sync then 1 else 0) 2 0

/-- HP_HEALTH. -/
def State.health (s : State) : Word := HingeRun.health ⟨s.hinge, [], none⟩ s.hingeIn

/-- HP_CTRL.HAND_OVER (R392): only a MAINTAINER, only an ACTIVE, and only where the partner is FIT and SYNCED. DEDUCED (log 22). -/
def State.handOver (s : State) (i : Sender) (w : Word) : WriteResult :=
  if !bit w 0 then .ok s
  else if !s.isA i .maintainer then .error 0x4F03
  else if s.hinge.role != Role.active then .error 0x4F06
  else
    let h := (s.hinge.partner.map (·.health)).getD 0
    if bit h 0 && bit h 1 then .ok s.yieldLease else .error 0x4F07

/-- A hinge counter cleared. -/
def hingeRc (s : State) (get : Hinge → Nat) (put : Nat → Hinge → Hinge) : RegRow :=
  rcRow s { get := fun s => get s.hinge, put := fun n s => { s with hinge := put n s.hinge } }

/-- The hinge block; HP_CFG apart. -/
def hingeRows (s : State) : List (Nat × RegRow) :=
  let h := s.hinge
  [(0x00, roRow (regU s.hingeStatus)), (0x04, roRow (regU (put h.highest.toNat 16 16 ||| put h.heldEpoch.toNat 16 0))),
   (0x08, roRow (regU s.health)), (0x0C, roRow (regU ((h.partner.map (·.health)).getD 0))),
   (0x10, roRow (regU s.se.serial)), (0x14, roRow (regU ((h.partner.map (·.serial)).getD 0))), (0x18, roRow (regI h.phase)),
   (0x1C, roRow (regU h.witness)), (0x20, roRow (regN (min 65535 h.silence))), (0x24, roRow (regN h.unfit.toNat)),
   (0x28, w1cRow h.events 0x1FF fun w s => { s with hinge := { s.hinge with events := w1c s.hinge.events w } }),
   (0x2C, roRow (regU h.takeoverTick)),
   (0x30, hingeRc s (·.hbCrc) fun n h => { h with hbCrc := n }), (0x34, hingeRc s (·.hbResend) fun n h => { h with hbResend := n }),
   (0x38, hingeRc s (·.hbLost) fun n h => { h with hbLost := n }), (0x3C, hingeRc s (·.echoErr) fun n h => { h with echoErr := n }),
   (0x40, hingeRc s (·.copyDiff) fun n h => { h with copyDiff := n }), (0x44, hingeRc s (·.lateRecords) fun n h => { h with lateRecords := n }),
   (0x54, woRow false 1 fun i w s => s.handOver i w)]

/-! ## Recorder block (R430) -/

/-- REC_STATUS.STATE. -/
def RecState.code : RecState → Nat
  | .mounting => 0
  | .recording => 1
  | .erasing => 2
  | .full => 3
  | .fault => 4

/-- REC_STATUS. DEDUCED (log 32). -/
def State.recStatus (s : State) : Word :=
  let r := s.recorder
  put r.fill 8 16 ||| put r.sealedPages.length 3 8 ||| flag s.offload 7 ||| flag (decide (99 ≤ r.fill)) 6 |||
    flag (decide (90 ≤ r.fill)) 5 ||| flag (decide (75 ≤ r.fill)) 4 ||| flag (s.panel.holdup && !r.sealedPages.isEmpty) 3 |||
    put r.st.code 3 0

/-- The recorder block; REC_CFG apart. -/
def State.recRow (s : State) (off : Nat) : Option RegRow :=
  let r := s.recorder
  let op := r.opTime s.up
  if 0x10 ≤ off ∧ off < 0x30 then some (roRow (regP (wordAt r.chain ((off - 0x10) / 4))))
  else atOffset off
    [(0x00, roRow (regU s.recStatus)), (0x04, roRow (regN (r.pageSeq.getD 0xFFFFFFFF))), (0x08, roRow (regN r.recSeq)),
     (0x0C, roRow (regN r.pagesLeft)), (0x30, roRow (regN s.se.powerCycle)), (0x34, roRow (regN (op % 2 ^ 32))),
     (0x38, roRow (regN (op / 2 ^ 32))), (0x3C, roRow (regN s.se.eraseCount)), (0x40, roRow (regN r.nand.retired.length)),
     (0x44, rcRow s { get := (·.recorder.dropped), put := fun n s => { s with recorder := { s.recorder with dropped := n } } }),
     (0x48, roRow (regN r.opened.data.length)),
     (0x4C, w1cRow r.events 0x3FF fun w s => { s with recorder := { s.recorder with events := w1c s.recorder.events w } }),
     (0x50, woRow false 1 fun _ w s => .ok (if bit w 0 then { s with recorder := s.recorder.seal s.panel.holdup } else s)),
     (0x58, rcRow s { get := (·.recorder.maxCorr), keeps := some max, put := fun n s => { s with recorder := { s.recorder with maxCorr := n } } }),
     (0x5C, roRow (regN (min 65535 r.progress))), (0x60, roRow (regU r.lastAnchor))]

/-! ## Memory block (R447) -/

/-- A memory counter cleared. -/
def memRc (s : State) (get : Mem → Nat) (put : Nat → Mem → Mem) : RegRow :=
  rcRow s { get := fun s => get s.mem, put := fun n s => { s with mem := put n s.mem } }

/-- Remap entry i, word k. -/
def Mem.remapWord (m : Mem) (i k : Nat) : Word :=
  match m.remap[i]? with
  | none => 0
  | some e => if k = 0 then put e.1 20 0 ||| flag true 31 else BitVec.ofNat 32 e.2

/-- The memory block; MEM_SCRUB_CFG apart. -/
def State.memRow (s : State) (off : Nat) : Option RegRow :=
  let m := s.mem
  if 0x100 ≤ off ∧ off < 0x180 then some (roRow (regU (m.remapWord ((off - 0x100) / 8) (off / 4 % 2))))
  else atOffset off
    [(0x00, roRow (regU (put m.remap.length 5 16 ||| flag (decide (16 ≤ m.remap.length)) 0))), (0x08, roRow (regN m.pos)),
     (0x0C, roRow (regU m.passes)), (0x10, memRc s (·.onFly) fun n m => { m with onFly := n }),
     (0x14, memRc s (·.corrScrub) fun n m => { m with corrScrub := n }), (0x18, memRc s (·.pageCorr) fun n m => { m with pageCorr := n }),
     (0x1C, memRc s (·.uncorr) fun n m => { m with uncorr := n }), (0x20, memRc s (·.refused) fun n m => { m with refused := n }),
     (0x24, memRc s (·.parity) fun n m => { m with parity := n }), (0x28, memRc s (·.notInit) fun n m => { m with notInit := n }),
     (0x30, roRow (regP m.lastErr)), (0x34, roRow (regP m.lastInfo)),
     (0x38, w1cRow m.events 0x7F fun w s => { s with mem := { s.mem with events := w1c s.mem.events w, uncorrActive := s.mem.uncorrActive && !bit w 1 } }),
     (0x3C, roRow (regN m.dma.toNat)),
     (0x40, w1cRow m.paritySrc 0xFF fun w s => { s with mem := { s.mem with paritySrc := w1c s.mem.paritySrc w } }),
     (0x44, woRow false 0x13F fun _ w s => .ok (if bit w 8 then { s with mem := s.mem.clearPage (fld w 5 0) } else s))]

/-! ## Keyway block (R474) -/

/-- KW_STATUS.OWN_ROLE. -/
def KwRole.code : KwRole → Nat
  | .operator => 0
  | .maintainer => 1
  | .information => 2
  | .observer => 3
  | .enrolment => 4

/-- A claim's holder as a nibble, Fh for none. -/
def holderNibble (h : Option SessId) : Nat := (h.map (·.val)).getD 15

/-- Eight holders of a vector from a place on. -/
def holderWord {n : Nat} (v : Vector (Option SessId) n) (k : Nat) : Word :=
  BitVec.ofNat 32 (((List.range 8).map fun j => holderNibble (vget v (8 * k + j) none) * 16 ^ j).foldl (· + ·) 0)

/-- Word k of a session's registers. -/
def State.sessionRow (s : State) (i k : Nat) : Option RegRow :=
  let x : Option Session := vget s.kw.sess i none
  let held := ((finOf 8 i).map fun i => (s.kw.held i).length).getD 0
  match k with
  | 0 => some (roRow (regP ((x.map fun x => flag true 0 ||| put x.role.code 3 1 ||| put (min 255 held) 8 8).getD 0)))
  | 1 => some (roRow (regP ((x.map (·.peer)).getD 0)))
  | 2 => some (roRow (regP ((x.map (·.openTick)).getD 0)))
  | 3 => some (roRow (regP ((x.map fun x => wordAt x.cert 0).getD 0)))
  | 4 => some (roRow (regP ((x.map fun x => wordAt x.cert 1).getD 0)))
  | 5 => some (roRow (regP ((x.map fun x => put x.queue.length 9 0 ||| put x.dropTotal 16 16).getD 0)))
  | _ => none

/-- Anchor registers: word k of anchor j. -/
def State.anchorRow (s : State) (j k : Nat) : Option RegRow :=
  let a : Option (List Byte) := vget s.se.anchors j none
  if k = 0 then some (roRow (regU (flag a.isSome 0)))
  else if k ≤ 8 then some (roRow (regU ((a.map fun d => wordAt (sha256 d) (k - 1)).getD 0)))
  else none

/-- Words of a census entry (R474). -/
def CensusEntry.word (e : CensusEntry) (k : Nat) : Word :=
  match k with
  | 0 => put e.addr 9 0 ||| flag e.fresh 9 ||| put e.role 2 10 ||| put e.state 4 12 ||| put e.cls 16 16
  | 1 => e.serial
  | 2 => loWord e.safety
  | 3 => hiWord e.safety
  | 4 => loWord e.whole
  | 5 => hiWord e.whole
  | 6 => e.tick
  | _ => put e.flags 16 0

/-- FW_STATUS.STAGED_RESULT. -/
def FwResult.code : FwResult → Nat
  | .notTried => 0
  | .wouldBoot => 1
  | .blank => 2
  | .invalid => 3
  | .badSignature => 4
  | .rolledBack => 5

/-- IP_SRC. -/
def IpSrc.code : IpSrc → Nat
  | .none => 0
  | .dhcp => 1
  | .linkLocal => 2
  | .static => 3

/-- FW_VERSION in the header of the slot not booted; 0 if blank (R474). -/
def Firmware.stagedVersion (f : Firmware) : Nat :=
  let bs := if f.booted then f.fw[0] else f.fw[1]
  if slice bs 0 4 = [0x5A, 0x46, 0x57, 0x52] then leAt bs 8 4 else 0

/-- KW_STATUS as a session reads it. -/
def State.kwStatus (s : State) (me : Option SessId) : Word :=
  let own : Option Session := me.bind fun i => s.kw.sess[i]
  put s.se.anchorCount 2 16 ||| put ((own.map (·.role.code)).getD 0) 3 8 ||| put ((me.map (·.val)).getD 0) 4 4 |||
    put s.openSessions.length 4 0

/-- KW_EVENT_ACK and SUBSCRIBE ACK: entries up to an EVENT_SEQ leave the session's queue (R464). -/
def State.ackEvents (s : State) (i : SessId) (seq : Word) : State :=
  { s with kw := { s.kw with sess := vmod s.kw.sess i fun x => x.map fun x =>
      { x with queue := x.queue.filter fun e => decide (seq.toNat < e.seq) } } }

/-- Keyway registers below 0300h and the network registers. -/
def kwRows (s : State) (me : Option SessId) : List (Nat × RegRow) :=
  let n := s.net
  let f := s.fw
  [(0x000, roRow (regU (s.kwStatus me))), (0x004, roRow (regU s.evalCauses)),
   (0x008, w1cRow s.kw.events 0xFF fun w s => { s with kw := { s.kw with events := w1c s.kw.events w } }),
   (0x00C, rcRow s { get := (·.kw.authFails), put := fun n s => { s with kw := { s.kw with authFails := n } } }),
   (0x200, roRow (regU (put (holderNibble s.kw.unitClaim) 4 0))),
   (0x204, roRow (regU (holderWord s.kw.doorClaim 0))), (0x208, roRow (regU (holderWord s.kw.doorClaim 1))),
   (0x300, woRow true 0xFFFFFFFF fun i w s => .ok (match i with | some i => s.ackEvents i w | none => s)),
   (0x500, roRow (regN s.se.cert.length)),
   (0x600, roRow (regU (flag f.booted 0 ||| flag f.nonRelease 1 ||| flag f.busy 2 ||| put f.staged.code 4 4))),
   (0x604, roRow (regN f.version)), (0x608, roRow (regN f.security)), (0x60C, roRow (regN s.se.rollback)),
   (0x610, roRow (regN f.stagedVersion)),
   (0x700, roRow (regU (flag n.e1 0 ||| flag n.e2 1 ||| flag n.bypass 2 ||| put n.src.code 2 4 ||| flag (n.k.getD false) 6))),
   (0x704, roRow (regU n.ip)), (0x708, roRow (regN (n.prefixLen % 256))),
   (0x900, roRow (regU (flag n.split 0 ||| put (min 255 s.bittingsInClass.length) 8 8 ||| put (n.fresh.length + 1) 11 16))),
   (0x904, roRow (regN n.seq)),
   (0x90C, rcRow s { get := (·.net.dropped), put := fun n s => { s with net := { s.net with dropped := n } } })]

/-- The Keyway block. -/
def State.kwRow (s : State) (me : Option SessId) (off : Nat) : Option RegRow :=
  if 0x8000 ≤ off then
    some (roRow (regU (((s.net.table.lookup ((off - 0x8000) / 32)).map fun e => e.word (off / 4 % 8)).getD 0)))
  else if 0x1000 ≤ off ∧ off < 0x2000 then some (roRow (regU (wordAt s.se.cert ((off - 0x1000) / 4))))
  else if 0x100 ≤ off ∧ off < 0x200 then s.sessionRow ((off - 0x100) / 32) (off / 4 % 8)
  else if 0x210 ≤ off ∧ off < 0x230 then some (roRow (regU (holderWord s.kw.axisClaim ((off - 0x210) / 4))))
  else if 0x400 ≤ off ∧ off < 0x480 then s.anchorRow ((off - 0x400) / 64) (off / 4 % 16)
  else if 0x504 ≤ off ∧ off < 0x524 then some (roRow (regU (wordAt (sha256 s.se.cert) ((off - 0x504) / 4))))
  else atOffset off (kwRows s me)

end Sys2Proof.Machine
end

