-- ==== Sys2Proof/Machine/Access.lean ====
section
/-! DEFINITION. A word of the host address space read or written (R11 to R17, R114 to R118, R444, R475, R476, R482). -/

namespace Sys2Proof.Machine

/-! ## The register at an address -/

/-- The registers of the address map, the configuration fields they show apart (R475). -/
def State.ownRow (s : State) (me : Sender) (addr : Nat) : Option RegRow :=
  if addr < 0x10000 then atOffset addr (unitRows s)
  else if addr < 0x20000 then s.cfgRow (addr - 0x10000)
  else if addr < 0x30000 then atOffset (addr - 0x20000) (hingeRows s)
  else if addr < 0x40000 then s.boltRow (addr - 0x30000)
  else if addr < 0x41000 then s.canRow 0 (addr - 0x40000)
  else if addr < 0x42000 then s.canRow 1 (addr - 0x41000)
  else if addr < 0x48000 then none
  else if addr < 0x4A000 then s.rxRow 0 (addr - 0x48000)
  else if addr < 0x4C000 then s.rxRow 1 (addr - 0x4A000)
  else if addr < 0x50000 then none
  else if addr < 0x58000 then s.fieldRow (addr - 0x50000)
  else if addr < 0x60000 then s.analogueRow (addr - 0x58000)
  else if addr < 0x70000 then s.loadRow (addr - 0x60000)
  else if addr < 0x80000 then s.recRow (addr - 0x70000)
  else if addr < 0x90000 then s.memRow (addr - 0x80000)
  else if addr < 0xA0000 then s.kwRow me (addr - 0x90000)
  else if 0x300000 ≤ addr ∧ addr < 0x310000 then s.portRow (addr - 0x300000)
  else if 0x400000 ≤ addr ∧ addr < 0x680000 then s.traceBlock (addr - 0x400000)
  else match blockOf addr with
    | some (.door d) => atOffset (addr % 0x1000) (doorRows s d)
    | some (.axis a) => s.axisRow a (addr % 0x1000)
    | _ => none

/-- Fields of two words side by side. -/
def Reg.join (a b : Reg) : Reg := ⟨a.u ||| b.u, a.p ||| b.p, a.hasU || b.hasU⟩

/-- A live register, with the configuration fields that it shows. -/
def State.liveRow (s : State) (me : Sender) (addr : Nat) : Option RegRow :=
  match imgAt addr, s.ownRow me addr with
  | none, r => r
  | some g, none => some { reg := g.reg s.cfg.eff, parts := g.parts }
  | some g, some r => some { r with reg := (g.reg s.cfg.eff).join r.reg, parts := g.parts }

/-! ## Shadows and APPLY (R116, R117, R124) -/

/-- The block whose APPLY register lies at an address. -/
def applyBlock (addr : Nat) : Option Block :=
  match blockOf addr with
  | some .unit => if addr = 0x10010 then some .unit else none
  | some (.door d) => if addr % 0x1000 = 0xFFC then some (.door d) else none
  | some (.axis a) => if addr % 0x1000 = 0x5FC then some (.axis a) else none
  | none => none

/-- Pending shadow copies of a block: one for each field (R116, R124). -/
def State.pendingCount (s : State) (b : Block) : Nat :=
  ((s.cfg.shadows.filter fun p => blockOf p.1 == some b).map fun p => (placesAt p.1).length).foldl (· + ·) 0

/-- The tick in which a write of a sender completed: a mirrored record was written in the tick before (R384). -/
def State.stamp (s : State) (i : Sender) : Tick := if i.isSome then s.tick else s.tick - 1

/-- The pending shadows of a block are applied at the next tick boundary (R63, R117). -/
def State.postApply (s : State) (i : Sender) (b : Block) : State :=
  { s with cfg := { s.cfg with writes := s.cfg.writes ++ [.apply (s.stamp i) b.base] } }

/-- An APPLY register (R124). -/
def State.applyRow (s : State) (b : Block) : RegRow :=
  { reg := regP (put (s.pendingCount b) 15 1), mask := 1
    act := some fun i w s => if i.isSome && !s.runs then .error 0x4F06 else .ok (if bit w 0 then s.postApply i b else s) }

/-- The bits of some places. -/
def partsMask (ps : List Part) : Word := ps.foldl (fun w p => w ||| put (2 ^ p.w - 1) p.w p.lo) 0

/-- A shadow written; addresses rise. -/
def putShadow (addr : Nat) (w : Word) : List (Nat × Word) → List (Nat × Word)
  | [] => [(addr, w)]
  | (k, v) :: rest =>
    if addr < k then (addr, w) :: (k, v) :: rest else if addr = k then (k, w) :: rest else (k, v) :: putShadow addr w rest

/-- A word as some places hold it: bits that no place holds, and reserved bits of a place, read 0 (R14). -/
def heldBy (ps : List Part) (w : Word) : Word := ps.foldl (fun x p => x ||| p.bits (p.value w)) 0

/-- The shadow of the live register at an address (R116, R476): the runtime-writable fields of the word with the view of their live
field, and nothing else. -/
def State.shadowRow (s : State) (me : Sender) (live : Nat) : Option RegRow :=
  ((applyBlock live).elim (s.liveRow me live) fun b => some (s.applyRow b)).map fun r =>
    let ps := r.parts.filter Part.rw
    if ps.isEmpty then roRow (regU 0)
    else
      let w := (s.cfg.shadows.lookup live).getD (partsWord s.cfg.eff ps)
      { reg := if ((imgAt live).map (·.viewU)).getD r.reg.hasU then regU w else regP w, mask := partsMask ps
        act := some fun i w s =>
          if i.isSome && !s.runs then .error 0x4F06
          else .ok { s with cfg := { s.cfg with shadows := putShadow live (heldBy ps w) s.cfg.shadows } } }

/-- The register at an address of the map; host scratch apart. -/
def State.row (s : State) (me : Sender) (addr : Nat) : Option RegRow :=
  match applyBlock addr, liveOf addr with
  | some b, _ => some (s.applyRow b)
  | none, some live => s.shadowRow me live
  | none, none => s.liveRow me addr

/-- An address of host scratch (R444). -/
def isScratch (addr : Nat) : Bool := decide (scratchBase ≤ addr) && decide (addr < scratchBase + 0x40000)

/-- A legal word address (R11, R475). -/
def wordAddr (addr : Nat) : Option Region := if addr % 4 = 0 then regionOf addr else none

/-! ## Reads -/

/-- Level 0 values, which a host reads as the last completed tick left them (R58). -/
def ofTick (addr : Nat) : Bool :=
  (decide (0x50000 ≤ addr) && decide (addr < 0x70000)) || (decide (0x300000 ≤ addr) && decide (addr < 0x310000))

/-- A word of a loop window (R193). -/
def ofWindow (addr : Nat) : Bool :=
  decide (0x200000 ≤ addr) && decide (addr < 0x240000) && decide (0x600 ≤ addr % 0x1000) && decide (addr % 0x1000 < 0x800)

/-- The register that a read meets: a loop window shows its last capture, and an RC register returns what it held at the start of
the tick (R16, R60). -/
def State.readRow (s : State) (me : Sender) (addr : Nat) : Option RegRow :=
  if ofWindow addr then s.atCapture.row me addr
  else if ofTick addr || ((s.row me addr).bind (·.readClear)).isSome then s.atTick.row me addr else s.row me addr

/-- What a role reads at an address, host scratch apart: a word, or the ERROR CODE that refuses the read (R17, R190, R476). -/
def State.peek (s : State) (me : SessId) (privileged : Bool) (addr : Nat) : Except Code Word :=
  match s.readRow (some me) addr with
  | none => .ok 0
  | some r =>
    match r.reg.seen privileged with
    | none => .error 0x4F03
    | some w => if r.shut then .error 0x4F06 else .ok w

/-- The session holds the claim that W1C and RC accesses and writes to a block need: that of the block; in a passive module that of the
unit block for all of its registers (R369); in a held module that of the unit block, for the unit block alone (R81). -/
def State.holds (s : State) (me : SessId) (b : Block) : Bool :=
  if s.held then b == .unit && s.kw.unitClaim == some me
  else if s.passive then s.kw.unitClaim == some me else s.kw.holder b == some me

/-- The values that a register has taken in the tick in progress. -/
def State.takenAt (s : State) (addr : Nat) : List Nat := (s.taken.filter fun x => x.1 == addr).map (·.2)

/-- What a served read leaves: an RC register loses the value it returned, for a privileged role that holds its claim, and keeps
every change of the tick in progress (R16, R17). -/
def State.afterRead (s : State) (me : SessId) (privileged : Bool) (addr : Nat) : State :=
  if privileged && ((blockOf addr).map (s.holds me)).getD false then
    match (s.row (some me) addr).bind (·.readClear) with
    | some c => s.clearBoth (fun s => c.put (c.left (s.takenAt addr) (c.get s) (c.get s.atTick)) s) (c.put c.zero)
    | none => s
  else s

/-- What a host gets from a scratch word (R437, R444): a value, NOT_INITIALISED or MEM_UNCORRECTABLE. -/
def ScratchRead.toExcept : ScratchRead → Except Code Word
  | .value v => .ok v
  | .unwritten => .error 0x4F0B
  | .lost => .error 0x4702

/-- The memory has run: what it raises is delivered. -/
def State.memRan (s : State) (r : MemRun) : State := State.deliver { s with mem := r.m } r.ev

/-- A read of a scratch word (R437, R444). -/
def State.scratchRead (s : State) (privileged : Bool) (addr : Nat) : State × Except Code Word :=
  if !privileged then (s, .error 0x4F03)
  else
    let x := MemRun.readScratch ⟨s.mem, []⟩ addr
    (s.memRan x.1, x.2.toExcept)

/-- The SRAM word that a word of the trace sample window or of the clamp report lies in (R431, R437). DESIGN CHOICE (log 97). -/
def windowWord (addr : Nat) : Option Nat :=
  if 0x480000 ≤ addr ∧ addr < 0x680000 then some (0x60000 + (addr - 0x480000) / 8)
  else if 0x11000 ≤ addr ∧ addr < 0x15000 then some (codeWords + Config.reportWord ((addr - 0x11000) / 8) % (sramWords - codeWords))
  else none

/-- Channel KEYWAY fetches the words of the trace sample window and the clamp report that a read needs; the first that it cannot read halts
it (R437). Answers its address. -/
def State.fetchWindow (s : State) : List Nat → State × Option Nat
  | [] => (s, none)
  | a :: as =>
    match windowWord a with
    | none => s.fetchWindow as
    | some k =>
      let x := MemRun.dmaRead ⟨s.mem, []⟩ k 1
      let s := s.memRan x.1
      if x.2 then s.fetchWindow as else (s, some a)

/-- One word read. -/
def State.readWord (s : State) (me : SessId) (privileged : Bool) (addr : Nat) : State × Except Code Word :=
  if isScratch addr then s.scratchRead privileged addr
  else
    match s.peek me privileged addr with
    | .error c => (s, .error c)
    | .ok w =>
      let y := s.fetchWindow [addr]
      if y.2.isSome then (y.1, .error 0x4702) else (y.1.afterRead me privileged addr, .ok w)

/-- The register words at some addresses, all of one snapshot, or the first refusal with its address (R17, R455). -/
def State.peekAll (s : State) (me : SessId) (privileged : Bool) : List Nat → Except (Code × Nat) (List Word)
  | [] => .ok []
  | a :: as =>
    match s.peek me privileged a, s.peekAll me privileged as with
    | .error c, _ => .error (c, a)
    | .ok _, .error e => .error e
    | .ok w, .ok ws => .ok (w :: ws)

/-- The scratch words at some addresses, or the first refusal (R444). -/
def State.scratchAll (s : State) (privileged : Bool) : List Nat → State × Except (Code × Nat) (List Word)
  | [] => (s, .ok [])
  | a :: as =>
    let x := s.scratchRead privileged a
    match x.2 with
    | .error c => (x.1, .error (c, a))
    | .ok w =>
      let y := x.1.scratchAll privileged as
      match y.2 with
      | .error e => (y.1, .error e)
      | .ok ws => (y.1, .ok (w :: ws))

/-- The first unwritten scratch word (R444). DEDUCED (log 61). -/
def Mem.firstUnwritten (m : Mem) (as : List Nat) : Option Nat := as.find? fun a => !m.written.getLsbD (scratchIndex a)

/-- The words of a block read (R444, R455): scratch is refused at its first unwritten word before any is read. -/
def State.readWords (s : State) (me : SessId) (privileged : Bool) (as : List Nat) : State × Except (Code × Nat) (List Word) :=
  if as.all isScratch then
    match (if privileged then s.mem.firstUnwritten as else none) with
    | some a => ({ s with mem := { s.mem with notInit := satN (s.mem.notInit + 1) 32 } }, .error (0x4F0B, a))
    | none => s.scratchAll privileged as
  else
    match s.peekAll me privileged as with
    | .error e => (s, .error e)
    | .ok ws =>
      let y := s.fetchWindow as
      match y.2 with
      | some a => (y.1, .error (0x4702, a))
      | none => (as.foldl (fun s a => s.afterRead me privileged a) y.1, .ok ws)

/-! ## Writes -/

/-- The value that a direct write gives a place: range-checked and clamped against the values in force (R115); with the
reason of the last clamping action, if any. A table entry is checked alone; `skip` names partners that are not looked at. -/
def clampPlace (c : Cfg) (skip : Nat → Bool) (p : Part) (x : Int) : Int × Option Reason :=
  let table := p.f == F.frictionTable || p.f == F.coggingTable
  let xs := if table then [x] else (c.elem p.f p.elem).set p.item x
  let acts := checkElem c true skip p.f p.elem xs
  ((lastItems xs acts).getD (if table then 0 else p.item) 0, (acts.getLast?).map (·.2))

/-- The clamped write that CFG_WRITE_STATUS and CFG_WRITE_USED show, with RUNTIME_CLAMPED (R115). -/
def State.noteClamp (s : State) (f elem : Nat) (used : Int) (why : Reason) : State :=
  let d := fieldDef f
  State.raise { s with cfg := { s.cfg with write := ⟨d.id, why.code, if d.isArray then elem else 0, wordOfInt used⟩ } } 0x4104 0xFF 0

/-- A field's value that takes effect at the next tick boundary (R61, R63). -/
def State.postField (s : State) (t : Tick) (p : Part) (v : Int) : State :=
  if p.f == F.frictionTable || p.f == F.coggingTable then
    { s with cfg := { s.cfg with entries := s.cfg.entries ++ [(t, p.elem, p.f == F.coggingTable, p.item, v)] } }
  else { s with cfg := { s.cfg with writes := s.cfg.writes ++ [.field t p.f p.elem p.item v] } }

/-- A direct write to a place (R115): the state, and the bits of the value that the place will take. DEDUCED (log 27). -/
def State.writePlace (s : State) (i : Sender) (w : Word) (p : Part) : State × Word :=
  let r := clampPlace s.cfg.eff (fun _ => false) p (p.value w)
  let s := match r.2 with
    | some why => s.noteClamp p.f p.elem r.1 why
    | none => s
  (s.postField (s.stamp i) p r.1, p.bits r.1)

/-- A direct write to every runtime-writable place of a word, lowest bit first. -/
def State.writePlaces (s : State) (i : Sender) (w : Word) : List Part → State × Word
  | [] => (s, 0)
  | p :: ps =>
    let x := s.writePlace i w p
    let y := x.1.writePlaces i w ps
    (y.1, x.2 ||| y.2)

/-- A trace register with configuration fields (R190). -/
def traceConfig (addr : Nat) : Bool := decide (0x400000 ≤ addr) && decide (addr < 0x480000)

/-- The bits of a register that hardware has set in the tick in progress. DEDUCED (log 12). -/
def State.setBits (s : State) (addr : Nat) : Word :=
  (s.setNow.filter fun x => x.1 == addr).foldl (fun w x => w ||| BitVec.ofNat 32 (2 ^ x.2)) 0

/-- A W1C write: bits that stood at the start of the tick are cleared, and what hardware sets in the tick stays set (R16). DEDUCED (log 12). -/
def State.clearBits (s : State) (f : Word → State → State) (i : Sender) (addr : Nat) (w : Word) : State :=
  let stood := ((s.atTick.row i addr).map fun r => r.reg.u ||| r.reg.p).getD 0
  s.clearBoth (f (w &&& stood &&& ~~~(s.setBits addr))) (f w)

/-- A word written to a listed register: the state and VALUE_USED (R14, R15, R114, R115, R190, R455), or the ERROR CODE. DEDUCED (log 27). -/
def State.writeRow (s : State) (i : Sender) (addr : Nat) (r : RegRow) (w : Word) : Except Code (State × Word) :=
  let ps := r.parts.filter Part.rw
  if r.mask = 0 ∧ ps.isEmpty then .error 0x4F07
  else if !ps.isEmpty && ((i.isSome && !s.runs) || (traceConfig addr && s.trace.active)) then .error 0x4F06
  else
    let x := s.writePlaces i w ps
    let used := (w &&& r.mask) ||| x.2 ||| ((r.reg.u ||| r.reg.p) &&& ~~~(r.mask ||| partsMask ps))
    let s := match r.clear with
      | some f => x.1.clearBits f i addr (w &&& r.mask)
      | none => x.1
    match r.act with
    | none => .ok (s, used)
    | some f =>
      match f i w s with
      | .error c => .error c
      | .ok s => .ok (s, used)

/-- The U-writable registers (R461). DEDUCED (log 27). -/
def uWritable (addr : Nat) : Bool :=
  decide (addr = 0x90300) || (decide (0x100000 ≤ addr) && decide (addr < 0x110000) && (addr % 0x1000 == 0x44 || addr % 0x1000 == 0x48))

/-- A role that reads and writes all (R452). -/
def KwRole.privileged : KwRole → Bool
  | .operator => true
  | .maintainer => true
  | _ => false

/-- A write is open to a module in its present state and role (R81, R369): elsewhere only W1C fields are. -/
def State.writesOpen (s : State) : Bool :=
  !s.held && (s.hinge.role == Role.alone || s.hinge.role == Role.active)

/-- What a module refuses with BAD_STATE whatever claims are held (R81, R369). -/
def State.writeShut (s : State) (block : Block) (r : RegRow) : Bool :=
  !s.writesOpen && (r.clear.isNone || (s.held && block != .unit))

/-- A session's write of a word, host scratch apart, checked in the order of R482. DEDUCED (log 27). -/
def State.writeReg (s : State) (me : SessId) (role : KwRole) (block : Block) (addr : Nat) (w : Word) : Except Code (State × Word) :=
  match s.row (some me) addr with
  | none => .error 0x4F02
  | some r =>
    let free := uWritable addr
    if !free && !role.privileged then .error 0x4F03
    else
      match s.writeRow (some me) addr r w with
      | .error 0x4F03#16 => .error 0x4F03
      | x =>
        if s.writeShut block r then .error 0x4F06
        else if !free && !s.holds me block then .error 0x4F04
        else x

/-- A session's write of a scratch word (R438, R444). -/
def State.scratchWrite (s : State) (me : SessId) (role : KwRole) (addr : Nat) (w : Word) : State × Except Code Word :=
  if !role.privileged then (s, .error 0x4F03)
  else if !s.writesOpen then (s, .error 0x4F06)
  else if s.kw.holder .unit != some me then (s, .error 0x4F04)
  else
    let x := MemRun.writeScratch ⟨s.mem, []⟩ addr w
    (s.memRan x.1, if x.2 then .ok w else .error 0x4708)

/-- The accepted write goes to the partner as a WRITE record; scratch writes do not (R384, R444). -/
def State.mirror (s : State) (m : MirrorRec) : State :=
  if s.hinge.role == Role.active then { s with hinge := { s.hinge with records := s.hinge.records ++ [m] } } else s

/-- One word written by a session: VALUE_USED, or the ERROR CODE. -/
def State.writeWord (s : State) (me : SessId) (role : KwRole) (addr : Nat) (w : Word) : State × Except Code Word :=
  match wordAddr addr with
  | none => (s, .error 0x4F02)
  | some g =>
    if isScratch addr then s.scratchWrite me role addr w
    else
      match s.writeReg me role g.block addr w with
      | .error c => (s, .error c)
      | .ok (s, used) => (s.mirror (.write addr w), .ok used)

/-- A WRITE record of the partner is applied (R384): a refusal by the register's own rule leaves the state. -/
def State.applyWrite (s : State) (addr : Nat) (w : Word) : State :=
  if (wordAddr addr).isNone || isScratch addr then s
  else
    match s.row none addr with
    | none => s
    | some r =>
      match s.writeRow none addr r w with
      | .ok x => x.1
      | .error _ => s

end Sys2Proof.Machine
end

