-- ==== Sys2Proof/Machine/Keyway.lean ====
section
/-! DEFINITION. Keyway (ch. 15): requests and their answers, sessions and handshakes, claims, subscriptions, staging,
commands and enrolment. -/

namespace Sys2Proof.Machine

/-! ## MAINTENANCE (R79, R83) -/

/-- RUN is entered, in its first tick `t`; switch 9 or 10 ON raises WARD_OPEN (R42). -/
def State.enterRun (s : State) (t : Tick) : State :=
  let s := s.enter .run t
  if s.wardOpen then s.raise 0x400E 0xFF 0 else s

/-- MAINTENANCE ends: RUN, and every jog ends in this tick (R83). DEDUCED (log 31). -/
def State.leaveMaintenance (s : State) : State :=
  if s.unit.st != UnitState.maintenance then s
  else
    let s := s.onDoors (fun d => (s.doors[d]).jog.isSome) fun r i => r.jogEnd i
    let s := s.enterRun s.tick
    { s with unit := { s.unit with maintSess := none } }

/-- RUN goes to MAINTENANCE (R79). DEDUCED (log 31). -/
def State.enterMaint (s : State) (i : Sender) : State :=
  if s.unit.st != UnitState.run then s
  else
    let s := s.enter .maintenance s.tick
    { s with unit := { s.unit with maintSess := i } }

/-- A session ends: its claims, shadows and staging, and the MAINTENANCE that it entered (R79, R458, R460). -/
def State.endSession (s : State) (i : SessId) : State :=
  if (s.kw.sess[i]).isNone then s
  else
    let s := s.closeSession i
    if s.unit.maintSess == some i then s.leaveMaintenance else s

/-! ## Requests and answers (R454 to R457) -/

/-- What a request is answered with. -/
inductive Reply where
  /-- RESPONSE with its payload. -/
  | data (payload : List Byte)
  /-- ERROR: code, address concerned, DETAIL. -/
  | error (code : Code) (addr : Nat) (detail : Word)
  /-- Nothing yet. -/
  | later
  deriving DecidableEq, Repr

/-- An ERROR with neither address nor DETAIL. -/
def Reply.refuse (code : Code) : Reply := .error code 0 0

/-- The tick of the snapshot that takes the request, as a response carries it. -/
def State.tickBytes (s : State) : List Byte := leBytes 4 s.tick.toNat

/-- An answer leaves on the connection of a session (R455). DEDUCED (log 21). -/
def State.answer (s : State) (i : SessId) (tag : Nat) (x : Reply) : State :=
  let put := fun a : Answer => { s with kw := { s.kw with answers := s.kw.answers.set i (some a) } }
  match x with
  | .data bs => put (.response tag bs)
  | .error c a d => put (.error tag c (BitVec.ofNat 32 a) d)
  | .later => s

/-- Kinds of request, as the unit state and the role of the module allow them (R81, R369, R462). -/
inductive Ask where
  /-- READ, READ_BLOCK. -/
  | read
  /-- WRITE, WRITE_BLOCK. -/
  | write
  /-- CLAIM, RELEASE. -/
  | claim
  /-- LOG_READ. -/
  | logRead
  /-- IMAGE_STAGE. -/
  | image
  /-- FW_STAGE. -/
  | firmware
  /-- COMMAND ENROL. -/
  | enrol
  /-- COMMAND UNENROL. -/
  | unenrol
  /-- COMMAND RESTART. -/
  | restart
  /-- APPLY, SUBSCRIBE, LOG_ERASE and the other commands. -/
  | other
  deriving DecidableEq, Repr

/-- Requests that the boot ROM's recovery service accepts (R81). DEDUCED (log 30). -/
def Ask.recovery : Ask → Bool
  | .claim | .firmware | .restart => true
  | _ => false

/-- What refuses a request before its own rule is looked at (R81, R462). DEDUCED (log 23). DEDUCED (log 30). -/
def State.bars (s : State) (x : Session) (k : Ask) : Option Code :=
  if x.role == KwRole.enrolment && k != .read && k != .enrol then some 0x4F03
  else if s.held && x.role != KwRole.maintainer && x.role != KwRole.enrolment then some 0x4F06
  else if s.recovery && !k.recovery then some 0x4F06
  else if s.held && k == .other then some 0x4F06
  else none

/-- A session that was open when something began still is (R455). -/
def State.isSame (s : State) (i : SessId) (num : Nat) : Bool := ((s.kw.sess[i]).map fun x => x.num == num).getD false

/-- Requests of a session that are still to be answered (R457). -/
def State.outstanding (s : State) (i : SessId) : Nat :=
  let writing := fun g : Option Staging => (g.filter fun g => g.sess == i && g.writing.isSome && s.isSame i g.num).toList.length
  (s.hinge.waiting.filter fun w => w.sess == i && s.isSame i w.num).length + (s.kw.later.filter fun q => q.req.sess == i).length +
    writing s.kw.image + writing s.kw.fw

/-- A request of the session waits for a later tick snapshot: 16 have been taken into this one, or an earlier one waits (R457). DEDUCED (log 21). -/
def State.mustWait (s : State) (i : SessId) : Bool :=
  decide (16 ≤ s.kw.taken[i]) || (s.kw.later.any fun q => q.req.sess == i) || s.hinge.waiting.any fun w => w.sess == i && s.isSame i w.num

/-- A request is taken into the tick snapshot and answered, unless the unit state or the role of the module bars it. -/
def State.take (s : State) (r : Req) (x : Session) (k : Ask) (f : Session → State → State × Reply) : State :=
  let s := { s with kw := { s.kw with taken := s.kw.taken.set r.sess (s.kw.taken[r.sess] + 1) } }
  let y := match s.bars x k with
    | some c => (s, Reply.refuse c)
    | none => f x s
  y.1.answer r.sess r.tag.toNat y.2

/-- A request of an open session reaches the module in a tick snapshot (R454, R455): its session, what it asks, and what
answers it. A header that R454 refuses gets BAD_MESSAGE, or closes the session where LENGTH is too long; a host with 32 requests outstanding
gets BUSY; a 17th request of one snapshot, and one behind a request that waits, waits too (R457). Nothing happens where the module does not
run or the session is not open. DEDUCED (log 21). -/
def State.serve (s : State) (r : Req) (k : Ask) (q : Form) (f : Session → State → State × Reply) : State :=
  match s.kw.sess[r.sess] with
  | none => s
  | some x =>
    if !s.unit.running then s
    else if r.head.closes then s.endSession r.sess
    else
      let x := { x with lastMsg := s.up }
      let s := { s with kw := { s.kw with sess := s.kw.sess.set r.sess (some x) } }
      if r.tag == 0 || r.head.bad then s.answer r.sess r.tag.toNat (.refuse 0x4F01)
      else if decide (32 ≤ State.outstanding s r.sess) then s.answer r.sess r.tag.toNat (.refuse 0x4F08)
      else if s.mustWait r.sess then { s with kw := { s.kw with later := s.kw.later ++ [⟨r, q⟩] } }
      else s.take r x k f

/-- Role, claim and state that a request needs, in the order of R482. DEDUCED (log 23). -/
def State.needs (s : State) (i : SessId) (role claim open' : Bool) (b : Block) : Option Code :=
  if !role then some 0x4F03
  else if !open' && s.passive then some 0x4F06
  else if claim && s.kw.holder b != some i then some 0x4F04
  else if !open' then some 0x4F06
  else none

/-! ## Reads -/

/-- READ (R455). -/
def State.doRead (s : State) (i : SessId) (x : Session) (addr : Nat) : State × Reply :=
  if (wordAddr addr).isNone then (s, .error 0x4F02 addr 0)
  else
    let y := s.readWord i x.role.privileged addr
    match y.2 with
    | .error c => (y.1, .error c addr 0)
    | .ok w => (y.1, .data (leBytes 4 addr ++ s.tickBytes ++ leBytes 4 w.toNat))

/-- The addresses of a block of words. -/
def wordAddrs (addr n : Nat) : List Nat := (List.range n).map fun k => addr + 4 * k

/-- A block of words lies in one row of the address map (R455, R475); otherwise the first address outside it. DEDUCED (log 23). -/
def spanError (addr n : Nat) : Option Nat :=
  match wordAddr addr with
  | none => some addr
  | some g => if addr + 4 * n ≤ g.last + 1 then none else some (g.last + 1)

/-- A legal COUNT (R455). DESIGN CHOICE (log 4). -/
def countOk (n : Nat) : Bool := decide (1 ≤ n) && decide (n ≤ 16382)

/-- READ_BLOCK (R455). DESIGN CHOICE (log 4). -/
def State.doReadBlock (s : State) (i : SessId) (x : Session) (addr n : Nat) : State × Reply :=
  if !countOk n then (s, .refuse 0x4F01)
  else
    match spanError addr n with
    | some a => (s, .error 0x4F02 a 0)
    | none =>
      let y := s.readWords i x.role.privileged (wordAddrs addr n)
      match y.2 with
      | .error e => (y.1, .error e.1 e.2 0)
      | .ok ws => (y.1, .data (leBytes 4 addr ++ s.tickBytes ++ ws.flatMap fun w => leBytes 4 w.toNat))

/-! ## Writes, and the writes that wait for room in a heartbeat (R384, R455) -/

/-- A record still fits the heartbeat of the tick, or none is needed (R384). -/
def State.hasRoom (s : State) (addr : Option Nat) : Bool :=
  s.hinge.role != Role.active || (addr.map isScratch).getD false || decide (s.hinge.records.length < 4)

/-- The outcome of some words of a request: words written, VALUE_USED of the last, and what stopped it. -/
structure WriteRun where
  /-- Words written. -/
  done : Nat
  /-- VALUE_USED of the last of them. -/
  used : Word
  /-- The refusal, with its address. -/
  stop : Option (Code × Nat)
  /-- Words that wait. -/
  rest : List (Nat × Word)
  deriving DecidableEq, Repr

/-- Words written one after the other, until one is refused or has no room (R384, R455). -/
def State.writeSome (s : State) (i : SessId) (role : KwRole) : List (Nat × Word) → WriteRun → State × WriteRun
  | [], r => (s, r)
  | p :: ps, r =>
    if !s.hasRoom (some p.1) then (s, { r with rest := p :: ps })
    else
      let y := s.writeWord i role p.1 p.2
      match y.2 with
      | .error c => (y.1, { r with stop := some (c, p.1) })
      | .ok used => y.1.writeSome i role ps { r with done := r.done + 1, used := used }

/-- The answer to a write request that is over. -/
def State.writeReply (s : State) (form : WaitForm) (r : WriteRun) (addr : Nat) : Reply :=
  match r.stop with
  | some e => .error e.1 (match form with | .apply => 0 | _ => e.2) 0
  | none =>
    match form with
    | .write => .data (leBytes 4 addr ++ s.tickBytes ++ leBytes 4 r.used.toNat)
    | .block a => .data (leBytes 4 a ++ s.tickBytes ++ leBytes 4 r.done)
    | _ => .data s.tickBytes

/-- The words of a write request, from `done` on: they are written, and what finds no room waits (R384). -/
def State.writeRequest (s : State) (i : SessId) (tag num : Nat) (role : KwRole) (form : WaitForm) (ws : List (Nat × Word)) (done : Nat) :
    State × Reply :=
  let y := s.writeSome i role ws ⟨done, 0, none, []⟩
  if y.2.rest.isEmpty then (y.1, y.1.writeReply form y.2 ((ws.getLast?.map (·.1)).getD 0))
  else ({ y.1 with hinge := { y.1.hinge with waiting := y.1.hinge.waiting ++ [⟨i, tag, form, y.2.rest, y.2.done, num⟩] } }, .later)

/-- A write request of a session: in the order of arrival, behind the writes that already wait. -/
def State.doWrites (s : State) (r : Req) (x : Session) (form : WaitForm) (ws : List (Nat × Word)) : State × Reply :=
  if s.hinge.waiting.isEmpty then s.writeRequest r.sess r.tag.toNat x.num x.role form ws 0
  else ({ s with hinge := { s.hinge with waiting := s.hinge.waiting ++ [⟨r.sess, r.tag.toNat, form, ws, 0, x.num⟩] } }, .later)

/-- One register write by the host (WRITE). DEDUCED (log 19). -/
def State.hostWrite (s : State) (r : Req) (addr : Nat) (w : Word) : State :=
  s.serve r .write (.write addr w) fun x s => s.doWrites r x .write [(addr, w)]

/-- WRITE_BLOCK (R455). -/
def State.doWriteBlock (s : State) (r : Req) (x : Session) (addr n : Nat) (ws : List Word) : State × Reply :=
  if !countOk n || ws.length != n then (s, .refuse 0x4F01)
  else
    match spanError addr n with
    | some a => (s, .error 0x4F02 a 0)
    | none => s.doWrites r x (.block addr) ((wordAddrs addr n).zip ws)

/-- The address of a block's APPLY register (R116). DEDUCED (log 20). -/
def Block.applyAddr : Block → Nat
  | .unit => 0x10010
  | .door d => 0x100000 + d.val * 0x1000 + 0xFFC
  | .axis a => 0x200000 + a.val * 0x1000 + 0x5FC

/-- APPLY (R117, R455): as a write of 1 to the block's APPLY register. DEDUCED (log 20). -/
def State.doApply (s : State) (r : Req) (x : Session) (b : BlockReq) : State × Reply :=
  match b.block? with
  | none => (s, .refuse 0x4F01)
  | some b => s.doWrites r x .apply [(b.applyAddr, 1)]

/-! ## Commands of MAINTENANCE (R79, R384) -/

/-- The zero-speed signal is present (R305). -/
def State.zeroSpeed (s : State) : Bool := s.il.release.getLsbD 2

/-- COMMAND ENTER_MAINTENANCE or EXIT_MAINTENANCE with its checks done but for room (R79, R384, R459). DEDUCED (log 31). -/
def State.maintCommand (s : State) (i : SessId) (x : Session) (code : Nat) : State × Reply :=
  let st := if code = 2 then UnitState.run else UnitState.maintenance
  match s.needs i (x.role == KwRole.maintainer) true (!s.passive && s.unit.st == st) .unit with
  | some c => (s, .refuse c)
  | none =>
    if code = 2 && !s.zeroSpeed then (s, .refuse 0x4F07)
    else
      let s := s.mirror (.command code 0)
      let s := if code = 2 then s.enterMaint (some i) else s.leaveMaintenance
      (s, .data s.tickBytes)

/-- A mirrored command, which waits where its record has no room (R384). DEDUCED (log 22). -/
def State.doMaint (s : State) (r : Req) (x : Session) (code : Nat) : State × Reply :=
  if s.hinge.waiting.isEmpty && s.hasRoom none then s.maintCommand r.sess x code
  else ({ s with hinge := { s.hinge with waiting := s.hinge.waiting ++ [⟨r.sess, r.tag.toNat, .command code, [], 0, x.num⟩] } }, .later)

/-- A request that waited is served; that of a session that has ended is gone. -/
def State.serveWait (s : State) (w : MirrorWait) : State :=
  match s.kw.sess[w.sess] with
  | none => s
  | some x =>
    if x.num ≠ w.num then s
    else
      let s := { s with kw := { s.kw with taken := s.kw.taken.set w.sess (s.kw.taken[w.sess] + 1) } }
      let y := match w.form with
        | .command c => s.maintCommand w.sess x c
        | _ => s.writeRequest w.sess w.tag x.num x.role w.form w.words w.done
      y.1.answer w.sess w.tag y.2

/-- The waiting requests are taken into the next snapshot, in order, while their records fit (R384). DEDUCED (log 21). -/
def State.serveWaiting (s : State) : List MirrorWait → State
  | [] => s
  | w :: ws =>
    if s.hasRoom ((w.words.head?).map (·.1)) then
      let s := s.serveWait w
      if s.hinge.waiting.isEmpty then s.serveWaiting ws
      else { s with hinge := { s.hinge with waiting := s.hinge.waiting ++ ws } }
    else { s with hinge := { s.hinge with waiting := w :: ws } }

/-- A COMMAND record of the partner is applied (R384). -/
def State.applyCommand (s : State) (code : Nat) : State :=
  if code = 2 then s.enterMaint none else if code = 3 then s.leaveMaintenance else s

/-! ## Sessions (R450 to R453) -/

/-- Sessions end, in order. -/
def State.endSessions (s : State) (p : Session → Bool) : State :=
  (fins 8).foldl (fun s i => if ((s.kw.sess[i]).map p).getD false then s.endSession i else s) s

/-- Sessions that have sent no message for SESSION_IDLE_S are closed; 0 switches that off (R453). -/
def State.idleSessions (s : State) : State :=
  let n := s.cfg.eff.n F.sessionIdleS 0
  if n = 0 then s else s.endSessions fun x => decide (x.lastMsg + 20000 * n ≤ s.up)

/-- A chain passes the checks of R452 that do not depend on where it ends. -/
def Handshake.chainOk (h : Handshake) (revoked : List (Nat × List Byte)) : Bool :=
  decide (1 ≤ h.chain.length) && decide (h.chain.length ≤ 4) && h.chain.all (fun c => c.v3 && c.p256 && c.signed) &&
    (h.chain.drop 1).all (·.ca) && ((h.chain.head?.bind (·.eku)).getD true) && decide (h.units.length = 1) &&
    !(revoked.any fun x => x.2 == sha256 h.leaf)

/-- The anchor that a chain ends at (R452, R462). -/
def SecureEl.anchorOf (e : SecureEl) (root : List Byte) : Option (Fin 2) := (fins 2).find? fun j => e.anchors[j] == some root

/-- The role that a handshake gives, with its anchor, or none where it fails (R451, R452, R462). -/
def State.handshakeRole (s : State) (h : Handshake) : Option (KwRole × Option (Fin 2)) :=
  let role := h.units.head?.getD KwRole.enrolment
  if h.suite.isNone || !h.chainOk s.cfg.eff.revoked || role == KwRole.enrolment then none
  else
    match s.se.anchorOf h.root with
    | some j => some (role, some j)
    | none => if s.se.anchorCount = 0 && s.ward 10 && role == KwRole.maintainer then some (.enrolment, none) else none

/-- The session limits (R81, R450): eight sessions, the eighth for a MAINTAINER, and none but MAINTAINERs in a held state. -/
def State.admits (s : State) (role : KwRole) : Bool :=
  let n := s.openSessions.length
  let maintains := role == KwRole.maintainer || role == KwRole.enrolment
  decide (n < 8) && (maintains || decide (n < 7)) && (maintains || !s.held)

/-- An address is refused without a handshake (R453). -/
def State.peerBlocked (s : State) (peer : Word) : Bool := s.kw.blocked.any fun b => b.1 == peer && decide (s.up < b.2)

/-- A handshake fails (R453): counted, and an address that fails too often within 60 s is refused for 60 s. DEDUCED (log 29). -/
def State.authFail (s : State) (peer : Word) : State :=
  let s := s.kwEvent 1 0x4802 peer []
  let lim := s.cfg.eff.n F.authFailLimit 0
  let fails := (peer, s.up) :: s.kw.fails.filter fun f => decide (s.up < f.2 + 1200000)
  let block := decide (0 < lim) && decide (lim ≤ (fails.filter fun f => f.1 == peer).length)
  { s with kw := { s.kw with
      authFails := satN (s.kw.authFails + 1) 32
      fails := if block then fails.filter fun f => f.1 != peer else fails
      blocked := if block then (peer, s.up + 1200000) :: s.kw.blocked.filter fun b => b.1 != peer else s.kw.blocked } }

/-- The index a new session takes: the one asked for where it is free, else the lowest free one. -/
def Keyway.freeIndex (k : Keyway) (want : Option SessId) : Option SessId :=
  match want with
  | some i => if (k.sess[i]).isNone then some i else (fins 8).find? fun j => (k.sess[j]).isNone
  | none => (fins 8).find? fun j => (k.sess[j]).isNone

/-- A TLS handshake reaches the module (R450 to R453). TCP connections are refused in BOOT and CONFIG. DEDUCED (log 29). DEDUCED (log 63). -/
def State.handshake (s : State) (h : Handshake) : State :=
  if !s.unit.running || s.unit.st == UnitState.boot || s.unit.st == UnitState.config || s.peerBlocked h.peer then s
  else
    match s.handshakeRole h with
    | none => s.authFail h.peer
    | some (role, anchor) =>
      match (if s.admits role then s.kw.freeIndex h.index else none) with
      | none => s.authFail h.peer
      | some i =>
        let cert := sha256 h.leaf
        let x := Session.fresh role h.peer s.tick cert anchor s.up (h.suite.getD .other)
          [s.se.cert, Config.intermediateCa] s.kw.opened
        State.kwEvent { s with kw := { s.kw with sess := s.kw.sess.set i (some x), opened := s.kw.opened + 1, answers := s.kw.answers.set i none
                                                 taken := s.kw.taken.set i 0 } } 0 0x4801 0 cert

/-! ## Claims (R460) -/

/-- A block that can be claimed in the unit's present state and role (R81, R369). -/
def State.claimable (s : State) (b : Block) : Bool := b == .unit || !(s.held || s.passive)

/-- CLAIM (R460). DEDUCED (log 23). DEDUCED (log 29). -/
def State.doClaim (s : State) (i : SessId) (x : Session) (b : BlockReq) (force : Bool) : State × Reply :=
  match b.block? with
  | none => (s, .refuse 0x4F01)
  | some b =>
    if !x.role.privileged || (force && x.role != KwRole.maintainer) then (s, .refuse 0x4F03)
    else if !s.claimable b then (s, .refuse 0x4F06)
    else
      let grant := fun s : State => ({ s with kw := s.kw.setHolder b (some i) }, Reply.data s.tickBytes)
      match s.kw.holder b with
      | none => grant s
      | some j =>
        if j = i then (s, .data s.tickBytes)
        else if !force then (s, .error 0x4F05 0 (BitVec.ofNat 32 j.val))
        else grant ((s.endClaim b).kwEvent 2 0x4803 0 [])

/-- RELEASE (R460); a held module serves it for the unit block alone (R81). DEDUCED (log 23). -/
def State.doRelease (s : State) (i : SessId) (b : BlockReq) : State × Reply :=
  match b.block? with
  | none => (s, .refuse 0x4F01)
  | some b =>
    if s.held && b != .unit then (s, .refuse 0x4F06)
    else if s.kw.holder b != some i then (s, .refuse 0x4F04)
    else (s.endClaim b, .data s.tickBytes)

/-! ## Subscriptions (R463, R464) -/

/-- A session changed. -/
def State.sessOf (s : State) (i : SessId) (f : Session → Session) : State :=
  { s with kw := { s.kw with sess := vmod s.kw.sess i fun x => x.map f } }

/-- The response to SUBSCRIBE: entries in force and the next EVENT_SEQ. -/
def State.subReply (s : State) (i : SessId) : Reply :=
  match s.kw.sess[i] with
  | some x => .data (leBytes 2 x.subs.length ++ [0, 0] ++ leBytes 4 x.nextSeq)
  | none => .later

/-- SUBSCRIBE SET and ADD. -/
def State.doSubscribe (s : State) (i : SessId) (x : Session) (keep : Bool) (es : List (Code × BitVec 8)) : State × Reply :=
  let subs := (if keep then x.subs else []) ++ es.map fun e => (e.1, e.2.toNat)
  if 32 < subs.length then (s, .refuse 0x4F07)
  else
    let s := s.sessOf i fun x => { x with subs := subs }
    (s, s.subReply i)

/-! ## Staging (R92, R93, R458) -/

/-- MAINTAINER and unit claim of R458. -/
def State.stageNeeds (s : State) (i : SessId) (x : Session) : Option Code := s.needs i (x.role == KwRole.maintainer) true true .unit

/-- The staging under way of either kind. -/
def Keyway.staging (k : Keyway) (fw : Bool) : Option Staging := if fw then k.fw else k.image

/-- The staging of either kind replaced. -/
def State.setStaging (s : State) (fw : Bool) (g : Option Staging) : State :=
  { s with kw := if fw then { s.kw with fw := g } else { s.kw with image := g } }

/-- Most bytes of an image and of firmware (R94, R458, R466). -/
def stageLimit (fw : Bool) : Nat := if fw then 0x200000 else 0x100000

/-- BEGIN. DESIGN CHOICE (log 4). DEDUCED (log 24). -/
def State.stageBegin (s : State) (i : SessId) (x : Session) (fw : Bool) (slot : BitVec 8) (len : Nat) : State × Reply :=
  if !fw && decide (1 < slot.toNat) then (s, .refuse 0x4F01)
  else
    match s.stageNeeds i x with
    | some c => (s, .refuse c)
    | none =>
      let slotB := !fw && slot == 1
      if !fw && s.cfg.loaded && slotB == s.unit.slotB then (s, .refuse 0x4F07)
      else if (s.kw.staging fw).isSome then (s, .refuse 0x4F08)
      else if stageLimit fw < len then (s, .refuse 0x4F07)
      else (s.setStaging fw (some ⟨i, slotB, len, [], none, x.num⟩), .data [])

/-- The staging that a session collects. -/
def State.collecting (s : State) (i : SessId) (fw : Bool) : Option Staging :=
  (s.kw.staging fw).bind fun g => if g.sess = i ∧ g.writing = none then some g else none

/-- DATA. DEDUCED (log 24). -/
def State.stageData (s : State) (i : SessId) (x : Session) (fw : Bool) (off : Nat) (bs : List Byte) : State × Reply :=
  match s.stageNeeds i x with
  | some c => (s, .refuse c)
  | none =>
    match s.collecting i fw with
    | none => (s, .refuse 0x4F07)
    | some g =>
      if off ≠ g.data.length ∨ g.len < off + bs.length then (s, .refuse 0x4F07)
      else (s.setStaging fw (some { g with data := g.data ++ bs }), .data [])

/-- END: the NOR write begins, and the answer follows it. DEDUCED (log 24). -/
def State.stageEnd (s : State) (r : Req) (x : Session) (fw : Bool) : State × Reply :=
  match s.stageNeeds r.sess x with
  | some c => (s, .refuse c)
  | none =>
    match s.collecting r.sess fw with
    | none => (s, .refuse 0x4F07)
    | some g =>
      if g.data.length ≠ g.len then (s, .refuse 0x4F07)
      else (s.setStaging fw (some { g with writing := some r.tag.toNat }), .later)

/-- CANCEL. DEDUCED (log 24). -/
def State.stageCancel (s : State) (i : SessId) (x : Session) (fw : Bool) : State × Reply :=
  match s.stageNeeds i x with
  | some c => (s, .refuse c)
  | none => if (s.collecting i fw).isNone then (s, .refuse 0x4F07) else (s.setStaging fw none, .data [])

/-- The answer to END, where the session that sent it is still open (R455, R458). -/
def State.answerOf (s : State) (g : Staging) (tag : Nat) (x : Reply) : State := if s.isSame g.sess g.num then s.answer g.sess tag x else s

/-- The NOR write of an image is done: the slot holds the data, and the dry run begins (R93, R458). In UNCONFIGURED, where neither slot is
in use, CFG_STAGED_SERIAL stays 0. DESIGN CHOICE (log 86). -/
def State.imageWritten (s : State) (g : Staging) (tag : Nat) : State :=
  let k : Fin 2 := if g.slotB then 1 else 0
  let s := { s with fw := { s.fw with slots := s.fw.slots.set k g.data }, kw := { s.kw with image := none } }
  let s := s.kwEvent 5 0x4807 0 (sha256 g.data)
  let c := s.cfg
  let c := if c.loaded then { c with stagedSerial := slotSerial g.data } else c
  let c := if s.unit.st == UnitState.unconfigured then c else { c with dryRun := some g.slotB }
  State.answerOf { s with cfg := c } g tag (.data (leBytes 4 (leAt g.data 12 4)))

/-- The NOR write of firmware is done: the slot not booted holds it, and its check begins (R458, R467). -/
def State.firmwareWritten (s : State) (g : Staging) (tag : Nat) : State :=
  let k : Fin 2 := if s.fw.booted then 0 else 1
  let s := { s with fw := { s.fw with fw := s.fw.fw.set k g.data, busy := true }, kw := { s.kw with fw := none } }
  (s.kwEvent 6 0x4808 0 (sha256 g.data)).answerOf g tag (.data (leBytes 4 (leAt g.data 8 4)))

/-- The NOR write started by END completes. -/
def State.stageWritten (s : State) (fw : Bool) : State :=
  match s.kw.staging fw with
  | some g =>
    match g.writing with
    | some tag => if fw then s.firmwareWritten g tag else s.imageWritten g tag
    | none => s
  | none => s

/-! ## Firmware slots (R466, R467) -/

/-- The header of a firmware slot is in order, MAGIC apart (R466). -/
def fwHeaderOk (bs : List Byte) : Bool :=
  leAt bs 4 2 == 1 && leAt bs 6 2 == 0x6432 && decide (1 ≤ leAt bs 16 4) && decide (leAt bs 16 4 ≤ 0x100000) && decide (leAt bs 20 4 ≤ 1) &&
    (slice bs 56 72).all (· == 0) && (slice bs 192 64).all (· == 0) && decide (256 + leAt bs 16 4 ≤ bs.length)

/-- A firmware slot checked as the boot ROM does (R467, R474). DEDUCED (log 24). -/
def fwCheck (bs : List Byte) (rollback : Nat) : FwResult :=
  if slice bs 0 4 ≠ [0x5A, 0x46, 0x57, 0x52] then .blank
  else if !fwHeaderOk bs || sha256 (slice bs 256 (leAt bs 16 4)) != slice bs 24 32 then .invalid
  else if !Config.ecdsaVerify Config.firmwareKey (bs.take 128) (leAt bs 128 32) (leAt bs 160 32) then .badSignature
  else if leAt bs 12 4 < rollback then .rolledBack
  else .wouldBoot

/-- The check of the staged firmware slot ends (R467). -/
def State.fwChecked (s : State) : State :=
  if !s.fw.busy then s
  else
    let bs := if s.fw.booted then s.fw.fw[0] else s.fw.fw[1]
    { s with fw := { s.fw with busy := false, staged := fwCheck bs s.se.rollback } }

/-- The ward key: switches 1 to 8 (R101). -/
def State.wardKey (s : State) : Nat := s.panel.ward.toNat % 256

/-- The keys of the enrolled anchors. -/
def SecureEl.keys (e : SecureEl) : List (Option (List Byte)) := e.anchors.toList.map fun a => a.map Config.certKey

/-- Steps 3 to 7 on a slot, with the anchors enrolled and the ward switches as they stand (R86, R93). -/
def State.trySlot (s : State) (slotB : Bool) : SlotOutcome :=
  Sys2Proof.Machine.trySlot (if slotB then s.fw.slots[1] else s.fw.slots[0]) s.se.keys s.wardKey (s.ward 9) s.se.safety

/-- The dry run ends (R93). -/
def State.dryRunEnd (s : State) : State :=
  match s.cfg.dryRun with
  | none => s
  | some b =>
    let o := s.trySlot b
    { s with cfg := { s.cfg with
        dryRun := none, staged := o.result, stagedNeeds := o.needsAccept
        stagedBits := if o.result == SlotResult.accepted then wholeBitting o.clamping.cfg else 0 } }

/-! ## Commands (R459, R462) -/

/-- COMMAND ANCHOR (R409). -/
def State.doAnchor (s : State) (i : SessId) (x : Session) (utc : BitVec 64) (unc : Word) : State × Reply :=
  match s.needs i x.role.privileged false (!s.passive) .unit with
  | some c => (s, .refuse c)
  | none =>
    let soon := match s.recorder.anchorAt with
      | some t => decide (s.up < t + 200000)
      | none => false
    if soon then (s, .refuse 0x4F09)
    else
      let seq := s.recorder.nextSeq
      let body := leBytes 8 utc.toNat ++ leBytes 4 unc.toNat ++ leBytes 1 x.role.code ++ [0, 0, 0] ++ x.cert
      let s := s.onRec fun r i => r.add i (i.body 4 body)
      ({ s with recorder := { s.recorder with anchorAt := some s.up, lastAnchor := s.tick } }, .data (s.tickBytes ++ leBytes 4 seq))

/-- The owner anchor of an index replaced or removed: sessions that depend on the old one are closed (R462). -/
def State.setAnchor (s : State) (j : Fin 2) (der : Option (List Byte)) : State :=
  let s := { s with se := { s.se with anchors := s.se.anchors.set j der } }
  s.endSessions fun x => x.anchor == some j

/-- ENROL is authorised (R462): by switch 10, or for a free index by the other anchor's signature. -/
def State.enrolAllowed (s : State) (x : Session) (j : Fin 2) (cert sig : List Byte) : Except Code Unit :=
  let other : Fin 2 := if j = 0 then 1 else 0
  if s.se.anchorCount = 0 then if s.ward 10 && x.role == KwRole.enrolment then .ok () else .error 0x4F07
  else if x.role == KwRole.enrolment then .error 0x4F07
  else if s.ward 10 then .ok ()
  else if (s.se.anchors[j]).isSome || sig.isEmpty || x.anchor != some other then .error 0x4F07
  else
    let key := ((s.se.anchors[other]).map Config.certKey).getD []
    if decide (sig.length = 64) && Config.ecdsaVerify key cert (leAt sig 0 32) (leAt sig 32 32) then .ok () else .error 0x4F0A

/-- COMMAND ENROL (R462). An enrolment session, which can hold no claim, needs none. DESIGN CHOICE (log 4). DEDUCED (log 25). -/
def State.doEnrol (s : State) (i : SessId) (x : Session) (index : BitVec 8) (cert sig : List Byte) : State × Reply :=
  match finOf 2 index.toNat with
  | none => (s, .refuse 0x4F01)
  | some j =>
    if 2048 < cert.length then (s, .refuse 0x4F01)
    else
      let enrols := x.role == KwRole.enrolment
      match s.needs i (enrols || x.role == KwRole.maintainer) (!enrols) (!s.passive) .unit with
      | some c => (s, .refuse c)
      | none =>
        match s.enrolAllowed x j cert sig with
        | .error c => (s, .refuse c)
        | .ok () =>
          if !Config.anchorOk cert then (s, .refuse 0x4F0A)
          else
            let s := (s.setAnchor j (some cert)).kwEvent 3 0x4805 0 (sha256 cert)
            let reply := Reply.data (s.tickBytes ++ sha256 cert)
            (s.endSessions fun x => x.role == KwRole.enrolment, reply)

/-- COMMAND UNENROL (R462). -/
def State.doUnenrol (s : State) (i : SessId) (x : Session) (index : BitVec 8) : State × Reply :=
  match finOf 2 index.toNat with
  | none => (s, .refuse 0x4F01)
  | some j =>
    match s.needs i (x.role == KwRole.maintainer) true (!s.passive) .unit with
    | some c => (s, .refuse c)
    | none =>
      match s.se.anchors[j] with
      | none => (s, .refuse 0x4F07)
      | some der =>
        if !s.ward 10 then (s, .refuse 0x4F07)
        else
          let s := (s.setAnchor j none).kwEvent 4 0x4806 0 (sha256 der)
          (s, .data s.tickBytes)

/-! ## The log (R426, R427) -/

/-- LOG_READ. DEDUCED (log 46). -/
def State.doLogRead (s : State) (x : Session) (first count : Nat) (pages : List PageRead) : State × Reply :=
  if count = 0 ∨ 15 < count then (s, .refuse 0x4F01)
  else if !x.role.privileged then (s, .refuse 0x4F03)
  else
    let y := RecRun.read ⟨s.recorder, []⟩ s.recIn first count pages
    let s := (State.deliver { s with recorder := y.1.rc } y.1.ev).noteTaken 0x70058
      (((List.range count).filter fun k => (s.recorder.nand.page s.se.eraseCount (first + k)).isSome).foldl (fun n k =>
        max n (pages.getD k ⟨0, none⟩).most) 0)
    (s, .data (leBytes 4 s.se.eraseCount ++ leBytes 4 count ++ y.2))

/-- ERASE_COUNT is incremented once every sealed page is committed (R427 step 2). -/
def State.eraseCounted (s : State) : State :=
  if s.recorder.eraseCounts then
    let s := { s with se := { s.se with eraseCount := s.se.eraseCount + 1 } }
    s.onRec fun r _ => r.counted
  else s

/-- LOG_ERASE (R427): a LOG_FULL page still to be committed becomes the last one, which the request cannot name (R428). The response names the ERASE_COUNT that follows. DEDUCED (log 46). -/
def State.doLogErase (s : State) (i : SessId) (x : Session) (seq : Nat) (chain : List Byte) : State × Reply :=
  match s.needs i (x.role == KwRole.maintainer) true s.runs .unit with
  | some c => (s, .refuse c)
  | none =>
    if (s.recorder.st != RecState.recording && s.recorder.st != RecState.full) = true ∨ s.recorder.fullDue = true ∨ s.recorder.pageSeq ≠ some seq ∨ s.recorder.chain ≠ chain then (s, .refuse 0x4F07)
    else
      let n := s.se.eraseCount + 1
      ((s.onRec fun r i => r.erase i x.cert).eraseCounted, .data (leBytes 4 n))

end Sys2Proof.Machine
end

