-- ==== Sys2Proof/Machine/CycleRecord.lean ====
section
/-! DEFINITION. The CYCLE and PROFILE records of a doorway cycle and the tick's part of a cycle (R405 to R407). -/

namespace Sys2Proof.Machine

/-! ## CYCLE (R406) -/

/-- The marker of a value that does not exist. -/
def noValue32 : Int := -(2 ^ 31)

/-- A value of the leaf in a slot, with what an empty slot or a stepper gives. -/
def State.leafValue (s : State) (d k : Nat) (none' : Int) (f : ObstSt → Int) : Int :=
  match slotAxis s.cfg.eff d k with
  | none => none'
  | some a => if s.cfg.eff.kind a.val = 1 then f (s.axes[a]).obst else none'

/-- The leaf has been evaluated. -/
def ObstSt.seen (o : ObstSt) : Bool := o.evalTick != 0

/-- G of the last completed gap check. DEDUCED (log 44). -/
def State.cycleGap (s : State) (d : DoorId) : Int :=
  if (leavesOf s.cfg.eff d.val).all fun a => (s.axes[a]).obst.seen then (s.doors[d]).clo.g else noValue32

/-- T_eval of slot 0, or of slot 1 where slot 0 holds no leaf. DEDUCED (log 44). -/
def State.cycleTemp (s : State) (d : Nat) : Int :=
  match slotAxis s.cfg.eff d 0 with
  | some a => (s.axes[a]).obst.tEval
  | none => s.leafValue d 1 0 (·.tEval)

/-- One bin mean of a slot's last signature check. -/
def State.cycleBins (s : State) (d k : Nat) : List Byte :=
  let ms := match slotAxis s.cfg.eff d k with
    | none => List.replicate 32 none
    | some a => (s.axes[a]).obst.means
  (List.range 32).flatMap fun j => leBytes 2 (meanWord (ms.getD j none) 0).toNat

/-- One entry of OBST. -/
def CycleObst.bytes (o : CycleObst) : List Byte :=
  leBytes 4 o.tick.toNat ++ leBytes 1 o.axis ++ leBytes 1 o.reaction ++ [0, 0] ++ leBytesS 4 o.x ++ leBytesS 2 o.r ++ leBytesS 2 o.v

/-- One entry of PEAK. -/
def CyclePeak.bytes (p : CyclePeak) : List Byte := leBytesS 2 p.r ++ leBytes 2 p.v ++ leBytes 2 p.f ++ [0, 0]

/-- The bytes of a CYCLE record after its header. -/
def State.cycleBytes (s : State) (d : DoorId) (c : Cycle) : List Byte :=
  let w : Door := s.doors[d]
  let gap := fun k => s.leafValue d.val k noValue32 fun o => if o.seen then o.gap else noValue32
  let sig := fun k => s.leafValue d.val k 0 fun o => (o.sig.code : Int)
  leBytes 1 d.val ++ leBytes 1 w.st.code ++ leBytes 1 c.first ++ leBytes 1 s.hinge.role.code ++ leBytes 4 c.start.toNat ++
    leBytes 4 s.tick.toNat ++ leBytes 6 c.startOp ++ leBytes 1 c.reopens ++ leBytes 1 c.obstacles ++ leBytes 2 c.flags.toNat ++
    leBytes 1 w.clo.withheld ++ leBytes 1 c.attempts ++ leBytesS 4 (s.cycleGap d) ++ leBytesS 4 (gap 0) ++ leBytesS 4 (gap 1) ++
    leBytesS 4 (s.leafValue d.val 0 0 (·.xEval)) ++ leBytesS 4 (s.leafValue d.val 1 0 (·.xEval)) ++
    leBytesS 2 (s.cycleTemp d.val) ++ leBytesS 1 (sig 0) ++ leBytesS 1 (sig 1) ++
    c.ticks.toList.flatMap (fun n => leBytes 4 (min 0xFFFFFFFF (n / 20))) ++
    ((c.obst.reverse.flatMap CycleObst.bytes) ++ List.replicate 64 0).take 64 ++ c.peaks.toList.flatMap CyclePeak.bytes ++
    s.cycleBins d.val 0 ++ s.cycleBins d.val 1 ++ leBytes 8 s.cfg.safety.toNat ++ leBytes 8 s.cfg.whole.toNat ++
    leBytes 4 s.cfg.serial ++ leBytes 2 s.hinge.heldEpoch.toNat ++ leBytes 2 (w.inputWord.toNat % 65536) ++
    leBytes 1 (s.il.bolt.status.toNat % 64) ++ leBytes 1 s.il.release.toNat ++ List.replicate 146 0

/-! ## PROFILE (R407) -/

/-- One sample. -/
def ProfSample.bytes (p : ProfSample) : List Byte := leBytesS 2 p.z0 ++ leBytesS 2 p.r0 ++ leBytesS 2 p.z1 ++ leBytesS 2 p.r1

/-- The bytes of a PROFILE record after its header. -/
def State.profileBytes (s : State) (d : DoorId) (c : Cycle) : List Byte :=
  let a := fun k => ((slotAxis s.cfg.eff d.val k).map (·.val)).getD 0xFF
  let last := (c.span.head?.map fun p => p.tick.toNat).getD 0
  leBytes 1 d.val ++ leBytes 1 ((if a 0 < 64 then 1 else 0) + (if a 1 < 64 then 2 else 0)) ++ leBytes 2 c.span.length ++
    leBytes 4 last ++ leBytes 1 (a 0) ++ leBytes 1 (a 1) ++ leBytes 2 80 ++ [0, 0, 0, 0] ++
    ((c.span.reverse.flatMap ProfSample.bytes) ++ List.replicate 3536 0).take 3536 ++ List.replicate 8 0

/-! ## The end of a tick -/

/-- The force axis in each slot of a doorway. -/
def State.forceSlots (s : State) (d : Nat) : List (Option Axis) :=
  [0, 1, 2, 3].map fun k =>
    (slotAxis s.cfg.eff d k).bind fun a => if s.cfg.eff.kind a.val = 1 then some s.axes[a] else none

/-- A port of the doorway has missed 3 or more consecutive ticks. -/
def State.doorMissed (s : State) (d : Nat) : Bool :=
  (axesOf s.cfg.eff d).any fun a =>
    (((s.cfg.eff.portOf a.val).bind (finOf 32)).map fun k => decide (3 ≤ (s.ports[k]).missRun)).getD false

/-- A confirmation on an axis is noted by the cycle of its doorway (R406). -/
def State.noteObstacle (s : State) (a : AxisId) : State :=
  match (doorOfAxis s.cfg.eff a.val).bind fun x => finOf 16 x.1 with
  | none => s
  | some d => { s with recorder := { s.recorder with cycles := vmod s.recorder.cycles d fun c => c.obstacle a.val s.axes[a] } }

/-- Both records of a cycle that has ended, CYCLE first; the cycle is over. DEDUCED (log 44). -/
def State.cycleRecords (s : State) (d : DoorId) : State :=
  let c : Cycle := s.recorder.cycles[d]
  let s := { s with recorder := { s.recorder with cycles := s.recorder.cycles.set d .reset } }
  let one := s.cycleBytes d c
  let two := s.profileBytes d c
  s.onRec fun r i => (r.add i (i.body 1 one)).add i (i.body 2 two)

/-- The cycle of a doorway at the end of a compute phase (R405 to R407). -/
def State.cycleTick (s : State) (d : DoorId) : State :=
  let c : Cycle := s.recorder.cycles[d]
  if !c.active then s
  else
    let st := (s.doors[d]).st
    let c := c.endTick s.tick st (s.forceSlots d.val) (s.doorMissed d.val)
    let s := { s with recorder := { s.recorder with cycles := s.recorder.cycles.set d c } }
    if st.endsCycle then s.cycleRecords d else s

end Sys2Proof.Machine
end

