-- ==== Sys2Proof/Machine/Census.lean ====
section
/-! DEFINITION. The network (ch. 15): address, bypass relay and the census. -/

namespace Sys2Proof.Machine

/-! ## Address (R448, R449) -/

/-- The network part changed. -/
def State.onNet (s : State) (f : Net → Net) : State := { s with net := f s.net }

/-- BOOT is over, and the internal port is reachable (R448). -/
def State.reachable (s : State) : Bool := s.unit.running && s.unit.st != UnitState.boot

/-- Four octets of a field, the first in [7:0] of its value, as a word with the first in [31:24] (R473). -/
def netWord (v : Nat) : Word := BitVec.ofNat 32 (beNat (leBytes 4 v))

/-- The ASCII digits of a number in a base, `n` digits, upper case. -/
def digits (base : Nat) : Nat → Nat → List Byte
  | 0, _ => []
  | n + 1, v => digits base n (v / base) ++ [BitVec.ofNat 8 (let d := v % base; if d < 10 then 48 + d else 55 + d)]

/-- DEVICE_SERIAL in 8 upper-case hex digits (R449, R465). -/
def serialDigits (serial : Word) : List Byte := digits 16 8 serial.toNat

/-- The DHCP client identifier (R449): "ZD6432-", the unit address in three decimal digits, "XXX" where it is invalid, "-" and DEVICE_SERIAL. -/
def State.clientId (s : State) : List Byte :=
  [0x5A, 0x44, 0x36, 0x34, 0x33, 0x32, 0x2D] ++ (if s.panel.addrValid then digits 10 3 s.addr else [0x58, 0x58, 0x58]) ++ [0x2D] ++
    serialDigits s.se.serial

/-- IP_MODE is STATIC. An image has been read (R449). -/
def State.staticIp (s : State) : Bool := s.cfg.loaded && s.cfg.eff.n F.ipMode 0 == 1

/-- The static address with k (R449). -/
def State.takeStatic (s : State) (k : Bool) : State :=
  if !s.staticIp || s.net.k.isSome then s
  else
    let ip := netWord (s.cfg.eff.n F.ipBase 0) + BitVec.ofNat 32 (2 + 2 * s.addr + (if k then 1 else 0))
    s.onNet fun n => { n with k := some k, src := .static, ip := ip, prefixLen := s.cfg.eff.n F.prefixLen 0 }

/-- The end of CONFIG under HINGE_MODE SINGLE: k = 0 (R449). -/
def State.singleAddress (s : State) : State := if s.cfg.eff.n F.hingeMode 0 == 1 then s else s.takeStatic false

/-- The first good partner heartbeat: k = 0 on the module with the lower HP_SERIAL (R449). DEDUCED (log 64). -/
def State.pairAddress (s : State) : State :=
  match s.hinge.partner with
  | some b => if s.cfg.eff.n F.hingeMode 0 == 1 && s.hinge.silence == 0 then s.takeStatic (decide (b.serial.toNat < s.se.serial.toNat)) else s
  | none => s

/-- The probe for k = 0 at the end of PAIR_WAIT_MS (R449). -/
def State.probeAddress (s : State) (answered : Bool) : State :=
  if s.cfg.eff.n F.hingeMode 0 == 1 && s.hinge.partner.isNone then s.takeStatic answered else s

/-- The module asks for a DHCP lease: CONFIG is over and IP_MODE is DHCP, as it is without an image (R449). -/
def State.asksLease (s : State) : Bool := s.reachable && s.unit.st != UnitState.config && !s.staticIp

/-- The module asks for a lease, under its client identifier (R449). -/
def State.askLease (s : State) : State := if s.asksLease then s.onNet fun n => { n with clientId := some s.clientId } else s

/-- A lease is held. -/
def State.leased (s : State) (ip : Word) (prefixLen : Nat) : State :=
  if s.asksLease then s.onNet fun n => { n with src := .dhcp, ip := ip, prefixLen := prefixLen } else s

/-- No lease is held 10 s after CONFIG: an RFC 3927 address. -/
def State.linkLocal (s : State) (ip : Word) : State :=
  if s.asksLease && s.net.src == IpSrc.none then s.onNet fun n => { n with src := .linkLocal, ip := ip, prefixLen := 16 } else s

/-- A link of E1 or E2 comes up or goes down (R448). -/
def Net.setLink (n : Net) (e2 up : Bool) : Net := if e2 then { n with e2 := up } else { n with e1 := up }

/-! ## The census datagram (R468) -/

/-- The bytes before SIG. -/
def State.censusBody (s : State) : List Byte :=
  let c := s.cfg
  let b64 := fun x : BitVec 64 => leBytes 8 x.toNat
  [0x5A, 0x43, 0x4E, 0x53] ++ leBytes 2 1 ++ leBytes 2 (c.eff.n F.censusClass 0) ++ leBytes 2 s.addr ++ leBytes 1 s.hinge.role.code ++
    leBytes 1 s.unit.st.code ++ leBytes 4 s.se.serial.toNat ++ leBytes 4 s.se.powerCycle ++ leBytes 6 (s.recorder.opTime s.up) ++
    leBytes 2 (flag s.evalConfig 0 ||| flag s.net.split 1 ||| flag s.hinge.fit 2).toNat ++ leBytes 4 s.net.seq ++ leBytes 4 s.fw.version ++
    leBytes 4 c.serial ++ c.bits.toList.flatMap b64 ++ b64 c.whole ++ b64 c.stagedBits ++ b64 (s.se.safety.getD 0) ++
    leBytes 2 s.se.cert.length ++ [0, 0] ++ s.se.cert

/-- A tick in which the datagram is due. -/
def State.censusDue (s : State) : Bool :=
  ((s.tick.toNat : Int) - 78 * s.addr - (if s.standby then 39 else 0)) % 40000 == 0

/-- A datagram is sent, to CENSUS_GROUP:CENSUS_PORT with TTL 16, in a tick in which it is due, in the states that send it, while
CENSUS_ENABLE is 1; a halted channel CRYPTO skips it until its next period (R437, R468). -/
def State.censusSend (s : State) : State :=
  if s.unit.running && operating s.unit.st && s.cfg.eff.n F.censusEnable 0 == 1 && s.censusDue && s.net.sentAt != some s.up &&
      !s.mem.dma.getLsbD 3 then
    let body := s.censusBody
    let d : Datagram := ⟨netWord (s.cfg.eff.n F.censusGroup 0), s.cfg.eff.n F.censusPort 0, 16, body ++ Config.ecdsaSign body⟩
    s.onNet fun n => { n with sent := some d, sentAt := some s.up, seq := (n.seq + 1) % 2 ^ 32 }
  else s

/-- The datagram of a tick in which it is due, where CENSUS_SEND has not given it (R468). DESIGN CHOICE (log 8). -/
def State.censusTurn (s : State) : State := s.censusSend

/-! ## Census entries (R469, R470) -/

/-- The contents of the device certificate of a serial number (R465): "ZHOLDA-DEVICE", "ZD-6432 " and the 8 digits, the same 8 digits,
digitalSignature, "99991231235959Z". -/
def deviceCertOf (serial : Word) : Config.CertContents :=
  { unit := [0x5A, 0x48, 0x4F, 0x4C, 0x44, 0x41, 0x2D, 0x44, 0x45, 0x56, 0x49, 0x43, 0x45]
    name := [0x5A, 0x44, 0x2D, 0x36, 0x34, 0x33, 0x32, 0x20] ++ serialDigits serial
    serial := serialDigits serial
    digitalSignature := true
    notAfter := [0x39, 0x39, 0x39, 0x39, 0x31, 0x32, 0x33, 0x31, 0x32, 0x33, 0x35, 0x39, 0x35, 0x39, 0x5A] }

/-- A certificate passes the checks of R465: its chain ends at the device CA, and it is the device certificate of the serial number. PRESUMED (log 26). -/
def deviceCertOk (der : List Byte) (serial : Word) : Bool := Config.deviceChainOk der && Config.certContents der == deviceCertOf serial

/-- What manufacture leaves in a secure element: the certificate of its own serial number (R465). The empty one of State.reset is not. DESIGN
CHOICE (log 3). -/
def SecureEl.certified (e : SecureEl) : Bool := deviceCertOk e.cert e.serial

/-- The signed part, the certificate and the serial of a datagram of legal MAGIC, FORMAT and length. -/
def censusParts (bs : List Byte) : Option (List Byte × List Byte × Word) :=
  let n := leAt bs 128 2
  if bs.take 6 = [0x5A, 0x43, 0x4E, 0x53, 1, 0] ∧ 1 ≤ n ∧ n ≤ 1024 ∧ bs.length = 132 + n + 64 then
    some (bs.take (132 + n), slice bs 132 n, BitVec.ofNat 32 (leAt bs 12 4))
  else none

/-- The entry that a datagram gives. -/
def censusEntryOf (bs : List Byte) (tick : Tick) (up : Nat) : CensusEntry :=
  { addr := leAt bs 8 2, role := leAt bs 10 1, state := leAt bs 11 1, cls := leAt bs 6 2, serial := BitVec.ofNat 32 (leAt bs 12 4),
    safety := BitVec.ofNat 64 (leAt bs 48 8), whole := BitVec.ofNat 64 (leAt bs 104 8), tick := tick, up := up, fresh := true,
    flags := leAt bs 26 2, power := leAt bs 16 4, seq := leAt bs 28 4 }

/-- An entry is newer than the one last accepted. DEDUCED (log 63). -/
def CensusEntry.newer (e old : CensusEntry) : Bool := decide (old.power < e.power) || (decide (old.power = e.power) && decide (old.seq < e.seq))

/-- The place of a new serial: the lowest free one, else that of the oldest entry more than 60 s old. DEDUCED (log 63). -/
def Net.freePlace (n : Net) (up : Nat) : Option Nat :=
  if n.table.length < 1024 then (List.range 1024).find? fun k => !(n.table.any fun x => x.1 == k)
  else
    let old := n.table.filter fun x => decide (x.2.up + 1200000 < up)
    (old.foldl (fun (m : Option (Nat × CensusEntry)) x => match m with
      | none => some x
      | some y => if x.2.up < y.2.up then some x else some y) none).map (·.1)

/-- An entry at a place of the table. -/
def Net.putEntry (n : Net) (k : Nat) (e : CensusEntry) : Net := { n with table := (k, e) :: n.table.filter fun x => x.1 != k }

/-- A verified certificate in the cache of 1,024. -/
def Net.cacheCert (n : Net) (der : List Byte) : Net :=
  let h := sha256 der
  { n with verified := (h :: n.verified.filter fun x => x != h).take 1024 }

/-- A datagram dropped and counted. -/
def Net.dropDatagram (n : Net) : Net := { n with dropped := satN (n.dropped + 1) 32 }

/-- A datagram arrives. DEDUCED (log 63). -/
def Net.receive (n : Net) (bs : List Byte) (tick : Tick) (up : Nat) : Net :=
  match censusParts bs with
  | none => n.dropDatagram
  | some (body, cert, serial) =>
    let sigAt := body.length
    if !deviceCertOk cert serial || !Config.ecdsaVerify (Config.certKey cert) body (leAt bs sigAt 32) (leAt bs (sigAt + 32) 32) then
      n.dropDatagram
    else
      let n := n.cacheCert cert
      let e := censusEntryOf bs tick up
      match n.table.find? fun x => x.2.serial == serial with
      | some old => if e.newer old.2 then n.putEntry old.1 e else n.dropDatagram
      | none =>
        match n.freePlace up with
        | some k => n.putEntry k e
        | none => n.dropDatagram

/-- Entries that satisfy a condition are no longer fresh. -/
def Net.expire (n : Net) (p : CensusEntry → Bool) : Net :=
  { n with table := n.table.map fun x => if p x.2 then (x.1, { x.2 with fresh := false }) else x }

/-- What the network does in a tick: the lease, freshness and the split check (R449, R469, R470). DEDUCED (log 32). -/
def State.censusTick (s : State) : State :=
  let s := s.askLease.onNet fun n => n.expire fun e => decide (e.up + 1200000 ≤ s.up)
  let split := decide (1 < s.bittingsInClass.length)
  let was := s.net.split
  let s := s.onNet fun n => { n with split := split }
  if split && !was then
    State.raise { s with kw := { s.kw with events := s.kw.events ||| 0x80 } } 0x4809 0xFF 0
  else s

end Sys2Proof.Machine
end

