-- ==== Sys2Proof/Machine/Panel.lean ====
section
/-! DEFINITION. Pins, supply, temperature, RESET input, ward switches and clocks (ch. 1 and 2), and the module's stop. -/

namespace Sys2Proof.Machine

/-- The panel changed. -/
def State.onPanel (s : State) (f : Panel → Panel) : State := { s with panel := f s.panel }

/-- The unit state is BOOT. -/
def State.boots (s : State) : Bool := s.unit.st == UnitState.boot

/-! ## The module stops (R47, R55, R459) -/

/-- The BOLT outputs off, no frames, CAN off at once (R350), the bypass relay closed: the module stops until its next start. DEDUCED (log 13). DESIGN CHOICE (log 14). -/
def State.stop (s : State) (cause : StartCause) : State :=
  { s with
    unit := { s.unit with running := false, cause := cause, coreLine := false }
    il := { s.il with bolt := { s.il.bolt with switches := 0, decA := false, decB := false, combined := false, test := none } }
    ports := vmap (fun p : Port => { p with sent := none }) s.ports
    can := vmap Can.goOff s.can
    hinge := { s.hinge with sent := none, copyOut := none, lease := false }
    net := { s.net with bypass := true } }

/-- The last heartbeat of a module that resets: its fault is declared (R373). -/
def State.lastHeartbeat (s : State) : State :=
  if s.boots || s.unit.st == UnitState.config then s
  else s.onHinge fun r i => (r.upd fun h => { h with declared := true }).sendHeartbeat i

/-- A reset on RESET (R55): the event is recorded, the staging buffer flushed, and the fault declared to the partner. -/
def State.resetStop (s : State) : State :=
  let s := s.raise 0x4006 0xFF 0
  (State.stop { s with recorder := s.recorder.seal true } .reset).lastHeartbeat

/-! ## The RESET input (R51 to R54) -/

/-- The press is accepted in tick `up`: the hold time runs, and the press counts if the input is armed. -/
def ResetIn.press (r : ResetIn) (up : Nat) : ResetIn := { r with pressed := true, diff := 0, hold := 0, live := r.armed, since := up }

/-- H in tick `up`: the ticks from the accepted press (R51). -/
def ResetIn.count (r : ResetIn) (up : Nat) : ResetIn := if r.pressed then { r with hold := min 160001 (up - r.since) } else r

/-- The release is accepted in tick `up`: answers whether the module resets (R53). A press whose H has reached 160,001 in this
very tick is ignored. DESIGN CHOICE (log 68). -/
def ResetIn.release (r : ResetIn) (up : Nat) : ResetIn × Bool :=
  ({ r with pressed := false, diff := 0, since := up, live := false }, r.live && decide (1000 ≤ r.hold) && decide (r.hold ≤ 160000))

/-- The input is declared stuck and disarmed. -/
def ResetIn.jam (r : ResetIn) : ResetIn := { r with armed := false, live := false, stuck := true, stuckSeen := true, hold := 160001 }

/-- The input arms, and RESET_STUCK clears. -/
def ResetIn.arm (r : ResetIn) : ResetIn := { r with armed := true, stuck := false }

/-- One sample (R51): the filtered state changes with the 20th that differs. Answers whether the module resets. -/
def ResetIn.sample (r : ResetIn) (up : Nat) (level : Bool) : ResetIn × Bool :=
  if level = r.pressed then ({ r with diff := 0 }, false)
  else if r.diff + 1 < 20 then ({ r with diff := r.diff + 1 }, false)
  else if level then (r.press up, false)
  else r.release up

/-- The RESET input changed. -/
def State.onReset (s : State) (f : ResetIn → ResetIn) : State := s.onPanel fun p => { p with rst := f p.rst }

/-- RESET_STUCK is declared. -/
def State.resetJam (s : State) : State := (s.onReset ResetIn.jam).raise 0x4007 0xFF 0

/-- A release is accepted. -/
def State.resetRelease (s : State) : State :=
  let x := (s.panel.rst.count s.up).release s.up
  let s := s.onReset fun _ => x.1
  if x.2 then s.resetStop else s

/-- The RESET input in a tick (R51 to R53): the first sample of a start sets the filtered state, and the input arms 20,000 ticks after
its filtered state last became released. HOLD_TICKS of a contact held from power-on, which no press began, counts from that first sample.
DESIGN CHOICE (log 84). -/
def State.resetTick (s : State) (level : Bool) : State :=
  if s.up = 0 then s.onReset fun r => { r with pressed := level, diff := 0, since := 0 }
  else
    let x := (s.panel.rst.count s.up).sample s.up level
    let s := s.onReset fun _ => x.1
    if x.2 then s.resetStop
    else if x.1.pressed then if x.1.live && decide (160001 ≤ x.1.hold) then s.resetJam else s
    else if !x.1.armed && decide (x.1.since + 20000 ≤ s.up) then s.onReset ResetIn.arm
    else s

/-! ## The module supply (R46 to R50) -/

/-- OP_TIME is saved to the secure element (R404). -/
def State.saveOpTime (s : State) : State := { s with se := { s.se with opTime := s.recorder.opTime s.up } }

/-- Supply loss is declared. -/
def State.supplyLoss (s : State) : State :=
  let s := (s.onPanel fun p => { p with holdup := true, supplyCount := 0 }).raise 0x4008 0xFF 0
  State.saveOpTime { s with recorder := s.recorder.seal true }

/-- The supply has returned. -/
def State.supplyReturn (s : State) : State := s.onPanel fun p => { p with holdup := false, supplyCount := 0 }

/-- The supply rises above 154 V. -/
def State.supplyHigh (s : State) : State :=
  if s.panel.supplyHigh then s else (s.onPanel fun p => { p with supplyHigh := true }).raise 0x400A 0xFF 0

/-- The supply in a tick, 0.1 V steps. -/
def State.supplyTick (s : State) (v : BitVec 16) : State :=
  let x := v.toNat
  let s := s.onPanel fun p => { p with moduleV := v }
  let counts := if s.panel.holdup then decide (168 < x) else decide (x < 140)
  let n := if counts then s.panel.supplyCount + 1 else 0
  let s := s.onPanel fun p => { p with supplyCount := n }
  let s := if s.panel.holdup then (if 20 ≤ n then s.supplyReturn else s) else if 2 ≤ n then s.supplyLoss else s
  if 1540 < x then s.supplyHigh else s.onPanel fun p => { p with supplyHigh := false }

/-- While supply loss lasts, or a reset is taken, what reaches the open page is flushed too (R46, R55, R413). -/
def State.flushOpen (s : State) : State :=
  if s.recIn.flush && s.recorder.sealedPages.isEmpty then { s with recorder := s.recorder.seal true } else s

/-- The open page has held data for LOG_SEAL_MS (R413). -/
def State.sealDue (s : State) : Bool :=
  (s.recorder.since.map fun t => decide (t + msTicks (s.cfg.eff.n F.logSealMs 0) ≤ s.up)).getD false

/-- LOG_SEAL_MS and the saving of OP_TIME every 600 s, in a tick (R404, R413). DESIGN CHOICE (log 8). -/
def State.logClocks (s : State) : State :=
  let s := if s.sealDue then { s with recorder := s.recorder.seal s.panel.holdup } else s
  if s.up % 12000000 = 11999999 then s.saveOpTime else s

/-! ## Housing temperature (R27) -/

/-- The limit of the variant, 0.1 °C. -/
def State.hotLimit (s : State) : Int := if s.unit.variantT0 then 950 else 800

/-- The housing is too hot. -/
def State.housingHot (s : State) : State :=
  if s.panel.housingHot then s else (s.onPanel fun p => { p with housingHot := true }).raise 0x400B 0xFF 0

/-- The sensor, read every 1 ms. -/
def State.housingTick (s : State) (t : BitVec 16) : State :=
  if s.tick.toNat % 20 ≠ 0 then s
  else
    let s := s.onPanel fun p => { p with housingT := t }
    if s.hotLimit < t.toInt then s.housingHot else s.onPanel fun p => { p with housingHot := false }

/-! ## Address pins (R38) -/

/-- Three readings differ from the address in use. -/
def State.addrChanged (s : State) (pins : BitVec 10) : State :=
  (s.onPanel fun p => { p with pinsNow := pins, addrChanged := true, addrDiff := 3 }).raise 0x400C 0xFF 0

/-- The pins, read every 100 ms after BOOT; a reading differs where any of the ten pins does, ADR_P among them. DEDUCED (log 17).
DESIGN CHOICE (log 69). -/
def State.pinsTick (s : State) (pins : BitVec 10) : State :=
  if s.boots || s.up % 2000 ≠ 0 then s
  else
    let differs := s.panel.addrValid && pins != s.panel.pinsUsed
    let n := if differs then min 3 (s.panel.addrDiff + 1) else 0
    if n = 3 && s.panel.addrDiff < 3 then s.addrChanged pins else s.onPanel fun p => { p with pinsNow := pins, addrDiff := n }

/-! ## Ward switches and cover W (R40 to R43) -/

/-- Switch k + 1 takes a new debounced position. -/
def State.wardChange (s : State) (k : Fin 12) (on : Bool) : State :=
  let was := s.wardOpen
  let w := s.panel.ward &&& ~~~(1#12 <<< k.val)
  let s := s.onPanel fun p => { p with ward := if on then w ||| (1#12 <<< k.val) else w, wardCount := p.wardCount.set k 0 }
  let s := if k.val < 9 && !s.boots && s.unit.st != UnitState.config then s.raise 0x400D 0xFF 0 else s
  let s := if k.val = 11 && on then s.raise 0x400F 0xFF 0 else s
  if s.wardOpen && !was then s.raise 0x400E 0xFF 0 else s

/-- One switch in a tick. -/
def State.wardSwitch (s : State) (raw : BitVec 12) (k : Fin 12) : State :=
  if raw.getLsbD k.val = s.panel.ward.getLsbD k.val then s.onPanel fun p => { p with wardCount := p.wardCount.set k 0 }
  else
    let n := s.panel.wardCount[k] + 1
    if 400 ≤ n then s.wardChange k (raw.getLsbD k.val) else s.onPanel fun p => { p with wardCount := p.wardCount.set k n }

/-- The switches in a tick. DEDUCED (log 17). -/
def State.wardTick (s : State) (raw : BitVec 12) : State :=
  (fins 12).foldl (fun s k => s.wardSwitch raw k) (s.onPanel fun p => { p with wardRaw := raw })

/-- COVER_OPEN is reported: security record and event. -/
def State.coverReport (s : State) : State := (s.security 0x4010 0 []).raise 0x4010 0xFF 0

/-- Cover W is lifted; in BOOT the report waits for its end. -/
def State.coverLift (s : State) : State :=
  if s.panel.coverOpen then s
  else
    let s := s.onPanel fun p => { p with coverOpen := true, coverOpened := true }
    if s.boots then s else s.coverReport

/-- Cover W is back. -/
def State.coverBack (s : State) : State := s.onPanel fun p => { p with coverOpen := false }

/-- The reed contact in a tick. -/
def State.coverTick (s : State) (open' : Bool) : State := if open' then s.coverLift else s.coverBack

/-- A lifting that BOOT has seen is reported at its end. -/
def State.coverAtBootEnd (s : State) : State := if s.panel.coverOpened then s.coverReport else s

/-! ## Clocks (R76) -/

/-- The fixed domains, by bit of CLOCK_STATUS [8:1]: core, CAN, Ethernet, NAND, field I/O, knuckle transmit. -/
def fixedDomains : BitVec 8 := 0x7E

/-- The pin link's receiver loses its clock or its code groups (R130, R376). -/
def State.pinDown (s : State) : State := { s with hinge := { s.hinge with sync := false } }

/-- The clocks as they stand: an unlocked PLL of a fixed domain is CLOCK_FAULT. DEDUCED (log 17). -/
def State.clocks (s : State) (locks : BitVec 8) (late : Bool) : State :=
  let s := { s with unit := { s.unit with locks := locks } }
  let s := if locks.getLsbD 7 then s else s.pinDown
  if locks &&& fixedDomains != fixedDomains then s.holdCause 0x4005 late false else s

/-- A strobe out of its window; CLOCK_STATUS.STROBE_FAULT is set in this tick (R16, R76). -/
def State.strobeFault (s : State) (late : Bool) : State :=
  State.holdCause { s with unit := { s.unit with strobeFault := true }, setNow := (0xC, 9) :: s.setNow } 0x4005 late false

/-! ## The panel in a tick -/

/-- What the snapshot shows of pins, supply, temperature and switches (R71). DEDUCED (log 17). -/
def State.panelTick (s : State) (x : Snapshot) : State :=
  let s := s.supplyTick x.moduleV
  let s := s.housingTick x.housingT
  let s := s.pinsTick x.pins
  let s := s.wardTick x.ward
  s.coverTick x.cover

end Sys2Proof.Machine
end

