-- ==== Sys2Proof/Machine/Start.lean ====
section
/-! DEFINITION. The start of the module (ch. 3): BOOT, the choice of firmware and image, and the log mount. -/

namespace Sys2Proof.Machine

/-! ## BOOT (R37, R49, R81, R86, R404, R442, R467) -/

/-- Strapped pins among ADR0 to ADR8 and ADR_P. -/
def strapped (r : BitVec 10) : Nat := ((List.range 10).filter fun k => r.getLsbD k).length

/-- The 16 readings agree, and their parity is odd (R36, R37). -/
def PowerUp.addressOk (p : PowerUp) : Bool :=
  match p.readings with
  | [] => false
  | r :: rs => rs.length == 15 && rs.all (· == r) && strapped r % 2 == 1

/-- The panel at the start. -/
def PowerUp.panel (p : PowerUp) : Panel :=
  { Panel.reset with
    pinsNow := p.readings.getLast?.getD 0, pinsUsed := p.readings.head?.getD 0, addrValid := p.addressOk, wardRaw := p.ward, ward := p.ward
    coverOpen := p.cover, coverOpened := p.cover, moduleV := p.moduleV, supplyHigh := decide (1540 < p.moduleV.toNat)
    holdupLow := decide (p.holdupMs < 20), holdupMs := min 255 p.holdupMs, housingT := p.housingT
    rst := { ResetIn.reset with pressed := p.rst } }

/-- FW_VERSION of a slot. -/
def fwVersionOf (bs : List Byte) : Nat := leAt bs 8 4

/-- The slot that the boot ROM runs: the one with the higher FW_VERSION first, FW0 of equals (R467). -/
def Firmware.choose (f : Firmware) (rollback : Nat) : Option Bool :=
  let good := fun k : Bool => fwCheck (if k then f.fw[1] else f.fw[0]) rollback == FwResult.wouldBoot
  let first := decide (fwVersionOf f.fw[0] < fwVersionOf f.fw[1])
  if good first then some first else if good (!first) then some (!first) else none

/-- The firmware in use. -/
def Firmware.boot (f : Firmware) (k : Bool) : Firmware :=
  let bs := if k then f.fw[1] else f.fw[0]
  { f with booted := k, nonRelease := (BitVec.ofNat 32 (leAt bs 20 4)).getLsbD 0, version := fwVersionOf bs, security := leAt bs 12 4 }

/-- The state at the start of BOOT: the secure element, the flash memories and the cause of the start are kept. DEDUCED (log 13). DEDUCED (log 61). -/
def State.rebuild (s : State) (p : PowerUp) : State :=
  let se := { s.se with powerCycle := (s.se.powerCycle + 1) % 2 ^ 32 }
  { State.reset with
    unit := { UnitSt.reset with variantT0 := p.variantT0, cause := if s.unit.running then .powerOn else s.unit.cause }
    panel := p.panel
    recorder := { Rec.reset with nand := s.recorder.nand, opBase := se.opTime }
    mem := { Mem.reset with remap := se.remap }
    se := se
    fw := { Firmware.reset with slots := s.fw.slots, fw := s.fw.fw }
    free := s.free, pending := s.pending }

/-- What a start raises at once. -/
def State.startWarnings (s : State) : State :=
  let s := s.onMem MemRun.startCheck
  let s := if s.panel.holdupLow then s.raise 0x4009 0xFF 0 else s
  let s := if s.panel.supplyHigh then s.raise 0x400A 0xFF 0 else s
  if s.ward 12 then s.raise 0x400F 0xFF 0 else s

/-- BOOT ends: the bypass relay opens (R448), and a lifting of the cover is reported (R43). DEDUCED (log 13). -/
def State.endBoot (s : State) : State := State.coverAtBootEnd { s with net := { s.net with bypass := false } }

/-- BOOT ends in FAULT_HELD (R79). -/
def State.bootHeld (s : State) (code : Code) : State := ((s.raise code 0xFF 0).faultHeld code false).endBoot

/-- The code of the firmware in use (R466). -/
def Firmware.code (f : Firmware) : List Byte :=
  let bs := if f.booted then f.fw[1] else f.fw[0]
  slice bs 256 (leAt bs 16 4)

/-- CODE_DIGEST of the firmware in use, which step 1 has verified (R466). -/
def Firmware.digest (f : Firmware) : List Byte := slice (if f.booted then f.fw[1] else f.fw[0]) 24 32

/-- The firmware is copied into pages 0 to 255, which from then on refuse other writes; a copy that differs is FW_INVALID (R432). -/
def State.copyFirmware (s : State) (wrong : List (Nat × Byte)) : State :=
  let copy := copyOf s.fw.code wrong
  let s := { s with mem := { s.mem with code := some copy } }
  if sha256 copy != s.fw.digest then s.bootHeld 0x4002 else s

/-- The supply becomes valid, or a restart is taken: BOOT up to its wait (R79, R86). DEDUCED (log 13). -/
def State.powerOn (s : State) (p : PowerUp) : State :=
  let s := (s.rebuild p).startWarnings
  match s.fw.choose s.se.rollback with
  | none => s.bootHeld 0x4002
  | some k =>
    let s := { s with fw := s.fw.boot k }
    if s.panel.addrValid then s.copyFirmware p.copyWrong else s.bootHeld 0x4001

/-! ## CONFIG: steps 3 to 7 (R86 to R91, R103, R110, R113, R124) -/

/-- The slot tried first: the higher serial, A of equals (R89). -/
def Firmware.firstSlot (f : Firmware) : Bool := decide (slotSerial f.slots[0] < slotSerial f.slots[1])

/-- The result of a slot at this start. -/
def CfgSt.setResult (c : CfgSt) (slotB : Bool) (r : SlotResult) : CfgSt := if slotB then { c with resultB := r } else { c with resultA := r }

/-- The section bittings 1 to 8. -/
def bittingsOf (c : Cfg) : Vector (BitVec 64) 8 := vmapIdx (fun (k : Nat) (_ : BitVec 64) => sectionBitting c (k + 1)) (Vector.replicate 8 0)

/-- A new safety section is accepted (R103): security record, event, secure element. DEDUCED (log 42). -/
def State.acceptSafety (s : State) (o : SlotOutcome) : State :=
  if !o.needsAccept then s
  else
    let s := s.security 0x4102 o.serial (leBytes 8 (s.se.safety.getD 0).toNat ++ leBytes 8 o.safety.toNat)
    let s := s.raise 0x4102 0xFF 0
    { s with se := { s.se with safety := some o.safety }, cfg := { s.cfg with safetyAccepted := true } }

/-- A slot is accepted and in use. -/
def State.takeSlot (s : State) (slotB fallback : Bool) (o : SlotOutcome) : State :=
  let c := o.clamping.cfg
  let s := { s with
    unit := { s.unit with slotB := slotB }
    cfg := { (s.cfg.setResult slotB o.result) with
      eff := c, loaded := true, fallback := fallback, report := o.clamping.report, serial := o.serial, bits := bittingsOf c, whole := wholeBitting c
      stagedSerial := slotSerial (if slotB then s.fw.slots[0] else s.fw.slots[1]) }
    il := { s.il with copy := c.boltCopy }
    mem := s.mem.respread s.up (c.n F.scrubPeriodS 0) }
  let s := if fallback then s.raise 0x4101 0xFF 0 else s
  let s := s.acceptSafety o
  let s := if s.cfg.report.isFull then s.raise 0x4103 0xFF 0 else s
  s.singleAddress

/-- Steps 3 to 7 on both slots in turn. Where neither is accepted, CONFIG ends in UNCONFIGURED. -/
def State.chooseSlot (s : State) : State :=
  let b := s.fw.firstSlot
  let o := s.trySlot b
  if o.result == SlotResult.accepted then s.takeSlot b false o
  else
    let s := { s with cfg := s.cfg.setResult b o.result }
    let o := s.trySlot (!b)
    if o.result == SlotResult.accepted then s.takeSlot (!b) true o else { s with cfg := s.cfg.setResult (!b) o.result }

/-- The wait in BOOT is over: CONFIG. -/
def State.bootWaitOver (s : State) : State :=
  if s.unit.running && s.boots then ((s.enter .config s.tick).endBoot).chooseSlot else s

/-- CONFIG ends with the tick in progress (R79, R91): `t` is the first tick of the next state. DEDUCED (log 13). -/
def State.configEnd (s : State) (t : Tick) : State :=
  if s.unit.st != UnitState.config then s
  else if s.cfg.loaded then s.enter .discover t
  else
    let s := s.raise 0x4003 0xFF (put s.cfg.resultA.code 4 16 ||| put s.cfg.resultB.code 4 20)
    let s := (s.enter .unconfigured t).holdAll
    { s with unit := { s.unit with holdCode := 0x4003, maintSess := none } }

/-! ## The log mount (R418) -/

/-- The mount completes: it runs in CONFIG and is over before any later command needs the log. -/
def State.mountLog (s : State) (reads : Option (List (Nat × List Byte))) : State :=
  if s.unit.running && !s.boots then s.onRec fun r i => r.mount i reads s.se.opTime s.fw.version s.unit.cause else s

end Sys2Proof.Machine
end

