-- ==== Sys2Proof/Machine/Boundary.lean ====
section
/-! DEFINITION. The tick boundary (R61 to R63): what hosts and learning have written in the tick before takes effect in
step 1 of R160. -/

namespace Sys2Proof.Machine

/-! ## A field's value comes into force -/

/-- The unit or axis state that follows a runtime-writable field. -/
def State.followField (s : State) (row elem : Nat) (v : Int) : State :=
  match finOf 64 elem with
  | none => s
  | some a =>
    if row = F.bankAtStart then
      s.loopOf a fun l =>
        let b := decide (v = 1)
        { l with bank := b, learn := if l.learn.clean && b != l.bank then l.learn.spoil else l.learn }
    else if F.gearRatio ≤ row ∧ row ≤ F.gearM3 then s.motOf a fun m => { m with gearReset := true }
    else if row = F.scrubPeriodS then { s with mem := s.mem.respread s.up v.toNat }
    else s

/-- A value is in force from now on (R63): the bittings that it changes are due within 40 ticks (R123), and a sweep unit of an
earlier tick is no longer compared with it (R381). A bank swap takes the whole bank (R177), a new gear function keeps x_ref
(R218), and a new scrub period spreads the rest of the pass (R445). -/
def State.setField (s : State) (row elem item : Nat) (v : Int) : State :=
  let d := fieldDef row
  let s := { s with
    cfg := { s.cfg with eff := s.cfg.eff.set row (elem * d.items + item) v, bitsDue := s.cfg.bitsDue.orElse fun _ => some s.tick }
    hinge := s.hinge.touch 1 d.sec s.tick }
  s.followField row elem v

/-- A runtime-writable value that a sweep carries is loaded (R381): it is in force as a write of it would be, a table entry in its table too.
DESIGN CHOICE (log 50). -/
def State.loadField (s : State) (x : Nat × Nat × Int) : State :=
  let d := fieldDef x.1
  let s := { s with
    cfg := { s.cfg with eff := s.cfg.eff.set x.1 x.2.1 x.2.2, bitsDue := s.cfg.bitsDue.orElse fun _ => some s.tick } }
  if x.1 = F.frictionTable ∨ x.1 = F.coggingTable then
    match finOf 64 (x.2.1 / d.items) with
    | some a => s.loopOf a fun l => l.setEntry (x.2.1 % d.items + if x.1 = F.frictionTable then 0 else 256) x.2.2 false
    | none => s
  else s.followField x.1 (x.2.1 / d.items) x.2.2

/-! ## APPLY (R117) -/

/-- A place and its shadow's word, inserted in ascending field-ID order behind its equals. -/
def insertPlace (x : Part × Word) : List (Part × Word) → List (Part × Word)
  | [] => [x]
  | y :: ys => if x.1.f < y.1.f then x :: y :: ys else y :: insertPlace x ys

/-- The pending places of a block. -/
def State.pendingPlaces (s : State) (b : Block) : List (Part × Word) :=
  ((s.cfg.shadows.filter fun p => blockOf p.1 == some b).flatMap fun p => ((placesAt p.1).filter Part.rw).map fun q => (q, p.2)).foldl
    (fun l x => insertPlace x l) []

/-- One pending place is checked against what stands after the ones before it, and comes into force. A partner of a higher ID
that is pending itself is left to its own turn. -/
def State.applyPlace (ps : List (Part × Word)) (s : State) (x : Part × Word) : State :=
  let p := x.1
  let r := clampPlace s.cfg.eff (fun f => ps.any fun y => y.1.f == f && y.1.elem == p.elem) p (p.value x.2)
  let s := match r.2 with
    | some why => s.noteClamp p.f p.elem r.1 why
    | none => s
  s.setField p.f p.elem p.item r.1

/-- All pending shadows of a block come into force, and none is pending any more. DEDUCED (log 49). -/
def State.applyShadows (s : State) (b : Block) : State :=
  let ps := s.pendingPlaces b
  (ps.foldl (State.applyPlace ps) s).dropShadows b

/-! ## Table entries (R61, R62, R182) -/

/-- The number of an entry in both tables together. -/
def entryIndex (cogging : Bool) (k : Nat) : Nat := if cogging then k + 256 else k

/-- A host write to the same entry takes effect in the same tick. DESIGN CHOICE (log 18). -/
def CfgSt.hostEntry (c : CfgSt) (now : Tick) (a k : Nat) : Bool :=
  c.entries.any fun e => e.1 != now && e.2.1 == a && entryIndex e.2.2.1 e.2.2.2.1 == k

/-- The learning write of an axis: the host value wins, and the pass skips the entry. DESIGN CHOICE (log 18). -/
def LoopSt.learnBoundary (l : LoopSt) (now : Tick) (host : Nat → Bool) : LoopSt :=
  match l.learn.due with
  | none => l
  | some (t, k, v) =>
    if t = now then l
    else
      let l := { l with learn := { l.learn with due := none } }
      if host k then { l with learn := { l.learn with pass := l.learn.pass.map fun q => { q with skip := k :: q.skip } } }
      else l.setEntry k v true

/-- A host's table entry comes into force. -/
def State.takeEntry (s : State) (e : Tick × Nat × Bool × Nat × Int) : State :=
  match finOf 64 e.2.1 with
  | none => s
  | some a => s.loopOf a fun l => l.setEntry (entryIndex e.2.2.1 e.2.2.2.1) e.2.2.2.2 false

/-- The tables at a boundary. -/
def State.tableBoundary (s : State) : State :=
  let c := s.cfg
  let s := { s with axes := vmapIdx (fun (a : Nat) (x : Axis) => { x with loop := x.loop.learnBoundary s.tick (c.hostEntry s.tick a) }) s.axes }
  let s := { s with cfg := { s.cfg with entries := c.entries.filter fun e => e.1 == s.tick } }
  (c.entries.filter fun e => e.1 != s.tick).foldl State.takeEntry s

/-! ## The boundary -/

/-- The tick in which a write completed. -/
def DueWrite.tick : DueWrite → Tick
  | .field t _ _ _ _ => t
  | .apply t _ => t

/-- A write takes effect. -/
def State.takeWrite (s : State) (w : DueWrite) : State :=
  match w with
  | .field _ row elem item v => s.setField row elem item v
  | .apply _ base =>
    match blockOf base with
    | some b => s.applyShadows b
    | none => s

/-- LEARN_RESET takes effect (R256): event and security record. -/
def State.learnBoundary (s : State) (d : DoorId) : State :=
  match (s.doors[d]).clo.reset with
  | none => s
  | some (t, cert) =>
    if t = s.tick then s
    else
      let s := s.security 0x3013 d.val cert
      let s := s.runDoor d (s.doorIn d) fun r i => r.learnReset i
      (leavesOf s.cfg.eff d.val).foldl (fun s a => { s with hinge := s.hinge.touch 2 a.val s.tick }) s

/-- Writes, APPLYs, bank swaps and resets of the tick before take effect (R63). DEDUCED (log 11). -/
def State.boundary (s : State) : State :=
  let due := s.cfg.writes.filter fun w => w.tick != s.tick
  let s := s.tableBoundary
  let s := { s with cfg := { s.cfg with writes := s.cfg.writes.filter fun w => w.tick == s.tick } }
  let s := due.foldl State.takeWrite s
  let s := (fins 16).foldl State.learnBoundary s
  { s with trace := s.trace.boundary s.cfg.eff s.tick }

/-- The bittings as the values in force give them (R121, R123); a halted channel CRYPTO puts them off (R437). -/
def State.recomputeBits (s : State) : State :=
  match s.cfg.bitsDue with
  | none => s
  | some _ =>
    if s.mem.dma.getLsbD 3 then s
    else
    let c := s.cfg.eff
    { s with cfg := { s.cfg with bits := vmapIdx (fun (k : Nat) (_ : BitVec 64) => sectionBitting c (k + 1)) s.cfg.bits,
                                 whole := wholeBitting c, bitsDue := none } }

end Sys2Proof.Machine
end

