-- ==== Sys2Proof/Machine/Sync.lean ====
section
/-! DEFINITION. The pair at work: mirrored records, copies and the sweep as the STANDBY takes them, the sweep as the ACTIVE
sends it, and what a module does that becomes ACTIVE (R379 to R385, R389, R390). -/

namespace Sys2Proof.Machine

/-! ## Copies (R375, R380) -/

/-- The unit's part of a copy as the module's own state gives it. -/
def State.copyUnit (s : State) : CopyUnit := ⟨s.unit.st, (packBools (s.axes.toList.map fun x => x.loop.bank)).setWidth 64⟩

/-- The copy of a unit in the copy cycle (R375, R380). -/
def State.copyOf (s : State) (x : Nat × Nat) : CopyState :=
  match x.1, finOf 64 x.2, finOf 16 x.2 with
  | 1, some a, _ => .axis a s.axes[a]
  | 2, _, some d => .door d s.doors[d]
  | _, _, _ => .unit s.copyUnit

/-- A unit copy that differs is loaded (R380): the bank selections and the unit state. DEDUCED (log 51). -/
def State.loadUnit (s : State) (x : CopyUnit) : State :=
  let s := { s with axes := vmapIdx (fun (a : Nat) (y : Axis) => { y with loop := { y.loop with bank := x.banks.getLsbD a } }) s.axes }
  if s.unit.st == UnitState.run && x.st == UnitState.maintenance then s.enterMaint none
  else if s.unit.st == UnitState.maintenance && x.st == UnitState.run then s.leaveMaintenance
  else if x.st == s.unit.st || !operating x.st then s
  else if x.st == UnitState.run then s.enterRun s.tick
  else s.enter x.st s.tick

/-- A copy has been compared (R383). -/
def State.copied (s : State) (unit inst : Nat) (differs : Bool) : State := s.onHinge fun r i => r.copied i unit inst differs

/-- A copy is compared with the module's own state and loaded where they differ (R380); a doorway's cycle follows the copy, in the tick
in which the copied state was entered (R405). DEDUCED (log 51). -/
def State.loadCopy (s : State) : CopyState → State
  | .axis a x =>
    let own : Axis := s.axes[a]
    let new := own.copyFrom x
    State.copied { s with axes := s.axes.set a new } 1 a.val (new != own)
  | .door d x =>
    let own : Door := s.doors[d]
    let new := own.copyFrom x
    let c := (s.recorder.cycles[d]).follow { s.doorIn d with now := new.tick } own new [] (s.recorder.opTime s.up)
    State.copied { s with doors := s.doors.set d new, recorder := { s.recorder with cycles := s.recorder.cycles.set d c } } 2 d.val (new != own)
  | .unit x => if x == s.copyUnit then s.copied 3 0 false else (s.loadUnit x).copied 3 0 true

/-- A copy frame that R131 does not discard. -/
def copyWhole (payload : List Byte) (fin : FrameEnd) : Bool := frameGood 120 payload fin.crc (fin.lineOk && !fin.parity)

/-- What a received copy frame carries, none where it fails its checks or is no copy of the unit whose `state` it brings
(R131, R371, R375). The layout of STATE being the firmware's, `state` is what the receiver reads from it. DESIGN CHOICE (log 79). -/
def receivedCopy (payload : List Byte) (fin : FrameEnd) (state : CopyState) : Option CopyOut :=
  if copyWhole payload fin ∧ leAt payload 0 1 = 2 ∧ (leAt payload 1 1, leAt payload 2 1) = state.place then
    some ⟨BitVec.ofNat 32 (leAt payload 4 4), state⟩
  else none

/-- A copy frame that a STANDBY takes in step 1 of its tick (R380): good, and of the tick before. DEDUCED (log 6). -/
def State.takeCopy (s : State) (payload : List Byte) (fin : FrameEnd) (x : CopyState) : State :=
  if s.unit.running && s.hingeIn.pair && s.standby && operating s.unit.st then
    match receivedCopy payload fin x with
    | some c => if after c.tick 1 = s.tick then s.loadCopy c.state else s
    | none => if copyWhole payload fin then s else s.onHinge fun r _ => r.upd fun h => { h with hbCrc := satN (h.hbCrc + 1) 32 }
  else s

/-! ## The sweep (R381, R382) -/

/-- Data of a sweep unit with the module's values. -/
def State.sweepData (s : State) (u : Nat × Nat) : List Byte :=
  if u.1 = 0 then leBytes 4 s.fw.version ++ leBytes 8 s.cfg.safety.toNat ++ leBytes 2 s.addr ++ [0, 0]
  else if u.1 = 1 then sectionEncoding s.cfg.eff u.2
  else if u.1 = 2 then
    match finOf 64 u.2 with
    | none => []
    | some a => leBytesS 4 (s.axes[a]).obst.xLearnt ++ (s.axes[a]).obst.centres.flatMap (leBytesS 2)
  else []

/-- The next unit of the sweep is queued. -/
def State.sweepNext (s : State) : State :=
  let us := sweepOrder s.cfg.eff
  let u := us.getD (s.hinge.sweepPos % us.length) (3, 0)
  let b : SweepUnit := ⟨u.1, u.2, s.tick, s.sweepData u⟩
  { s with hinge := { s.hinge with sweepOut := s.hinge.sweepOut ++ b.bytes, sweepPos := s.hinge.sweepPos % us.length + 1 } }

/-- Units are queued until a record of the largest size can be filled, `n` at most. -/
def State.sweepFill (s : State) : Nat → State
  | 0 => s
  | n + 1 => if s.hinge.sweepOut.length < 60 then s.sweepNext.sweepFill n else s

/-- The sweep goes on while an ACTIVE has a STANDBY; it begins anew with the next one. DESIGN CHOICE (log 50). -/
def State.sweepSend (s : State) : State :=
  if s.hinge.role == Role.active && (s.hinge.present.map fun b => b.role == 3).getD false then s.sweepFill 8
  else { s with hinge := { s.hinge with sweepOut := [], sweepPos := 0, flight := none } }

/-- The length of a unit's data as the module itself would send it. DESIGN CHOICE (log 50). -/
def State.sweepLen (s : State) (kind inst : Nat) : Nat :=
  if kind = 0 then 16 else if kind = 1 then (sectionEncoding s.cfg.eff inst).length else if kind = 2 then 68 else 0

/-- A unit's outcome, with the causes for which the module is unfit from now on. -/
def State.swept (s : State) (u : SweepUnit) (loaded : Bool) (causes : List Nat) : State :=
  s.onHinge fun r _ => causes.foldl HingeRun.becomeUnfit (r.swept u loaded)

/-- A LEARNT unit: values that differ are loaded. -/
def State.sweepLearnt (s : State) (u : SweepUnit) (a : AxisId) : State :=
  let x := signedOf 4 (leAt u.data 0 4)
  let cs := (List.range 32).map fun k => signedOf 2 (leAt u.data (4 + 2 * k) 2)
  let o := (s.axes[a]).obst
  if o.xLearnt = x ∧ o.centres = cs then s.swept u false []
  else
    let axes := vmod s.axes a fun (y : Axis) => { y with obst := { y.obst with xLearnt := x, centres := cs } }
    State.swept { s with axes := axes } u true []

/-- A unit of the sweep is compared with the module's own values. -/
def State.sweepUnit (s : State) (u : SweepUnit) : State :=
  if u.kind = 0 then
    let fw := leAt u.data 0 4 != s.fw.version
    let safe := leAt u.data 4 8 != s.cfg.safety.toNat
    s.swept u false ((if fw then [1] else []) ++ (if safe then [2] else []))
  else if s.hinge.skips u then s.swept u false []
  else if u.kind = 1 then
    let r := compareSection s.cfg.eff u.inst u.data
    (r.1.foldl State.loadField s).swept u (!r.1.isEmpty) (if r.2 then [3] else [])
  else if u.kind = 2 then
    match finOf 64 u.inst with
    | none => s
    | some a => s.sweepLearnt u a
  else s.swept u false []

/-- The complete units among the bytes received, `n` at most. -/
def State.sweepUnits (s : State) : Nat → State
  | 0 => s
  | n + 1 =>
    match takeSweep s.sweepLen s.hinge.sweepIn with
    | none => s
    | some (u, rest) => (State.sweepUnit { s with hinge := { s.hinge with sweepIn := rest } } u).sweepUnits n

/-- The sweep as a STANDBY receives it; no other role keeps its bytes. -/
def State.sweepTake (s : State) : State :=
  if s.standby then s.sweepUnits s.hinge.sweepIn.length else { s with hinge := { s.hinge with sweepIn := [] } }

/-! ## The heartbeat (R372, R384) -/

/-- A WRITE or COMMAND record in step 1 of the STANDBY (R384). -/
def State.takeRecord (s : State) : MirrorRec → State
  | .write a v => s.applyWrite a v
  | .command c _ => s.applyCommand c
  | .stream _ _ _ => s
  | .request _ _ => s

/-- The heartbeat of the tick before is used: records, role, sweep. DEDUCED (log 58). -/
def State.takeHeartbeat (s : State) : State :=
  let r := (⟨s.hinge, [], none⟩ : HingeRun).heartbeat s.hingeIn
  let s := State.deliver { s with hinge := r.1.h } r.1.ev
  (r.2.foldl State.takeRecord s).sweepTake

/-! ## Takeover (R385, R389, R390) -/

/-- An axis that starts as in its first driven tick (R390). -/
def Axis.restart (x : Axis) : Axis :=
  let y := x.stop
  { y with obst := { y.obst with closing := false, eval := .idle } }

/-- A doorway after an unsynced takeover (R390); one in FAULT with cause DOOR_CONFIG stays there (R258). DEDUCED (log 40). -/
def DoorRun.afterTakeover (r : DoorRun) (i : DoorIn) : DoorRun :=
  let as := axesOf i.cfg i.d
  if r.door.stuck then r
  else if i.active.getLsbD 2 then r.enterIsolated i
  else if r.door.st = .fault then r
  else if as.any fun a => !i.portReady a then r.enterFault i 0x3020
  else if as.any fun a => !(r.axes[a]).mot.home.homed then r.enterUnhomed i false
  else (if r.door.clo.locked then r.toClosedLocked i else r.goto i .obstructedOpen).want i [0, 1, 2, 3] true

/-- Levels 1 to 3 after an unsynced takeover. -/
def State.startAfresh (s : State) : State :=
  let s := { s with axes := vmap Axis.restart s.axes }
  (fins 16).foldl (fun s d =>
    if s.cfg.eff.n F.doorUsed d.val = 1 then s.runDoor d (s.doorInWith d (s.doorInputs d.val) 0 0) fun r i => r.afterTakeover i else s) s

/-- A STANDBY has become ACTIVE or ALONE: it holds no claim, no shadow is pending, and DOOR_STATE goes on 8 above the highest
SEQ that it has read (R310, R385). -/
def State.becomeActive (s : State) : State :=
  let s := s.endClaims allBlocks
  let seq := match s.il.safe.partnerSeq with
    | some n => n + 8
    | none => s.il.safe.txNext
  let cycles := vmap (fun c : Cycle => c.mark 6 c.active) s.recorder.cycles
  { s with cfg := { s.cfg with shadows := [] }, il := { s.il with safe := { s.il.safe with txNext := seq } },
           recorder := { s.recorder with cycles := cycles } }

/-- The takeover of R389, where it applies. -/
def State.takeover (s : State) : State :=
  match (⟨s.hinge, [], none⟩ : HingeRun).takeoverEpoch s.hingeIn with
  | none => s
  | some e =>
    let synced := s.hinge.synced
    let s := (s.onHinge fun r i => r.takeover i e).becomeActive
    if synced then s else s.startAfresh

end Sys2Proof.Machine
end

