-- ==== Sys2Proof/Machine/Waiting.lean ====
section
/-! DEFINITION. Keyway requests that wait for a later tick snapshot, and the form in which they wait (R457). -/

namespace Sys2Proof.Machine

/-- What a request is, for what bars it. -/
def Form.ask : Form → Ask
  | .read _ | .readBlock _ _ => .read
  | .write _ _ | .writeBlock _ _ _ => .write
  | .claim _ _ | .release _ => .claim
  | .logRead _ _ _ => .logRead
  | .stageBegin fw _ _ | .stageData fw _ _ | .stageEnd fw | .stageCancel fw => if fw then .firmware else .image
  | .restart => .restart
  | .enrol _ _ _ => .enrol
  | .unenrol _ => .unenrol
  | .apply _ | .subscribe _ _ | .ack _ | .logErase _ _ | .maint _ | .anchor _ _ => .other

/-- COMMAND RESTART with its checks done: the module stops until its next start (R459). DEDUCED (log 13). -/
def State.doRestart (s : State) (i : SessId) (x : Session) : State × Reply :=
  match s.needs i (x.role == KwRole.maintainer) true true .unit with
  | some c => (s, .refuse c)
  | none => (s.stop .restart, .data s.tickBytes)

/-- SUBSCRIBE ACK (R463, R464). -/
def State.doAck (s : State) (i : SessId) (seq : Word) : State × Reply :=
  let s := s.ackEvents i seq
  (s, s.subReply i)

/-- What a request does, once it is taken. -/
def State.doForm (s : State) (r : Req) (x : Session) : Form → State × Reply
  | .read a => s.doRead r.sess x a
  | .readBlock a n => s.doReadBlock r.sess x a n
  | .write a w => s.doWrites r x .write [(a, w)]
  | .writeBlock a n ws => s.doWriteBlock r x a n ws
  | .apply b => s.doApply r x b
  | .claim b force => s.doClaim r.sess x b force
  | .release b => s.doRelease r.sess b
  | .subscribe add es => s.doSubscribe r.sess x add es
  | .ack seq => s.doAck r.sess seq
  | .logRead first count pages => s.doLogRead x first count pages
  | .logErase seq chain => s.doLogErase r.sess x seq chain
  | .stageBegin fw slot len => s.stageBegin r.sess x fw slot len
  | .stageData fw off bs => s.stageData r.sess x fw off bs
  | .stageEnd fw => s.stageEnd r x fw
  | .stageCancel fw => s.stageCancel r.sess x fw
  | .restart => s.doRestart r.sess x
  | .maint c => s.doMaint r x c
  | .enrol i cert sig => s.doEnrol r.sess x i cert sig
  | .unenrol i => s.doUnenrol r.sess x i
  | .anchor utc unc => s.doAnchor r.sess x utc unc

/-- A request that has waited is taken, or waits on. -/
def State.serveOne (s : State) (q : Later) : State :=
  match s.kw.sess[q.req.sess] with
  | none => s
  | some x =>
    if !s.unit.running then s
    else if s.mustWait q.req.sess then { s with kw := { s.kw with later := s.kw.later ++ [q] } }
    else s.take q.req x q.form.ask fun x s => s.doForm q.req x q.form

/-- A new tick snapshot: it takes up to 16 requests of each session that have waited, by ascending session index, each session's in the order
of arrival (R457). -/
def State.serveLater (s : State) : State :=
  let waiting := (fins 8).flatMap fun i => s.kw.later.filter fun q => q.req.sess == i
  waiting.foldl State.serveOne { s with kw := { s.kw with later := [] } }

/-- Requests that wait for a record of the heartbeat, by ascending session index, each session's in the order of arrival (R384, R457). -/
def bySession (ws : List MirrorWait) : List MirrorWait := (fins 8).flatMap fun i => ws.filter fun w => w.sess == i

end Sys2Proof.Machine
end

