-- ==== Sys2Proof/Machine/Tick.lean ====
section
/-! DEFINITION. One tick (R66, R71 to R74, R79, R160): what the compute phase does with the snapshot, in the order of the
levels, and how the tick ends. -/

namespace Sys2Proof.Machine

/-! ## Discovery and homing of the unit (R79, R149) -/

/-- The engine of an axis as the image sets it: tables, bank, learnt position and centres (R120, R177, R242, R248). -/
def Axis.load (c : Cfg) (a : Nat) (x : Axis) : Axis :=
  { x with
    loop := { x.loop with bank := c.n F.bankAtStart a == 1
                          fric := ((List.range 256).map fun k => c.v F.frictionTable (256 * a + k)).toArray
                          cog := ((List.range 256).map fun k => c.v F.coggingTable (256 * a + k)).toArray }
    obst := { x.obst with xLearnt := c.v F.closedNom a, centres := (List.range 32).map fun k => c.v F.sigInit (32 * a + k) } }

/-- Used doorways that cannot work with their axes go to FAULT with cause DOOR_CONFIG, whatever the role (R258). -/
def State.checkDoors (s : State) : State :=
  (fins 16).foldl (fun s d =>
    if s.cfg.eff.n F.doorUsed d.val = 1 ∧ doorConfigBad s.cfg.eff d.val then s.runDoor d (s.doorIn d) fun r i => r.enterFault i 0x3021
    else s) s

/-- The first tick of DISCOVER: discovery of every STAGE port, CAN modes, channel roles, doorway checks, axes (R149, R258,
R322, R350). -/
def State.discoverStart (s : State) : State :=
  let c := s.cfg.eff
  let s := { s with
    ports := vmapIdx (fun (k : Nat) (p : Port) => p.enterDiscover c k s.tick) s.ports
    can := vmapIdx (fun (k : Nat) (b : Can) => b.leaveOff (modeOf (c.n F.canMode k))) s.can
    axes := vmapIdx (fun (a : Nat) (x : Axis) => x.load c a) s.axes
    hinge := { s.hinge with discTick := some s.tick, quiet := 0 } }
  (s.onIo fun r => r.roleCheck c).checkDoors

/-- DISCOVER ends after 2 s: ports without an answer are ABSENT (R149). DEDUCED (log 48). -/
def State.discoverTimeout (s : State) : State :=
  if s.unit.st != UnitState.discover then s
  else ((fins 32).foldl (fun s k => s.onPort k fun r i => r.absent i) s).enter .homing s.tick

/-- DISCOVER in a tick. DEDUCED (log 48). -/
def State.discoverTick (s : State) : State :=
  if s.unit.st != UnitState.discover then s
  else
    match s.hinge.discTick with
    | none => s.discoverStart
    | some t =>
      if (fins 32).all fun k => (s.ports[k]).answered s.cfg.eff k.val then s.enter .homing s.tick
      else if 40000 ≤ since s.tick t then s.discoverTimeout
      else s

/-- The module computes for the stages it holds or may come to hold alone: ACTIVE or ALONE. -/
def State.leads (s : State) : Bool := s.hinge.role == Role.active || s.hinge.role == Role.alone

/-- A doorway has homed or failed homing (R79). A STANDBY, which starts no homing, sees a failure by the result it copies. DEDUCED (log 40). -/
def State.doorHomed (s : State) (d : DoorId) : Bool :=
  let w : Door := s.doors[d]
  s.cfg.eff.n F.doorUsed d.val != 1 || w.st != DoorState.unhomed ||
    (w.homing == HomeStage.none &&
      (!s.standby || (axesOf s.cfg.eff d.val).any fun a => decide (1 < (s.axes[a]).mot.home.result)))

/-- HOMING ends: every doorway has homed or failed, and the role is settled (R79). It lasts one tick at least. DEDUCED (log 40). -/
def State.homingTick (s : State) : State :=
  if s.unit.st == UnitState.homing && s.unit.entryTick != s.tick && s.hinge.role != Role.unsettled && (fins 16).all s.doorHomed then
    s.enterRun s.tick
  else s

/-! ## The start of a tick: step 1 of R160 -/

/-- What is used in step 1: the partner's heartbeat, then deferred writes. DEDUCED (log 11). -/
def State.stepOne (s : State) : State :=
  let s := (s.takeHeartbeat).pairAddress
  s.boundary

/-! ## The tick snapshot (R71) -/

/-- Channel A's values of the field channels, or channel B's (R286). -/
def State.channelValues (s : State) (chanB : Bool) : BitVec 64 :=
  (packBools (s.io.ch.toList.map fun x => if chanB then x.valueB else x.value)).setWidth 64

/-- The compute phase of the tick in progress is not complete by 28.00 µs (R69). DEDUCED (log 15). -/
def State.overrun (s : State) : State := s.holdCause 0x1001 false false

/-- One SRAM word read in the tick (R435 to R437): the cores trap on what they cannot read, and without channel ENGINE the
compute phase does not complete; without CRYPTO a bitting is computed again; a session whose outgoing TLS record cannot be read is closed. -/
def State.readSram (s : State) (x : Nat × Reader) : State :=
  match x.2 with
  | .cores =>
    let r := (⟨s.mem, []⟩ : MemRun).read x.1 .cores
    let s := State.deliver { s with mem := r.1.m } r.1.ev
    if r.2 then s else s.holdCause 0x4702 false true
  | .dma c =>
    let r := (⟨s.mem, []⟩ : MemRun).dmaRead x.1 c
    let s := State.deliver { s with mem := r.1.m } r.1.ev
    if r.2 then s
    else if c = 0 then s.overrun
    else if c = 3 then { s with cfg := { s.cfg with bitsDue := s.cfg.bitsDue.orElse fun _ => some s.tick } }
    else s
  | .record i =>
    let r := (⟨s.mem, []⟩ : MemRun).dmaRead x.1 1
    let s := State.deliver { s with mem := r.1.m } r.1.ev
    if r.2 then s else s.endSession i
  | who => s.onMem fun r => (r.read x.1 who).1

/-- One SRAM word written in the tick (R432, R438): a refused write is a bus error, on which the cores trap (R437). -/
def State.writeSram (s : State) (x : SramWrite) : State :=
  let r := (⟨s.mem, []⟩ : MemRun).write x.word x.whole
  let s := State.deliver { s with mem := r.1.m } r.1.ev
  if !r.2 && x.dma.isNone then s.holdCause 0x4702 false true else s

/-- The parity errors of some places, each in the buffer that it lies in. DEDUCED (log 34). -/
def State.parityErrors (s : State) (places : List Nat) (bad : Nat → Bool) (src : Nat → Nat) : State :=
  places.foldl (fun s k => if bad k then s.parityError (src k) else s) s

/-- The parity errors of a tick: a failing BOLT command withholds BOLT (R296). DEDUCED (log 34). -/
def State.parityTick (s : State) (x : Snapshot) : State :=
  let s := s.parityErrors [0, 2, 5, 6, 7] (fun k => x.parity.getLsbD k) fun k => k
  let s := s.parityErrors (List.range 32) (fun k => x.txBad.getLsbD k) fun _ => 1
  let s := s.parityErrors (List.range 70) (fun k => x.io.bad.getLsbD k) fun _ => 3
  let s := s.parityErrors (List.range 82) (fun k => x.io.cmdBad.getLsbD k) fun _ => 4
  if x.io.cmdBad.getLsbD 80 || x.io.cmdBad.getLsbD 81 then s.onLock fun r => r.bolt fun b => { b with parity := true } else s

/-- Panel, supply, switches, RESET and clocks. -/
def State.sensePanel (s : State) (x : Snapshot) : State :=
  let s := (s.panelTick x).resetTick x.rst
  if s.unit.running then s.clocks x.locks false else s

/-- Ports and field samples (R138, R321 to R344), with the codes that wait for order 1 of R72. -/
def State.senseIo (s : State) (x : Snapshot) : State × List Raised :=
  let c := s.cfg.eff
  let s := if s.cfg.loaded then (fins 32).foldl (fun s k => s.onPort k fun r i => r.snapshot i) s else s
  let r := (⟨s.io, []⟩ : IoRun).snapshot c s.tick x.io (s.up * 500 + 70) s.unit.variantT0 s.panel.housingT.toInt
  State.deliverBut { s with io := r.io } r.ev

/-- Pairs (R298 to R304), likewise. -/
def State.sensePairs (s : State) (x : Snapshot) : State × List Raised :=
  let r := (⟨s.il, []⟩ : LockRun).pairsTick s.cfg.eff x.io.f.chA x.io.f.chB (x.io.bad.getLsbD 68) (!s.io.sup.invalid) (!s.io.sup.invalidB)
  State.deliverBut { s with il := r.il } r.ev

/-- Memory and parity in a tick. -/
def State.senseMem (s : State) (x : Snapshot) : State :=
  let s := x.writes.foldl State.writeSram (x.reads.foldl State.readSram s)
  s.parityTick x

/-- Ports, field samples, pairs, memory and parity; with the unit-level codes of order 1. -/
def State.senseField (s : State) (x : Snapshot) : State × List Raised :=
  let f := s.senseIo x
  let p := f.1.sensePairs x
  (p.1.senseMem x, p.2 ++ f.2)

/-! ## The hinge in a tick (R377 to R392) -/

/-- The highest EPOCH that any stage reports; the former one where none reports. -/
def State.highestSeen (s : State) : BitVec 16 :=
  (highestEpoch ((s.ports.toList.filter (·.whole)).map (·.epoch))).getD s.hinge.highest

/-- Alignment, roles and claims; with the tick number that the module takes over, if any. DEDUCED (log 5). -/
def State.alignTick (s : State) (x : Snapshot) : State × Option Tick :=
  let i := s.hingeIn
  let r : HingeRun := ⟨s.hinge, [], none⟩
  let r := ((r.align i x.tau x.sof).countForeign i).ageEchoes i
  let r := if operating i.st && r.h.role == Role.unsettled then r.settleRows i else r
  let r := if operating i.st then r.claims i else r
  let top := s.highestSeen
  let r := r.upd fun h => { h with witness := i.witnessWord h.epoch, highest := top }
  (State.deliver { s with hinge := r.h } r.ev, r.retick)

/-- The yield rules of a tick (R391, R392). -/
def State.yieldTick (s : State) : State :=
  if operating s.unit.st && (⟨s.hinge, [], none⟩ : HingeRun).yields s.hingeIn s.lostNow then s.yieldLease else s

/-- The hinge in a tick. -/
def State.hingeTick (s : State) (x : Snapshot) : State × Option Tick :=
  if s.unit.st == UnitState.boot || s.unit.st == UnitState.config then (s, none)
  else
    let r := s.alignTick x
    let s := r.1.takeover.yieldTick
    (s, if s.standby then r.2 else none)

/-! ## Levels 1 to 3 (R160) -/

/-- What the axes hand to the doorways: leaves that have completed an evaluation, and axes that have stalled. -/
structure AxisNews where
  /-- Evaluations completed. -/
  done : BitVec 64
  /-- Stalls. -/
  stalled : BitVec 64
  deriving DecidableEq, Repr

/-- One axis runs on what stood before any axis ran. -/
def State.axisTick (was : State) (t : State × AxisNews) (a : AxisId) : State × AxisNews :=
  let r := (⟨t.1.axes[a], []⟩ : AxRun).tick (was.axIn a)
  let s := State.deliver { t.1 with axes := t.1.axes.set a r.1.ax } (r.1.ev.map fun e => ⟨e.1, a.val, e.2⟩)
  let one : BitVec 64 := 1#64 <<< a.val
  (s, ⟨if r.2 then t.2.done ||| one else t.2.done,
       if r.1.ev.any fun e => e.1 == 0x2002 then t.2.stalled ||| one else t.2.stalled⟩)

/-- An axis named once: `seen` marks those named. -/
def nameOnce (t : List AxisId × BitVec 64) (a : AxisId) : List AxisId × BitVec 64 :=
  if t.2.getLsbD a.val then t else (a :: t.1, t.2 ||| (1#64 <<< a.val))

/-- The axes by ascending doorway number, then by ascending axis number (R73, R481); those of no used doorway come last. -/
def axisOrder (c : Cfg) : List AxisId :=
  (((((fins 16).filter fun d => c.n F.doorUsed d.val == 1).flatMap fun d => axesOf c d.val) ++ fins 64).foldl nameOnce
    ([], 0)).1.reverse

/-- All axes, with the confirmations noted in the cycles of their doorways. DEDUCED (log 10). -/
def State.axesTick (s : State) : State × AxisNews :=
  let t := (axisOrder s.cfg.eff).foldl s.axisTick (s, ⟨0, 0⟩)
  ((fins 64).foldl (fun s a => if (s.axes[a]).obst.confirmed then s.noteObstacle a else s) t.1, t.2)

/-- The side-close and side-open inputs: left, right, left, right (R262). -/
def State.sideInputs (s : State) : BitVec 4 :=
  let c := s.cfg.eff
  (packBools [(s.input (c.n F.sideCloseInput 0)).1, (s.input (c.n F.sideCloseInput 1)).1,
              (s.input (c.n F.sideOpenInput 0)).1, (s.input (c.n F.sideOpenInput 1)).1]).setWidth 4

/-- The axes that are armed (R232). -/
def State.armedAxes (s : State) : BitVec 64 := (packBools (s.axes.toList.map fun x => x.obst.armed)).setWidth 64

/-- The inputs a doorway sees in a compute phase, with what the axes hand on. -/
def State.doorNow (s : State) (news : AxisNews) (d : DoorId) : DoorIn := s.doorInWith d (s.doorInputs d.val) news.stalled s.armedAxes

/-- What the compute phase finds for a doorway; `rose` marks side inputs that have become active. -/
def State.doorNews (s : State) (rose : BitVec 4) (d : DoorId) : DoorNews :=
  let c := s.cfg.eff
  let side := c.n F.doorSide d.val % 2
  ⟨(axesOf c d.val).any fun a => ((c.portOf a.val).map fun k => s.lostNow.getLsbD k).getD false, rose.getLsbD side,
   rose.getLsbD (2 + side)⟩

/-- One pass over the used doorways, in ascending order (R73). -/
def State.doorPass (s : State) (news : AxisNews) (f : State → DoorId → DoorRun → DoorIn → DoorRun) : State :=
  (fins 16).foldl (fun s d => if s.cfg.eff.n F.doorUsed d.val = 1 then s.runDoor d (s.doorNow news d) (f s d) else s) s

/-- The events of one order at every doorway (R72, R73). -/
def State.doorOrder (s : State) (news : AxisNews) (rose : BitVec 4) (k : Nat) : State :=
  s.doorPass news fun s d r i => r.order i (s.doorNews rose d) k

/-- The car number (R35). -/
def State.car (s : State) : Nat := s.addr / 8

/-- The bus-off controllers. -/
def State.busOffs (s : State) : BitVec 2 := (packBools (s.can.toList.map fun c => c.bus == CanBusState.busOff)).setWidth 2

/-- Telegram waits and timeouts, then the three signals, in every unit state (R82, R305, R313, R315); with the codes. DEDUCED (log 72). -/
def State.signalsTick (s : State) : State × List Raised :=
  let c := s.cfg.eff
  let r := (((⟨s.il, []⟩ : LockRun).waitTick c s.tick s.busOffs s.car).timeoutTick c s.tick).releaseTick c
  ({ s with il := r.il }, r.ev)

/-- The engine does not complete the compute phase of the tick in progress: it has overrun it, or its channel is halted (R69, R437). -/
def State.phaseCut (s : State) : Bool :=
  s.unit.st == UnitState.faultHeld && s.unit.holdCode == 0x1001 && s.unit.entryTick == s.tick || s.mem.dma.getLsbD 0

/-- The compute phase of a held state, or of a module whose role is not settled: the module acts on nothing, and its readings go on
(R66, R81, R82, R368). DEDUCED (log 72). -/
def State.heldLevels (s : State) (late : List Raised) : State :=
  let q := s.signalsTick
  let s := (q.1.deliver late).deliver q.2
  let s := { s with doors := vmapIdx (fun d (w : Door) =>
    let v := s.doorInputs d
    { w with active := v.1, valid := v.2, release := s.il.release.getLsbD (s.cfg.eff.n F.doorSide d) }) s.doors }
  if s.phaseCut then s else s.captureWindow

/-- The closure words leave channel A when the compute phase is complete (R286). -/
def State.formWords (s : State) : State :=
  { s with il := { s.il with words := vmapIdx (fun d (w : Door) =>
      some (w.closureWord s.tick (s.cfg.eff.n F.doorUsed d == 1))) s.doors } }

/-- Orders 1 to 4 of R72: the unit-level events of an order follow the doorway-level ones (R73). `late` are those of order 1. The
signals of the release are formed for order 4, and MAINTENANCE ends without zero speed (R79). DEDUCED (log 10). -/
def State.urgentOrders (s : State) (news : AxisNews) (rose : BitVec 4) (late : List Raised) : State :=
  let s := (s.doorOrder news rose 1).deliver late
  let q := ((s.doorOrder news rose 2).doorOrder news rose 3).signalsTick
  let s := (q.1.doorOrder news rose 4).deliver q.2
  if s.zeroSpeed then s else s.leaveMaintenance

/-- The doorways' part of a compute phase (R72, R73, R268). `home` says that homing starts in this tick. DEDUCED (log 10). -/
def State.doorsTick (s : State) (news : AxisNews) (rose : BitVec 4) (home : Bool) (late : List Raised) : State :=
  let s := s.doorPass news fun s _ r i => r.before i news.done (s.unit.st == UnitState.run)
  let s := s.urgentOrders news rose late
  let s := (s.doorOrder news rose 5).doorOrder news rose 6
  s.doorPass news fun s _ r i => (if s.unit.st == UnitState.run then r.afterMaintenance i else r).finish i (s.ward 11) home

/-- Levels 1 to 3 of a tick in an operating state with the role settled. Homing starts on entry to HOMING, or when the role settles
as ACTIVE or ALONE if that is later (R368). `side` are the side inputs of the tick before, `late` codes that wait for order 1. DESIGN CHOICE (log 8). DEDUCED (log 10). -/
def State.levels (s : State) (side : BitVec 4) (late : List Raised) : State :=
  let home := s.unit.st == UnitState.homing && s.leads && s.unit.homingDue
  let a := State.axesTick { s with unit := { s.unit with homingDue := false } }
  ((a.1.doorsTick a.2 (s.sideInputs &&& ~~~side) home late).homingTick).formWords

/-! ## The BOLT decision (R288 to R296) -/

/-- The four BOLT inputs of a doorway as a channel names them: CLOSED, LOCKED, ISOLATED, ISO_LOCKED (R286). -/
def State.boltNames (s : State) (d : DoorId) (chanB : Bool) : List Nat :=
  if chanB then (s.il.copy.inputs[d]).toList
  else [F.closedInput, F.lockedInput, F.isolatedInput, F.isoLockedInput].map fun f => s.cfg.eff.n f d.val

/-- What a channel reads on them. -/
def State.boltInputs (s : State) (d : DoorId) (chanB : Bool) : BitVec 4 :=
  let c := s.cfg.eff
  let ok := if chanB then !s.io.sup.invalidB else !s.io.sup.invalid
  let values := s.channelValues chanB
  let valid := (packBools ((fins 64).map fun k => ok && c.mode k.val != 1 &&
    (if chanB then (s.io.ch[k]).sensedB else (s.io.ch[k]).sensed && !s.io.bad.getLsbD k.val))).setWidth 64
  (packBools ((s.boltNames d chanB).map fun n => (inputReads s.il chanB values valid ok n).1)).setWidth 4

/-- A pair that one of those inputs names disagrees in a channel (R296). -/
def State.boltPairBad (s : State) (d : DoorId) (chanB : Bool) : Bool :=
  (s.boltNames d chanB).any fun n =>
    (fins 32).any fun p => n == 0x80 + p.val && (if chanB then (s.il.pairs[p]).b else (s.il.pairs[p]).a).disagrees

/-- What the decision reads of a doorway. -/
def State.doorFact (s : State) (x : Snapshot) (d : DoorId) : DoorFact :=
  let w : Door := s.doors[d]
  { used := s.cfg.eff.n F.doorUsed d.val == 1, usedB := s.il.copy.used.getLsbD d.val
    isolated := w.st == DoorState.isolated, closedLocked := w.st == DoorState.closedLocked,
    verdict := w.clo.locked, inA := s.boltInputs d false, inB := s.boltInputs d true,
    word := ((s.il.words[d]).map (·.onWire (x.wordBad.getLsbD d.val))).filter (·.taken s.tick)
    disA := s.boltPairBad d false, disB := s.boltPairBad d true,
    portLost := (fins 32).any fun k => (s.ports[k]).st == PortState.lost && doorOnPort s.cfg.eff d.val k }

/-- What the decision reads. -/
def State.boltIn (s : State) (x : Snapshot) : BoltIn :=
  { now := s.tick, run := s.unit.st == UnitState.run, coreLine := s.unit.coreLine, fieldA := !s.io.sup.invalid,
    fieldB := !s.io.sup.invalidB, doors := (fins 16).map (s.doorFact x), hinge := s.hingeIn.pair, fs := s.io.sup.v / 10,
    node := x.boltNode, term := x.boltTerm, amps := x.boltAmps, period := s.cfg.eff.n F.boltTestPeriodMs 0 }

/-- Readback and decision. DEDUCED (log 57). -/
def State.boltTick (s : State) (x : Snapshot) : State :=
  let i := s.boltIn x
  s.onLock fun r => (r.readback i).decide40 i

/-! ## CAN and DOOR_STATE (R306 to R310, R350) -/

/-- BRS of the module's telegrams: the data phase has a rate of its own. DESIGN CHOICE (log 53). -/
def busBrs (c : Cfg) (b : Nat) : Bool := dataCycles (c.n F.dataTiming b) != nomCycles (c.n F.nomTiming b)

/-- DATA of a DOOR_STATE telegram (R309). -/
def State.doorStateData (s : State) : List Byte :=
  let b := s.il.bolt
  let mask := fun (p : Door → Bool) => leBytes 2 (packBools (s.doors.toList.map p)).toNat
  leBytes 2 (b.countsA &&& b.countsB).toNat ++ mask (fun w => w.st == DoorState.isolated) ++ mask (fun w => w.st == DoorState.egress) ++
    leBytes 1 (flag b.decA 0 ||| flag b.decB 1 ||| put b.outs.toNat 2 2 ||| put s.il.release.toNat 3 4 ||| flag s.il.safe.single 7).toNat ++
    leBytes 1 (s.unit.st.code + 16 * s.hinge.role.code) ++ leBytes 8 s.cfg.safety.toNat

/-- A DOOR_STATE telegram is written into buffer 0 of both buses (R310). DESIGN CHOICE (log 53). -/
def State.doorStateSend (s : State) : State :=
  let c := s.cfg.eff
  let f := s.il.safe
  let bs := telegram (BitVec.ofNat 32 (c.n F.safeConnId 0)) 2 s.addr f.txNext s.tick s.doorStateData
  let s := { s with il := { s.il with safe := { f with txSeq := f.txNext, txNext := f.txNext + 1 } } }
  (fins 2).foldl (fun (s : State) (b : BusId) =>
    let r := (⟨s.can[b], []⟩ : CanRun).post0 (safeId (c.n F.safeCanBase 0) 2 s.addr) (busBrs c b.val) bs
    let s := State.deliver { s with can := s.can.set b r.1.can } r.1.ev
    if r.2 then s.onLock fun r => r.safe fun f => { f with txOverrun := satN (f.txOverrun + 1) 32 } else s) s

/-- A DOOR_STATE telegram is due (R310). -/
def State.doorStateDue (s : State) : Bool :=
  operating s.unit.st && s.leads && decide (s.tick.toNat % msTicks (s.cfg.eff.n F.safeTxPeriodMs 0) = 0)

/-- A held module's controller is OFF from the end of the frame in progress, if any (R350), and acknowledgements under way reach it
(R358). Whether it is receiving a frame that has not ended yet is a free value. DESIGN CHOICE (log 73). -/
def State.heldCan (s : State) (b : BusId) : State :=
  let s := s.onCan b fun r => r.upd fun c => { c with reqs := c.reqs.filter (·.2.isAck) }.takeRequests s.tick
  let c := s.can[b]
  if c.sending.isSome then s
  else if !c.onBus then s.onCan b fun r => r.upd Can.goOff
  else
    let w := s.draw
    if w.1.getLsbD 0 then w.2 else w.2.onCan b fun r => r.upd Can.goOff

/-- A controller begins an attempt. Whether the bus lets it start within the tick is a free value, and so is how far a recovery has
counted (R353, R362); a parity error in its RAM is found in a buffer whose attempt starts (R359). DESIGN CHOICE (log 73). -/
def State.canStart (s : State) (parity : BitVec 8) (b : BusId) : State :=
  let c := s.can[b]
  let order := s.cfg.eff.n F.txOrder b.val == 1
  let w := s.draw
  if c.bus == CanBusState.recovering then
    w.2.onCan b fun r => r.upd fun c => { c with recoverSeq := c.recoverSeq + w.1.toNat % (128 - c.recoverSeq) }
  else if !c.ready order then s
  else if parity.getLsbD (5 + b.val) then s.onCan b fun r => r.start b order true
  else if w.1.getLsbD 0 then w.2.onCan b fun r => r.start b order false
  else w.2

/-- Both controllers in a tick: host requests, buffer 0, then what starts (R353, R363). DEDUCED (log 54). -/
def State.canTick (s : State) (parity : BitVec 8) : State :=
  if s.held then (fins 2).foldl (fun s b => s.heldCan b) s
  else
    let s := { s with can := vmap (fun c : Can => c.takeRequests s.tick) s.can }
    let s := if s.doorStateDue then s.doorStateSend else s
    (fins 2).foldl (fun s b => s.canStart parity b) s

/-! ## Outputs and frames (R66, R81, R132, R368) -/

/-- The outputs that doorways command on, by the numbers of R261. DEDUCED (log 35). -/
def State.outputsOn (s : State) : List Nat :=
  (fins 16).flatMap fun d =>
    let w : Door := s.doors[d]
    let c := s.cfg.eff
    if c.n F.doorUsed d.val = 1 then
      (if w.lamp then [c.n F.lampOut d.val] else []) ++ (if w.buzzer then [c.n F.buzzerOut d.val] else []) ++
        (if w.heater then [c.n F.heaterOut d.val] else [])
    else []

/-- Load switches and field outputs at 40.00 µs: driven by an ACTIVE or ALONE module, else off. In a held state the field I/O
domain switches them off without a command (R81). -/
def State.outputsTick (s : State) (x : Snapshot) : State :=
  let on := s.outputsOn
  let lamps := (packBools ((List.range 16).map fun k => on.contains k)).setWidth 16
  let fouts := (packBools ((List.range 64).map fun k => on.contains (k + 16))).setWidth 64
  let io := if operating s.unit.st then x.io else { x.io with cmdBad := 0 }
  s.onIo fun r => r.outputs s.cfg.eff s.tick io lamps fouts (operating s.unit.st && s.leads)

/-- The command of a channel's axis, OFF where it carries none. -/
def State.channelCmd (s : State) (ch : Nat) : StageCmd :=
  match finOf 64 (s.cfg.eff.n F.axisOfChannel ch) with
  | none => .off
  | some a => (s.axes[a]).mot.cmd

/-- Downstream frames leave at 30.00 µs. -/
def State.sendFrames (s : State) (bad : BitVec 32) : State :=
  (fins 32).foldl (fun s k =>
    s.onPort k fun r i => r.send i (s.unit.st == UnitState.discover) s.hinge.heldEpoch (s.channelCmd (2 * k.val)) (s.channelCmd (2 * k.val + 1)) (bad.getLsbD k.val)) s

/-- The heartbeat of a tick; with channel PINLINK halted it carries no STREAM data, which wait (R372, R381, R437). -/
def State.sendBeat (s : State) (halted : Bool) : State :=
  if halted then
    let h := s.hinge
    let s := State.onHinge { s with hinge := { h with sweepOut := [], flight := none } } fun r i => r.sendHeartbeat i
    { s with hinge := { s.hinge with sweepOut := h.sweepOut, flight := h.flight } }
  else s.sweepSend.onHinge fun r i => r.sendHeartbeat i

/-- Heartbeat, copy frame and sweep of the tick (R372, R380, R381); a halted channel PINLINK sends no copy frame (R437). -/
def State.sendPair (s : State) : State :=
  let halted := s.mem.dma.getLsbD 2
  if s.unit.st == UnitState.boot || s.unit.st == UnitState.config then s
  else
    (s.sendBeat halted).onHinge fun r i =>
      if operating i.st then (if halted then r.upd fun h => { h with copyOut := none } else r.sendCopy i s.copyOf) else r

/-! ## The end of a tick -/

/-- Axes whose learnt values have changed in the tick are no longer compared with an older sweep (R381). -/
def State.noteLearnt (s : State) (was : Vector Axis 64) : State :=
  { s with hinge := (fins 64).foldl (fun (h : Hinge) a =>
      if (s.axes[a]).obst.xLearnt != (was[a]).obst.xLearnt || (s.axes[a]).obst.centres != (was[a]).obst.centres then h.touch 2 a.val s.tick
      else h) s.hinge }

/-- What is captured at 28.00 µs while levels 1 to 4 run: loop windows, trace, cycles (R60, R187, R405). -/
def State.capture (s : State) : State :=
  (fins 16).foldl State.cycleTick s.captureWindow.traceTick

/-- The anti-rollback counter is raised in RUN (R467). -/
def State.raiseRollback (s : State) : State :=
  if s.unit.st == UnitState.run then { s with se := { s.se with rollback := max s.se.rollback s.fw.security } } else s

/-- The next tick begins: its number, what ports and LEDs carry over, and requests that waited for a snapshot with room (R64,
R384). DEDUCED (log 5). -/
def State.nextTick (s : State) (retick : Option Tick) : State :=
  let t := (retick.orElse fun _ => s.hinge.nextTick).getD (s.tick + 1)
  let shift := t - (s.tick + 1)
  let s := (s.configEnd t).idleSessions.logClocks.flushOpen
  let waiting := bySession s.hinge.waiting
  let s := { s with
    tick := t, up := s.up + 1, lostNow := 0
    panel := { s.panel with leds := s.leds }
    ports := vmap Port.endTick s.ports
    hinge := { s.hinge with waiting := [], nextTick := none, stretch := s.hinge.stretchNext, stretchNext := 0, discTick := s.hinge.discTick.map (· + shift) } }
  let s := { s with kw := { s.kw with taken := Vector.replicate 8 0 } }
  (State.serveWaiting (s.keepTick.onMem fun r => r.resume 2) waiting).serveLater

/-- What follows the computation: decision, buses, outputs, frames, records. A tick whose compute phase does not complete ends
a triggered trace (R188). DESIGN CHOICE (log 8). DEDUCED (log 10). -/
def State.act (s : State) (x : Snapshot) : State :=
  let s := ((s.boltTick x).canTick x.parity).outputsTick x
  let s := (s.sendFrames x.txBad).sendPair
  let s := if operating s.unit.st then s.capture else { s with trace := s.trace.truncate }
  (s.censusTick.censusTurn).raiseRollback

/-- The compute phase of a tick and the tick's end (R66, R160). A module that stops in the snapshot computes no more. DEDUCED (log 5). DESIGN CHOICE (log 8). DEDUCED (log 10). -/
def State.compute (s : State) (x : Snapshot) : State :=
  if !s.unit.running then s
  else
    let was := s.axes
    let side := s.sideInputs
    let s := s.stepOne.sensePanel x
    if !s.unit.running then s
    else
      let f := s.senseField x
      let r := f.1.discoverTick.hingeTick x
      let s := if r.1.computes then r.1.levels side f.2 else r.1.heldLevels f.2
      ((s.noteLearnt was).act x).nextTick r.2

end Sys2Proof.Machine
end

