-- ==== Sys2Proof/Machine/Module.lean ====
section
/-! DEFINITION. Meanings of the module's own events (ch. 1 to 3): start, supply, temperature, pins, RESET, ward switches, cover
W, the compute phase and the faults of clocks, queues and cores. A row tells that its trigger's time, count or measured
condition holds; the model checks what state decides, and nothing happens where that does not hold (log 7). -/

namespace Sys2Proof.Machine

/-- An event that reaches a running module whose state admits it. DESIGN CHOICE (log 7). DESIGN CHOICE (log 14). -/
def State.live (s : State) (admits : Bool) (f : State → State) : State := if s.unit.running && admits then f s else s

/-- The status line of the cores falls after 28.00 µs (R289, R485): at 40.00 µs of that same tick channel B withdraws BOLT and
the field I/O domain switches every output off. DEDUCED (log 16). -/
def State.lineFall (s : State) (late : Bool) : State :=
  if !late then s
  else
    let done := { s with tick := s.tick - 1 }.onLock fun r => (r.bolt fun b => { b with switches := 0, decB := false }).combine (s.tick - 1) false
    let s := { done with tick := s.tick }
    s.onIo fun r => (r.allSw fun _ x => LoadSwitch.obey { x with cmd := false } true false 0).allChan fun _ x =>
      Channel.obey { x with cmd := false } true

/-- POWER_ON (R79, R86): a start of the module. -/
def execPowerOn (p : PowerUp) (s : State) : Host.Outcome State Fault Refusal := .next (s.powerOn p)

/-- BOOT_WAIT_EXPIRY (R86): 0.5 s after the start of BOOT the image slots are tried. -/
def execBootWaitExpiry (s : State) : Host.Outcome State Fault Refusal := .next s.bootWaitOver

/-- MOUNT_COMPLETE (R418). -/
def execMountComplete (reads : Option (List (Nat × List Byte))) (s : State) : Host.Outcome State Fault Refusal := .next (s.mountLog reads)

/-- SUPPLY_LOSS (R46). -/
def execSupplyLoss (s : State) : Host.Outcome State Fault Refusal := .next (s.live (!s.panel.holdup) State.supplyLoss)

/-- SUPPLY_RETURN (R47). -/
def execSupplyReturn (s : State) : Host.Outcome State Fault Refusal := .next (s.live s.panel.holdup State.supplyReturn)

/-- HOLDUP_END (R47): the module stops until the supply starts it again. -/
def execHoldupEnd (s : State) : Host.Outcome State Fault Refusal := .next (s.live s.panel.holdup fun s => s.stop .supply)

/-- SUPPLY_HIGH (R50). -/
def execSupplyHigh (s : State) : Host.Outcome State Fault Refusal := .next (s.live true State.supplyHigh)

/-- HOUSING_HOT (R27). -/
def execHousingHot (s : State) : Host.Outcome State Fault Refusal := .next (s.live true State.housingHot)

/-- ADDR_CHANGED (R38): the pins are read again after BOOT; the warning is raised once for a run of readings that differ. -/
def execAddrChanged (reading : BitVec 10) (s : State) : Host.Outcome State Fault Refusal :=
  .next (s.live (!s.boots && s.panel.addrValid && s.panel.addrDiff != 3 && reading != s.panel.pinsUsed) fun s => s.addrChanged reading)

/-- RESET_PRESS_ACCEPTED (R51). -/
def execResetPressAccepted (s : State) : Host.Outcome State Fault Refusal :=
  .next (s.live (!s.panel.rst.pressed) fun s => s.onReset fun r => r.press s.up)

/-- RESET_RELEASE_ACCEPTED (R53, R55). -/
def execResetReleaseAccepted (s : State) : Host.Outcome State Fault Refusal := .next (s.live s.panel.rst.pressed State.resetRelease)

/-- RESET_STUCK (R53). -/
def execResetStuck (s : State) : Host.Outcome State Fault Refusal :=
  .next (s.live (s.panel.rst.pressed && s.panel.rst.live) State.resetJam)

/-- RESET_ARMED (R52). -/
def execResetArmed (s : State) : Host.Outcome State Fault Refusal :=
  .next (s.live (!s.panel.rst.pressed && !s.panel.rst.armed) fun s => s.onReset ResetIn.arm)

/-- WARD_SWITCH_CHANGE (R40). -/
def execWardSwitchChange (k : Fin 12) (on : Bool) (s : State) : Host.Outcome State Fault Refusal :=
  .next (s.live (s.panel.ward.getLsbD k.val != on) fun s => s.wardChange k on)

/-- COVER_OPEN (R43). -/
def execCoverOpen (s : State) : Host.Outcome State Fault Refusal := .next (s.live true State.coverLift)

/-- COVER_CLOSED (R43). -/
def execCoverClosed (s : State) : Host.Outcome State Fault Refusal := .next (s.live true State.coverBack)

/-- COMPUTE_PHASE (R160): the tick in progress is computed and ends. -/
def execComputePhase (snap : Snapshot) (s : State) : Host.Outcome State Fault Refusal := .next (s.compute snap)

/-- PHASE_OVERRUN (R69). -/
def execPhaseOverrun (s : State) : Host.Outcome State Fault Refusal := .next (s.live true State.overrun)

/-- QUEUE_FULL (R78): the queues of the knuckle links, of field I/O and of the pin link count as a phase overrun; no effect is
given for the others. DEDUCED (log 16). -/
def execQueueFull (q : QueueId) (s : State) : Host.Outcome State Fault Refusal :=
  .next (s.live (q != QueueId.other) State.overrun)

/-- A strobe fault, or PLL k out of lock (R76). -/
def State.clockFault (s : State) (kind : ClockFaultKind) (late : Bool) : State :=
  match kind with
  | .strobe => s.strobeFault late
  | .pll k => s.clocks (s.unit.locks &&& ~~~(1#8 <<< k.val)) late

/-- CLOCK_FAULT (R76). -/
def execClockFault (kind : ClockFaultKind) (late : Bool) (s : State) : Host.Outcome State Fault Refusal :=
  .next (s.live true fun s => s.clockFault kind late)

/-- LOCKSTEP_MISMATCH (R485). -/
def execLockstepMismatch (late : Bool) (s : State) : Host.Outcome State Fault Refusal :=
  .next (s.live true fun s => s.holdCause 0x4004 late false)

/-- The cores trap (R437, R485, R487). DEDUCED (log 16). -/
def State.coreTrap (s : State) (cause : TrapCause) (late : Bool) : State :=
  let s := match cause with
    | .memory w => s.onMem fun r => (r.read w .cores).1
    | .bus => s
  let s := if s.boots || s.held then s else { s with mem := { s.mem with events := s.mem.events ||| 2 } }
  (s.holdCause 0x4702 late true).lineFall late

/-- CORE_TRAP (R437, R485, R487): an uncorrectable fetch or a bus error. -/
def execCoreTrap (cause : TrapCause) (late : Bool) (s : State) : Host.Outcome State Fault Refusal :=
  .next (s.live true fun s => s.coreTrap cause late)

/-- OP_TIME_SAVE (R404). -/
def execOpTimeSave (s : State) : Host.Outcome State Fault Refusal := .next (s.live true State.saveOpTime)

end Sys2Proof.Machine
end

