-- ==== Sys2Proof/Machine/Locks.lean ====
section
/-! DEFINITION. Meanings of the rows of BOLT, pairs and safe telegrams (ch. 9). -/

namespace Sys2Proof.Machine

/-- An operation of the interlock on a running module. -/
def State.onInterlock (s : State) (admits : Bool) (f : LockRun → LockRun) : State := s.live admits fun s => s.onLock f

/-! ## BOLT (R290 to R295) -/

/-- A BOLT fault latches, once (R295). -/
def LockRun.latchOnce (r : LockRun) (k : Nat) : LockRun := if r.il.bolt.latched.getLsbD k then r else r.latch k

/-- A test cycle begins while the decision is true (R293). -/
def LockRun.testStart (r : LockRun) (now : Tick) : LockRun :=
  if r.il.bolt.combined && r.il.bolt.test.isNone then r.bolt fun b => { b with test := some now, pulseOk := false } else r

/-- BOLT_TEST_CYCLE (R293). -/
def execBoltTestCycle (s : State) : Host.Outcome State Fault Refusal := .next (s.onInterlock true fun r => r.testStart s.tick)

/-- BOLT_TEST_FAIL (R294): no readback check is made while the field supply is invalid. -/
def execBoltTestFail (s : State) : Host.Outcome State Fault Refusal := .next (s.onInterlock (!s.io.sup.invalid) fun r => r.latchOnce 0)

/-- BOLT_OVERLOAD (R294). -/
def execBoltOverload (s : State) : Host.Outcome State Fault Refusal := .next (s.onInterlock true fun r => r.latchOnce 1)

/-- BOLT_EXT_DRIVEN (R294): in a hinge pair the voltage is only shown. -/
def execBoltExtDriven (s : State) : Host.Outcome State Fault Refusal :=
  .next (s.onInterlock (!s.io.sup.invalid) fun r =>
    if s.hingeIn.pair then r.bolt fun b => { b with extSeen := true } else r.latchOnce 2)

/-- BOLT_CHANNEL_DIFFER (R290): the channels are compared in RUN. -/
def execBoltChannelDiffer (s : State) : Host.Outcome State Fault Refusal :=
  .next (s.onInterlock (s.unit.st == UnitState.run && s.unit.coreLine) fun r => r.latchOnce 3)

/-! ## Pairs (R300, R301) -/

/-- A pair enters discrepancy. -/
def LockRun.discrepancyEvent (r : LockRun) (c : Cfg) (p : PairId) : LockRun :=
  let q := r.il.pairs[p]
  if !c.pairUsed p.val || q.a.disc then r
  else
    let n := max q.a.c (c.pairLimit p.val)
    let q' : Pair := { q with a := ⟨c.pairSafe p.val, n, true, 0⟩, maxCount := max q.maxCount n }
    LockRun.pairDiscrepancy { r with il := { r.il with pairs := r.il.pairs.set p q' } } p

/-- A pair leaves discrepancy. -/
def LockRun.restoredEvent (r : LockRun) (c : Cfg) (p : PairId) : LockRun :=
  let q := r.il.pairs[p]
  if !q.a.disc then r
  else LockRun.pairRestored { r with il := { r.il with pairs := r.il.pairs.set p { q with a := ⟨c.pairSafe p.val, 0, false, 0⟩ } } } p

/-- A pair enters discrepancy, and its largest count takes the value that it has then (R16, R320). -/
def State.pairFails (s : State) (p : PairId) : State :=
  let t := s.onLock fun r => r.discrepancyEvent s.cfg.eff p
  if t.il.pairs[p] == s.il.pairs[p] then t else t.noteTaken (0x3010C + 0x10 * p.val) (t.il.pairs[p]).a.c

/-- PAIR_DISCREPANCY (R300, R303). -/
def execPairDiscrepancy (p : PairId) (s : State) : Host.Outcome State Fault Refusal :=
  .next (s.live (!s.io.sup.invalid) fun s => s.pairFails p)

/-- PAIR_RESTORED (R301, R303). -/
def execPairRestored (p : PairId) (s : State) : Host.Outcome State Fault Refusal :=
  .next (s.onInterlock (!s.io.sup.invalid) fun r => r.restoredEvent s.cfg.eff p)

/-! ## Safe telegrams (R306 to R316, R391) -/

/-- A RELEASE copy on a bus (R311 to R313); `format`: FDF, DLC and BRS are those of R306. -/
def State.releaseCopy (s : State) (bus : BusId) (format : Bool) (bytes : List Byte) : State :=
  s.onLock fun r => r.releaseCopy s.cfg.eff s.tick bus format bytes (s.busOffs.getLsbD (1 - bus.val)) s.car

/-- A later SEQ of the partner (R310). -/
def laterSeq (old : Option (BitVec 32)) (seq : BitVec 32) : BitVec 32 :=
  match old with
  | none => seq
  | some p => if 0 < (seq - p).toInt then seq else p

/-- A telegram of the own address with ROLE ACTIVE or ALONE reaches a lease holder: it yields, or the pair is split (R391). A SINGLE module never changes role (R370). -/
def State.foreignDoorState (s : State) : State :=
  let r : HingeRun := ⟨s.hinge, [], none⟩
  let i := s.hingeIn
  if !s.hinge.leases i then s
  else if decide (i.heldHere s.hinge.epoch < quorum i.cfg) || r.yieldCause i s.lostNow then (if i.pair then s.yieldLease else s)
  else s.onHinge HingeRun.doorState

/-- A DOOR_STATE copy of the own address (R306, R310, R391). -/
def State.doorStateCopy (s : State) (format : Bool) (bytes : List Byte) : State :=
  if telegramValid (BitVec.ofNat 32 (s.cfg.eff.n F.safeConnId 0)) format 2 s.addr bytes then
    let seq := BitVec.ofNat 32 (leAt bytes 4 4)
    let s := if s.standby then s.onLock fun r => r.safe fun f => { f with partnerSeq := some (laterSeq f.partnerSeq seq) } else s
    let role := leAt bytes 19 1 / 16 % 4
    if role = Role.active.code ∨ role = Role.alone.code then s.foreignDoorState else s
  else s.onLock fun r => r.safe fun f => { f with codeErr := satN (f.codeErr + 1) 32 }

/-- SAFE_TELEGRAM_COPY (R311); SAFE_RX_SRC FFFFh names no source, and no frame is a RELEASE copy then. DEDUCED (log 52). -/
def execSafeTelegramCopy (bus : BusId) (format : Bool) (bytes : List Byte) (s : State) : Host.Outcome State Fault Refusal :=
  .next (s.live (operating s.unit.st && decide (s.cfg.eff.n F.safeRxSrc 0 < 512)) fun s => s.releaseCopy bus format bytes)

/-- PAIR_WAIT_DEADLINE (R313, R314), in every unit state (R82). -/
def execPairWaitDeadline (s : State) : Host.Outcome State Fault Refusal :=
  .next (s.onInterlock true fun r => r.closeSingle s.cfg.eff s.tick s.car)

/-- SAFE_TG_TIMEOUT (R315), in every unit state (R82). -/
def execSafeTgTimeout (s : State) : Host.Outcome State Fault Refusal :=
  .next (s.onInterlock s.il.safe.fresh LockRun.timeout)

/-- DOOR_STATE_SEND (R310). -/
def execDoorStateSend (s : State) : Host.Outcome State Fault Refusal :=
  .next (s.live (operating s.unit.st && s.leads) State.doorStateSend)

/-- DOOR_STATE_RECEIVED (R391). -/
def execDoorStateReceived (format : Bool) (bytes : List Byte) (s : State) : Host.Outcome State Fault Refusal :=
  .next (s.live (operating s.unit.st) fun s => s.doorStateCopy format bytes)

end Sys2Proof.Machine
end

