-- ==== Sys2Proof/Machine/Buses.lean ====
section
/-! DEFINITION. Meanings of the rows of the CAN FD controllers (ch. 11). -/

namespace Sys2Proof.Machine

/-- An operation of a controller on a running module. -/
def State.onBus (s : State) (b : BusId) (f : CanRun → CanRun) : State := s.live true fun s => s.onCan b f

/-! ## Reception (R357 to R359) -/

/-- The module's use of an extended identifier as a safe telegram (R306, R357): TYPE, where the frame takes the safe path. DEDUCED (log 54). -/
def State.safeType (s : State) (f : CanFrame) : Option Nat :=
  let c := s.cfg.eff
  let base := c.n F.safeCanBase 0
  if !f.ide then none
  else if c.n F.safeRxSrc 0 < 512 && f.id == safeId base 1 (c.n F.safeRxSrc 0) then some 1
  else if f.id == safeId base 2 s.addr then some 2
  else none

/-- A frame takes the safe path, enters the queue under its filter, or is discarded (R357). DEDUCED (log 52). -/
def State.routeFrame (s : State) (bus : BusId) (f : CanFrame) (parity : Bool) (ts : Word) : State :=
  let bytes := if f.rtr then [] else f.data.take (dlcBytes f.fdf f.dlc)
  let format := f.fdf && f.dlc == 13 && f.brs == busBrs s.cfg.eff bus.val
  match s.safeType f with
  | some 1 => s.releaseCopy bus format bytes
  | some _ => s.doorStateCopy format bytes
  | none =>
    match matchFilter s.cfg.eff bus f with
    | none => s
    | some k => s.onCan bus fun r => r.store bus f k parity ts

/-- A valid frame is counted and routed (R357, R361); `parity` marks a parity error in the CAN RAM (R359, R443). -/
def State.frameIn (s : State) (bus : BusId) (f : CanFrame) (parity : Bool) (ts : Word) : State :=
  let s := if parity then s.parityError (5 + bus.val) else s
  let s := { s.onCan bus (fun r => r.received s.free) with free := s.free + 1 }
  s.routeFrame bus f parity ts

/-- The frame in progress has ended: in a held state the controller is OFF from there (R350). -/
def State.frameOver (s : State) (bus : BusId) : State :=
  if s.held && (s.can[bus]).mode != CanMode.off && (s.can[bus]).sending.isNone then s.onCan bus fun r => r.upd Can.goOff else s

/-- CAN_FRAME_RECEIVED (R357). -/
def execCanFrameReceived (bus : BusId) (f : CanFrame) (parity : Bool) (ts : Word) (s : State) : Host.Outcome State Fault Refusal :=
  .next (s.live (s.can[bus]).onBus fun s => (s.frameIn bus f parity ts).frameOver bus)

/-- CAN_RECEIVE_ERROR (R351, R361). -/
def execCanReceiveError (bus : BusId) (kind : Nat) (plus8 : Bool) (s : State) : Host.Outcome State Fault Refusal :=
  .next (s.live true fun s => (s.onCan bus fun r => r.receiveError bus kind plus8).frameOver bus)

/-- CAN_INTEGRATED (R350). -/
def execCanIntegrated (bus : BusId) (s : State) : Host.Outcome State Fault Refusal := .next (s.onBus bus CanRun.integrated)

/-! ## The ends of an attempt (R354 to R356, R361 to R363) -/

/-- The end of an attempt on a bus. A telegram that waits for buffer 0 is written (R355); the old one is an overrun unless it
was sent. DEDUCED (log 54). -/
def State.attemptEnd (s : State) (bus : BusId) (b : Option (Fin 3)) (sent : Bool) : State :=
  let c := s.cfg.eff
  if b == some 0 && (s.can[bus]).next0.isSome then
    let s := s.onCan bus fun r => r.take0 0 (safeId (c.n F.safeCanBase 0) 2 s.addr) (busBrs c bus.val)
    if sent then s else s.onLock fun r => r.safe fun f => { f with txOverrun := satN (f.txOverrun + 1) 32 }
  else s

/-- An attempt is under way: one has begun, or begins now where a frame waits for its start (R353). -/
def State.attempting (s : State) (bus : BusId) : State :=
  if s.held then s else s.onCan bus fun r => r.start bus (s.cfg.eff.n F.txOrder bus.val == 1) false

/-- An end of the attempt in progress of a buffer. In a held state the controller is OFF from the end of the frame, which a lost
arbitration does not end (R350). -/
def State.attempt (s : State) (bus : BusId) (b : Fin 3) (sent ends : Bool) (f : CanRun → CanRun) : State :=
  s.live true fun s =>
    let s := s.attempting bus
    if (s.can[bus]).sending == some b then
      let s := s.onCan bus f
      if !s.held then s.attemptEnd bus (some b) sent else if ends then s.frameOver bus else s
    else s

/-- The loop delay measured in a frame with BRS while TDC_ENABLE is 1 (R349): no rule gives it, so it is a free value. It stands
where an error came before the edge that is measured. DEDUCED (log 55). -/
def State.loopDelay (s : State) (bus : BusId) (b : Fin 3) : State :=
  if s.cfg.eff.n F.tdcEnable bus.val == 1 && (s.can[bus]).sending == some b && ((s.can[bus]).frameSent.map (·.brs)).getD false then
    let w := s.draw
    w.2.onCan bus fun r => r.upd fun c => { c with measured := w.1.toNat % 256 }
  else s

/-- The attempt of a buffer with its loop delay. -/
def State.measured (s : State) (bus : BusId) (b : Fin 3) : State := s.live true fun s => (s.attempting bus).loopDelay bus b

/-- TX_SUCCESS (R349, R354, R356). -/
def execTxSuccess (bus : BusId) (b : Fin 3) (ts : Word) (s : State) : Host.Outcome State Fault Refusal :=
  .next ((s.measured bus b).attempt bus b true true fun r => r.success b ts)

/-- TX_LOST_ARBITRATION (R354). -/
def execTxLostArbitration (bus : BusId) (b : Fin 3) (s : State) : Host.Outcome State Fault Refusal :=
  .next (s.attempt bus b false false fun r => r.lost b)

/-- TX_ERROR (R349, R354, R356, R361). -/
def execTxError (bus : BusId) (b : Fin 3) (kind : Nat) (unchanged : Bool) (s : State) : Host.Outcome State Fault Refusal :=
  .next ((s.measured bus b).attempt bus b false true fun r => r.txError bus b kind unchanged)

/-- CAN_BUS_OFF (R361 to R363). -/
def execCanBusOff (bus : BusId) (s : State) : Host.Outcome State Fault Refusal :=
  .next (s.live (s.can[bus]).onBus fun s => (s.onCan bus fun r => r.busOff bus).attemptEnd bus (s.can[bus]).sending false)

/-- CAN_PEX (R345, R363). -/
def execCanPex (bus : BusId) (s : State) : Host.Outcome State Fault Refusal :=
  .next (s.live (s.can[bus]).onBus fun s =>
    (s.onCan bus fun r => r.protocolException bus).attemptEnd bus (s.can[bus]).sending false)

/-! ## Host requests, modes and recovery (R351, R352, R355, R358, R362) -/

/-- The address of a controller's registers (R365). -/
def busBase (bus : BusId) : Nat := 0x40000 + 0x1000 * bus.val

/-- TX_SEND: CANx_TXBb_CTRL bit 0 is written (R352, R365). -/
def execTxSend (r : Req) (bus : BusId) (b : Fin 3) (s : State) : Host.Outcome State Fault Refusal :=
  .next (s.hostWrite r (busBase bus + 0x200 + 0x80 * b.val) 1)

/-- TX_ABORT: CANx_TXBb_CTRL bit 1 is written (R355, R365). -/
def execTxAbort (r : Req) (bus : BusId) (b : Fin 3) (s : State) : Host.Outcome State Fault Refusal :=
  .next (s.hostWrite r (busBase bus + 0x200 + 0x80 * b.val) 2)

/-- CAN_RECOVER: CANx_CTRL bit 0 is written (R362, R365). -/
def execCanRecover (r : Req) (bus : BusId) (s : State) : Host.Outcome State Fault Refusal := .next (s.hostWrite r (busBase bus + 8) 1)

/-- RESTRICT_ON: CANx_CTRL bit 1 is written (R351, R365). -/
def execRestrictOn (r : Req) (bus : BusId) (s : State) : Host.Outcome State Fault Refusal := .next (s.hostWrite r (busBase bus + 8) 2)

/-- RESTRICT_OFF: CANx_CTRL bit 2 is written (R351, R365). -/
def execRestrictOff (r : Req) (bus : BusId) (s : State) : Host.Outcome State Fault Refusal := .next (s.hostWrite r (busBase bus + 8) 4)

/-- RX_ACK: CANx_RX_ACK is written (R358, R365). -/
def execRxAck (r : Req) (bus : BusId) (n : Word) (s : State) : Host.Outcome State Fault Refusal :=
  .next (s.hostWrite r (busBase bus + 0x44) n)

/-- CAN_RECOVERED (R362). -/
def execCanRecovered (bus : BusId) (s : State) : Host.Outcome State Fault Refusal := .next (s.onBus bus fun r => r.recovered bus)

/-- CAN_MODE_CHANGE (R351). -/
def execCanModeChange (bus : BusId) (s : State) : Host.Outcome State Fault Refusal := .next (s.onBus bus CanRun.modeChange)

end Sys2Proof.Machine
end

