-- ==== Sys2Proof/Machine/Moves.lean ====
section
/-! DEFINITION. Meanings of the rows of axes, obstacles and closure (ch. 6 and 7). Each row is what the compute phase finds by
itself when its condition comes to hold in the snapshot; sent alone it acts at once (log 7). -/

namespace Sys2Proof.Machine

/-- An operation on an axis while levels 1 to 4 are computed. DESIGN CHOICE (log 7). -/
def State.onLevel (s : State) (a : AxisId) (f : AxRun → AxIn → AxRun) : State := s.live s.computes fun s => s.onAxis a f

/-- What the doorway of an axis does about it: its slot of the doorway is given. -/
def State.doorOf' (s : State) (a : AxisId) (f : Nat → DoorRun → DoorIn → DoorRun) : State :=
  match doorOfAxis s.cfg.eff a.val with
  | none => s
  | some (d, k) =>
    match finOf 16 d with
    | none => s
    | some d => s.onDoor d fun r i => f k r i

/-- An internal trigger of a doorway (R268): none after a change of state in the same tick, or during a jog. -/
def DoorRun.trigger (r : DoorRun) (f : DoorRun → DoorRun) : DoorRun :=
  if r.door.moved || r.door.jog.isSome then r
  else
    let st := r.door.st
    let r := f r
    if r.door.st = st then r else r.byEvent

/-! ## Moves (R203, R206) -/

/-- The planner moves the axis: a source that ends in a landing. -/
def MotionSt.planned (m : MotionSt) : Bool :=
  m.driven && !m.still && !m.qstop && (m.source == Source.planner || m.source == Source.homing || m.source == Source.follow)

/-- The move lands now (R203): homing goes on, a stop reaction ends, learning and the evaluation of a leaf follow. -/
def AxRun.moveLanded (r : AxRun) (i : AxIn) : AxRun :=
  let m := r.ax.mot
  if !m.planned then r
  else
    let dt := if m.target * 65536 = m.xp then sgn m.vp else sgn (m.target * 65536 - m.xp)
    let r := ((r.mot fun m => m.land (m.vp * dt) dt).homeLanding i).reactionEnd
    let r := if i.cfg.v F.learnEnable i.a = 1 && r.ax.mot.landed then r.loop fun l => { l with learn := l.learn.land } else r
    r.evalStart i

/-- MOVE_LANDED (R203). -/
def execMoveLanded (a : AxisId) (s : State) : Host.Outcome State Fault Refusal := .next (s.onLevel a AxRun.moveLanded)

/-- QUICK_STOP_COMPLETE (R206): a target held meanwhile is planned in step 5 from now on. -/
def execQuickStopComplete (a : AxisId) (s : State) : Host.Outcome State Fault Refusal :=
  .next (s.onLevel a fun r _ => r.mot fun m => { m.quickRest with aRef := if m.qstop then 0 else m.aRef })

/-! ## Homing (R210 to R215) -/

/-- The position of a homing reference is found (R210, R211). ABSOLUTE takes its position from the sample. -/
def AxRun.positionFound (r : AxRun) (i : AxIn) (x : Int) : AxRun :=
  let h := r.ax.mot.home
  if h.first then r
  else
    match h.phase with
    | .absolute => if i.encoderless then r else r.homeAbsolute i
    | .toward => r.switchFound i x
    | .push => r.homeFound i x
    | .index => if h.switchTick == some i.now then r else r.homeFound i x
    | _ => r

/-- Homing in progress fails with a RESULT (R215). -/
def AxRun.homingFails (r : AxRun) (i : AxIn) (result : Nat) : AxRun :=
  if r.ax.mot.home.phase == HomePhase.none then r else r.homeFail i result

/-- A travel limit trips (R214): its side is -1 or +1. -/
def AxRun.limitEvent (r : AxRun) (i : AxIn) (positive : Bool) : AxRun :=
  let was := if positive then r.ax.mot.limPos else r.ax.mot.limNeg
  if was.active then r
  else
    let d : Debounce := ⟨true, 0, r.ax.loop.xMeas⟩
    (r.mot fun m => if positive then { m with limPos := d } else { m with limNeg := d }).limitTrip i (if positive then 1 else -1)

/-- HOME_POSITION_FOUND (R211). -/
def execHomePositionFound (a : AxisId) (position : Int) (s : State) : Host.Outcome State Fault Refusal :=
  .next (s.onLevel a fun r i => r.positionFound i position)

/-- HOME_CHATTER (R213). -/
def execHomeChatter (a : AxisId) (s : State) : Host.Outcome State Fault Refusal := .next (s.onLevel a fun r i => r.homingFails i 2)

/-- HOME_TIMEOUT (R215). -/
def execHomeTimeout (a : AxisId) (s : State) : Host.Outcome State Fault Refusal := .next (s.onLevel a fun r i => r.homingFails i 5)

/-- TRAVEL_LIMIT (R214). -/
def execTravelLimit (a : AxisId) (positive : Bool) (s : State) : Host.Outcome State Fault Refusal :=
  .next (s.onLevel a fun r i => r.limitEvent i positive)

/-! ## Steppers (R223, R225) -/

/-- A stall can be declared on the axis (R225). -/
def AxRun.stalls (r : AxRun) (i : AxIn) : Bool := i.cfg.kind i.a == 2 && i.cfg.v F.stepEncoder i.a == 1 && r.ax.mot.driven

/-- A stall, which PUSH homing takes as its position (R210, R225). -/
def AxRun.stallEvent (r : AxRun) (i : AxIn) : AxRun :=
  if !r.stalls i then r
  else
    let push := r.ax.mot.home.phase == HomePhase.push && !r.ax.mot.home.first
    let r := r.stall i
    if push then r.homeFound i r.ax.loop.xMeas else r

/-- A stall and what its doorway does (R225, R266, R271). -/
def State.stallEvent (s : State) (a : AxisId) : State :=
  let on := s.computes && (⟨s.axes[a], []⟩ : AxRun).stalls (s.axIn a)
  let s := s.onLevel a AxRun.stallEvent
  if on then s.doorOf' a fun k r i => r.trigger fun r => r.stall i k else s

/-- A stepper at rest enters hold (R223). -/
def AxRun.holdEvent (r : AxRun) (i : AxIn) : AxRun :=
  if i.cfg.kind i.a == 2 && r.ax.mot.driven && r.ax.mot.rests then r.mot MotionSt.hold else r

/-- STALL (R225). -/
def execStall (a : AxisId) (s : State) : Host.Outcome State Fault Refusal := .next (s.live true fun s => s.stallEvent a)

/-- STEPPER_HOLD (R223). -/
def execStepperHold (a : AxisId) (s : State) : Host.Outcome State Fault Refusal := .next (s.onLevel a AxRun.holdEvent)

/-! ## Obstacles (R235 to R238) -/

/-- A confirmation on a driven force axis outside a reaction, with its reaction (R235, R236). -/
def AxRun.obstacleEvent (r : AxRun) (i : AxIn) : AxRun :=
  if i.cfg.kind i.a == 1 && r.ax.mot.driven && r.ax.mot.reaction == Reaction.none && !r.ax.obst.marked then
    ((r.confirm i).mot fun m => { m with qbrake := m.qstop }).react i false 7
  else r

/-- A confirmation, its place in the cycle's record, its siblings and its doorway (R235 to R241, R405). -/
def State.obstacleEvent (s : State) (a : AxisId) : State :=
  let s := s.onLevel a AxRun.obstacleEvent
  if (s.axes[a]).obst.confirmed then
    let s := (s.noteObstacle a).doorOf' a fun k r i =>
      ((r.clo fun c => { c with seqObst := true }).markSiblings i).obstacle i k
    { s with axes := vmod s.axes a fun x => { x with obst := { x.obst with confirmed := false } } }
  else s

/-- A marked leaf reverses (R238). -/
def AxRun.reverseMarked (r : AxRun) (i : AxIn) : AxRun :=
  if r.ax.obst.marked && r.ax.mot.driven && r.ax.mot.reaction == Reaction.none then
    ((r.mot fun m => { m with qbrake := m.qstop }).react i true 7).obst fun o => { o with marked := false }
  else r

/-- Reaction braking is over (R237). -/
def AxRun.brakingEnd (r : AxRun) : AxRun := r.mot fun m => { m with reaction := .none, braking := false }

/-- OBST_CONFIRMED (R235). -/
def execObstConfirmed (a : AxisId) (s : State) : Host.Outcome State Fault Refusal := .next (s.live true fun s => s.obstacleEvent a)

/-- SIBLING_REVERSAL (R238): every marked leaf of the doorway. -/
def execSiblingReversal (d : DoorId) (s : State) : Host.Outcome State Fault Refusal :=
  .next (s.live true fun s => (leavesOf s.cfg.eff d.val).foldl (fun s a => s.onLevel a AxRun.reverseMarked) s)

/-- REACTION_BRAKING_END (R237): a target held meanwhile is planned in step 5 from now on, and the doorway's reopen target can be
set. -/
def execReactionBrakingEnd (a : AxisId) (s : State) : Host.Outcome State Fault Refusal :=
  .next (s.onLevel a fun r _ => r.brakingEnd)

/-! ## Closure (R244, R251) -/

/-- A leaf's evaluation ends with its mean position (R244). -/
def State.leafEvaluation (s : State) (a : AxisId) (x : Int) : State :=
  if (s.axes[a]).obst.eval == EvalPhase.idle then s
  else
    let s := s.onLevel a fun r _ => r.obst fun o => { o with eval := .idle, xObs := x }
    s.doorOf' a fun k r i => if k < 2 then r.leafEvaluated i a else r

/-- Closure is lost (R251). -/
def DoorRun.closureLost (r : DoorRun) (i : DoorIn) : DoorRun :=
  if r.door.clo.monitor && !r.door.clo.lost then
    (r.clo fun k => { k with lost := true, closed := false, locked := false, withheld := 7,
                             tick := if k.locked then i.now else k.tick }).cloEvent i 2 0x3012
  else r

/-- LEAF_EVALUATION (R244). -/
def execLeafEvaluation (a : AxisId) (x : Int) (s : State) : Host.Outcome State Fault Refusal :=
  .next (s.live s.computes fun s => s.leafEvaluation a x)

/-- CLOSURE_LOST (R251). -/
def execClosureLost (d : DoorId) (s : State) : Host.Outcome State Fault Refusal :=
  .next (s.live true fun s => s.onDoor d DoorRun.closureLost)

/-- LEARN_RESET (R256): 1 written to DWn_CLOSURE_CTRL.LEARN_RESET. -/
def execLearnReset (r : Req) (d : DoorId) (s : State) : Host.Outcome State Fault Refusal :=
  .next (s.hostWrite r (0x3C01C + 0x20 * d.val) 1)

end Sys2Proof.Machine
end

