-- ==== Sys2Proof/Machine/Doors.lean ====
section
/-! DEFINITION. Meanings of the rows of the doorways (ch. 8): commands, inputs, releases, timers, jogs. An internal trigger sent
alone obeys R268 as one that the compute phase finds. -/

namespace Sys2Proof.Machine

/-- Base address of doorway d. -/
def doorBase (d : DoorId) : Nat := 0x100000 + 0x1000 * d.val

/-- An operation on a doorway of a running module. DESIGN CHOICE (log 7). -/
def State.onDoorway (s : State) (d : DoorId) (f : DoorRun → DoorIn → DoorRun) : State := s.live true fun s => s.onDoor d f

/-! ## Commands (R262, R263, R285) -/

/-- DOORWAY_OPEN (R262): DWn_CMD.OPEN. -/
def execDoorwayOpen (r : Req) (d : DoorId) (s : State) : Host.Outcome State Fault Refusal := .next (s.hostWrite r (doorBase d + 0x40) 1)

/-- DOORWAY_CLOSE (R262): DWn_CMD.CLOSE. -/
def execDoorwayClose (r : Req) (d : DoorId) (s : State) : Host.Outcome State Fault Refusal := .next (s.hostWrite r (doorBase d + 0x40) 2)

/-- DOORWAY_HOME (R278): DWn_CMD.HOME. -/
def execDoorwayHome (r : Req) (d : DoorId) (s : State) : Host.Outcome State Fault Refusal := .next (s.hostWrite r (doorBase d + 0x40) 4)

/-- DOOR_RESET (R266): DWn_CMD.DOOR_RESET. -/
def execDoorReset (r : Req) (d : DoorId) (s : State) : Host.Outcome State Fault Refusal := .next (s.hostWrite r (doorBase d + 0x40) 8)

/-- OPEN_LEFT (R285). -/
def execOpenLeft (r : Req) (s : State) : Host.Outcome State Fault Refusal := .next (s.hostWrite r 0x200 1)

/-- OPEN_RIGHT (R285). -/
def execOpenRight (r : Req) (s : State) : Host.Outcome State Fault Refusal := .next (s.hostWrite r 0x200 2)

/-- CLOSE_LEFT (R285). -/
def execCloseLeft (r : Req) (s : State) : Host.Outcome State Fault Refusal := .next (s.hostWrite r 0x200 4)

/-- CLOSE_RIGHT (R285). -/
def execCloseRight (r : Req) (s : State) : Host.Outcome State Fault Refusal := .next (s.hostWrite r 0x200 8)

/-- ANNOUNCE_HOLD (R273). -/
def execAnnounceHold (r : Req) (d : DoorId) (ms : Word) (s : State) : Host.Outcome State Fault Refusal :=
  .next (s.hostWrite r (doorBase d + 0x44) ms)

/-- CHIME (R274). -/
def execChime (r : Req) (d : DoorId) (value : Word) (s : State) : Host.Outcome State Fault Refusal :=
  .next (s.hostWrite r (doorBase d + 0x48) value)

/-- JOG_GO (R281): the word written has GO set. -/
def execJogGo (r : Req) (d : DoorId) (value : Word) (s : State) : Host.Outcome State Fault Refusal :=
  .next (s.hostWrite r (doorBase d + 0x50) (value ||| 0x10))

/-- JOG_STOP (R282). -/
def execJogStop (r : Req) (d : DoorId) (s : State) : Host.Outcome State Fault Refusal := .next (s.hostWrite r (doorBase d + 0x50) 0x20)

/-! ## Inputs (R262, R266, R275) -/

/-- A field names an input (R260). -/
def State.named (s : State) (f k : Nat) : Bool := s.cfg.eff.n f k != 0xFF

/-- A side's input gives its command to every used doorway of the side (R262). -/
def State.sideInput (s : State) (right opening : Bool) : State :=
  let k := if right then 1 else 0
  s.live (s.named (if opening then F.sideOpenInput else F.sideCloseInput) k) fun s => s.sideCommand right opening

/-- Input k of a doorway, in the order of DWn_INPUTS, as it now reads. DESIGN CHOICE (log 9). -/
def DoorRun.sees (r : DoorRun) (k : Nat) (on : Bool) : DoorRun :=
  r.upd fun w => { w with active := if on then w.active ||| (1#7 <<< k) else w.active &&& ~~~(1#7 <<< k) }

/-- SIDE_OPEN_INPUT (R262). -/
def execSideOpenInput (right : Bool) (s : State) : Host.Outcome State Fault Refusal := .next (s.sideInput right true)

/-- SIDE_CLOSE_INPUT (R262). -/
def execSideCloseInput (right : Bool) (s : State) : Host.Outcome State Fault Refusal := .next (s.sideInput right false)

/-- BUTTON_PRESS (R262): a rising edge. -/
def execButtonPress (d : DoorId) (outside : Bool) (s : State) : Host.Outcome State Fault Refusal :=
  .next (s.live (s.named (if outside then F.buttonOut else F.buttonIn) d.val) fun s =>
    s.onDoor d fun r i =>
      let k := if outside then 6 else 5
      if r.door.active.getLsbD k then r else (r.sees k true).button i)

/-- ISOLATION_ON (R266): an internal trigger that a jog does not hold up. -/
def execIsolationOn (d : DoorId) (s : State) : Host.Outcome State Fault Refusal :=
  .next (s.live (s.named F.isolatedInput d.val) fun s =>
    s.onDoor d fun r i =>
      let r := r.sees 2 true
      if r.door.moved || r.door.st == DoorState.isolated || r.door.stuck then r else (r.enterIsolated i).byEvent)

/-- ISOLATION_OFF (R266). -/
def execIsolationOff (d : DoorId) (s : State) : Host.Outcome State Fault Refusal :=
  .next (s.live (s.named F.isolatedInput d.val) fun s =>
    s.onDoor d fun r i =>
      let r := r.sees 2 false
      if r.door.moved || r.door.st != DoorState.isolated then r else (r.enterUnhomed i true).byEvent)

/-- DOOR_EGRESS (R275): the egress pair becomes active. -/
def execDoorEgress (d : DoorId) (s : State) : Host.Outcome State Fault Refusal :=
  .next (s.live (s.named F.egressPair d.val) fun s =>
    s.onDoor d fun r i => if r.door.active.getLsbD 4 then r else (r.sees 4 true).egressActive { i with active := i.active ||| 16#7 })

/-- EGRESS_CLEARED (R275). -/
def execEgressCleared (d : DoorId) (s : State) : Host.Outcome State Fault Refusal :=
  .next (s.live (s.named F.egressPair d.val) fun s =>
    s.onDoor d fun r i => if r.door.active.getLsbD 4 then (r.sees 4 false).egressInactive i else r)

/-! ## Release and zero speed (R266, R276, R305) -/

/-- A doorway sees its release and zero speed as they now are (R266). -/
def DoorRun.seesRelease (r : DoorRun) (i : DoorIn) : DoorRun :=
  let r := if i.side && i.zero then r else r.releaseLost i
  r.upd fun w => { w with release := i.side && i.zero }

/-- Signals of the release are gone (R305): the doorways that needed them, and MAINTENANCE without zero speed (R79). DEDUCED (log 41). -/
def State.releaseLost (s : State) (gone : BitVec 3) : State :=
  let s := { s with il := { s.il with release := s.il.release &&& ~~~gone } }
  let s := s.onDoors (fun _ => true) DoorRun.seesRelease
  if s.zeroSpeed then s else s.leaveMaintenance

/-- Zero speed is present: the deferred egress unlocks (R276). -/
def State.zeroSpeedPresent (s : State) : State :=
  let s := { s with il := { s.il with release := s.il.release ||| 4#3 } }
  s.onDoors (fun _ => true) fun r i =>
    let r := r.upd fun w => { w with release := i.side && i.zero }
    r.trigger fun r => if r.door.st == DoorState.egress && r.door.egress == EgressStage.wait then r.egressUnlock i else r

/-- RELEASE_LOST (R305): the signals are formed in every unit state (R82). DEDUCED (log 52). -/
def execReleaseLost (gone : BitVec 3) (s : State) : Host.Outcome State Fault Refusal :=
  .next (s.live true fun s => s.releaseLost gone)

/-- ZERO_SPEED_PRESENT (R276). -/
def execZeroSpeedPresent (s : State) : Host.Outcome State Fault Refusal :=
  .next (s.live true State.zeroSpeedPresent)

/-! ## Timers (R266, R271 to R274, R282) -/

/-- AUTO_CLOSE_MS has passed in OPEN (R266); 0 switches it off. DEDUCED (log 67). -/
def DoorRun.autoClose (r : DoorRun) (i : DoorIn) : DoorRun :=
  if r.door.st == DoorState.opened && i.cfg.n F.autoCloseMs i.d != 0 then r.enterWarning i else r

/-- REOPEN_PAUSE_MS has passed in REOPENING, or in OPENING after an obstacle (R271). -/
def DoorRun.reopenPause (r : DoorRun) (i : DoorIn) : DoorRun :=
  if r.door.st == DoorState.reopening && r.door.timer.isSome then r.pauseEnd i
  else if r.door.st == DoorState.opening && r.door.retry && r.door.timer.isSome then r.openRetry i
  else r

/-- STEP_RETRY_MS has passed in STEP_IN (R271). -/
def DoorRun.stepPause (r : DoorRun) (i : DoorIn) : DoorRun :=
  if r.door.st == DoorState.stepIn && r.door.retry && r.door.timer.isSome then r.stepRetry i else r

/-- LOCK_CONFIRM_MS has passed in LOCKING (R266). -/
def DoorRun.lockPause (r : DoorRun) (i : DoorIn) : DoorRun :=
  if r.door.st == DoorState.locking && r.door.timer.isSome && !r.door.clo.locked then r.lockUnconfirmed i else r

/-- AUTO_CLOSE_EXPIRY (R266). -/
def execAutoCloseExpiry (d : DoorId) (s : State) : Host.Outcome State Fault Refusal :=
  .next (s.onDoorway d fun r i => r.trigger fun r => r.autoClose i)

/-- WARNING_END (R272). -/
def execWarningEnd (d : DoorId) (s : State) : Host.Outcome State Fault Refusal :=
  .next (s.onDoorway d fun r i => r.trigger fun r => if r.door.st == DoorState.warning then r.warningEnd i else r)

/-- REOPEN_PAUSE_EXPIRY (R271). -/
def execReopenPauseExpiry (d : DoorId) (s : State) : Host.Outcome State Fault Refusal :=
  .next (s.onDoorway d fun r i => r.trigger fun r => r.reopenPause i)

/-- STEP_RETRY_EXPIRY (R271). -/
def execStepRetryExpiry (d : DoorId) (s : State) : Host.Outcome State Fault Refusal :=
  .next (s.onDoorway d fun r i => r.trigger fun r => r.stepPause i)

/-- LOCK_CONFIRM_EXPIRY (R266). -/
def execLockConfirmExpiry (d : DoorId) (s : State) : Host.Outcome State Fault Refusal :=
  .next (s.onDoorway d fun r i => r.trigger fun r => r.lockPause i)

/-- CHIME_END (R274). -/
def execChimeEnd (d : DoorId) (s : State) : Host.Outcome State Fault Refusal :=
  .next (s.onDoorway d fun r _ => r.upd fun w => { w with chime := none })

/-- JOG_TIMEOUT (R282). -/
def execJogTimeout (d : DoorId) (s : State) : Host.Outcome State Fault Refusal := .next (s.onDoorway d fun r i => r.jogEnd i)

end Sys2Proof.Machine
end

