-- ==== Sys2Proof/Machine/Fields.lean ====
section
/-! DEFINITION. Meanings of the rows of field channels, load switches, the field supply and the analogue inputs (ch. 10, R31). -/

namespace Sys2Proof.Machine

/-- An operation of field I/O on a running module, where the field I/O as it stands admits it. DESIGN CHOICE (log 7). -/
def State.onField (s : State) (admits : FieldIo → Bool) (f : IoRun → IoRun) : State := s.live (admits s.io) fun s => s.onIo f

/-! ## Channels -/

/-- QUAD_ERROR (R327). -/
def execQuadError (c : ChanId) (s : State) : Host.Outcome State Fault Refusal :=
  .next (s.onField (fun _ => true) fun r => r.quadError s.cfg.eff c)

/-- FIELD_COUNT_EDGE (R327 to R329): `onTrackC` an edge of channel c, else of c + 1; `rise` a rising edge; `second` the level of
c + 1; `lead` whether c leads; `time` in 100 ns since the start. -/
def execFieldCountEdge (c : ChanId) (onTrackC rise second lead : Bool) (time : Nat) (s : State) : Host.Outcome State Fault Refusal :=
  .next (s.onField (fun _ => true) fun r => r.countEdge s.cfg.eff c onTrackC rise second lead time)

/-! ## Supervision of outputs (R331). An output is numbered as R261 does: 0 to 15 a load switch, 16 to 79 a field output. -/

/-- What an output number names, each with its operation. -/
def IoRun.onOutput (r : IoRun) (out : Fin 80) (onLoad : IoRun → LoadId → IoRun) (onChan : IoRun → ChanId → IoRun) : IoRun :=
  match finOf 16 out.val with
  | some l => onLoad r l
  | none =>
    match finOf 64 (out.val - 16) with
    | some c => onChan r c
    | none => r

/-- SHORT (R331): the output is driven. -/
def IoRun.shortEvent (r : IoRun) (c : Cfg) (now : Tick) (out : Fin 80) : IoRun :=
  r.onOutput out (fun r l => if (r.io.ls[l]).driving then r.lsShort c now l else r)
    (fun r ch => if c.mode ch.val == 1 && (r.io.ch[ch]).driving then r.chanShort now ch else r)

/-- READBACK (R331): the output is commanded on, outside its ramp and blanking window. -/
def IoRun.readbackEvent (r : IoRun) (c : Cfg) (now : Tick) (out : Fin 80) : IoRun :=
  r.onOutput out
    (fun r l => if (r.io.ls[l]).st == LsState.on && (r.io.ls[l]).cmd && (r.io.ls[l]).blank == 0 then r.lsReadback c now l else r)
    (fun r ch => if c.mode ch.val == 1 && (r.io.ch[ch]).driving && (r.io.ch[ch]).cmd then r.chanReadback now ch else r)

/-- STUCK_ON (R331): reported only. -/
def IoRun.stuckEvent (r : IoRun) (c : Cfg) (out : Fin 80) : IoRun :=
  r.onOutput out
    (fun r l =>
      if (r.io.ls[l]).cmd || (r.io.ls[l]).driving then r
      else (r.sw l fun x => { x with internalOn := true, stuckRun := 3 }).swEvent l 6 0x4303)
    (fun r ch =>
      if c.mode ch.val != 1 || (r.io.ch[ch]).cmd || (r.io.ch[ch]).driving then r
      else (r.chan ch fun x => { x with internalOn := true, stuckRun := 3 }).chanEvent ch 2 0x4303 true)

/-- EXT_DRIVEN (R331): on a paired output only EXT_SEEN. -/
def IoRun.extEvent (r : IoRun) (c : Cfg) (out : Fin 80) : IoRun :=
  r.onOutput out
    (fun r l =>
      if (r.io.ls[l]).cmd || (r.io.ls[l]).driving then r
      else
        let r := r.sw l fun x => { x with extSeen := true, extRun := 2001 }
        if c.n F.lsPaired l.val == 1 then r else r.swEvent l 5 0x4304)
    (fun r ch =>
      if c.mode ch.val != 1 || (r.io.ch[ch]).cmd || (r.io.ch[ch]).driving then r
      else
        let r := r.chan ch fun x => { x with extSeen := true, extRun := 2001 }
        if c.n F.fcPaired ch.val == 1 then r else r.chanEvent ch 3 0x4304 true)

/-- SHORT (R331): the checks are suspended while the field supply is invalid. -/
def execShort (out : Fin 80) (s : State) : Host.Outcome State Fault Refusal :=
  .next (s.onField (fun io => !io.sup.invalid) fun r => r.shortEvent s.cfg.eff s.tick out)

/-- READBACK (R331). -/
def execReadback (out : Fin 80) (s : State) : Host.Outcome State Fault Refusal :=
  .next (s.onField (fun io => !io.sup.invalid) fun r => r.readbackEvent s.cfg.eff s.tick out)

/-- STUCK_ON (R331). -/
def execStuckOn (out : Fin 80) (s : State) : Host.Outcome State Fault Refusal :=
  .next (s.onField (fun io => !io.sup.invalid) fun r => r.stuckEvent s.cfg.eff out)

/-- EXT_DRIVEN (R331). -/
def execExtDriven (out : Fin 80) (s : State) : Host.Outcome State Fault Refusal :=
  .next (s.onField (fun io => !io.sup.invalid) fun r => r.extEvent s.cfg.eff out)

/-! ## Load switches (R332 to R338) -/

/-- OVERLOAD (R334): the channel is on outside its blanking window, whatever the field supply. -/
def execOverload (l : LoadId) (s : State) : Host.Outcome State Fault Refusal :=
  .next (s.onField (fun io => (io.ls[l]).st == LsState.on && (io.ls[l]).blank == 0) fun r =>
    r.lsOverload s.cfg.eff s.tick l)

/-- LS_THERMAL_WARN (R332). -/
def execLsThermalWarn (l : LoadId) (s : State) : Host.Outcome State Fault Refusal :=
  .next (s.onField (fun io => !(io.ls[l]).thermWarn) fun r => r.lsThermalWarn l)

/-- LS_THERMAL_SHUTDOWN (R336). -/
def execLsThermalShutdown (l : LoadId) (s : State) : Host.Outcome State Fault Refusal :=
  .next (s.onField (fun io => !(io.ls[l]).latch) fun r => r.lsThermal s.cfg.eff s.tick l)

/-- RETRY_SLOT (R335, R336, R338): a slot is pending; one that outputs dropped or awaiting restore hold is taken in the turn. -/
def execRetrySlot (l : LoadId) (s : State) : Host.Outcome State Fault Refusal :=
  .next (s.onField (fun io => (io.ls[l]).slot.isSome && turnPassed io.sup l.val) fun r =>
    r.sw l fun x => x.atSlot (s.cfg.eff.n F.lsRetryMs l.val) (s.cfg.eff.n F.lsInrushMs l.val) (decide (r.io.iGrp < r.io.sum)) s.tick)

/-- RETRIES_CLEARED (R335): the channel is on, outside its ramp. -/
def execRetriesCleared (l : LoadId) (s : State) : Host.Outcome State Fault Refusal :=
  .next (s.onField (fun io => (io.ls[l]).st == LsState.on) fun r => r.sw l (·.retriesCleared))

/-- FIELD_OUTPUT_RETRY (R330). -/
def execFieldOutputRetry (c : ChanId) (s : State) : Host.Outcome State Fault Refusal :=
  .next (s.onField (fun io => turnPassed io.sup (c.val + 16)) fun r => r.chan c (·.retryNow))

/-- CLEAR_LOCKOUT (R335, R344): Ln_CTRL bit 0 is written. -/
def execClearLockout (r : Req) (l : LoadId) (s : State) : Host.Outcome State Fault Refusal :=
  .next (s.hostWrite r (0x6001C + 0x20 * l.val) 1)

/-- LS_GROUP_SHED (R337): the sum is above the group limit. -/
def execLsGroupShed (s : State) : Host.Outcome State Fault Refusal :=
  .next (s.onField (fun io => decide (io.iGrp < io.sum)) fun r =>
    match shedPick r.io with
    | none => r
    | some l => r.lsShed s.cfg.eff s.tick l)

/-- LS_BLANKING_END (R333). -/
def execLsBlankingEnd (l : LoadId) (s : State) : Host.Outcome State Fault Refusal :=
  .next (s.onField (fun io => (io.ls[l]).driving) fun r => r.sw l fun x => { x with blank := 0 })

/-- LIMIT_RECOMPUTE (R334). -/
def execLimitRecompute (s : State) : Host.Outcome State Fault Refusal :=
  .next (s.onField (fun _ => true) fun r => r.limits s.cfg.eff s.unit.variantT0 s.panel.housingT.toInt)

/-! ## The field supply (R341, R342) -/

/-- FIELD_LOW (R341). -/
def execFieldLow (s : State) : Host.Outcome State Fault Refusal :=
  .next (s.onField (fun io => !io.sup.low) fun r => (r.sup fun u => { u with low := true, lowRun := 0 }).supEvent 0 0x0010)

/-- FIELD_LOW_CLEAR (R341). -/
def execFieldLowClear (s : State) : Host.Outcome State Fault Refusal :=
  .next (s.onField (fun io => io.sup.low) fun r => r.sup fun u => { u with low := false, lowRun := 0 })

/-- FIELD_INVALID (R341): BOLT is withdrawn at 40.00 µs of the tick in progress (R289, R296). DEDUCED (log 57). -/
def execFieldInvalid (s : State) : Host.Outcome State Fault Refusal := .next (s.onField (fun io => !io.sup.invalid) IoRun.fieldInvalid)

/-- FIELD_RESTORED (R341). -/
def execFieldRestored (s : State) : Host.Outcome State Fault Refusal := .next (s.onField (fun io => io.sup.invalid) IoRun.fieldRestored)

/-- OUTPUTS_DROPPED (R341). -/
def execOutputsDropped (s : State) : Host.Outcome State Fault Refusal :=
  .next (s.onField (fun io => !io.sup.dropped) IoRun.outputsDropped)

/-- RESTORE_SEQUENCE_START (R341, R342). -/
def execRestoreSequenceStart (s : State) : Host.Outcome State Fault Refusal :=
  .next (s.onField (fun io => io.sup.dropped) fun r => r.restoreStart s.tick)

/-- RESTORE_TURN (R342). -/
def execRestoreTurn (s : State) : Host.Outcome State Fault Refusal :=
  .next (s.onField (fun io => !io.sup.dropped) fun r => r.restoreTurn s.cfg.eff s.tick)

/-- FIELD_HIGH (R341). -/
def execFieldHigh (s : State) : Host.Outcome State Fault Refusal :=
  .next (s.onField (fun io => !io.sup.high) fun r => (r.sup fun u => { u with high := true, highRun := 0 }).supEvent 4 0x0014)

/-- FIELD_HIGH_CLEAR (R341). -/
def execFieldHighClear (s : State) : Host.Outcome State Fault Refusal :=
  .next (s.onField (fun io => io.sup.high) fun r => r.sup fun u => { u with high := false, highRun := 0 })

/-! ## Sensor supplies and analogue inputs (R31, R340) -/

/-- SENSOR_SUPPLY_TRIP (R31). -/
def execSensorSupplyTrip (k : Fin 2) (s : State) : Host.Outcome State Fault Refusal :=
  .next (s.onField (fun io => !io.snsOff.getLsbD k.val) fun r => r.sensorTrip s.tick k)

/-- SENSOR_SUPPLY_RETRY (R31). -/
def execSensorSupplyRetry (k : Fin 2) (s : State) : Host.Outcome State Fault Refusal :=
  .next (s.onField (fun io => io.snsOff.getLsbD k.val) fun r => r.sensorRetry k)

/-- AN_SHUNT_OFF (R340): a CURRENT input with its shunt connected. -/
def execAnShuntOff (n : AnId) (s : State) : Host.Outcome State Fault Refusal :=
  .next (s.onField (fun io => s.cfg.eff.n F.anMode n.val == 1 && !(io.an[n]).shuntOff) fun r => r.shuntOff s.tick n)

/-- AN_SHUNT_RETRY (R340). -/
def execAnShuntRetry (n : AnId) (s : State) : Host.Outcome State Fault Refusal :=
  .next (s.onField (fun io => (io.an[n]).shuntOff) fun r => r.shuntRetry n)

/-- AN_SUPPLY_TRIP (R340). -/
def execAnSupplyTrip (s : State) : Host.Outcome State Fault Refusal :=
  .next (s.onField (fun io => !io.anSupOff) fun r => r.anSupplyTrip s.tick)

/-- AN_SUPPLY_RETRY (R340). -/
def execAnSupplyRetry (s : State) : Host.Outcome State Fault Refusal := .next (s.onField (fun io => io.anSupOff) IoRun.anSupplyRetry)

end Sys2Proof.Machine
end

