-- ==== Sys2Proof/Machine/Links.lean ====
section
/-! DEFINITION. Meanings of the rows of the knuckle links (ch. 4). -/

namespace Sys2Proof.Machine

/-- An operation on a port of a running module. -/
def State.onLink (s : State) (k : PortId) (f : LinkRun → LinkIn → LinkRun) : State := s.live true fun s => s.portEvent k f

/-- Bytes filled up to a length. -/
def fillTo (n : Nat) (bs : List Byte) : List Byte := bs.take n ++ List.replicate (n - bs.length) 0

/-- A bulk operation of the stage arrives alone (R145): the port takes part in discovery. -/
def State.bulkEvent (s : State) (k : PortId) (f : LinkRun → LinkIn → LinkRun) : State :=
  s.onLink k fun r i => if i.stage && i.sending then f r i else r

/-- A parity error of the receive queue makes the frame one that fails its CRC (R443). DEDUCED (log 34). -/
def State.frameParity (s : State) (f : WireFrame) : State := if f.parity then s.parityError 0 else s

/-- The STANDBY's echo check of a whole frame just taken (R379). -/
def State.standbyEcho (s : State) (k : PortId) (was : Bool) : State :=
  if s.standby && !was && (s.ports[k]).whole && (s.ports[k]).shadowEcho == some false then s.onHinge fun r i => r.echoFailed i k.val
  else s

/-- An upstream frame (R131, R135, R141, R379). DEDUCED (log 47). -/
def State.upstreamFrame (s : State) (k : PortId) (f : WireFrame) : State :=
  let was := (s.ports[k]).whole
  let s := (s.frameParity f).portEvent k fun r i => r.upstream i f.payload f.crc (f.lineOk && !f.parity) f.late
  s.standbyEcho k was

/-- Code-group sync of a receiver (R130). -/
def State.linkSync (s : State) (k : LinkId) (on : Bool) : State :=
  match k with
  | .port k => { s with ports := vmod s.ports k fun p => { p with sync := on } }
  | .pin => { s with hinge := { s.hinge with sync := on } }

/-- UPSTREAM_FRAME (R135). -/
def execUpstreamFrame (k : PortId) (f : WireFrame) (s : State) : Host.Outcome State Fault Refusal :=
  .next (s.live true fun s => s.upstreamFrame k f)

/-- RESEND_REQUEST (R141). -/
def execResendRequest (k : PortId) (s : State) : Host.Outcome State Fault Refusal := .next (s.onLink k fun r i => r.request i)

/-- UPSTREAM_RESEND_FRAME (R138). -/
def execUpstreamResendFrame (k : PortId) (f : WireFrame) (s : State) : Host.Outcome State Fault Refusal :=
  .next (s.live true fun s =>
    (s.frameParity f).portEvent k fun r i => r.resendFrame i f.payload f.crc (f.lineOk && !f.parity) f.late)

/-- MISSED_TICK (R68, R141, R142): in the third one running a READY port is lost. -/
def execMissedTick (k : PortId) (s : State) : Host.Outcome State Fault Refusal :=
  .next (s.onLink k fun r i => (r.missed i).lostCheck i)

/-- NAK_RECEIVED (R141). DEDUCED (log 6). -/
def execNakReceived (k : PortId) (s : State) : Host.Outcome State Fault Refusal := .next (s.onLink k fun r _ => r.nak)

/-- DOWNSTREAM_RESEND (R141, R443). DEDUCED (log 6). -/
def execDownstreamResend (k : PortId) (copyGood : Bool) (s : State) : Host.Outcome State Fault Refusal :=
  .next ((if copyGood then s else s.live s.cfg.loaded fun s => s.parityError 1).onLink k fun r _ => r.resend copyGood)

/-- LINK_LOST (R142). -/
def execLinkLost (k : PortId) (s : State) : Host.Outcome State Fault Refusal :=
  .next (s.onLink k fun r i => if i.sending && r.p.st == PortState.ready then r.lose i else r)

/-- LINK_RESTORED (R143): after 20 good ticks the identity is read again; its last page or parameter takes the port to READY or
MISMATCH and raises the event. POS_RETAINED counts as read only in the good ticks that were seen, the tick in progress among them. DEDUCED (log 47). -/
def execLinkRestored (k : PortId) (s : State) : Host.Outcome State Fault Refusal :=
  .next (s.onLink k fun r i =>
    if i.sending && r.p.st == PortState.lost && !r.p.restoring then
      ((r.goodTick i).upd fun p => { p with goodRun := 20, retained := p.retained && decide (20 ≤ p.goodRun) }).restore i
    else r)

/-- STAGE_UNEXPECTED (R150). -/
def execStageUnexpected (k : PortId) (s : State) : Host.Outcome State Fault Refusal :=
  .next (s.live s.cfg.loaded fun s => s.onPort k fun r i => if i.stage then r else (r.upd fun p => { p with sync := true }).unexpected i)

/-- IDENT_PAGE (R146). -/
def execIdentPage (k : PortId) (page : Nat) (data : List Byte) (s : State) : Host.Outcome State Fault Refusal :=
  .next (s.bulkEvent k fun r i => r.identPage i page data)

/-- PARAM_VALUE (R150). DEDUCED (log 47). -/
def execParamValue (k : PortId) (index : Nat) (value : BitVec 64) (s : State) : Host.Outcome State Fault Refusal :=
  .next (s.bulkEvent k fun r i => r.paramValue i index value)

/-- PARAM_REFUSED (R150). -/
def execParamRefused (k : PortId) (index reason : Nat) (s : State) : Host.Outcome State Fault Refusal :=
  .next (s.bulkEvent k fun r i => r.paramRefused i index reason)

/-- FAULT_REPORT (R145). -/
def execFaultReport (k : PortId) (data : List Byte) (s : State) : Host.Outcome State Fault Refusal :=
  .next (s.bulkEvent k fun r i => r.bulkOp i 0x84 (fillTo 10 data))

/-- PARAM_WRITE_TIMEOUT (R150). -/
def execParamWriteTimeout (k : PortId) (s : State) : Host.Outcome State Fault Refusal :=
  .next (s.bulkEvent k fun r i => r.paramTimeout i)

/-- DISCOVER_TIMEOUT (R149). -/
def execDiscoverTimeout (s : State) : Host.Outcome State Fault Refusal := .next (s.live true State.discoverTimeout)

/-- REDISCOVER (R157): 1 written to Kn_CTRL. -/
def execRediscover (r : Req) (k : PortId) (s : State) : Host.Outcome State Fault Refusal :=
  .next (s.hostWrite r (0x300048 + 0x100 * k.val) 1)

/-- CODE_GROUP_SYNC_GAINED (R130). -/
def execCodeGroupSyncGained (k : LinkId) (s : State) : Host.Outcome State Fault Refusal := .next (s.live true fun s => s.linkSync k true)

/-- CODE_GROUP_SYNC_LOST (R130). -/
def execCodeGroupSyncLost (k : LinkId) (s : State) : Host.Outcome State Fault Refusal := .next (s.live true fun s => s.linkSync k false)

end Sys2Proof.Machine
end

