-- ==== Sys2Proof/Machine/Logs.lean ====
section
/-! DEFINITION. Meanings of the rows of the cycle recorder (ch. 13). -/

namespace Sys2Proof.Machine

/-- LOG_SEAL_EXPIRY (R413): the open page has held data for LOG_SEAL_MS; a page that fills in that tick has been sealed once (R428). -/
def execLogSealExpiry (s : State) : Host.Outcome State Fault Refusal :=
  .next (s.live s.sealDue fun s => { s with recorder := s.recorder.seal s.panel.holdup })

/-- SEAL: REC_CTRL bit 0 is written (R413, R430). -/
def execSealPage (r : Req) (s : State) : Host.Outcome State Fault Refusal := .next (s.hostWrite r 0x70050 1)

/-- The commit engine runs: the log is mounted, and the module is powered, be it stopped for RESET or RESTART (R55, R414). DESIGN CHOICE (log 14). DEDUCED (log 45). -/
def State.commits (s : State) : Bool :=
  (s.unit.running || s.unit.cause == StartCause.reset || s.unit.cause == StartCause.restart) &&
    s.recorder.st != RecState.mounting && s.recorder.st != RecState.fault

/-- The oldest sealed page, or the LOG_FULL page, is committed (R414, R415, R423, R425, R427). DEDUCED (log 45). -/
def State.pageCommit (s : State) (ok : Bool) (parity : Option (List Byte)) : State :=
  if s.commits then
    let s := if parity.isSome && !s.recorder.sealedPages.isEmpty then s.parityError 7 else s
    ((s.onRec fun r i => r.commit i ok parity s.panel.holdup).eraseCounted).flushOpen
  else s

/-- PAGE_COMMIT (R414): `ok` tells that the programs succeed, `parity` gives the record bytes as read where the page is read with a
parity error (R417). -/
def execPageCommit (ok : Bool) (parity : Option (List Byte)) (s : State) : Host.Outcome State Fault Refusal := .next (s.pageCommit ok parity)

/-- LOG_READ (R426). -/
def execLogRead (r : Req) (first count : Nat) (pages : List PageRead) (s : State) : Host.Outcome State Fault Refusal :=
  .next (s.serve r .logRead (.logRead first count pages) fun x s => s.doLogRead x first count pages)

/-- LOG_ERASE (R427). -/
def execLogErase (r : Req) (seq : Nat) (chain : List Byte) (s : State) : Host.Outcome State Fault Refusal :=
  .next (s.serve r .other (.logErase seq chain) fun x s => s.doLogErase r.sess x seq chain)

/-- LOG_BLOCK_ERASED (R423, R427): `bad` is the reason that retires the block, 1 factory mark or 2 erase failure. -/
def execLogBlockErased (b : Nat) (bad : Option Nat) (s : State) : Host.Outcome State Fault Refusal :=
  .next (s.live true fun s => s.onRec fun r i => r.blockErased i b bad)

/-- ERASE_COMPLETE (R427). -/
def execEraseComplete (s : State) : Host.Outcome State Fault Refusal :=
  .next (s.live (s.recorder.st == RecState.erasing) fun s => s.onRec fun r i => r.eraseRest i)

end Sys2Proof.Machine
end

