-- ==== Sys2Proof/Machine/Network.lean ====
section
/-! DEFINITION. Meanings of the rows of the network and the census (ch. 15). -/

namespace Sys2Proof.Machine

/-- DHCP_LEASE (R449). -/
def execDhcpLease (ip : Word) (prefixLen : BitVec 8) (s : State) : Host.Outcome State Fault Refusal := .next (s.leased ip prefixLen.toNat)

/-- DHCP_TIMEOUT (R449): the RFC 3927 address taken. -/
def execDhcpTimeout (ip : Word) (s : State) : Host.Outcome State Fault Refusal := .next (s.linkLocal ip)

/-- CENSUS_SEND (R468). -/
def execCensusSend (s : State) : Host.Outcome State Fault Refusal := .next s.censusSend

/-- CENSUS_RECEIVE (R469): the internal port is reachable. -/
def execCensusReceive (bytes : List Byte) (s : State) : Host.Outcome State Fault Refusal :=
  .next (s.live s.reachable fun s => s.onNet fun n => n.receive bytes s.tick s.up)

/-- CENSUS_ENTRY_EXPIRY (R469). -/
def execCensusEntryExpiry (serial : Word) (s : State) : Host.Outcome State Fault Refusal :=
  .next (s.live true fun s => s.onNet fun n => n.expire fun e => e.serial == serial)

/-- ETH_LINK_CHANGE (R448). -/
def execEthLinkChange (e2 up : Bool) (s : State) : Host.Outcome State Fault Refusal :=
  .next (s.live true fun s => s.onNet fun n => n.setLink e2 up)

end Sys2Proof.Machine
end

