-- ==== Sys2Proof/Machine/Pairs.lean ====
section
/-! DEFINITION. Meanings of the rows of the hinge pair (ch. 12). -/

namespace Sys2Proof.Machine

/-- An operation of the hinge on a running module of a pair that sends on the pin link, which it does from DISCOVER onwards
(R372). -/
def State.onPair (s : State) (f : HingeRun → HingeIn → HingeRun) : State :=
  s.live (s.hingeIn.sends && s.unit.st != UnitState.boot && s.unit.st != UnitState.config) fun s => s.onHinge f

/-- HEARTBEAT_RECEIVED (R372, R373, R443). -/
def State.heartbeatIn (s : State) (f : WireFrame) : State :=
  let s := if f.parity then s.parityError 2 else s
  s.onPair fun r _ => r.received f.payload f.crc (f.lineOk && !f.parity)

/-- HEARTBEAT_RECEIVED (R373): a frame with a parity error in the receive queue is one that fails its CRC. DEDUCED (log 6). -/
def execHeartbeatReceived (f : WireFrame) (s : State) : Host.Outcome State Fault Refusal :=
  .next (s.live true fun s => s.heartbeatIn f)

/-- HEARTBEAT_NAK (R372). -/
def execHeartbeatNak (s : State) : Host.Outcome State Fault Refusal := .next (s.onPair fun r _ => r.nak)

/-- HEARTBEAT_RESEND (R372). -/
def execHeartbeatResend (s : State) : Host.Outcome State Fault Refusal := .next (s.onPair fun r _ => r.resend)

/-- COPY_FRAME (R380, R443). -/
def execCopyFrame (payload : List Byte) (fin : FrameEnd) (state : CopyState) (s : State) : Host.Outcome State Fault Refusal :=
  .next (s.live true fun s => (if fin.parity then s.parityError 2 else s).takeCopy payload fin state)

/-- PINLINK_LOST (R370, R376). -/
def execPinlinkLost (s : State) : Host.Outcome State Fault Refusal := .next (s.onPair fun r i => r.linkDown i)

/-- PINLINK_RESTORED (R376): 20 consecutive good heartbeats have arrived. DEDUCED (log 58). -/
def execPinlinkRestored (s : State) : Host.Outcome State Fault Refusal :=
  .next (s.onPair fun r _ =>
    if r.h.linkLost then (r.upd fun h => { h with silence := 0, goodRun := 20 }).linkBack else r)

/-- PAIR_WAIT_EXPIRY (R386, R449): the role settles by row 5 or 6; `answered` tells whether the probe for the static address
with k = 0 was answered. -/
def execPairWaitExpiry (answered : Bool) (s : State) : Host.Outcome State Fault Refusal :=
  .next (s.live true fun s => (s.onPair fun r i => r.pairWaitOver i).probeAddress answered)

/-- CLAIM_ROUND (R388): the first tick of a round, or its 40th where `last`. -/
def execClaimRound (last : Bool) (s : State) : Host.Outcome State Fault Refusal :=
  .next (s.onPair fun r i => if operating i.st then r.claimRound i (if last then 39 else 0) else r)

/-- CLAIM_CHECK (R388). -/
def execClaimCheck (s : State) : Host.Outcome State Fault Refusal := .next (s.onPair fun r i => r.claimCheck i)

/-- TAKEOVER (R389, R390). -/
def execTakeover (s : State) : Host.Outcome State Fault Refusal := .next (s.live s.hingeIn.pair State.takeover)

/-- LEASE_YIELDED (R391): a module that sends lease frames. -/
def execLeaseYielded (s : State) : Host.Outcome State Fault Refusal :=
  .next (s.live (s.hingeIn.pair && s.hinge.leases s.hingeIn) State.yieldLease)

end Sys2Proof.Machine
end

