-- ==== Sys2Proof/Machine/Requests.lean ====
section
/-! DEFINITION. Meanings of the rows that a host sends through Keyway (ch. 3, 5, 15), and of what follows them inside the
module: deferred effects, bittings, staging, sessions. A request is answered in the tick in progress; a row that names a
register is the write of that register. -/

namespace Sys2Proof.Machine

/-! ## Register access (R455) -/

/-- READ (R455). -/
def execRead (r : Req) (addr : Word) (s : State) : Host.Outcome State Fault Refusal :=
  .next (s.serve r .read (.read addr.toNat) fun x s => s.doRead r.sess x addr.toNat)

/-- READ_BLOCK (R455). -/
def execReadBlock (r : Req) (addr : Word) (count : Nat) (s : State) : Host.Outcome State Fault Refusal :=
  .next (s.serve r .read (.readBlock addr.toNat count) fun x s => s.doReadBlock r.sess x addr.toNat count)

/-- WRITE (R455). -/
def execWrite (r : Req) (addr value : Word) (s : State) : Host.Outcome State Fault Refusal := .next (s.hostWrite r addr.toNat value)

/-- WRITE_BLOCK (R455). -/
def execWriteBlock (r : Req) (addr : Word) (count : Nat) (values : List Word) (s : State) : Host.Outcome State Fault Refusal :=
  .next (s.serve r .write (.writeBlock addr.toNat count values) fun x s => s.doWriteBlock r x addr.toNat count values)

/-- APPLY (R117, R455). -/
def execApply (r : Req) (b : BlockReq) (s : State) : Host.Outcome State Fault Refusal :=
  .next (s.serve r .other (.apply b) fun x s => s.doApply r x b)

/-- CFG_APPLY (R117): 1 written to the block's APPLY register; nothing where no such block exists. DEDUCED (log 20). -/
def execCfgApply (r : Req) (b : BlockReq) (s : State) : Host.Outcome State Fault Refusal :=
  .next (match b.block? with
    | none => s
    | some b => s.hostWrite r b.applyAddr 1)

/-- TABLE_ENTRY_WRITE (R61): a word of the friction or the cogging window. -/
def execTableEntryWrite (r : Req) (a : AxisId) (cogging : Bool) (entry : Nat) (value : Word) (s : State) : Host.Outcome State Fault Refusal :=
  .next (s.hostWrite r (0x200800 + 0x1000 * a.val + (if cogging then 0x400 else 0) + 4 * (entry % 256)) value)

/-- TRACE_ARM (R188). -/
def execTraceArm (r : Req) (s : State) : Host.Outcome State Fault Refusal := .next (s.hostWrite r 0x400000 1)

/-- TRACE_STOP (R188). -/
def execTraceStop (r : Req) (s : State) : Host.Outcome State Fault Refusal := .next (s.hostWrite r 0x400000 4)

/-- TRACE_FORCE (R189). -/
def execTraceForce (r : Req) (s : State) : Host.Outcome State Fault Refusal := .next (s.hostWrite r 0x400000 2)

/-- TRACE_DONE (R188): the record of a triggered trace is complete. DEDUCED (log 62). -/
def execTraceDone (s : State) : Host.Outcome State Fault Refusal :=
  .next (s.live (operating s.unit.st) fun s => { s with trace := s.trace.finish })

/-- DEFERRED_EFFECT (R63): what the tick before has left for step 1 takes effect. DEDUCED (log 11). -/
def execDeferredEffect (s : State) : Host.Outcome State Fault Refusal := .next (s.live true State.boundary)

/-- BITTINGS_RECOMPUTED (R123). -/
def execBittingsRecomputed (s : State) : Host.Outcome State Fault Refusal := .next (s.live s.cfg.loaded State.recomputeBits)

/-! ## Staging (R92, R93, R458, R467) -/

/-- IMAGE_STAGE_BEGIN (R458). -/
def execImageStageBegin (r : Req) (slot : BitVec 8) (len : Nat) (s : State) : Host.Outcome State Fault Refusal :=
  .next (s.serve r .image (.stageBegin false slot len) fun x s => s.stageBegin r.sess x false slot len)

/-- IMAGE_STAGE_DATA (R458). -/
def execImageStageData (r : Req) (offset : Nat) (data : List Byte) (s : State) : Host.Outcome State Fault Refusal :=
  .next (s.serve r .image (.stageData false offset data) fun x s => s.stageData r.sess x false offset data)

/-- IMAGE_STAGE_END (R458). -/
def execImageStageEnd (r : Req) (s : State) : Host.Outcome State Fault Refusal :=
  .next (s.serve r .image (.stageEnd false) fun x s => s.stageEnd r x false)

/-- IMAGE_STAGE_CANCEL (R458). -/
def execImageStageCancel (r : Req) (s : State) : Host.Outcome State Fault Refusal :=
  .next (s.serve r .image (.stageCancel false) fun x s => s.stageCancel r.sess x false)

/-- FW_STAGE_BEGIN (R458). -/
def execFwStageBegin (r : Req) (len : Nat) (s : State) : Host.Outcome State Fault Refusal :=
  .next (s.serve r .firmware (.stageBegin true 0 len) fun x s => s.stageBegin r.sess x true 0 len)

/-- FW_STAGE_DATA (R458). -/
def execFwStageData (r : Req) (offset : Nat) (data : List Byte) (s : State) : Host.Outcome State Fault Refusal :=
  .next (s.serve r .firmware (.stageData true offset data) fun x s => s.stageData r.sess x true offset data)

/-- FW_STAGE_END (R458). -/
def execFwStageEnd (r : Req) (s : State) : Host.Outcome State Fault Refusal :=
  .next (s.serve r .firmware (.stageEnd true) fun x s => s.stageEnd r x true)

/-- FW_STAGE_CANCEL (R458). -/
def execFwStageCancel (r : Req) (s : State) : Host.Outcome State Fault Refusal :=
  .next (s.serve r .firmware (.stageCancel true) fun x s => s.stageCancel r.sess x true)

/-- STAGE_WRITE_COMPLETE (R458): the NOR write of the staging that waits for it. -/
def execStageWriteComplete (fw : Bool) (s : State) : Host.Outcome State Fault Refusal := .next (s.live true fun s => s.stageWritten fw)

/-- DRY_RUN_COMPLETE (R93). -/
def execDryRunComplete (s : State) : Host.Outcome State Fault Refusal := .next (s.live true State.dryRunEnd)

/-- FW_STAGE_CHECK_COMPLETE (R467). -/
def execFwStageCheckComplete (s : State) : Host.Outcome State Fault Refusal := .next (s.live true State.fwChecked)

/-! ## Sessions and claims (R453, R460, R463, R464) -/

/-- SESSION_OPEN (R453): the handshake, which may also fail. -/
def execSessionOpen (h : Handshake) (s : State) : Host.Outcome State Fault Refusal := .next (s.handshake h)

/-- AUTH_BLOCK_EXPIRY (R453). -/
def execAuthBlockExpiry (peer : Word) (s : State) : Host.Outcome State Fault Refusal :=
  .next (s.live true fun s => { s with kw := { s.kw with blocked := s.kw.blocked.filter fun b => b.1 != peer } })

/-- SESSION_IDLE_TIMEOUT (R453): SESSION_IDLE_S = 0 switches the timeout off. -/
def execSessionIdleTimeout (i : SessId) (s : State) : Host.Outcome State Fault Refusal :=
  .next (s.live (decide (0 < s.cfg.eff.n F.sessionIdleS 0)) fun s => s.endSession i)

/-- SESSION_END (R460). -/
def execSessionEnd (i : SessId) (s : State) : Host.Outcome State Fault Refusal := .next (s.live true fun s => s.endSession i)

/-- CLAIM (R460). -/
def execClaim (r : Req) (b : BlockReq) (s : State) : Host.Outcome State Fault Refusal :=
  .next (s.serve r .claim (.claim b false) fun x s => s.doClaim r.sess x b false)

/-- FORCE_CLAIM (R460). -/
def execForceClaim (r : Req) (b : BlockReq) (s : State) : Host.Outcome State Fault Refusal :=
  .next (s.serve r .claim (.claim b true) fun x s => s.doClaim r.sess x b true)

/-- RELEASE (R460). -/
def execRelease (r : Req) (b : BlockReq) (s : State) : Host.Outcome State Fault Refusal :=
  .next (s.serve r .claim (.release b) fun _ s => s.doRelease r.sess b)

/-- SUBSCRIBE_SET (R463). -/
def execSubscribeSet (r : Req) (entries : List (Code × BitVec 8)) (s : State) : Host.Outcome State Fault Refusal :=
  .next (s.serve r .other (.subscribe false entries) fun x s => s.doSubscribe r.sess x false entries)

/-- SUBSCRIBE_ADD (R463). -/
def execSubscribeAdd (r : Req) (entries : List (Code × BitVec 8)) (s : State) : Host.Outcome State Fault Refusal :=
  .next (s.serve r .other (.subscribe true entries) fun x s => s.doSubscribe r.sess x true entries)

/-- SUBSCRIBE_CLEAR (R463). -/
def execSubscribeClear (r : Req) (s : State) : Host.Outcome State Fault Refusal :=
  .next (s.serve r .other (.subscribe false []) fun x s => s.doSubscribe r.sess x false [])

/-- SUBSCRIBE_ACK (R464). -/
def execSubscribeAck (r : Req) (seq : Word) (s : State) : Host.Outcome State Fault Refusal :=
  .next (s.serve r .other (.ack seq) fun _ s => s.doAck r.sess seq)

/-- KW_EVENT_ACK (R464). -/
def execKwEventAck (r : Req) (seq : Word) (s : State) : Host.Outcome State Fault Refusal := .next (s.hostWrite r 0x90300 seq)

/-! ## Commands (R459, R462) -/

/-- RESTART (R459). -/
def execRestart (r : Req) (s : State) : Host.Outcome State Fault Refusal :=
  .next (s.serve r .restart .restart fun x s => s.doRestart r.sess x)

/-- ENTER_MAINTENANCE (R79). -/
def execEnterMaintenance (r : Req) (s : State) : Host.Outcome State Fault Refusal :=
  .next (s.serve r .other (.maint 2) fun x s => s.doMaint r x 2)

/-- EXIT_MAINTENANCE (R83). -/
def execExitMaintenance (r : Req) (s : State) : Host.Outcome State Fault Refusal :=
  .next (s.serve r .other (.maint 3) fun x s => s.doMaint r x 3)

/-- ENROL (R462). -/
def execEnrol (r : Req) (index : BitVec 8) (cert sig : List Byte) (s : State) : Host.Outcome State Fault Refusal :=
  .next (s.serve r .enrol (.enrol index cert sig) fun x s => s.doEnrol r.sess x index cert sig)

/-- UNENROL (R462). -/
def execUnenrol (r : Req) (index : BitVec 8) (s : State) : Host.Outcome State Fault Refusal :=
  .next (s.serve r .unenrol (.unenrol index) fun x s => s.doUnenrol r.sess x index)

/-- ANCHOR (R409). -/
def execAnchor (r : Req) (utc : BitVec 64) (uncertainty : Word) (s : State) : Host.Outcome State Fault Refusal :=
  .next (s.serve r .other (.anchor utc uncertainty) fun x s => s.doAnchor r.sess x utc uncertainty)

end Sys2Proof.Machine
end

