-- ==== Sys2Proof/Machine/Store.lean ====
section
/-! DEFINITION. Meanings of the rows of memory integrity (ch. 14). -/

namespace Sys2Proof.Machine

/-- SRAM_BIT_FLIP (R433): the bits of a stored word, or of a spare word, that have changed in service. -/
def execSramBitFlip (word : Nat) (mask : BitVec 72) (s : State) : Host.Outcome State Fault Refusal :=
  .next (s.live (decide (word < passWords + 16)) fun s => { s with mem := s.mem.upset word mask })

/-- The remap table is saved to the secure element at each addition (R442). -/
def State.saveRemap (s : State) (before : Nat) : State :=
  if before < s.mem.remap.length then { s with se := { s.se with remap := s.mem.remap } } else s

/-- SCRUB_STEP (R439 to R442): the words due by now. -/
def execScrubStep (s : State) : Host.Outcome State Fault Refusal :=
  .next (s.live true fun s => (s.onMem fun r => r.scrub s.se.powerCycle s.up (s.cfg.eff.n F.scrubPeriodS 0)).saveRemap s.mem.remap.length)

/-- DMA_RESUME (R437). -/
def execDmaResume (c : Fin 4) (s : State) : Host.Outcome State Fault Refusal := .next (s.live true fun s => s.onMem fun r => r.resume c)

/-- SCRATCH_CLEAR: MEM_SCRATCH_CLEAR is written with CLEAR (R444). -/
def execScratchClear (r : Req) (page : Word) (s : State) : Host.Outcome State Fault Refusal :=
  .next (s.hostWrite r 0x80044 (page ||| 0x100#32))

end Sys2Proof.Machine
end

