-- ==== Sys2Proof/Machine/Dispatch.lean ====
section
/-! DEFINITION. The meaning of every command, one arm per constructor. -/

namespace Sys2Proof.Machine

/-- The effect of a command on everything but the queue. -/
def exec (i : Instr) (s : State) : Host.Outcome State Fault Refusal :=
  match i with
  | .powerOn p => Sys2Proof.Machine.execPowerOn p s
  | .bootWaitExpiry => Sys2Proof.Machine.execBootWaitExpiry s
  | .mountComplete readable => Sys2Proof.Machine.execMountComplete readable s
  | .supplyLoss => Sys2Proof.Machine.execSupplyLoss s
  | .supplyReturn => Sys2Proof.Machine.execSupplyReturn s
  | .holdupEnd => Sys2Proof.Machine.execHoldupEnd s
  | .supplyHigh => Sys2Proof.Machine.execSupplyHigh s
  | .housingHot => Sys2Proof.Machine.execHousingHot s
  | .addrChanged reading => Sys2Proof.Machine.execAddrChanged reading s
  | .resetPressAccepted => Sys2Proof.Machine.execResetPressAccepted s
  | .resetReleaseAccepted => Sys2Proof.Machine.execResetReleaseAccepted s
  | .resetStuck => Sys2Proof.Machine.execResetStuck s
  | .resetArmed => Sys2Proof.Machine.execResetArmed s
  | .wardSwitchChange k on => Sys2Proof.Machine.execWardSwitchChange k on s
  | .coverOpen => Sys2Proof.Machine.execCoverOpen s
  | .computePhase snap => Sys2Proof.Machine.execComputePhase snap s
  | .phaseOverrun => Sys2Proof.Machine.execPhaseOverrun s
  | .queueFull q => Sys2Proof.Machine.execQueueFull q s
  | .clockFault kind late => Sys2Proof.Machine.execClockFault kind late s
  | .lockstepMismatch late => Sys2Proof.Machine.execLockstepMismatch late s
  | .coreTrap cause late => Sys2Proof.Machine.execCoreTrap cause late s
  | .upstreamFrame k f => Sys2Proof.Machine.execUpstreamFrame k f s
  | .resendRequest k => Sys2Proof.Machine.execResendRequest k s
  | .upstreamResendFrame k f => Sys2Proof.Machine.execUpstreamResendFrame k f s
  | .missedTick k => Sys2Proof.Machine.execMissedTick k s
  | .nakReceived k => Sys2Proof.Machine.execNakReceived k s
  | .downstreamResend k copyGood => Sys2Proof.Machine.execDownstreamResend k copyGood s
  | .linkLost k => Sys2Proof.Machine.execLinkLost k s
  | .linkRestored k => Sys2Proof.Machine.execLinkRestored k s
  | .stageUnexpected k => Sys2Proof.Machine.execStageUnexpected k s
  | .identPage k page data => Sys2Proof.Machine.execIdentPage k page data s
  | .paramValue k index value => Sys2Proof.Machine.execParamValue k index value s
  | .paramRefused k index reason => Sys2Proof.Machine.execParamRefused k index reason s
  | .faultReport k data => Sys2Proof.Machine.execFaultReport k data s
  | .paramWriteTimeout k => Sys2Proof.Machine.execParamWriteTimeout k s
  | .discoverTimeout => Sys2Proof.Machine.execDiscoverTimeout s
  | .rediscover r k => Sys2Proof.Machine.execRediscover r k s
  | .tableEntryWrite r a cogging entry value => Sys2Proof.Machine.execTableEntryWrite r a cogging entry value s
  | .traceArm r => Sys2Proof.Machine.execTraceArm r s
  | .traceStop r => Sys2Proof.Machine.execTraceStop r s
  | .traceForce r => Sys2Proof.Machine.execTraceForce r s
  | .traceDone => Sys2Proof.Machine.execTraceDone s
  | .read r addr => Sys2Proof.Machine.execRead r addr s
  | .readBlock r addr count => Sys2Proof.Machine.execReadBlock r addr count s
  | .write r addr value => Sys2Proof.Machine.execWrite r addr value s
  | .writeBlock r addr count values => Sys2Proof.Machine.execWriteBlock r addr count values s
  | .apply r b => Sys2Proof.Machine.execApply r b s
  | .cfgApply r b => Sys2Proof.Machine.execCfgApply r b s
  | .deferredEffect => Sys2Proof.Machine.execDeferredEffect s
  | .bittingsRecomputed => Sys2Proof.Machine.execBittingsRecomputed s
  | .imageStageBegin r slot len => Sys2Proof.Machine.execImageStageBegin r slot len s
  | .imageStageData r offset data => Sys2Proof.Machine.execImageStageData r offset data s
  | .imageStageEnd r => Sys2Proof.Machine.execImageStageEnd r s
  | .imageStageCancel r => Sys2Proof.Machine.execImageStageCancel r s
  | .dryRunComplete => Sys2Proof.Machine.execDryRunComplete s
  | .fwStageBegin r len => Sys2Proof.Machine.execFwStageBegin r len s
  | .fwStageData r offset data => Sys2Proof.Machine.execFwStageData r offset data s
  | .fwStageEnd r => Sys2Proof.Machine.execFwStageEnd r s
  | .fwStageCancel r => Sys2Proof.Machine.execFwStageCancel r s
  | .fwStageCheckComplete => Sys2Proof.Machine.execFwStageCheckComplete s
  | .claim r b => Sys2Proof.Machine.execClaim r b s
  | .forceClaim r b => Sys2Proof.Machine.execForceClaim r b s
  | .release r b => Sys2Proof.Machine.execRelease r b s
  | .moveLanded a => Sys2Proof.Machine.execMoveLanded a s
  | .quickStopComplete a => Sys2Proof.Machine.execQuickStopComplete a s
  | .homePositionFound a position => Sys2Proof.Machine.execHomePositionFound a position s
  | .homeChatter a => Sys2Proof.Machine.execHomeChatter a s
  | .homeTimeout a => Sys2Proof.Machine.execHomeTimeout a s
  | .travelLimit a positive => Sys2Proof.Machine.execTravelLimit a positive s
  | .stall a => Sys2Proof.Machine.execStall a s
  | .stepperHold a => Sys2Proof.Machine.execStepperHold a s
  | .obstConfirmed a => Sys2Proof.Machine.execObstConfirmed a s
  | .siblingReversal d => Sys2Proof.Machine.execSiblingReversal d s
  | .reactionBrakingEnd a => Sys2Proof.Machine.execReactionBrakingEnd a s
  | .leafEvaluation a x => Sys2Proof.Machine.execLeafEvaluation a x s
  | .closureLost d => Sys2Proof.Machine.execClosureLost d s
  | .learnReset r d => Sys2Proof.Machine.execLearnReset r d s
  | .doorwayOpen r d => Sys2Proof.Machine.execDoorwayOpen r d s
  | .doorwayClose r d => Sys2Proof.Machine.execDoorwayClose r d s
  | .doorwayHome r d => Sys2Proof.Machine.execDoorwayHome r d s
  | .doorReset r d => Sys2Proof.Machine.execDoorReset r d s
  | .openLeft r => Sys2Proof.Machine.execOpenLeft r s
  | .openRight r => Sys2Proof.Machine.execOpenRight r s
  | .closeLeft r => Sys2Proof.Machine.execCloseLeft r s
  | .closeRight r => Sys2Proof.Machine.execCloseRight r s
  | .sideOpenInput right => Sys2Proof.Machine.execSideOpenInput right s
  | .sideCloseInput right => Sys2Proof.Machine.execSideCloseInput right s
  | .buttonPress d outside => Sys2Proof.Machine.execButtonPress d outside s
  | .isolationOn d => Sys2Proof.Machine.execIsolationOn d s
  | .isolationOff d => Sys2Proof.Machine.execIsolationOff d s
  | .doorEgress d => Sys2Proof.Machine.execDoorEgress d s
  | .egressCleared d => Sys2Proof.Machine.execEgressCleared d s
  | .releaseLost gone => Sys2Proof.Machine.execReleaseLost gone s
  | .zeroSpeedPresent => Sys2Proof.Machine.execZeroSpeedPresent s
  | .autoCloseExpiry d => Sys2Proof.Machine.execAutoCloseExpiry d s
  | .warningEnd d => Sys2Proof.Machine.execWarningEnd d s
  | .reopenPauseExpiry d => Sys2Proof.Machine.execReopenPauseExpiry d s
  | .stepRetryExpiry d => Sys2Proof.Machine.execStepRetryExpiry d s
  | .lockConfirmExpiry d => Sys2Proof.Machine.execLockConfirmExpiry d s
  | .announceHold r d ms => Sys2Proof.Machine.execAnnounceHold r d ms s
  | .chime r d value => Sys2Proof.Machine.execChime r d value s
  | .chimeEnd d => Sys2Proof.Machine.execChimeEnd d s
  | .jogGo r d value => Sys2Proof.Machine.execJogGo r d value s
  | .jogStop r d => Sys2Proof.Machine.execJogStop r d s
  | .jogTimeout d => Sys2Proof.Machine.execJogTimeout d s
  | .boltTestCycle => Sys2Proof.Machine.execBoltTestCycle s
  | .boltTestFail => Sys2Proof.Machine.execBoltTestFail s
  | .boltOverload => Sys2Proof.Machine.execBoltOverload s
  | .boltExtDriven => Sys2Proof.Machine.execBoltExtDriven s
  | .boltChannelDiffer => Sys2Proof.Machine.execBoltChannelDiffer s
  | .pairDiscrepancy p => Sys2Proof.Machine.execPairDiscrepancy p s
  | .pairRestored p => Sys2Proof.Machine.execPairRestored p s
  | .safeTelegramCopy bus fdf bytes => Sys2Proof.Machine.execSafeTelegramCopy bus fdf bytes s
  | .pairWaitDeadline => Sys2Proof.Machine.execPairWaitDeadline s
  | .safeTgTimeout => Sys2Proof.Machine.execSafeTgTimeout s
  | .doorStateSend => Sys2Proof.Machine.execDoorStateSend s
  | .doorStateReceived fdf bytes => Sys2Proof.Machine.execDoorStateReceived fdf bytes s
  | .quadError c => Sys2Proof.Machine.execQuadError c s
  | .short out => Sys2Proof.Machine.execShort out s
  | .readback out => Sys2Proof.Machine.execReadback out s
  | .stuckOn out => Sys2Proof.Machine.execStuckOn out s
  | .extDriven out => Sys2Proof.Machine.execExtDriven out s
  | .overload l => Sys2Proof.Machine.execOverload l s
  | .lsThermalWarn l => Sys2Proof.Machine.execLsThermalWarn l s
  | .lsThermalShutdown l => Sys2Proof.Machine.execLsThermalShutdown l s
  | .retrySlot l => Sys2Proof.Machine.execRetrySlot l s
  | .retriesCleared l => Sys2Proof.Machine.execRetriesCleared l s
  | .fieldOutputRetry c => Sys2Proof.Machine.execFieldOutputRetry c s
  | .clearLockout r l => Sys2Proof.Machine.execClearLockout r l s
  | .lsGroupShed => Sys2Proof.Machine.execLsGroupShed s
  | .lsBlankingEnd l => Sys2Proof.Machine.execLsBlankingEnd l s
  | .limitRecompute => Sys2Proof.Machine.execLimitRecompute s
  | .fieldLow => Sys2Proof.Machine.execFieldLow s
  | .fieldLowClear => Sys2Proof.Machine.execFieldLowClear s
  | .fieldInvalid => Sys2Proof.Machine.execFieldInvalid s
  | .fieldRestored => Sys2Proof.Machine.execFieldRestored s
  | .outputsDropped => Sys2Proof.Machine.execOutputsDropped s
  | .restoreSequenceStart => Sys2Proof.Machine.execRestoreSequenceStart s
  | .restoreTurn => Sys2Proof.Machine.execRestoreTurn s
  | .fieldHigh => Sys2Proof.Machine.execFieldHigh s
  | .fieldHighClear => Sys2Proof.Machine.execFieldHighClear s
  | .sensorSupplyTrip k => Sys2Proof.Machine.execSensorSupplyTrip k s
  | .sensorSupplyRetry k => Sys2Proof.Machine.execSensorSupplyRetry k s
  | .anShuntOff n => Sys2Proof.Machine.execAnShuntOff n s
  | .anShuntRetry n => Sys2Proof.Machine.execAnShuntRetry n s
  | .anSupplyTrip => Sys2Proof.Machine.execAnSupplyTrip s
  | .anSupplyRetry => Sys2Proof.Machine.execAnSupplyRetry s
  | .canFrameReceived bus f parity ts => Sys2Proof.Machine.execCanFrameReceived bus f parity ts s
  | .canPex bus => Sys2Proof.Machine.execCanPex bus s
  | .txSuccess bus b ts => Sys2Proof.Machine.execTxSuccess bus b ts s
  | .txLostArbitration bus b => Sys2Proof.Machine.execTxLostArbitration bus b s
  | .txError bus b kind unchanged => Sys2Proof.Machine.execTxError bus b kind unchanged s
  | .canBusOff bus => Sys2Proof.Machine.execCanBusOff bus s
  | .txSend r bus b => Sys2Proof.Machine.execTxSend r bus b s
  | .txAbort r bus b => Sys2Proof.Machine.execTxAbort r bus b s
  | .canRecover r bus => Sys2Proof.Machine.execCanRecover r bus s
  | .canRecovered bus => Sys2Proof.Machine.execCanRecovered bus s
  | .restrictOn r bus => Sys2Proof.Machine.execRestrictOn r bus s
  | .restrictOff r bus => Sys2Proof.Machine.execRestrictOff r bus s
  | .canModeChange bus => Sys2Proof.Machine.execCanModeChange bus s
  | .rxAck r bus n => Sys2Proof.Machine.execRxAck r bus n s
  | .heartbeatReceived f => Sys2Proof.Machine.execHeartbeatReceived f s
  | .heartbeatNak => Sys2Proof.Machine.execHeartbeatNak s
  | .heartbeatResend => Sys2Proof.Machine.execHeartbeatResend s
  | .copyFrame payload fin state => Sys2Proof.Machine.execCopyFrame payload fin state s
  | .pinlinkLost => Sys2Proof.Machine.execPinlinkLost s
  | .pinlinkRestored => Sys2Proof.Machine.execPinlinkRestored s
  | .pairWaitExpiry answered => Sys2Proof.Machine.execPairWaitExpiry answered s
  | .claimRound last => Sys2Proof.Machine.execClaimRound last s
  | .claimCheck => Sys2Proof.Machine.execClaimCheck s
  | .takeover => Sys2Proof.Machine.execTakeover s
  | .leaseYielded => Sys2Proof.Machine.execLeaseYielded s
  | .logSealExpiry => Sys2Proof.Machine.execLogSealExpiry s
  | .sealPage r => Sys2Proof.Machine.execSealPage r s
  | .pageCommit ok parity => Sys2Proof.Machine.execPageCommit ok parity s
  | .logRead r first count pages => Sys2Proof.Machine.execLogRead r first count pages s
  | .logErase r seq chain => Sys2Proof.Machine.execLogErase r seq chain s
  | .eraseComplete => Sys2Proof.Machine.execEraseComplete s
  | .anchor r utc uncertainty => Sys2Proof.Machine.execAnchor r utc uncertainty s
  | .opTimeSave => Sys2Proof.Machine.execOpTimeSave s
  | .scrubStep => Sys2Proof.Machine.execScrubStep s
  | .dmaResume c => Sys2Proof.Machine.execDmaResume c s
  | .scratchClear r page => Sys2Proof.Machine.execScratchClear r page s
  | .sessionOpen h => Sys2Proof.Machine.execSessionOpen h s
  | .authBlockExpiry peer => Sys2Proof.Machine.execAuthBlockExpiry peer s
  | .sessionIdleTimeout n => Sys2Proof.Machine.execSessionIdleTimeout n s
  | .sessionEnd n => Sys2Proof.Machine.execSessionEnd n s
  | .subscribeSet r entries => Sys2Proof.Machine.execSubscribeSet r entries s
  | .subscribeAdd r entries => Sys2Proof.Machine.execSubscribeAdd r entries s
  | .subscribeClear r => Sys2Proof.Machine.execSubscribeClear r s
  | .subscribeAck r seq => Sys2Proof.Machine.execSubscribeAck r seq s
  | .kwEventAck r seq => Sys2Proof.Machine.execKwEventAck r seq s
  | .restart r => Sys2Proof.Machine.execRestart r s
  | .enterMaintenance r => Sys2Proof.Machine.execEnterMaintenance r s
  | .exitMaintenance r => Sys2Proof.Machine.execExitMaintenance r s
  | .enrol r index cert sig => Sys2Proof.Machine.execEnrol r index cert sig s
  | .unenrol r index => Sys2Proof.Machine.execUnenrol r index s
  | .dhcpLease ip prefixLen => Sys2Proof.Machine.execDhcpLease ip prefixLen s
  | .dhcpTimeout ip => Sys2Proof.Machine.execDhcpTimeout ip s
  | .censusSend => Sys2Proof.Machine.execCensusSend s
  | .censusReceive bytes => Sys2Proof.Machine.execCensusReceive bytes s
  | .censusEntryExpiry serial => Sys2Proof.Machine.execCensusEntryExpiry serial s
  | .codeGroupSyncGained k => Sys2Proof.Machine.execCodeGroupSyncGained k s
  | .codeGroupSyncLost k => Sys2Proof.Machine.execCodeGroupSyncLost k s
  | .coverClosed => Sys2Proof.Machine.execCoverClosed s
  | .fieldCountEdge c onTrackC rise second lead time => Sys2Proof.Machine.execFieldCountEdge c onTrackC rise second lead time s
  | .canReceiveError bus kind plus8 => Sys2Proof.Machine.execCanReceiveError bus kind plus8 s
  | .canIntegrated bus => Sys2Proof.Machine.execCanIntegrated bus s
  | .logBlockErased b bad => Sys2Proof.Machine.execLogBlockErased b bad s
  | .stageWriteComplete fw => Sys2Proof.Machine.execStageWriteComplete fw s
  | .ethLinkChange e2 up => Sys2Proof.Machine.execEthLinkChange e2 up s
  | .sramBitFlip word mask => Sys2Proof.Machine.execSramBitFlip word mask s

end Sys2Proof.Machine
end

