-- ==== Sys2Proof/Safety.lean ====
section
/-! DEFINITION. What a safe run of the block is, and what claims say of a step: the pieces of the state that it may change,
the sender that may write a register, and the answer that a session gets. -/

namespace Sys2Proof.Machine

/-- The state in which a request is served: its session has been heard from, and the request is taken into the tick snapshot. -/
def State.heard (s : State) (r : Req) (x : Session) : State :=
  { s with kw := { s.kw with
      sess := s.kw.sess.set r.sess (some { x with lastMsg := s.up })
      taken := s.kw.taken.set r.sess (s.kw.taken[r.sess] + 1) } }

end Sys2Proof.Machine

namespace Sys2Proof.Safety

open Machine

/-- The host scratch memory has its canonical form: addresses rising, no zero byte listed (R444). -/
def ScratchWf (s : State) : Prop := memWf s.mem.scratch = true

/-- The BOLT outputs are commanded off: none of the four switches is on (R287). -/
def BoltOff (s : State) : Prop := s.il.bolt.switches = 0

/-- A step that neither faults nor is refused. -/
def Runs (s : State) : Prop := ∃ t, step s = .next t

/-- A module that does not run drives no BOLT output (R55, R287). -/
def StoppedBoltOff (s : State) : Prop := s.unit.running = false → BoltOff s

/-- A latched BOLT fault holds every switch off (R295). -/
def LatchedBoltOff (s : State) : Prop := s.il.bolt.latched ≠ 0 → BoltOff s

/-- The unit has entered FAULT_HELD in the tick in progress for a code: nothing is driven, no role is settled and no lease held
(R79, R81, R485). -/
structure HeldFor (s t : State) (code : Code) : Prop where
  /-- FAULT_HELD. -/
  st : t.unit.st = .faultHeld
  /-- HOLD_CODE. -/
  code : t.unit.holdCode = code
  /-- STATE_ENTRY_TICK. -/
  entry : t.unit.entryTick = s.tick
  /-- The status line of the sequencer cores. -/
  line : t.unit.coreLine = false
  /-- No role, no lease. -/
  role : t.hinge.role = .unsettled ∧ t.hinge.lease = false
  /-- No axis is driven. -/
  axes : ∀ a : AxisId, (t.axes[a]).mot.driven = false ∧ (t.axes[a]).mot.cmd = .off

/-! ## Frames -/

/-- A piece of the state: one for each field of State. -/
inductive Piece where
  | tick | up | unit | panel | cfg | ports | axes | trace | doors | il | io | can | hinge | recorder | mem | kw | se | fw | net
  | lostNow | shown | setNow | taken | free | pending
  deriving DecidableEq, Repr

/-- A piece is the same in two states. -/
def Piece.Same (s t : State) : Piece → Prop
  | .tick => t.tick = s.tick
  | .up => t.up = s.up
  | .unit => t.unit = s.unit
  | .panel => t.panel = s.panel
  | .cfg => t.cfg = s.cfg
  | .ports => t.ports = s.ports
  | .axes => t.axes = s.axes
  | .trace => t.trace = s.trace
  | .doors => t.doors = s.doors
  | .il => t.il = s.il
  | .io => t.io = s.io
  | .can => t.can = s.can
  | .hinge => t.hinge = s.hinge
  | .recorder => t.recorder = s.recorder
  | .mem => t.mem = s.mem
  | .kw => t.kw = s.kw
  | .se => t.se = s.se
  | .fw => t.fw = s.fw
  | .net => t.net = s.net
  | .lostNow => t.lostNow = s.lostNow
  | .shown => t.shown = s.shown
  | .setNow => t.setNow = s.setNow
  | .taken => t.taken = s.taken
  | .free => t.free = s.free
  | .pending => t.pending = s.pending

/-- From `s` to `t` nothing changes but the pieces listed. -/
def Only (ps : List Piece) (s t : State) : Prop := ∀ p, p ∉ ps → p.Same s t

/-- All elements but one stay. -/
def Elsewhere {α : Type} {n : Nat} (k : Fin n) (v w : Vector α n) : Prop := ∀ j : Fin n, j ≠ k → w[j] = v[j]

/-- The module sends frames to a stage on the port (R129, R147). -/
def StagePort (s : State) (k : PortId) : Prop :=
  s.unit.running = true ∧ operating s.unit.st = true ∧ s.cfg.eff.n F.portMode k.val = 1

/-- A running module of a hinge pair that sends on the pin link, as it does from DISCOVER onwards (R372). -/
def PairRuns (s : State) : Prop :=
  s.unit.running = true ∧ s.cfg.eff.n F.hingeMode 0 = 1 ∧ s.unit.st ≠ .boot ∧ s.unit.st ≠ .config

/-- A doorway that is used, in a module that computes levels 1 to 4 (R160, R368). -/
def DoorRuns (s : State) (d : DoorId) : Prop :=
  s.unit.running = true ∧ s.computes = true ∧ s.cfg.eff.n F.doorUsed d.val = 1

/-- What raising a code may reach (R16, R22, R189, R464): the recorder, the queues of the sessions, the trigger of the trace, and the note
of the W1C bits that the tick has set. -/
def codes : List Piece := [.recorder, .kw, .trace, .setNow]

/-- What a session is apart from the queue of its events. -/
def Session.core (x : Session) : Session := { x with queue := [], nextSeq := 0, drops := 0, dropTotal := 0 }

/-- What the recorder holds apart from the staging buffer and what is still to enter it: the log in NAND, its counters and chain,
an erase in progress. -/
def stored (rc : Rec) : Rec :=
  { rc with st := .mounting, opened := .empty, since := none, sealedPages := [], sealDue := none, waiting := [], nextSeq := 0, rest := none,
            firstAfter := false, fullDue := false, lost := 0, dropped := 0, events := 0, cycles := Rec.reset.cycles }

/-- Raising codes touches nothing of the sessions but their queues, nothing of the trace but its trigger, and of the recorder the
staging buffer alone (R189, R402, R464). -/
structure Quiet (s t : State) : Prop where
  /-- Claims, staging and limits. -/
  kw : t.kw = { s.kw with sess := t.kw.sess }
  /-- Sessions open and close not, and keep all but their queues. -/
  sess : ∀ i : SessId, (t.kw.sess[i]).map Session.core = (s.kw.sess[i]).map Session.core
  /-- The trace sees that a code was raised. -/
  trace : t.trace = { s.trace with hit := t.trace.hit }
  /-- What is stored stays. -/
  log : stored t.recorder = stored s.recorder
  /-- Bits set in the tick are only added to. -/
  sets : s.setNow <:+ t.setNow

/-- From `s` to `t` nothing changes but the pieces listed and what raising codes reaches. -/
structure Changes (ps : List Piece) (s t : State) : Prop where
  /-- Pieces. -/
  only : Only (ps ++ codes) s t
  /-- Queues and trigger. -/
  quiet : Quiet s t

/-- The code is raised: every session that subscribes to it, with room in its queue, has it there with the tick in progress
(R22, R463, R464). -/
def Tells (s t : State) (code : Code) (inst : Nat) (detail : Word) : Prop :=
  ∀ (i : SessId) (x : Session), s.kw.sess[i] = some x → x.wants code inst = true → x.queue.length < 256 →
    ∃ y, t.kw.sess[i] = some y ∧ ∃ e ∈ y.queue, e.code = code ∧ e.inst = inst ∧ e.detail = detail ∧ e.tick = s.tick

/-- The code is raised, possibly after others: every session that subscribes to it, with room for sixty-four events in its queue,
has it there with the tick in progress (R22, R463, R464). -/
def TellsAfter (s t : State) (code : Code) (inst : Nat) (detail : Word) : Prop :=
  ∀ (i : SessId) (x : Session), s.kw.sess[i] = some x → x.wants code inst = true → x.queue.length ≤ 192 →
    ∃ y, t.kw.sess[i] = some y ∧ ∃ e ∈ y.queue, e.code = code ∧ e.inst = inst ∧ e.detail = detail ∧ e.tick = s.tick

/-! ## Field I/O -/

/-- One load switch becomes `x`, and nothing else of field I/O changes. -/
structure LoadBecomes (s t : State) (l : LoadId) (x : LoadSwitch) : Prop where
  /-- The switch. -/
  here : t.io.ls[l] = x
  /-- The other switches. -/
  others : Elsewhere l s.io.ls t.io.ls
  /-- The rest of field I/O. -/
  io : t.io = { s.io with ls := t.io.ls }

/-- One field channel becomes `x`, and nothing else of field I/O changes. -/
structure ChannelBecomes (s t : State) (c : ChanId) (x : Channel) : Prop where
  /-- The channel. -/
  here : t.io.ch[c] = x
  /-- The other channels. -/
  others : Elsewhere c s.io.ch t.io.ch
  /-- The rest of field I/O. -/
  io : t.io = { s.io with ch := t.io.ch }

/-- A load switch after a trip that is counted, with the event bits `e` of its cause (R335): one retry more; beyond LS_RETRY_MAX
LOCKOUT without a slot, else TRIPPED with a slot LS_RETRY_MS later. -/
def tripped (x : LoadSwitch) (retryMax : Nat) (slot : Tick) (e : Word) : LoadSwitch :=
  let n := min 16 (x.retries + 1)
  let off := { x with retries := n, blank := 0, held := false, ovldRun := 0, onRun := 0, readRun := 0 }
  if retryMax < n then { off with st := .lockout, slot := none, events := x.events ||| e ||| 128 }
  else { off with st := .tripped, slot := some slot, events := x.events ||| e }

/-! ## Doorways -/

/-- What an open command leaves at a doorway that has had none in the tick (R263, R264, R266). -/
def OpenDone (s t : State) (d : DoorId) : Prop :=
  let w : Door := s.doors[d]
  let side := s.il.release.getLsbD (s.cfg.eff.n F.doorSide d.val)
  (side = false → (t.doors[d]).st = w.st ∧ (t.doors[d]).refusal = 0x3030) ∧
  (side = true → s.il.release.getLsbD 2 = false → (t.doors[d]).st = w.st ∧ (t.doors[d]).refusal = 0x3031) ∧
  (side = true → s.il.release.getLsbD 2 = true →
    (w.st = .unhomed ∨ w.st = .isolated ∨ w.st = .fault → (t.doors[d]).st = w.st ∧ (t.doors[d]).refusal = 0x3032) ∧
    (w.st = .unlocking ∨ w.st = .stepOut ∨ w.st = .opening ∨ w.st = .opened ∨ w.st = .egress ∧ w.active.getLsbD 4 = true →
      (t.doors[d]).st = w.st ∧ (t.doors[d]).blocked = w.blocked) ∧
    (w.st = .egress → w.active.getLsbD 4 = false → (t.doors[d]).st = .opening ∧ (t.doors[d]).blocked = false) ∧
    (w.st = .closedLocked ∨ w.st = .closedUnlocked ∨ w.st = .stepIn ∨ w.st = .locking →
      (t.doors[d]).st = .unlocking ∧ (t.doors[d]).blocked = false) ∧
    (w.st = .warning ∨ w.st = .closing ∨ w.st = .reopening ∨ w.st = .obstructedOpen →
      (t.doors[d]).st = .opening ∧ (t.doors[d]).blocked = false ∧ (t.doors[d]).attempts = 0))

/-- What a close command leaves at a doorway that has had none in the tick (R263, R264, R266). -/
def CloseDone (s t : State) (d : DoorId) : Prop :=
  let w : Door := s.doors[d]
  (w.st = .unhomed ∨ w.st = .isolated ∨ w.st = .fault → (t.doors[d]).st = w.st ∧ (t.doors[d]).refusal = 0x3032) ∧
  (w.st = .opened ∨ w.st = .obstructedOpen ∨ w.st = .unlocking ∨ w.st = .stepOut ∨ w.st = .opening ∨
      w.st = .egress ∧ w.active.getLsbD 4 = false →
    (t.doors[d]).st = .warning ∧ (t.doors[d]).blocked = true) ∧
  (w.st = .closedUnlocked → (t.doors[d]).st = (if w.clo.closed then .locking else .warning) ∧ (t.doors[d]).blocked = true) ∧
  (w.st = .closing ∨ w.st = .warning ∨ w.st = .reopening ∨ w.st = .stepIn ∨ w.st = .locking ∨ w.st = .closedLocked ∨
      w.st = .egress ∧ w.active.getLsbD 4 = true →
    (t.doors[d]).st = w.st ∧ (t.doors[d]).blocked = w.blocked)

/-- A side command has reached the used doorways of its side, and no other (R262, R285). -/
def SideDone (s t : State) (right opening : Bool) : Prop :=
  ∀ d : DoorId,
    (s.cfg.eff.n F.doorUsed d.val ≠ 1 ∨ s.cfg.eff.n F.doorSide d.val ≠ (if right then 1 else 0) → t.doors[d] = s.doors[d]) ∧
    (DoorRuns s d → s.cfg.eff.n F.doorSide d.val = (if right then 1 else 0) →
      (opening = true → (s.doors[d]).given.getLsbD 1 = false → OpenDone s t d) ∧
      (opening = false → (s.doors[d]).given.getLsbD 0 = false → CloseDone s t d))

/-! ## Hosts -/

/-- The request of an open session reaches the rule of its own kind: the module runs, tag and header are legal, fewer than 32 requests
stand unanswered, fewer than 16 of the session are in the tick snapshot and none waits before it, and neither the role of the session nor
the state of the unit bars the kind (R81, R454, R457, R462). -/
structure Asks (s : State) (r : Req) (x : Session) (k : Ask) : Prop where
  /-- The session is open. -/
  session : s.kw.sess[r.sess] = some x
  /-- The module runs. -/
  running : s.unit.running = true
  /-- The tag is legal. -/
  tag : r.tag ≠ 0
  /-- The header is the message's own. -/
  head : r.head.closes = false ∧ r.head.bad = false
  /-- Fewer than 32 outstanding. -/
  few : s.outstanding r.sess < 32
  /-- The tick snapshot takes it. -/
  turn : s.mustWait r.sess = false
  /-- The kind is served. -/
  served : s.bars x k = none

/-- A write by the session that sends `r` is taken in the tick in progress: the session is open, the module runs in a state and a
role that take writes, the tick snapshot takes the request, no write waits before it, and the heartbeat of the tick has room for its record
(R81, R369, R384, R457, R482). -/
structure Writer (s : State) (r : Req) (x : Session) : Prop where
  /-- The session is open. -/
  session : s.kw.sess[r.sess] = some x
  /-- The module runs. -/
  running : s.unit.running = true
  /-- The tag is legal. -/
  tag : r.tag ≠ 0
  /-- The header is the message's own. -/
  head : r.head.closes = false ∧ r.head.bad = false
  /-- The tick snapshot takes it. -/
  turn : s.mustWait r.sess = false
  /-- A session of an enrolled host. -/
  role : x.role ≠ .enrolment
  /-- Neither a held state nor a STANDBY. -/
  takes : s.writesOpen = true
  /-- No write waits. -/
  first : s.hinge.waiting = []
  /-- The record fits the heartbeat. -/
  room : s.hinge.role = .active → s.hinge.records.length < 4

/-- The session is of a privileged role and holds the block (R452, R460). -/
def Holds (s : State) (r : Req) (x : Session) (b : Block) : Prop := x.role.privileged = true ∧ s.kw.holder b = some r.sess

/-- The session's answer in `t` is a RESPONSE with the payload given (R454). -/
def Answered (t : State) (r : Req) (payload : List Byte) : Prop :=
  t.kw.answers[r.sess] = some (.response r.tag.toNat payload)

/-- The session's answer in `t` is an ERROR with the code given (R456). -/
def Refused (t : State) (r : Req) (code : Code) : Prop :=
  ∃ addr detail, t.kw.answers[r.sess] = some (.error r.tag.toNat code addr detail)

/-- The payload of the RESPONSE to a READ (R455): address, tick of the snapshot, value. -/
def readOf (s : State) (addr : Nat) (w : Word) : List Byte := leBytes 4 addr ++ leBytes 4 s.tick.toNat ++ leBytes 4 w.toNat

/-- The SRAM words that hold words of the trace sample window or of the clamp report can be read (R437). -/
def WindowsReadable (s : State) (as : List Nat) : Prop :=
  ∀ a ∈ as, ∀ k, windowWord a = some k → s.mem.poisoned.contains k = false ∧ s.mem.flip k = 0

/-- The payload of the RESPONSE to a write (R455): address, tick of the snapshot, VALUE_USED. -/
def wrote (s : State) (addr : Nat) (used : Word) : List Byte := leBytes 4 addr ++ leBytes 4 s.tick.toNat ++ leBytes 4 used.toNat

/-- A write of one register by a host is done (R384, R455): its RESPONSE, its record for the partner of an ACTIVE module, and
nothing else of the sessions, their claims and the hinge. -/
structure Written (s t : State) (r : Req) (addr : Nat) (w used : Word) : Prop where
  /-- RESPONSE. -/
  answer : Answered t r (wrote s addr used)
  /-- WRITE record. -/
  mirror : t.hinge = if s.hinge.role = .active then { s.hinge with records := s.hinge.records ++ [.write addr w] } else s.hinge
  /-- The tick snapshot has taken one request more (R457); claims, staging and limits stay. -/
  claims : t.kw = { s.kw with
    sess := t.kw.sess, answers := t.kw.answers, taken := s.kw.taken.set r.sess (s.kw.taken[r.sess] + 1) }
  /-- The other sessions keep all but their queues, and get no answer. -/
  others : ∀ i : SessId, i ≠ r.sess →
    (t.kw.sess[i]).map Session.core = (s.kw.sess[i]).map Session.core ∧ t.kw.answers[i] = s.kw.answers[i]

/-- A write of a command register is done, and nothing changes but the pieces listed and what every write touches. -/
structure Commanded (ps : List Piece) (s t : State) (r : Req) (addr : Nat) (w used : Word) : Prop where
  /-- The write. -/
  written : Written s t r addr w used
  /-- The rest. -/
  only : Only ([.kw, .hinge] ++ ps) s t

end Sys2Proof.Safety
end

