-- ==== Sys2Proof/Certificates/Slice0/Obligations.lean ====
section
/-! DEFINITION. The statements about the block. Each says of its commands that they complete, what they change and that they change
nothing else; the docstring names the rules. A row that names an event asserts its time, count or analogue condition (log 7), and the DETAIL of a
code for which the spec states none is 0 (log 41). -/

open Sys2Proof Sys2Proof.Machine Sys2Proof.Safety

set_option maxRecDepth 4000

/-- A step runs the command at the front of the queue on the rest; on an empty queue the block idles
(95_what_each_step_holds.md, log 1). For every command c and state s with c at the front of its queue, step s is exec c on s
with the queue's rest. On an empty queue step answers s itself: that clause is the model's choice (log 1), no rule of the
spec. -/
def Obligations.StepRunsFront : Prop :=
  (∀ (s : State) (c : Instr) (rest : List Instr), s.pending = c :: rest → step s = exec c { s with pending := rest }) ∧
  (∀ s : State, s.pending = [] → step s = .next s)

/-- What the machine is at the start of BOOT, and that the invariants hold there (R64, R84, R341, R350, R365, R452).
State.reset has TICK_COUNT 0, unit state BOOT, no HOLD_CODE, no role, an invalid field supply with every load switch and
field output dropped, both CAN controllers OFF, no session, no claim, an empty scratch memory in canonical form, an empty
queue and the BOLT outputs off; the invariants of StepKeepsScratch and StepKeepsBoltOff hold of it. The empty queue and
values of log 3 are the model's own. -/
def Obligations.ResetState : Prop :=
  State.reset.tick = 0 ∧ State.reset.unit.st = .boot ∧ State.reset.unit.holdCode = 0 ∧ State.reset.hinge.role = .unsettled ∧
  State.reset.io.sup.invalid = true ∧ State.reset.io.sup.dropped = true ∧ (∀ l : LoadId, (State.reset.io.ls[l]).st = .dropped) ∧
  (∀ c : ChanId, (State.reset.io.ch[c]).out = .dropped) ∧ (∀ b : BusId, (State.reset.can[b]).mode = .off) ∧
  (∀ b : Block, State.reset.kw.holder b = none) ∧ (∀ i : SessId, State.reset.kw.sess[i] = none) ∧ State.reset.mem.scratch = [] ∧
  State.reset.pending = [] ∧ BoltOff State.reset ∧ ScratchWf State.reset ∧ StoppedBoltOff State.reset ∧ LatchedBoltOff State.reset

/-- Every step keeps host scratch in its canonical form (R444, R438, log 61). For every state whose scratch memory has its
addresses rising and lists no zero byte, every next state of step has the same form. The form is the model's representation
of R444's scratch memory. -/
def Obligations.StepKeepsScratch : Prop :=
  ∀ s t : State, ScratchWf s → step s = .next t → ScratchWf t

/-- No step drives BOLT in a stopped module or beside a latched BOLT fault (R287, R295, R47, R55). Let s drive no BOLT
switch if it is stopped and none if a BOLT fault is latched. Then every next state of step does so too, whatever the
command. -/
def Obligations.StepKeepsBoltOff : Prop :=
  ∀ s t : State, StoppedBoltOff s → LatchedBoltOff s → step s = .next t → StoppedBoltOff t ∧ LatchedBoltOff t

/-- No command but POWER_ON clears a latched BOLT fault, and while one is set the switches are off (R295, R79). For every
command but POWER_ON and every state that keeps the switches off beside a latched fault: each latched BOLT fault is still
latched after exec, and if one was latched all four switches are off after it. -/
def Obligations.LatchedBoltFaultLasts : Prop :=
  ∀ (c : Instr) (s t : State), LatchedBoltOff s → (∀ p, c ≠ .powerOn p) → exec c s = .next t →
    (∀ k : Nat, s.il.bolt.latched.getLsbD k = true → t.il.bolt.latched.getLsbD k = true) ∧ (s.il.bolt.latched ≠ 0 → BoltOff t)

/-- What all commands keep: the queue, the clock, the NOR slots, and a stopped module (R64, R79, R92, R466, R458). Every
command answers a next state that has the same queue; no command but POWER_ON and COMPUTE_PHASE changes TICK_COUNT or the
ticks since the start (the model's reading, log 5); no command but STAGE_WRITE_COMPLETE changes an image or firmware slot of
the NOR; and a module that does not run is left as it is by every command but POWER_ON and PAGE_COMMIT (the model's choice,
log 14). -/
def Obligations.WhatEveryCommandKeeps : Prop :=
  (∀ (c : Instr) (s : State), ∃ t, exec c s = .next t ∧ t.pending = s.pending ∧
    ((∀ p, c ≠ .powerOn p) → (∀ x, c ≠ .computePhase x) → t.tick = s.tick ∧ t.up = s.up) ∧
    ((∀ fw, c ≠ .stageWriteComplete fw) → t.fw.slots = s.fw.slots ∧ t.fw.fw = s.fw.fw) ∧
    (s.unit.running = false → (∀ p, c ≠ .powerOn p) → (∀ ok parity, c ≠ .pageCommit ok parity) → t = s))

/-- POWER_ON: a start of BOOT, what it clears, what it keeps and where it is held (R79, R86, R404, R37, R467, R341, R432).
POWER_ON answers a running module at tick 0 with its configuration, ports, doorways, interlock, field I/O, CAN, sessions and
scratch as at the start of BOOT, POWER_CYCLE one higher, the rest of the secure element and both slots of images and
firmware kept. With no valid firmware it is in FAULT_HELD with FW_INVALID; with an invalid address in FAULT_HELD with
ADDR_INVALID; else the firmware that R467 chooses is copied into pages 0 to 255, and the unit is in BOOT if the copy's
SHA-256 is the header's, in FAULT_HELD with FW_INVALID if it is not. That all of this is decided at POWER_ON is the model's
reading (log 13). -/
def Obligations.PowerOnStartsBoot : Prop :=
  ∀ (s : State) (p : PowerUp), ∃ t, exec (.powerOn p) s = .next t ∧
    t.tick = 0 ∧ t.up = 0 ∧ t.unit.running = true ∧ t.unit.entryTick = 0 ∧
    t.cfg = CfgSt.reset ∧ t.ports = State.reset.ports ∧ t.doors = State.reset.doors ∧ t.il = Interlock.reset ∧ t.io = FieldIo.reset ∧
    t.can = State.reset.can ∧ (∀ i : SessId, t.kw.sess[i] = none) ∧ t.panel = p.panel ∧
    t.se = { s.se with powerCycle := (s.se.powerCycle + 1) % 2 ^ 32 } ∧ t.fw.slots = s.fw.slots ∧ t.fw.fw = s.fw.fw ∧
    t.mem.scratch = [] ∧ t.pending = s.pending ∧
    (s.fw.choose s.se.rollback = none → t.unit.st = .faultHeld ∧ t.unit.holdCode = 0x4002) ∧
    (∀ k, s.fw.choose s.se.rollback = some k → t.fw.booted = k ∧
      (p.addressOk = false → t.unit.st = .faultHeld ∧ t.unit.holdCode = 0x4001) ∧
      (p.addressOk = true → t.mem.code = some (copyOf t.fw.code p.copyWrong) ∧
        (if sha256 (copyOf t.fw.code p.copyWrong) = t.fw.digest then t.unit.st = .boot
         else t.unit.st = .faultHeld ∧ t.unit.holdCode = 0x4002)))

/-- BOOT_WAIT_EXPIRY tries the image slots in order; MOUNT_COMPLETE finds where writing resumes (R86, R88, R89, R91, R418,
R419, R448). BOOT_WAIT_EXPIRY takes BOOT to CONFIG, opens the bypass, and loads the first slot if it is accepted, else the other
one with FALLBACK, else none; that the unit is in CONFIG with the configuration loaded at this row is the model's reading
(log 13). MOUNT_COMPLETE counts the committed pages and takes PAGE_SEQ from the last valid page, uncorrectable pages with their
bytes as read; where no page beyond the last one of the log has been programmed, writing resumes on the page after that one,
or in the next block that is not retired; an unreadable log gives FAULT and LOG's fault code. All else stays. -/
def Obligations.ConfigTriesBothSlots : Prop :=
  (∀ s : State, s.unit.running = true → s.unit.st = .boot → ∃ t, exec .bootWaitExpiry s = .next t ∧
    t.unit.st = .config ∧ t.unit.entryTick = s.tick ∧ t.net.bypass = false ∧
    (let s' := (s.enter .config s.tick).endBoot
     let b := s.fw.firstSlot
     if (s'.trySlot b).result = .accepted then
       t.cfg.loaded = true ∧ t.unit.slotB = b ∧ t.cfg.fallback = false ∧ t.cfg.eff = (s'.trySlot b).clamping.cfg
     else
       let s'' : State := { s' with cfg := s'.cfg.setResult b (s'.trySlot b).result }
       if (s''.trySlot (!b)).result = .accepted then
         t.cfg.loaded = true ∧ t.unit.slotB = !b ∧ t.cfg.fallback = true ∧ t.cfg.eff = (s''.trySlot (!b)).clamping.cfg
       else t.cfg.loaded = s.cfg.loaded ∧ t.cfg.eff = s.cfg.eff) ∧
    Only ([.unit, .cfg, .net, .se, .il, .mem] ++ codes) s t) ∧
  (∀ (s : State) (bad : List (Nat × List Byte)), s.unit.running = true → s.unit.st ≠ .boot → s.recorder.st = .mounting →
    (let d := s.recorder.nand.asRead bad
     let log := d.pages.filter fun p => p.valid s.se.eraseCount && decide (256 ≤ p.phys)
     ∃ t, exec (.mountComplete (some bad)) s = .next t ∧ t.recorder.st ≠ .mounting ∧ t.recorder.nand.pages = s.recorder.nand.pages ∧
      (∀ b ∈ s.recorder.nand.retired, b ∈ t.recorder.nand.retired) ∧ t.recorder.committed = log.length ∧
      t.recorder.pageSeq = (d.lastPage s.se.eraseCount).map (fun p => leAt p.bytes 8 4) ∧
      (∀ top : Nat, (log = [] ∧ top = 256 ∨ ∃ p ∈ log, p.phys + 1 = top) →
        (∀ p ∈ d.pages, leAt p.bytes 16 4 = s.se.eraseCount → p.phys < top) →
        t.recorder.nextPhys = if top % 64 = 0 ∨ s.recorder.nand.retired.contains (top / 64) = true
          then 64 * s.recorder.nand.nextBlock (top / 64) else top) ∧ Only codes s t)) ∧
  (∀ s : State, s.unit.running = true → s.unit.st ≠ .boot → s.recorder.st = .mounting →
    ∃ t, exec (.mountComplete none) s = .next t ∧ t.recorder.st = .fault ∧ Tells s t 0x460A 0xFF 0 ∧ Changes [] s t)

/-- SUPPLY_LOSS, SUPPLY_RETURN, HOLDUP_END, OP_TIME_SAVE, SUPPLY_HIGH, HOUSING_HOT and ADDR_CHANGED (R46, R47, R50, R27, R38,
R404, R350, R448). SUPPLY_LOSS raises its code, sets HOLDUP, saves OP_TIME and begins the flush of the staging buffer; control
carries on. SUPPLY_RETURN clears HOLDUP and changes nothing else. HOLDUP_END switches BOLT off, sends no frame any more, turns
CAN off, closes the bypass and stops the module; that the commands after it leave it as it is, and that a start follows from
POWER_ON, is the model's choice (logs 13, 14). OP_TIME_SAVE puts OP_TIME of the recorder into the secure element. SUPPLY_HIGH,
HOUSING_HOT and ADDR_CHANGED set their status bits and raise their codes, and the module runs on with the address in use; that
all ten pins are compared is the model's choice (log 69). -/
def Obligations.SupplyAndWarnings : Prop :=
  (∀ s : State, s.unit.running = true → s.panel.holdup = false → ∃ t, exec .supplyLoss s = .next t ∧
    t.panel = { s.panel with holdup := true, supplyCount := 0 } ∧ Tells s t 0x4008 0xFF 0 ∧
    t.se = { s.se with opTime := t.recorder.opTime s.up } ∧ (t.recorder.opened.data = [] ∨ t.recorder.sealDue = some true) ∧ Changes [.panel, .se] s t) ∧
  (∀ s : State, s.unit.running = true → s.panel.holdup = true →
    exec .supplyReturn s = .next { s with panel := { s.panel with holdup := false, supplyCount := 0 } }) ∧
  (∀ s : State, s.unit.running = true → s.panel.holdup = true → ∃ t, exec .holdupEnd s = .next t ∧
    t.unit.running = false ∧ t.unit.cause = .supply ∧ BoltOff t ∧ (∀ k : PortId, (t.ports[k]).sent = none) ∧ t.hinge.sent = none ∧
    t.net.bypass = true ∧ (∀ b : BusId, (t.can[b]).mode = .off) ∧ Only [.unit, .il, .ports, .can, .hinge, .net] s t) ∧
  (∀ s : State, s.unit.running = true → exec .opTimeSave s = .next { s with se := { s.se with opTime := s.recorder.opTime s.up } }) ∧
  (∀ s : State, s.unit.running = true → s.panel.supplyHigh = false → ∃ t, exec .supplyHigh s = .next t ∧
    t.panel = { s.panel with supplyHigh := true } ∧ Tells s t 0x400A 0xFF 0 ∧ Changes [.panel] s t) ∧
  (∀ s : State, s.unit.running = true → s.panel.housingHot = false → ∃ t, exec .housingHot s = .next t ∧
    t.panel = { s.panel with housingHot := true } ∧ Tells s t 0x400B 0xFF 0 ∧ Changes [.panel] s t) ∧
  (∀ (s : State) (reading : BitVec 10), s.unit.running = true → s.unit.st ≠ .boot → s.panel.addrValid = true → s.panel.addrDiff ≠ 3 →
    reading ≠ s.panel.pinsUsed → ∃ t, exec (.addrChanged reading) s = .next t ∧
      t.panel = { s.panel with pinsNow := reading, addrChanged := true, addrDiff := 3 } ∧ t.addr = s.addr ∧
      Tells s t 0x400C 0xFF 0 ∧ Changes [.panel] s t)

/-- Every target of a homed axis is clamped to its soft limits (R199). Where an axis takes a target and no travel limit has
tripped: on a homed axis the target is clamped to the range from SOFT_MIN to SOFT_MAX, and a target that the clamp has changed
raises TARGET_CLAMPED and sets its event bit; on an axis that is not homed the target is taken as it is. -/
def Obligations.TargetsAreClamped : Prop :=
  ∀ (r : AxRun) (i : AxIn) (t : Int) (src : Source),
    (let lo := i.cfg.v F.softMin i.a
     let hi := i.cfg.v F.softMax i.a
     let u := r.take i t src true
     lo ≤ hi → -(2 ^ 31) ≤ lo → hi < 2 ^ 31 → -(2 ^ 31) ≤ t → t < 2 ^ 31 →
     r.ax.mot.limNeg.active = false → r.ax.mot.limPos.active = false →
     (r.ax.mot.home.homed = true →
       lo ≤ u.ax.mot.target ∧ u.ax.mot.target ≤ hi ∧ (lo ≤ t → t ≤ hi → u.ax.mot.target = t) ∧
       (t < lo → u.ax.mot.target = lo) ∧ (hi < t → u.ax.mot.target = hi) ∧
       (lo ≤ t → t ≤ hi → u.ev = r.ev ∧ u.ax.mot.events = r.ax.mot.events) ∧
       (t < lo ∨ hi < t → u.ev = (0x2005#16, 0#32) :: r.ev ∧ u.ax.mot.events = r.ax.mot.events ||| 2)) ∧
     (r.ax.mot.home.homed = false → u.ax.mot.target = t ∧ u.ev = r.ev ∧ u.ax.mot.events = r.ax.mot.events))

/-- The outcome of a press of RESET: ignored, a reset, or stuck; and arming (R51, R52, R53, R54, R55). A press is accepted on
an armed or unarmed input. A release of a press accepted on the armed input after 1,000 to 160,000 ticks stops the module with
cause reset, BOLT off and RESET raised; any other release changes the panel only. That a release at 160,001 ticks has the row's
outcome is the model's reading (log 68), as is the state of the module that the reset stops (logs 13, 14). At 160,001 ticks the
input is stuck and disarmed, RESET_STUCK is raised and nothing else changes. RESET_ARMED arms the input. -/
def Obligations.ResetInput : Prop :=
  (∀ s : State, s.unit.running = true → s.panel.rst.pressed = false → ∃ t, exec .resetPressAccepted s = .next t ∧
    t.panel.rst = { s.panel.rst with pressed := true, diff := 0, hold := 0, live := s.panel.rst.armed, since := s.up } ∧ t.panel.leds = s.panel.leds ∧
    Only [.panel] s t) ∧
  (∀ s : State, s.unit.running = true → s.panel.rst.pressed = true → ∃ t, exec .resetReleaseAccepted s = .next t ∧
    t.panel.rst.pressed = false ∧
    (let h := min 160001 (s.up - s.panel.rst.since)
     t.panel.rst.hold = h ∧ t.panel.rst.since = s.up ∧
     if s.panel.rst.live = true ∧ 1000 ≤ h ∧ h ≤ 160000 then
       t.unit.running = false ∧ t.unit.cause = .reset ∧ BoltOff t ∧ Tells s t 0x4006 0xFF 0 ∧
         Only ([.panel, .unit, .il, .ports, .can, .hinge, .net] ++ codes) s t
     else Only [.panel] s t)) ∧
  (∀ s : State, s.unit.running = true → s.panel.rst.pressed = true → s.panel.rst.live = true → ∃ t, exec .resetStuck s = .next t ∧
    t.panel.rst = { s.panel.rst with armed := false, live := false, stuck := true, stuckSeen := true, hold := 160001 } ∧
    Tells s t 0x4007 0xFF 0 ∧ Changes [.panel] s t) ∧
  (∀ s : State, s.unit.running = true → s.panel.rst.pressed = false → s.panel.rst.armed = false → ∃ t, exec .resetArmed s = .next t ∧
    t.panel.rst = { s.panel.rst with armed := true, stuck := false } ∧ Only [.panel] s t)

/-- WARD_SWITCH_CHANGE, COVER_OPEN and COVER_CLOSED (R40, R41, R42, R43). A ward switch change sets that switch's debounced position
and no other, and raises the codes of switches 1 to 9 and 12; switch 9 or 10 turned ON in RUN with the other OFF raises WARD_OPEN. A
lifted cover sets both status bits and is reported at once, or in BOOT later; a cover back in place clears COVER_OPEN alone. -/
def Obligations.WardSwitchesAndCover : Prop :=
  (∀ (s : State) (k : Fin 12) (on : Bool), s.unit.running = true → s.panel.ward.getLsbD k.val ≠ on →
    ∃ t, exec (.wardSwitchChange k on) s = .next t ∧
      (∀ j : Nat, j < 12 → t.panel.ward.getLsbD j = if j = k.val then on else s.panel.ward.getLsbD j) ∧
      (k.val < 9 → s.unit.st ≠ .boot → s.unit.st ≠ .config → Tells s t 0x400D 0xFF 0) ∧
      (k.val = 11 → on = true → Tells s t 0x400F 0xFF 0) ∧
      ((k.val = 8 ∨ k.val = 9) → on = true → s.unit.st = .run → s.panel.ward.getLsbD 8 = false → s.panel.ward.getLsbD 9 = false →
        TellsAfter s t 0x400E 0xFF 0) ∧ Changes [.panel] s t) ∧
  (∀ s : State, s.unit.running = true → s.panel.coverOpen = false → ∃ t, exec .coverOpen s = .next t ∧
    t.panel = { s.panel with coverOpen := true, coverOpened := true } ∧
    (s.unit.st = .boot → t.recorder = s.recorder ∧ t.kw = s.kw) ∧ (s.unit.st ≠ .boot → TellsAfter s t 0x4010 0xFF 0) ∧ Changes [.panel] s t) ∧
  (∀ s : State, s.unit.running = true → exec .coverClosed s = .next { s with panel := { s.panel with coverOpen := false } })

/-- PHASE_OVERRUN, QUEUE_FULL, CLOCK_FAULT, LOCKSTEP_MISMATCH and CORE_TRAP take the unit to FAULT_HELD (R69, R76, R78, R79,
R81, R437, R485). From every state but BOOT, FAULT_HELD and UNCONFIGURED each of these causes enters FAULT_HELD with its
HOLD_CODE: nothing driven, no role, no lease, no jog, and a homing in progress has failed with HOME_ABORT. A core trap declares
the fault to the partner, and a late one switches BOLT and every output off at once. Late causes are told with the tick before
(log 6); that FAULT_HELD begins with the tick in progress, and which queues count, is the model's reading (logs 15, 16). -/
def Obligations.HoldCauses : Prop :=
  ∀ (s : State), s.unit.running = true → s.unit.st ≠ .boot → s.unit.st ≠ .faultHeld → s.unit.st ≠ .unconfigured →
    (∃ t, exec .phaseOverrun s = .next t ∧ HeldFor s t 0x1001 ∧ (∀ d : DoorId, (t.doors[d]).jog = none) ∧
      (∀ a : AxisId, (s.axes[a]).mot.home.phase ≠ .none → (t.axes[a]).mot.home.result = 8 ∧ (t.axes[a]).mot.home.homed = false) ∧ Tells s t 0x1001 0xFF 0 ∧ Changes [.unit, .axes, .doors, .hinge] s t) ∧
    (∀ q, q ≠ .other → ∃ t, exec (.queueFull q) s = .next t ∧ HeldFor s t 0x1001 ∧ Tells s t 0x1001 0xFF 0 ∧ Changes [.unit, .axes, .doors, .hinge] s t) ∧
    (∃ t, exec (.clockFault .strobe false) s = .next t ∧ HeldFor s t 0x4005 ∧ t.unit.strobeFault = true ∧ Tells s t 0x4005 0xFF 0 ∧
      Changes [.unit, .axes, .doors, .hinge] s t) ∧
    (∃ t, exec (.clockFault .strobe true) s = .next t ∧ HeldFor s t 0x4005 ∧ t.unit.strobeFault = true ∧
      Tells { s with tick := s.tick - 1 } t 0x4005 0xFF 0 ∧ Changes [.unit, .axes, .doors, .hinge] s t) ∧
    (∀ (k : Fin 8) (late : Bool), ∃ t, exec (.clockFault (.pll k) late) s = .next t ∧ t.unit.locks = s.unit.locks &&& ~~~(1#8 <<< k.val) ∧
      (fixedDomains.getLsbD k.val = true → HeldFor s t 0x4005) ∧ Changes [.unit, .axes, .doors, .hinge] s t) ∧
    (∃ t, exec (.lockstepMismatch false) s = .next t ∧ HeldFor s t 0x4004 ∧ Tells s t 0x4004 0xFF 0 ∧ Changes [.unit, .axes, .doors, .hinge] s t) ∧
    (∃ t, exec (.lockstepMismatch true) s = .next t ∧ HeldFor s t 0x4004 ∧ Tells { s with tick := s.tick - 1 } t 0x4004 0xFF 0 ∧
      Changes [.unit, .axes, .doors, .hinge] s t) ∧
    (∀ cause, ∃ t, exec (.coreTrap cause false) s = .next t ∧ HeldFor s t 0x4702 ∧ t.hinge.declared = true ∧
      Changes [.unit, .axes, .doors, .hinge, .mem] s t) ∧
    (∀ cause, ∃ t, exec (.coreTrap cause true) s = .next t ∧ HeldFor s t 0x4702 ∧ t.hinge.declared = true ∧ BoltOff t ∧
      (∀ l : LoadId, (t.io.ls[l]).driving = false) ∧ Changes [.unit, .axes, .doors, .hinge, .mem, .il, .io] s t)

/-- COMPUTE_PHASE ends its tick; in a held state it drives nothing (R64, R79, R81, R350, R129, R131, R132, R58). COMPUTE_PHASE of a
running module for which no request waits adds one to the ticks since the start and clears the ports lost in the tick. In BOOT and
CONFIG TICK_COUNT goes up by one. In a held state BOLT is off, no frame is sent, and a CAN controller that neither sends nor takes
part in the bus is OFF after it. In RUN, on a module that is ALONE without a pair, with no release of RESET, no lost clock, no word
of SRAM read or written by a core, and nothing waiting, it completes: the unit stays in RUN, TICK_COUNT goes up by one, what is
shown is that of the completed tick, and one downstream frame with the port's number and the tick, its CRC-32 last, goes out on
every STAGE port and on no other; so do BOOT and CONFIG without a pressed RESET count their tick. That one COMPUTE_PHASE is one
tick, and what the row takes in of it, is the model's reading (logs 5, 8, 10, 73). -/
def Obligations.ComputePhaseEndsTick : Prop :=
  (∀ (s : State) (x : Snapshot), s.unit.running = true → ∃ t, exec (.computePhase x) s = .next t ∧ t.pending = s.pending ∧
    (s.kw.later = [] → t.up = (if t.unit.running then s.up + 1 else s.up) ∧ (t.unit.running = true → t.lostNow = 0))) ∧
  (∀ (s : State) (x : Snapshot), s.unit.running = true → (s.unit.st = .boot ∨ s.unit.st = .config) → s.hinge.nextTick = none →
    ∃ t, exec (.computePhase x) s = .next t ∧ (t.unit.running = true → t.tick = s.tick + 1)) ∧
  (∀ (s : State) (x : Snapshot), s.unit.running = true → s.held = true → s.hinge.waiting = [] → s.kw.later = [] →
    ∃ t, exec (.computePhase x) s = .next t ∧ BoltOff t ∧ (∀ k : PortId, (t.ports[k]).sent = none) ∧
      (∀ b : BusId, (s.can[b]).sending = none → (s.can[b]).onBus = false → (t.can[b]).mode = .off)) ∧
  -- a module that computes alone: the tick is counted, and a frame of the tick goes out on every STAGE port
  (∀ (s : State) (x : Snapshot), s.unit.running = true → s.unit.st = .run → s.hinge.role = .alone → s.cfg.eff.n F.hingeMode 0 ≠ 1 →
    s.hinge.rounds = none → s.hinge.nextTick = none → s.hinge.waiting = [] → s.kw.later = [] → s.cfg.writes = [] → s.panel.rst.pressed = false →
    x.locks = 0xFF → x.reads = [] → x.writes = [] →
    ∃ t, exec (.computePhase x) s = .next t ∧ t.unit.running = true ∧ t.unit.st = .run ∧ t.tick = s.tick + 1 ∧ t.up = s.up + 1 ∧
      t.lostNow = 0 ∧ t.setNow = [] ∧ t.taken = [] ∧ (∀ i : SessId, t.kw.taken[i] = 0) ∧ t.cfg.eff = s.cfg.eff ∧ t.shown.ports = t.ports ∧
      (∀ k : PortId, s.cfg.eff.n F.portMode k.val = 1 → ∃ p : List Byte,
        (t.ports[k]).sent = some (if x.txBad.getLsbD k.val then spoiledBytes p else frameBytes p) ∧
        leAt p 1 1 = k.val ∧ leAt p 4 4 = s.tick.toNat) ∧
      (∀ k : PortId, s.cfg.eff.n F.portMode k.val ≠ 1 → (t.ports[k]).sent = none)) ∧
  -- BOOT and CONFIG: the tick is counted
  (∀ (s : State) (x : Snapshot), s.unit.running = true → (s.unit.st = .boot ∨ s.unit.st = .config) → s.hinge.nextTick = none →
    s.panel.rst.pressed = false → s.kw.later = [] → ∃ t, exec (.computePhase x) s = .next t ∧ t.unit.running = true ∧ t.tick = s.tick + 1 ∧ t.up = s.up + 1)

/-- The loop with the lowest output is selected (R172). The loop selected has the lowest u_pre; among equals the loop selected
before wins if it is among them, else the order V, F, E decides; so a loop whose output is below 0 where no other is wins. -/
def Obligations.LowestLoopWins : Prop :=
  ∀ l : LoopSt,
    (let w := selectLoop l
     let low (x : Loop) : Prop := ∀ y : Loop, (l.ch x).out ≤ (l.ch y).out
     low w ∧ (∀ p, l.sel = some p → low p → w = p) ∧
     ((∀ p, l.sel = some p → ¬ low p) →
       (low .v → w = .v) ∧ (¬ low .v → low .f → w = .f) ∧ (¬ low .v → ¬ low .f → w = .e)) ∧
     (∀ x : Loop, (l.ch x).out < 0 → (∀ y : Loop, y ≠ x → 0 ≤ (l.ch y).out) → w = x))

/-- After a COMPUTE_PHASE, BOLT is off outside RUN, and on only with every used doorway closed and locked or isolated (R80, R287,
R288, R289, R290, R295, R296). For every running state without a request waiting and every snapshot: if the unit is not in RUN
after COMPUTE_PHASE, none of the four BOLT switches is on; if a high-side switch is on, channel A has decided true, so the field
supply is valid, no BOLT fault is latched, some doorway is used, and every used one counts: it is in CLOSED_LOCKED with the
verdict CLOSED_LOCKED, or in ISOLATED. The decision itself, for what the channels read: channel A decides from its own readings
and its low sides follow channel B's decision from its own copy, and a doorway without a closure word counts in channel B only
where it is not used or its two isolating inputs read active. -/
def Obligations.BoltOnlyInRun : Prop :=
  (∀ (s t : State) (x : Snapshot), s.unit.running = true → s.hinge.waiting = [] → s.kw.later = [] → exec (.computePhase x) s = .next t →
    (t.unit.st ≠ .run → BoltOff t) ∧
    (t.il.bolt.switches &&& 3 ≠ 0 → t.unit.st = .run ∧ t.io.sup.invalid = false ∧ t.il.bolt.latched = 0 ∧
      (∃ d : DoorId, t.cfg.eff.n F.doorUsed d.val = 1) ∧
      ∀ d : DoorId, t.cfg.eff.n F.doorUsed d.val = 1 →
        (t.doors[d]).st = .isolated ∨ (t.doors[d]).st = .closedLocked ∧ (t.doors[d]).clo.locked = true)) ∧
  (∀ (r : LockRun) (i : BoltIn),
    (let b := (r.decide40 i).il.bolt
     (b.switches &&& 3 ≠ 0 → b.latched = 0 ∧ i.run = true ∧ i.fieldA = true ∧ (∃ f ∈ i.doors, f.used = true) ∧
       (∀ f ∈ i.doors, f.disA = false ∧ (f.used = true →
         if f.isolated then f.inA.getLsbD 3 = true else f.closedLocked = true ∧ f.verdict = true))) ∧
     (b.switches &&& 12 ≠ 0 → b.latched = 0 ∧ i.run = true ∧ i.coreLine = true ∧ i.fieldB = true ∧ (∃ f ∈ i.doors, f.usedB = true) ∧
       (∀ f ∈ i.doors, f.disB = false ∧ (f.usedB = true →
         (f.word = none → f.inB.getLsbD 2 = true ∧ f.inB.getLsbD 3 = true) ∧
         (∀ w, f.word = some w → w.st = .isolated → f.inB.getLsbD 2 = true ∧ f.inB.getLsbD 3 = true) ∧
         (∀ w, f.word = some w → w.st ≠ .isolated → w.st = .closedLocked ∧ w.closedLocked = true ∧ f.inB.getLsbD 0 = true ∧
           f.inB.getLsbD 1 = true)))) ∧
     -- the comparison of R290
     (∀ k : Nat, k < 16 → b.countsA.getLsbD k = ((i.doors[k]?).map (·.countsA)).getD false ∧
       b.countsB.getLsbD k = ((i.doors[k]?).map (·.countsB)).getD false) ∧
     (i.run = true → i.coreLine = true → b.decA = b.decB → b.countsA = b.countsB → b.differed = false ∧ b.differCount = r.il.bolt.differCount) ∧
     (i.run = true → i.coreLine = true → b.decA ≠ b.decB ∨ b.countsA ≠ b.countsB →
       b.differed = true ∧ b.differCount = satN (r.il.bolt.differCount + 1) 32 ∧ (r.il.bolt.differed = true → b.latched.getLsbD 3 = true)) ∧
     (i.run = false ∨ i.coreLine = false → b.differed = false ∧ b.differCount = r.il.bolt.differCount ∧ b.latched = r.il.bolt.latched)))

/-- UPSTREAM_FRAME: late, bad and good frames (R68, R135, R137, R138). A late frame counts in LATE only, a frame that fails
its check in UP_CRC only. A good one brings MISS, EPOCH, tick, applied CRC and DC bus; its samples are taken only if its
port and tick fields are right. Other ports stay. -/
def Obligations.UpstreamFrame : Prop :=
  ∀ (s : State) (k : PortId) (f : WireFrame), StagePort s k → f.parity = false →
    (f.late = true → ∃ t, exec (.upstreamFrame k f) s = .next t ∧
      t.ports[k] = { s.ports[k] with late := satN ((s.ports[k]).late + 1) 32 } ∧ Elsewhere k s.ports t.ports ∧ Changes [.ports, .hinge] s t) ∧
    (f.late = false → frameGood 64 f.payload f.crc f.lineOk = false → ∃ t, exec (.upstreamFrame k f) s = .next t ∧
      t.ports[k] = { s.ports[k] with upCrc := satN ((s.ports[k]).upCrc + 1) 32 } ∧ Elsewhere k s.ports t.ports ∧ Changes [.ports, .hinge] s t) ∧
    (f.late = false → frameGood 64 f.payload f.crc f.lineOk = true → ∃ t, exec (.upstreamFrame k f) s = .next t ∧
      (t.ports[k]).whole = true ∧ (t.ports[k]).age = 0 ∧ (t.ports[k]).miss = leAt f.payload 1 1 ∧
      (t.ports[k]).epoch = BitVec.ofNat 16 (leAt f.payload 2 2) ∧ (t.ports[k]).upTick = BitVec.ofNat 32 (leAt f.payload 4 4) ∧
      (t.ports[k]).appliedCrc = BitVec.ofNat 32 (leAt f.payload 32 4) ∧ (t.ports[k]).dcBus = BitVec.ofNat 16 (leAt f.payload 40 2) ∧
      (leAt f.payload 39 1 = k.val → BitVec.ofNat 32 (leAt f.payload 4 4) = s.tick →
        (t.ports[k]).good = true ∧ (t.ports[k]).smp = #v[sampleOf (slice f.payload 8 12), sampleOf (slice f.payload 20 12)]) ∧
      (¬(leAt f.payload 39 1 = k.val ∧ BitVec.ofNat 32 (leAt f.payload 4 4) = s.tick) →
        (t.ports[k]).good = (s.ports[k]).good ∧ (t.ports[k]).smp = (s.ports[k]).smp) ∧
      Elsewhere k s.ports t.ports ∧ Only ([.ports, .axes, .doors, .lostNow, .hinge] ++ codes) s t)

/-- RESEND_REQUEST and UPSTREAM_RESEND_FRAME (R138, R141). A port without a whole frame sends RQ and counts it; a good
re-sent frame of the tick brings the samples and no bulk data. -/
def Obligations.UpstreamRecovery : Prop :=
  (∀ (s : State) (k : PortId), StagePort s k → (s.ports[k]).whole = false → (s.ports[k]).rq = false →
    ∃ t, exec (.resendRequest k) s = .next t ∧
      t.ports[k] = { s.ports[k] with rq := true, upResend := satN ((s.ports[k]).upResend + 1) 32 } ∧ Elsewhere k s.ports t.ports ∧
      Changes [.ports] s t) ∧
  (∀ (s : State) (k : PortId) (f : WireFrame), StagePort s k → (s.ports[k]).rq = true → f.parity = false → f.late = false →
    frameGood 32 f.payload f.crc f.lineOk = true → BitVec.ofNat 32 (leAt f.payload 4 4) = s.tick →
    ∃ t, exec (.upstreamResendFrame k f) s = .next t ∧ (t.ports[k]).good = true ∧
      (t.ports[k]).smp = #v[sampleOf (slice f.payload 8 12), sampleOf (slice f.payload 20 12)] ∧
      (t.ports[k]).whole = (s.ports[k]).whole ∧ (t.ports[k]).seqIn = (s.ports[k]).seqIn ∧ Elsewhere k s.ports t.ports ∧ Changes [.ports] s t)

/-- The third consecutive missed tick of a READY port loses the link (R68, R142). MISSED_TICK counts; on a READY port with
two before it, and at LINK_LOST, the port is LOST and LINK_LOST is raised in that tick. Other ports stay. -/
def Obligations.ThirdMissedTickLosesLink : Prop :=
  (∀ (s : State) (k : PortId), StagePort s k → (s.ports[k]).good = false → (s.ports[k]).missedNow = false →
    ((s.ports[k]).st ≠ .ready ∨ (s.ports[k]).missRun < 2) → ∃ t, exec (.missedTick k) s = .next t ∧
      t.ports[k] = { s.ports[k] with missedNow := true, missed := satN ((s.ports[k]).missed + 1) 32, missRun := min 3 ((s.ports[k]).missRun + 1),
                                     goodRun := 0 } ∧ Elsewhere k s.ports t.ports ∧ Changes [.ports] s t) ∧
  (∀ (s : State) (k : PortId), StagePort s k → (s.ports[k]).good = false → (s.ports[k]).missedNow = false →
    (s.ports[k]).st = .ready → 2 ≤ (s.ports[k]).missRun → ∃ t, exec (.missedTick k) s = .next t ∧
      (t.ports[k]).st = .lost ∧ (t.ports[k]).missed = satN ((s.ports[k]).missed + 1) 32 ∧ t.lostNow = s.lostNow ||| (1#32 <<< k.val) ∧
      Tells s t 0x0001 k.val 0 ∧ Elsewhere k s.ports t.ports ∧ Changes [.ports, .axes, .doors, .lostNow] s t) ∧
  (∀ (s : State) (k : PortId), s.unit.running = true → s.sending = true → (s.ports[k]).st = .ready → ∃ t, exec (.linkLost k) s = .next t ∧
      (t.ports[k]).st = .lost ∧ (t.ports[k]).goodRun = 0 ∧ t.lostNow = s.lostNow ||| (1#32 <<< k.val) ∧
      Tells s t 0x0001 k.val 0 ∧ Elsewhere k s.ports t.ports ∧ Changes [.ports, .axes, .doors, .lostNow] s t)

/-- NAK_RECEIVED, DOWNSTREAM_RESEND and LINK_RESTORED (R141, R143, R443). A NAK counts, the frame is re-sent once, none is
where its kept copy has a parity error, which is told, and 20 good ticks start the reading of the identity again (the row's
reading is log 47). -/
def Obligations.DownstreamRecovery : Prop :=
  (∀ (s : State) (k : PortId), s.unit.running = true → (s.ports[k]).sent.isSome = true → (s.ports[k]).nak = false →
    ∃ t, exec (.nakReceived k) s = .next t ∧
      t.ports[k] = { s.ports[k] with nak := true, downNak := satN ((s.ports[k]).downNak + 1) 32 } ∧ Elsewhere k s.ports t.ports ∧
      Changes [.ports] s t) ∧
  (∀ (s : State) (k : PortId) (bs : List Byte), s.unit.running = true → (s.ports[k]).sent = some bs → (bs.getD 0 0).getLsbD 0 = true →
    (s.ports[k]).nak = true → (s.ports[k]).resent = false →
    ∃ t, exec (.downstreamResend k true) s = .next t ∧ t.ports[k] = { s.ports[k] with resent := true, sent := some (frameBytes (bs.take 48)) } ∧
      Elsewhere k s.ports t.ports ∧ Changes [.ports] s t) ∧
  (∀ (s : State) (k : PortId), s.unit.running = true → s.cfg.loaded = true → ∃ t, exec (.downstreamResend k false) s = .next t ∧
      t.ports = s.ports ∧ Tells s t 0x4706 0xFF 1 ∧ Changes [.mem] s t) ∧
  (∀ (s : State) (k : PortId), s.unit.running = true → s.sending = true → (s.ports[k]).st = .lost → (s.ports[k]).restoring = false →
    ∃ t, exec (.linkRestored k) s = .next t ∧ (t.ports[k]).st = .lost ∧ (t.ports[k]).goodRun = 20 ∧ 
      (t.ports[k]).retained = (if (s.ports[k]).good
        then ((s.ports[k]).goodRun == 0 || (s.ports[k]).retained) && (s.ports[k]).retainedNow s.cfg.eff k.val && decide (19 ≤ (s.ports[k]).goodRun)
        else (s.ports[k]).retained && decide (20 ≤ (s.ports[k]).goodRun)) ∧
      (t.ports[k]).restoring = true ∧
      (t.ports[k]).disc = .pages ∧ (t.ports[k]).pages = 0 ∧ (t.ports[k]).bulkQueue = [0, 1, 2, 3].map (fun p => ⟨1, leBytes 1 p⟩) ∧
      Elsewhere k s.ports t.ports ∧ Changes [.ports] s t)

/-- Identity pages, parameters and fault reports of a stage (R145, R146, R148, R150). The last identity page gives the first
reason that fails, the first parameter, or READY. A right answer goes on to the next parameter or READY; a wrong one, a
refusal or a time-out gives MISMATCH with its reason. A fault report is kept. Where these rows stand between the frames that
bring their bytes is the model's reading (log 47). -/
def Obligations.StageDiscovery : Prop :=
  -- a page before the last
  (∀ (s : State) (k : PortId) (page : Nat) (data : List Byte), StagePort s k → (s.ports[k]).disc = .pages → page < 4 →
    (s.ports[k]).pages ||| BitVec.ofNat 4 (2 ^ page) ≠ 15 → ∃ t, exec (.identPage k page data) s = .next t ∧
      t.ports[k] = { s.ports[k] with
        ident := (s.ports[k]).ident.take (9 * page) ++ (data ++ List.replicate 9 0).take 9 ++ (s.ports[k]).ident.drop (9 * page + 9)
        pages := (s.ports[k]).pages ||| BitVec.ofNat 4 (2 ^ page) } ∧ Elsewhere k s.ports t.ports ∧ Changes [.ports] s t) ∧
  -- the last page: the first check that fails, or the first parameter, or READY
  (∀ (s : State) (k : PortId) (page : Nat) (data : List Byte), StagePort s k → (s.ports[k]).disc = .pages → page < 4 →
    (s.ports[k]).pages ||| BitVec.ofNat 4 (2 ^ page) = 15 → ∃ t, exec (.identPage k page data) s = .next t ∧ (t.ports[k]).pages = 15 ∧
      (let p := { s.ports[k] with
         ident := (s.ports[k]).ident.take (9 * page) ++ (data ++ List.replicate 9 0).take 9 ++ (s.ports[k]).ident.drop (9 * page + 9) }
       (t.ports[k]).ident = p.ident ∧ (t.ports[k]).reason = (if identReason s.cfg.eff k.val p ≠ 0 then identReason s.cfg.eff k.val p
         else if portParams s.cfg.eff k.val = [] then 0 else (s.ports[k]).reason) ∧
       (identReason s.cfg.eff k.val p ≠ 0 → (t.ports[k]).st = .mismatch) ∧
       (identReason s.cfg.eff k.val p = 0 → portParams s.cfg.eff k.val = [] → (t.ports[k]).st = .ready) ∧
       (identReason s.cfg.eff k.val p = 0 → portParams s.cfg.eff k.val ≠ [] →
         (t.ports[k]).disc = .params 0 ∧ (t.ports[k]).st = (s.ports[k]).st)) ∧
      Elsewhere k s.ports t.ports ∧ Changes [.ports, .axes] s t) ∧
  -- the answers to a parameter
  (∀ (s : State) (k : PortId) (n : Nat) (q : StageParam), StagePort s k → (s.ports[k]).disc = .params n →
    (portParams s.cfg.eff k.val)[n]? = some q →
      (∃ t, exec (.paramValue k q.index q.value) s = .next t ∧
        (∀ q', (portParams s.cfg.eff k.val)[n + 1]? = some q' → (t.ports[k]).disc = .params (n + 1) ∧ (t.ports[k]).st = (s.ports[k]).st) ∧
        ((portParams s.cfg.eff k.val)[n + 1]? = none → (t.ports[k]).st = .ready ∧ (t.ports[k]).disc = .idle) ∧
        Elsewhere k s.ports t.ports ∧ Changes [.ports, .axes] s t) ∧
      (∀ value, value ≠ q.value → ∃ t, exec (.paramValue k q.index value) s = .next t ∧
        (t.ports[k]).st = .mismatch ∧ (t.ports[k]).reason = 5 ∧ (t.ports[k]).paramHow = 2 ∧ (t.ports[k]).paramReason = 0 ∧
        (t.ports[k]).paramIndex = q.index ∧ Tells s t 0x0004 k.val 0 ∧ Elsewhere k s.ports t.ports ∧ Changes [.ports, .axes] s t) ∧
      (∀ reason, ∃ t, exec (.paramRefused k q.index reason) s = .next t ∧
        (t.ports[k]).st = .mismatch ∧ (t.ports[k]).reason = 5 ∧ (t.ports[k]).paramHow = 1 ∧ (t.ports[k]).paramReason = reason ∧
        (t.ports[k]).paramIndex = q.index ∧ Tells s t 0x0004 k.val 0 ∧ Elsewhere k s.ports t.ports ∧ Changes [.ports, .axes] s t) ∧
      (∃ t, exec (.paramWriteTimeout k) s = .next t ∧
        (t.ports[k]).st = .mismatch ∧ (t.ports[k]).reason = 5 ∧ (t.ports[k]).paramHow = 3 ∧ (t.ports[k]).paramReason = 0xFF ∧
        (t.ports[k]).paramIndex = q.index ∧ Tells s t 0x0004 k.val 0 ∧ Elsewhere k s.ports t.ports ∧ Changes [.ports, .axes] s t)) ∧
  (∀ (s : State) (k : PortId) (data : List Byte), StagePort s k → ∃ t, exec (.faultReport k data) s = .next t ∧
    t.ports[k] = { s.ports[k] with faultReport := some (fillTo 10 data) } ∧ Elsewhere k s.ports t.ports ∧ Changes [.ports] s t)

/-- STAGE_UNEXPECTED, DISCOVER_TIMEOUT and code-group sync (R130, R149, R150). An UNUSED port that gains sync is UNEXPECTED.
DISCOVER_TIMEOUT sets the ports that have not answered ABSENT and enters HOMING. Gaining and losing sync set and clear
LINK's bit and nothing else. -/
def Obligations.PortsWithoutStage : Prop :=
  (∀ (s : State) (k : PortId), s.unit.running = true → s.cfg.loaded = true → s.cfg.eff.n F.portMode k.val ≠ 1 → (s.ports[k]).st = .unused →
    ∃ t, exec (.stageUnexpected k) s = .next t ∧ (t.ports[k]).st = .unexpected ∧ (t.ports[k]).sync = true ∧ Tells s t 0x0005 k.val 0 ∧
      Elsewhere k s.ports t.ports ∧ Changes [.ports] s t) ∧
  (∀ s : State, s.unit.running = true → s.unit.st = .discover → ∃ t, exec .discoverTimeout s = .next t ∧
    t.unit = { s.unit with st := .homing, entryTick := s.tick, homingDue := true } ∧
    (∀ k : PortId, t.ports[k] = if s.cfg.eff.n F.portMode k.val = 1 ∧ (s.ports[k]).st = .discovering ∧ (s.ports[k]).pages ≠ 15
      then { s.ports[k] with st := .absent } else s.ports[k]) ∧ Changes [.unit, .ports] s t) ∧
  (∀ (s : State) (k : PortId), s.unit.running = true → ∃ t, exec (.codeGroupSyncGained (.port k)) s = .next t ∧
    t.ports[k] = { s.ports[k] with sync := true } ∧ Elsewhere k s.ports t.ports ∧ Only [.ports] s t) ∧
  (∀ (s : State) (k : PortId), s.unit.running = true → ∃ t, exec (.codeGroupSyncLost (.port k)) s = .next t ∧
    t.ports[k] = { s.ports[k] with sync := false } ∧ (t.ports[k]).link = 0 ∧ Elsewhere k s.ports t.ports ∧ Only [.ports] s t) ∧
  (∀ s : State, s.unit.running = true →
    exec (.codeGroupSyncGained .pin) s = .next { s with hinge := { s.hinge with sync := true } } ∧
    exec (.codeGroupSyncLost .pin) s = .next { s with hinge := { s.hinge with sync := false } })

/-- TRACE_ARM, TRACE_STOP, TRACE_FORCE and TRACE_DONE (R188, R189). Each write is answered; ARM arms at the next boundary
with an empty record unless a record runs, STOP ends at the next boundary, FORCE triggers the next tick. TRACE_DONE ends a
TRIGGERED record with the samples that it holds (the model's reading, log 62). Nothing but the trace changes. -/
def Obligations.TraceCommands : Prop :=
  (∀ (s : State) (r : Req) (x : Session), Writer s r x → Holds s r x .unit →
    (∃ t, exec (.traceArm r) s = .next t ∧ Commanded [.trace] s t r 0x400000 1 1 ∧
      (s.trace.active = true → t.trace = s.trace) ∧
      (s.trace.active = false → t.trace = { s.trace with armReq := some s.tick } ∧
        ∀ (c : Cfg) (now : Tick), now ≠ s.tick → s.trace.stopReq = none →
          (t.trace.boundary c now).st = .armed ∧ (t.trace.boundary c now).samples = [] ∧ (t.trace.boundary c now).armReq = none)) ∧
    (∃ t, exec (.traceStop r) s = .next t ∧ Commanded [.trace] s t r 0x400000 4 4 ∧
      t.trace = { s.trace with stopReq := some s.tick } ∧
      ∀ (c : Cfg) (now : Tick), now ≠ s.tick → s.trace.armReq = none →
        (s.trace.st = .armed → (t.trace.boundary c now).st = .idle ∧ (t.trace.boundary c now).samples = []) ∧
        (s.trace.st = .triggered → (t.trace.boundary c now).st = .done ∧ (t.trace.boundary c now).truncated = true ∧
          (t.trace.boundary c now).samples = s.trace.samples)) ∧
    (∃ t, exec (.traceForce r) s = .next t ∧ Commanded [.trace] s t r 0x400000 2 2 ∧
      t.trace = { s.trace with forceReq := some s.tick } ∧ ∀ u : State, u.trace = t.trace → u.tick = s.tick + 1 → u.triggered = true)) ∧
  (∀ s : State, s.unit.running = true → operating s.unit.st = true → ∃ t, exec .traceDone s = .next t ∧
    t.trace = (if s.trace.st = .triggered then { s.trace with st := .done, recorded := s.trace.samples.length } else s.trace) ∧
    Only [.trace] s t)

/-- REDISCOVER, LEARN_RESET, CLEAR_LOCKOUT, SEAL, SCRATCH_CLEAR and KW_EVENT_ACK (R157, R256, R335, R413, R444, R464). Each
write is answered with VALUE_USED and recorded for the partner of an ACTIVE, and acts on its one object: a port in MISMATCH
or ABSENT discovers again, a doorway's learnt values are due for a reset, a load switch leaves LOCKOUT, the open page is
sealed, a scratch page is cleared, events up to the number written leave the queue. -/
def Obligations.UnitCommands : Prop :=
  (∀ (s : State) (r : Req) (x : Session), Writer s r x → Holds s r x .unit →
    (∀ k : PortId, ∃ t, exec (.rediscover r k) s = .next t ∧ Commanded [.ports] s t r (0x300048 + 0x100 * k.val) 1 1 ∧
      Elsewhere k s.ports t.ports ∧
      ((s.ports[k]).st ≠ .mismatch → (s.ports[k]).st ≠ .absent → t.ports[k] = s.ports[k]) ∧
      ((s.ports[k]).st = .mismatch ∨ (s.ports[k]).st = .absent → (t.ports[k]).st = .discovering ∧ (t.ports[k]).reason = 0 ∧
        (t.ports[k]).disc = ((s.ports[k]).discover s.tick).disc)) ∧
    (∀ d : DoorId, s.unit.st = .maintenance → x.role = .maintainer →
      ∃ t, exec (.learnReset r d) s = .next t ∧ Commanded [.doors] s t r (0x3C01C + 0x20 * d.val) 1 1 ∧
        t.doors[d] = { s.doors[d] with clo := { (s.doors[d]).clo with reset := some (s.tick, x.cert) } } ∧ Elsewhere d s.doors t.doors) ∧
    (∀ l : LoadId, ∃ t, exec (.clearLockout r l) s = .next t ∧ Commanded [.io] s t r (0x6001C + 0x20 * l.val) 1 1 ∧
      (t.io.ls[l]).retries = 0 ∧ (t.io.ls[l]).st = (if (s.io.ls[l]).st = .lockout then (if (s.io.ls[l]).latch then .thermal else .off) else (s.io.ls[l]).st) ∧
      t.io = { s.io with ls := t.io.ls } ∧ Elsewhere l s.io.ls t.io.ls) ∧
    (∃ t, exec (.sealPage r) s = .next t ∧ Commanded [.recorder] s t r 0x70050 1 1 ∧
      (s.recorder.opened.data = [] → t.recorder = s.recorder) ∧
      (s.recorder.opened.data ≠ [] → s.recorder.sealedPages.length < 3 → t.recorder = { s.recorder with
        sealedPages := s.recorder.sealedPages ++ [{ s.recorder.opened with flush := s.panel.holdup, firstAfter := s.recorder.firstAfter }]
        opened := .empty, since := none, firstAfter := false, sealDue := none })) ∧
    (∀ page : Word, page.toNat < 64 → ∃ t, exec (.scratchClear r page) s = .next t ∧
      Commanded [.mem] s t r 0x80044 (page ||| 0x100) (page ||| 0x100) ∧ t.mem = s.mem.clearPage page.toNat)) ∧
  (∀ (s : State) (r : Req) (x : Session) (seq : Word), Writer s r x →
    ∃ t, exec (.kwEventAck r seq) s = .next t ∧ Commanded [] s t r 0x90300 seq seq ∧
      ∃ y, t.kw.sess[r.sess] = some y ∧ y.queue = x.queue.filter fun e => decide (seq.toNat < e.seq))

/-- READ and READ_BLOCK answer the values of one snapshot or the refusal (R16, R17, R437, R444, R455, R456). A read of a register
answers its word with address and tick and clears what R16 says; a register that refuses and an address of none are answered
with their ERROR; an unwritten scratch word with NOT_INITIALISED, counted; a word of the trace window or the clamp report that
cannot be read in SRAM with MEM_UNCORRECTABLE, halting KEYWAY (where these words lie is the model's choice, log 97); a block with
all its words. RC registers by name: a read by a privileged session with the claim returns the count at the start of the tick and
leaves what the tick has counted, of an extreme what the tick has taken; without the claim nothing is cleared. Under conditions on
the state alone: a privileged session reads every register of the map while no trace runs, every session reads TICK_COUNT,
alone and in a block, and a privileged one a written scratch word without an error. -/
def Obligations.ReadsAnswer : Prop :=
  -- a register
  (∀ (s : State) (r : Req) (x : Session) (addr w : Word), Asks s r x .read → (wordAddr addr.toNat).isSome = true →
    isScratch addr.toNat = false → (s.heard r x).peek r.sess x.role.privileged addr.toNat = .ok w → WindowsReadable s [addr.toNat] →
    ∃ t, exec (.read r addr) s = .next t ∧ Answered t r (readOf s addr.toNat w) ∧
      ∀ p : Piece, p ≠ .kw → p.Same ((s.heard r x).afterRead r.sess x.role.privileged addr.toNat) t) ∧
  -- RC registers: what a clearing read returns and leaves, and a read that clears nothing
  (∀ (s : State) (r : Req) (x : Session), Asks s r x .read → x.role.privileged = true →
    (s.holds r.sess .unit = true →
      (∃ t, exec (.read r 0x3000C) s = .next t ∧ Answered t r (readOf s 0x3000C (BitVec.ofNat 32 s.shown.il.bolt.differCount)) ∧
        t.il.bolt.differCount = s.il.bolt.differCount - s.shown.il.bolt.differCount ∧ t.shown.il.bolt.differCount = 0 ∧ Only [.kw, .il, .shown] s t) ∧
      (∃ t, exec (.read r 0x8001C) s = .next t ∧ Answered t r (readOf s 0x8001C (BitVec.ofNat 32 s.shown.mem.uncorr)) ∧
        t.mem = { s.mem with uncorr := s.mem.uncorr - s.shown.mem.uncorr } ∧ Only [.kw, .mem, .shown] s t) ∧
      (∃ t, exec (.read r 0x9000C) s = .next t ∧ Answered t r (readOf s 0x9000C (BitVec.ofNat 32 s.shown.kw.authFails)) ∧
        t.kw.authFails = s.kw.authFails - s.shown.kw.authFails ∧ Only [.kw, .shown] s t) ∧
      (∃ t, exec (.read r 0x70058) s = .next t ∧ Answered t r (readOf s 0x70058 (BitVec.ofNat 32 s.shown.recorder.maxCorr)) ∧
        t.recorder = { s.recorder with maxCorr := (s.takenAt 0x70058).foldl max 0 } ∧ Only [.kw, .recorder, .shown] s t) ∧
      (∃ t, exec (.read r 0x51028) s = .next t ∧ Answered t r (readOf s 0x51028 (BitVec.ofNat 32 s.shown.io.sup.minV)) ∧
        t.io = { s.io with sup := { s.io.sup with minV := (s.takenAt 0x51028).foldl min 0xFFFF } } ∧ Only [.kw, .io, .shown] s t)) ∧
    (s.holds r.sess .unit = false →
      (∃ t, exec (.read r 0x3000C) s = .next t ∧ Answered t r (readOf s 0x3000C (BitVec.ofNat 32 s.shown.il.bolt.differCount)) ∧ Only [.kw] s t) ∧
      (∃ t, exec (.read r 0x70058) s = .next t ∧ Answered t r (readOf s 0x70058 (BitVec.ofNat 32 s.shown.recorder.maxCorr)) ∧ Only [.kw] s t))) ∧
  -- a word of the trace window or of the clamp report that its SRAM word has lost
  (∀ (s : State) (r : Req) (x : Session) (addr w : Word) (k : Nat), Asks s r x .read → (wordAddr addr.toNat).isSome = true →
    isScratch addr.toNat = false → (s.heard r x).peek r.sess x.role.privileged addr.toNat = .ok w → windowWord addr.toNat = some k →
    s.mem.poisoned.contains k = true →
    ∃ t, exec (.read r addr) s = .next t ∧ Refused t r 0x4702 ∧ t.mem = { s.mem with dma := s.mem.dma ||| 2, events := s.mem.events ||| 16 } ∧
      Tells s t 0x4705 0xFF 1 ∧ Only ([.kw, .mem] ++ codes) s t) ∧
  -- a register that refuses, and an address of no register
  (∀ (s : State) (r : Req) (x : Session) (addr : Word) (c : Code), Asks s r x .read → (wordAddr addr.toNat).isSome = true →
    isScratch addr.toNat = false → (s.heard r x).peek r.sess x.role.privileged addr.toNat = .error c →
    ∃ t, exec (.read r addr) s = .next t ∧ Refused t r c ∧ Only [.kw] s t) ∧
  (∀ (s : State) (r : Req) (x : Session) (addr : Word), Asks s r x .read → wordAddr addr.toNat = none →
    ∃ t, exec (.read r addr) s = .next t ∧ Refused t r 0x4F02 ∧ Only [.kw] s t) ∧
  -- a scratch word
  (∀ (s : State) (r : Req) (x : Session) (addr : Word), Asks s r x .read → addr.toNat % 4 = 0 → isScratch addr.toNat = true →
    (x.role.privileged = false → ∃ t, exec (.read r addr) s = .next t ∧ Refused t r 0x4F03 ∧ Only [.kw] s t) ∧
    (x.role.privileged = true → s.mem.written.getLsbD (scratchIndex addr.toNat) = false →
      ∃ t, exec (.read r addr) s = .next t ∧ Refused t r 0x4F0B ∧
        t.mem = { s.mem with notInit := satN (s.mem.notInit + 1) 32 } ∧ Only [.kw, .mem] s t)) ∧
  -- a block of registers
  (∀ (s : State) (r : Req) (x : Session) (addr : Word) (count : Nat) (ws : List Word), Asks s r x .read → 1 ≤ count → count ≤ 16382 →
    spanError addr.toNat count = none → (wordAddrs addr.toNat count).all isScratch = false →
    (s.heard r x).peekAll r.sess x.role.privileged (wordAddrs addr.toNat count) = .ok ws → WindowsReadable s (wordAddrs addr.toNat count) →
    ∃ t, exec (.readBlock r addr count) s = .next t ∧
      Answered t r (leBytes 4 addr.toNat ++ leBytes 4 s.tick.toNat ++ ws.flatMap fun w => leBytes 4 w.toNat) ∧
      (ws.length = count) ∧
      ∀ p : Piece, p ≠ .kw → p.Same ((wordAddrs addr.toNat count).foldl (fun u a => u.afterRead r.sess x.role.privileged a) (s.heard r x)) t) ∧
  -- every register of the map as a privileged role reads it while no trace runs; TICK_COUNT as every role reads it, alone and with
  -- STATE_ENTRY_TICK
  (∀ (s : State) (r : Req) (x : Session) (addr : Word), Asks s r x .read → x.role.privileged = true → s.trace.active = false →
    (wordAddr addr.toNat).isSome = true → isScratch addr.toNat = false → WindowsReadable s [addr.toNat] → ∃ t, exec (.read r addr) s = .next t ∧
      Answered t r (readOf s addr.toNat ((((s.heard r x).readRow (some r.sess) addr.toNat).map fun (g : RegRow) => g.reg.u ||| g.reg.p).getD 0))) ∧
  (∀ (s : State) (r : Req) (x : Session), Asks s r x .read →
    (∃ t, exec (.read r 4) s = .next t ∧ Answered t r (readOf s 4 s.tick) ∧ Only [.kw] s t) ∧
    (∃ t, exec (.readBlock r 4 2) s = .next t ∧
      Answered t r (leBytes 4 4 ++ leBytes 4 s.tick.toNat ++ (leBytes 4 s.tick.toNat ++ leBytes 4 s.unit.entryTick.toNat)) ∧ Only [.kw] s t)) ∧
  -- a scratch word that is written and free of errors, alone and in a block
  (∀ (s : State) (r : Req) (x : Session) (addr : Word), Asks s r x .read → x.role.privileged = true → addr.toNat % 4 = 0 →
    isScratch addr.toNat = true → s.mem.written.getLsbD (scratchIndex addr.toNat) = true →
    s.mem.poisoned.contains (scratchWord addr.toNat) = false → s.mem.flip (scratchWord addr.toNat) = 0 →
    (∃ t, exec (.read r addr) s = .next t ∧
      Answered t r (leBytes 4 addr.toNat ++ leBytes 4 s.tick.toNat ++ memBytes s.mem.scratch addr.toNat 4) ∧ Only [.kw] s t) ∧
    (∃ t, exec (.readBlock r addr 1) s = .next t ∧
      Answered t r (leBytes 4 addr.toNat ++ leBytes 4 s.tick.toNat ++ memBytes s.mem.scratch addr.toNat 4) ∧ Only [.kw] s t))

/-- WRITE, WRITE_BLOCK, TABLE_ENTRY_WRITE, APPLY and CFG_APPLY answer what they did (R61, R115, R117, R384, R455, R456). A
write by a session that may write is answered with VALUE_USED and mirrored; a block stops at its first refusal and names it;
a configuration word with one runtime-writable field posts the clamped value; scratch words without an error, one or a
block, read back as written and leave the others; an address of no register is refused; a table entry is clamped to
TABLE_LIMIT and reported when it is; both forms of APPLY post the block's APPLY (that CFG_APPLY is the write of the block's APPLY
register, and which words a block request reaches, is the model's reading, logs 20 and 27). -/
def Obligations.WritesAnswer : Prop :=
  -- a register
  (∀ (s u : State) (r : Req) (x : Session) (addr value used : Word) (g : Region) (row : RegRow), Writer s r x →
    wordAddr addr.toNat = some g → isScratch addr.toNat = false → uWritable addr.toNat = true ∨ Holds s r x g.block →
    (s.heard r x).row (some r.sess) addr.toNat = some row → (s.heard r x).writeRow (some r.sess) addr.toNat row value = .ok (u, used) →
    ∃ t, exec (.write r addr value) s = .next t ∧ Answered t r (wrote s addr.toNat used) ∧
      ∀ p : Piece, p ≠ .kw → p.Same (u.mirror (.write addr.toNat value)) t) ∧
  -- a block: every word taken, or the first refusal
  (∀ (s u : State) (r : Req) (x : Session) (addr : Word) (count : Nat) (values : List Word) (run : WriteRun), Writer s r x →
    1 ≤ count → count ≤ 16382 → values.length = count → spanError addr.toNat count = none →
    (s.heard r x).writeSome r.sess x.role ((wordAddrs addr.toNat count).zip values) ⟨0, 0, none, []⟩ = (u, run) → run.rest = [] →
    ∃ t, exec (.writeBlock r addr count values) s = .next t ∧ (∀ p : Piece, p ≠ .kw → p.Same u t) ∧
      (run.stop = none → run.done = count ∧ Answered t r (leBytes 4 addr.toNat ++ leBytes 4 s.tick.toNat ++ leBytes 4 count)) ∧
      (∀ c a, run.stop = some (c, a) → run.done < count ∧ a = addr.toNat + 4 * run.done ∧ Refused t r c)) ∧
  -- a table entry
  (∀ (s : State) (r : Req) (x : Session) (a : AxisId) (cogging : Bool) (entry : Nat) (value : Word), Writer s r x → Holds s r x (.axis a) →
    s.runs = true →
    let v := (value.setWidth 16).toInt
    let lim := s.cfg.eff.v F.tableLimit a.val
    let addr := 0x200800 + 0x1000 * a.val + (if cogging then 0x400 else 0) + 4 * (entry % 256)
    ∃ t used, exec (.tableEntryWrite r a cogging entry value) s = .next t ∧ Answered t r (wrote s addr used) ∧
      t.cfg.entries = s.cfg.entries ++ [(s.tick, a.val, cogging, entry % 256, sat (-lim) lim v)] ∧
      (sat (-lim) lim v = v → t.cfg = { s.cfg with entries := t.cfg.entries } ∧ Commanded [.cfg] s t r addr value used ∧
        used.setWidth 16 = value.setWidth 16) ∧
      (sat (-lim) lim v ≠ v → t.cfg.write.used = wordOfInt (sat (-lim) lim v) ∧ Tells s t 0x4104 0xFF 0 ∧
        Only ([.kw, .hinge, .cfg] ++ codes) s t)) ∧
  -- the APPLY register of a block, by either request
  (∀ (s : State) (r : Req) (x : Session) (b : BlockReq) (k : Block), Writer s r x → b.block? = some k → Holds s r x k → s.runs = true →
    (∃ t used, exec (.cfgApply r b) s = .next t ∧ Commanded [.cfg] s t r k.applyAddr 1 used ∧
      t.cfg = { s.cfg with writes := s.cfg.writes ++ [.apply s.tick k.base] }) ∧
    (∃ t, exec (.apply r b) s = .next t ∧ Answered t r (leBytes 4 s.tick.toNat) ∧
      t.cfg = { s.cfg with writes := s.cfg.writes ++ [.apply s.tick k.base] } ∧ Only [.kw, .hinge, .cfg] s t)) ∧
  -- a word of the configuration with one runtime-writable field
  (∀ (s : State) (r : Req) (x : Session) (addr value : Word) (g : Region) (y : ImgReg) (p : Part), Writer s r x → s.runs = true →
    wordAddr addr.toNat = some g → isScratch addr.toNat = false → Holds s r x g.block → imgAt addr.toNat = some y →
    y.parts.filter Part.rw = [p] → p.f ≠ F.frictionTable → p.f ≠ F.coggingTable → applyBlock addr.toNat = none → liveOf addr.toNat = none →
    traceConfig addr.toNat = false → (s.heard r x).ownRow (some r.sess) addr.toNat = none →
    let v := (clampPlace s.cfg.eff (fun _ => false) p (p.value value)).1
    ∃ t used, exec (.write r addr value) s = .next t ∧ Answered t r (wrote s addr.toNat used) ∧ used &&& partsMask [p] = p.bits v ∧
      t.cfg.writes = s.cfg.writes ++ [.field s.tick p.f p.elem p.item v] ∧ t.cfg.eff = s.cfg.eff ∧
      Only ([.kw, .hinge, .cfg] ++ codes) s t) ∧
  -- words of host scratch, one or a block, free of errors; an address of no register
  (∀ (s : State) (r : Req) (x : Session) (addr value : Word), Writer s r x → Holds s r x .unit → ScratchWf s → addr.toNat % 4 = 0 →
    isScratch addr.toNat = true → s.mem.poisoned.contains (scratchWord addr.toNat) = false → s.mem.flip (scratchWord addr.toNat) = 0 →
    ∃ t, exec (.write r addr value) s = .next t ∧ Answered t r (wrote s addr.toNat value) ∧
      memBytes t.mem.scratch addr.toNat 4 = leBytes 4 value.toNat ∧
      (∀ a, a < addr.toNat ∨ addr.toNat + 4 ≤ a → memGet t.mem.scratch a = memGet s.mem.scratch a) ∧
      t.mem.written = s.mem.written ||| BitVec.ofNat 65536 (2 ^ scratchIndex addr.toNat) ∧ Only [.kw, .mem] s t) ∧
  (∀ (s : State) (r : Req) (x : Session) (addr : Word) (count : Nat) (values : List Word), Writer s r x → Holds s r x .unit → ScratchWf s →
    isScratch addr.toNat = true → spanError addr.toNat count = none → 1 ≤ count → count ≤ 16382 → values.length = count →
    s.mem.poisoned = [] → s.mem.flips = [] → ∃ t, exec (.writeBlock r addr count values) s = .next t ∧
      Answered t r (leBytes 4 addr.toNat ++ leBytes 4 s.tick.toNat ++ leBytes 4 count) ∧
      memBytes t.mem.scratch addr.toNat (4 * count) = values.flatMap (fun w => leBytes 4 w.toNat) ∧
      (∀ a, a < addr.toNat ∨ addr.toNat + 4 * count ≤ a → memGet t.mem.scratch a = memGet s.mem.scratch a) ∧ Only [.kw, .mem] s t) ∧
  (∀ (s : State) (r : Req) (x : Session) (addr value : Word), Writer s r x → wordAddr addr.toNat = none →
    ∃ t, exec (.write r addr value) s = .next t ∧ Refused t r 0x4F02 ∧ Only [.kw] s t)

/-- DEFERRED_EFFECT and BITTINGS_RECOMPUTED (R63, R116, R117, R123, R178, R437). DEFERRED_EFFECT gives effect to what completed in the
tick before and leaves what completed in this one. An APPLY brings the pending shadows of its block into force, a shadow that
stands alone as its clamped value, discards them, and leaves every field that no shadow of the block names; a bank swap
changes the bank and leaves integrators, derivative states, v_corr and u_prev. BITTINGS_RECOMPUTED shows the bittings of the
configuration in force, unless the CRYPTO channel is halted. That the row is the tick boundary, and the order of the pending fields,
is the model's reading (logs 11, 49). -/
def Obligations.WritesTakeEffect : Prop :=
  (∀ s : State, s.unit.running = true → ∃ t, exec .deferredEffect s = .next t ∧
    (∀ w ∈ t.cfg.writes, w.tick = s.tick) ∧ (∀ e ∈ t.cfg.entries, e.1 = s.tick) ∧
    (∀ w ∈ s.cfg.writes, w.tick = s.tick → w ∈ t.cfg.writes) ∧ (∀ e ∈ s.cfg.entries, e.1 = s.tick → e ∈ t.cfg.entries) ∧
    (∀ t0 row elem item v, s.cfg.writes = [.field t0 row elem item v] → t0 ≠ s.tick →
      t.cfg.eff = s.cfg.eff.set row (elem * (fieldDef row).items + item) v) ∧
    (s.cfg.writes = [] → t.cfg.eff = s.cfg.eff) ∧
    t.trace.armReq = (if s.trace.armReq = some s.tick then s.trace.armReq else none) ∧
    Only ([.cfg, .hinge, .axes, .mem, .doors] ++ codes) s t) ∧
  (∀ s : State, s.unit.running = true → s.cfg.loaded = true → ∃ t, exec .bittingsRecomputed s = .next t ∧
    (s.cfg.bitsDue = none → t = s) ∧
    (s.mem.dma.getLsbD 3 = true → t = s) ∧
    (s.cfg.bitsDue ≠ none → s.mem.dma.getLsbD 3 = false → t = { s with cfg := { s.cfg with
      bits := vmapIdx (fun (k : Nat) (_ : BitVec 64) => sectionBitting s.cfg.eff (k + 1)) s.cfg.bits
      whole := wholeBitting s.cfg.eff, bitsDue := none } })) ∧
  -- APPLY
  (∀ (s : State) (t0 : Tick) (base : Nat) (b : Block), s.unit.running = true → s.cfg.writes = [.apply t0 base] → t0 ≠ s.tick →
    blockOf base = some b → ∃ t, exec .deferredEffect s = .next t ∧ t.cfg.writes = [] ∧
      t.cfg.shadows = s.cfg.shadows.filter (fun p => blockOf p.1 != some b) ∧ (s.pendingPlaces b = [] → t.cfg.eff = s.cfg.eff) ∧
      (∀ p w, s.pendingPlaces b = [(p, w)] → t.cfg.eff = s.cfg.eff.set p.f (p.elem * (fieldDef p.f).items + p.item)
        (clampPlace s.cfg.eff (fun f => p.f == f) p (p.value w)).1) ∧
      (∀ row k : Nat, (∀ q ∈ s.pendingPlaces b, q.1.f ≠ row) → t.cfg.eff.v row k = s.cfg.eff.v row k) ∧
      Only ([.cfg, .hinge, .axes, .mem, .doors] ++ codes) s t) ∧
  -- a bank swap
  (∀ (s : State) (t0 : Tick) (a : AxisId) (item : Nat) (v : Int), s.unit.running = true →
    s.cfg.writes = [.field t0 F.bankAtStart a.val item v] → t0 ≠ s.tick → ∃ t, exec .deferredEffect s = .next t ∧
      (let l := (s.axes[a]).loop
       let m := (t.axes[a]).loop
       m.bank = decide (v = 1) ∧ (∀ x : Loop, m.ch x = l.ch x) ∧ m.vCorr = l.vCorr ∧ m.uPrev = l.uPrev ∧ m.sel = l.sel))

/-- The eight requests of image and firmware staging (R92, R94, R455, R457, R458). BEGIN, DATA, END and CANCEL of images and firmware
collect, end and discard the data of their session, or are refused by R458; END is answered once the data are written. The
codes of these refusals, and what they leave, are the model's reading (log 24). -/
def Obligations.Staging : Prop :=
  -- BEGIN
  (∀ (s : State) (r : Req) (x : Session) (slot : BitVec 8) (len : Nat), Asks s r x .image → x.role = .maintainer → Holds s r x .unit →
    slot.toNat ≤ 1 → (s.cfg.loaded = true → s.unit.slotB ≠ (slot == 1)) → s.kw.image = none → len ≤ 0x100000 →
    ∃ t, exec (.imageStageBegin r slot len) s = .next t ∧ Answered t r [] ∧
      t.kw = { s.kw with sess := t.kw.sess, answers := t.kw.answers, taken := s.kw.taken.set r.sess (s.kw.taken[r.sess] + 1), image := some ⟨r.sess, slot == 1, len, [], none, x.num⟩ } ∧
      Elsewhere r.sess s.kw.sess t.kw.sess ∧ Only [.kw] s t) ∧
  (∀ (s : State) (r : Req) (x : Session) (len : Nat), Asks s r x .firmware → x.role = .maintainer → Holds s r x .unit →
    s.kw.fw = none → len ≤ 0x200000 →
    ∃ t, exec (.fwStageBegin r len) s = .next t ∧ Answered t r [] ∧
      t.kw = { s.kw with sess := t.kw.sess, answers := t.kw.answers, taken := s.kw.taken.set r.sess (s.kw.taken[r.sess] + 1), fw := some ⟨r.sess, false, len, [], none, x.num⟩ } ∧
      Elsewhere r.sess s.kw.sess t.kw.sess ∧ Only [.kw] s t) ∧
  -- DATA in order, END of complete data, CANCEL
  (∀ (s : State) (r : Req) (x : Session) (g : Machine.Staging), Asks s r x .image → x.role = .maintainer → Holds s r x .unit →
    s.kw.image = some g → g.sess = r.sess → g.writing = none →
    (∀ data : List Byte, g.data.length + data.length ≤ g.len → ∃ t, exec (.imageStageData r g.data.length data) s = .next t ∧ Answered t r [] ∧
      t.kw = { s.kw with sess := t.kw.sess, answers := t.kw.answers, taken := s.kw.taken.set r.sess (s.kw.taken[r.sess] + 1), image := some { g with data := g.data ++ data } } ∧
      Elsewhere r.sess s.kw.sess t.kw.sess ∧ Only [.kw] s t) ∧
    (∀ (offset : Nat) (data : List Byte), offset ≠ g.data.length ∨ g.len < offset + data.length →
      ∃ t, exec (.imageStageData r offset data) s = .next t ∧ Refused t r 0x4F07 ∧ t.kw.image = some g ∧ Only [.kw] s t) ∧
    (g.data.length = g.len → ∃ t, exec (.imageStageEnd r) s = .next t ∧
      t.kw = { s.kw with sess := s.kw.sess.set r.sess (some { x with lastMsg := s.up }), taken := s.kw.taken.set r.sess (s.kw.taken[r.sess] + 1)
                         image := some { g with writing := some r.tag.toNat } } ∧ Only [.kw] s t) ∧
    (∃ t, exec (.imageStageCancel r) s = .next t ∧ Answered t r [] ∧ t.kw = { s.kw with sess := t.kw.sess, answers := t.kw.answers, taken := s.kw.taken.set r.sess (s.kw.taken[r.sess] + 1), image := none } ∧
      Elsewhere r.sess s.kw.sess t.kw.sess ∧ Only [.kw] s t)) ∧
  (∀ (s : State) (r : Req) (x : Session) (g : Machine.Staging), Asks s r x .firmware → x.role = .maintainer → Holds s r x .unit →
    s.kw.fw = some g → g.sess = r.sess → g.writing = none →
    (∀ data : List Byte, g.data.length + data.length ≤ g.len → ∃ t, exec (.fwStageData r g.data.length data) s = .next t ∧ Answered t r [] ∧
      t.kw = { s.kw with sess := t.kw.sess, answers := t.kw.answers, taken := s.kw.taken.set r.sess (s.kw.taken[r.sess] + 1), fw := some { g with data := g.data ++ data } } ∧
      Elsewhere r.sess s.kw.sess t.kw.sess ∧ Only [.kw] s t) ∧
    (∀ (offset : Nat) (data : List Byte), offset ≠ g.data.length ∨ g.len < offset + data.length →
      ∃ t, exec (.fwStageData r offset data) s = .next t ∧ Refused t r 0x4F07 ∧ t.kw.fw = some g ∧ Only [.kw] s t) ∧
    (g.data.length = g.len → ∃ t, exec (.fwStageEnd r) s = .next t ∧
      t.kw = { s.kw with sess := s.kw.sess.set r.sess (some { x with lastMsg := s.up }), taken := s.kw.taken.set r.sess (s.kw.taken[r.sess] + 1)
                         fw := some { g with writing := some r.tag.toNat } } ∧ Only [.kw] s t) ∧
    (∃ t, exec (.fwStageCancel r) s = .next t ∧ Answered t r [] ∧ t.kw = { s.kw with sess := t.kw.sess, answers := t.kw.answers, taken := s.kw.taken.set r.sess (s.kw.taken[r.sess] + 1), fw := none } ∧
      Elsewhere r.sess s.kw.sess t.kw.sess ∧ Only [.kw] s t))

/-- STAGE_WRITE_COMPLETE, DRY_RUN_COMPLETE and FW_STAGE_CHECK_COMPLETE (R93, R458, R467). The write puts the collected bytes
into the slot and answers; the dry run and the firmware check show their results and change nothing in use. -/
def Obligations.StagingCompletes : Prop :=
  (∀ (s : State) (g : Machine.Staging) (tag : Nat), s.unit.running = true → s.kw.image = some g → g.writing = some tag →
    ∃ t, exec (.stageWriteComplete false) s = .next t ∧
      (let k : Fin 2 := if g.slotB then 1 else 0; t.fw = { s.fw with slots := s.fw.slots.set k g.data }) ∧ t.kw.image = none ∧
      (s.isSame g.sess g.num = true → t.kw.answers[g.sess] = some (.response tag (leBytes 4 (leAt g.data 12 4)))) ∧
      (s.isSame g.sess g.num = false → t.kw.answers = s.kw.answers) ∧
      t.cfg = { s.cfg with stagedSerial := if s.cfg.loaded then slotSerial g.data else s.cfg.stagedSerial
                           dryRun := if s.unit.st = .unconfigured then s.cfg.dryRun else some g.slotB } ∧
      t.kw.events = s.kw.events ||| 0x20 ∧ TellsAfter s t 0x4807 0xFF 0 ∧ Only [.kw, .fw, .cfg, .recorder, .trace, .setNow] s t) ∧
  (∀ (s : State) (g : Machine.Staging) (tag : Nat), s.unit.running = true → s.kw.fw = some g → g.writing = some tag →
    ∃ t, exec (.stageWriteComplete true) s = .next t ∧
      (let k : Fin 2 := if s.fw.booted then 0 else 1; t.fw = { s.fw with fw := s.fw.fw.set k g.data, busy := true }) ∧ t.kw.fw = none ∧
      (s.isSame g.sess g.num = true → t.kw.answers[g.sess] = some (.response tag (leBytes 4 (leAt g.data 8 4)))) ∧
      (s.isSame g.sess g.num = false → t.kw.answers = s.kw.answers) ∧
      t.kw.events = s.kw.events ||| 0x40 ∧ TellsAfter s t 0x4808 0xFF 0 ∧ Only [.kw, .fw, .recorder, .trace, .setNow] s t) ∧
  (∀ (s : State) (slotB : Bool), s.unit.running = true → s.cfg.dryRun = some slotB → ∃ t, exec .dryRunComplete s = .next t ∧
    t.cfg = { s.cfg with dryRun := none, staged := (s.trySlot slotB).result, stagedNeeds := (s.trySlot slotB).needsAccept
                         stagedBits := t.cfg.stagedBits } ∧
    ((s.trySlot slotB).result ≠ .accepted → t.cfg.stagedBits = 0) ∧
    ((s.trySlot slotB).result = .accepted → t.cfg.stagedBits = wholeBitting (s.trySlot slotB).clamping.cfg) ∧ Only [.cfg] s t) ∧
  (∀ s : State, s.unit.running = true → s.fw.busy = true → ∃ t, exec .fwStageCheckComplete s = .next t ∧
    t.fw = { s.fw with busy := false, staged := t.fw.staged } ∧ Only [.fw] s t ∧
    (let bs := if s.fw.booted then s.fw.fw[0] else s.fw.fw[1]
     (slice bs 0 4 ≠ [0x5A, 0x46, 0x57, 0x52] → t.fw.staged = .blank) ∧
     (t.fw.staged = .wouldBoot ↔ slice bs 0 4 = [0x5A, 0x46, 0x57, 0x52] ∧ fwHeaderOk bs = true ∧
        sha256 (slice bs 256 (leAt bs 16 4)) = slice bs 24 32 ∧
        Config.ecdsaVerify Config.firmwareKey (bs.take 128) (leAt bs 128 32) (leAt bs 160 32) = true ∧ s.se.rollback ≤ leAt bs 12 4)))

/-- SESSION_OPEN, AUTH_BLOCK_EXPIRY, SESSION_IDLE_TIMEOUT and SESSION_END (R452, R453, R460). An admitted handshake opens the lowest
free session with its role, a refused one raises SESSION_AUTH_FAIL; a blocked address is free again at its expiry; a closed
session's claims, shadows and staging end. What certificates say is read outside the spec (log 26). -/
def Obligations.Sessions : Prop :=
  -- a chain that ends at an enrolled anchor
  (∀ (s : State) (h : Handshake) (v : TlsSuite) (role : KwRole) (j : Fin 2) (i : SessId), s.unit.running = true → s.unit.st ≠ .boot →
    s.unit.st ≠ .config → s.peerBlocked h.peer = false → h.suite = some v → h.chainOk s.cfg.eff.revoked = true → h.units = [role] →
    role ≠ .enrolment → s.se.anchorOf h.root = some j → s.admits role = true → s.kw.freeIndex h.index = some i →
    ∃ t, exec (.sessionOpen h) s = .next t ∧ t.kw.answers[i] = none ∧ t.kw.taken[i] = 0 ∧ t.kw.opened = s.kw.opened + 1 ∧
      (∃ y, t.kw.sess[i] = some y ∧ Session.core y = Session.core (Session.fresh role h.peer s.tick (sha256 h.leaf) (some j) s.up v
        [s.se.cert, Config.intermediateCa] s.kw.opened)) ∧
      t.kw.events = s.kw.events ||| 1 ∧ TellsAfter s t 0x4801 0xFF 0 ∧
      (∀ k : SessId, k ≠ i → (t.kw.sess[k]).map Session.core = (s.kw.sess[k]).map Session.core) ∧ Only [.kw, .recorder, .trace, .setNow] s t) ∧
  -- the profile of the handshake
  (∀ (h : Handshake) (v : TlsSuite), h.suite = some v → v ≠ .other ∧ v ∈ h.suites ∧ h.v13 = true ∧ h.secp256r1 = true ∧
    h.ecdsaP256 = true ∧ h.psk = false ∧ h.proved = true) ∧
  -- a handshake that fails
  (∀ (s : State) (h : Handshake), s.unit.running = true → s.unit.st ≠ .boot → s.unit.st ≠ .config → s.peerBlocked h.peer = false →
    h.suite = none ∨ h.chainOk s.cfg.eff.revoked = false →
    ∃ t, exec (.sessionOpen h) s = .next t ∧ t.kw.authFails = satN (s.kw.authFails + 1) 32 ∧ t.kw.events = s.kw.events ||| 2 ∧
      TellsAfter s t 0x4802 0xFF h.peer ∧ (∀ k : SessId, (t.kw.sess[k]).map Session.core = (s.kw.sess[k]).map Session.core) ∧
      (s.cfg.eff.n F.authFailLimit 0 = 0 → t.kw.blocked = s.kw.blocked) ∧
      (s.cfg.eff.n F.authFailLimit 0 = 1 → t.peerBlocked h.peer = true) ∧ Only [.kw, .recorder, .trace, .setNow] s t) ∧
  -- the end of a session
  (∀ (s : State) (i : SessId) (x : Session), s.unit.running = true → s.kw.sess[i] = some x →
    (∃ t, exec (.sessionEnd i) s = .next t ∧ t.kw.sess[i] = none ∧
      (∀ b : Block, t.kw.holder b = if s.kw.holder b = some i then none else s.kw.holder b) ∧
      (∀ p ∈ t.cfg.shadows, ∀ b, blockOf p.1 = some b → s.kw.holder b ≠ some i) ∧
      (∀ g, s.kw.image = some g → g.sess = i → g.writing = none → t.kw.image = none) ∧ (∀ q ∈ t.kw.later, q.req.sess ≠ i) ∧
      (∀ k : SessId, k ≠ i → (t.kw.sess[k]).map Session.core = (s.kw.sess[k]).map Session.core) ∧
      (s.unit.maintSess ≠ some i → t.unit = s.unit ∧ Only [.kw, .cfg] s t) ∧
      (s.unit.maintSess = some i → s.unit.st = .maintenance → t.unit.st = .run ∧ t.unit.entryTick = s.tick ∧ t.unit.maintSess = none)) ∧
    (0 < s.cfg.eff.n F.sessionIdleS 0 → exec (.sessionIdleTimeout i) s = exec (.sessionEnd i) s) ∧
    (s.cfg.eff.n F.sessionIdleS 0 = 0 → exec (.sessionIdleTimeout i) s = .next s)) ∧
  (∀ (s : State) (peer : Word), s.unit.running = true → ∃ t, exec (.authBlockExpiry peer) s = .next t ∧ t.peerBlocked peer = false ∧
    (∀ q, q ≠ peer → t.peerBlocked q = s.peerBlocked q) ∧ t.kw = { s.kw with blocked := t.kw.blocked } ∧ Only [.kw] s t)

/-- CLAIM, FORCE_CLAIM and RELEASE (R81, R369, R460). The outcomes of R460's table: granted, CLAIM_HELD with the holder, forced with
the former holder told, NOT_PERMITTED, NO_CLAIM; in a held state a RELEASE of another block than the unit's is BAD_STATE. -/
def Obligations.Claims : Prop :=
  (∀ (s : State) (r : Req) (x : Session) (b : BlockReq) (k : Block), Asks s r x .claim → x.role.privileged = true → b.block? = some k →
    s.claimable k = true →
    (s.kw.holder k = none ∨ s.kw.holder k = some r.sess → ∃ t, exec (.claim r b) s = .next t ∧ Answered t r (leBytes 4 s.tick.toNat) ∧
      t.kw.holder k = some r.sess ∧ (∀ b' : Block, b' ≠ k → t.kw.holder b' = s.kw.holder b') ∧ Elsewhere r.sess s.kw.sess t.kw.sess ∧ Only [.kw] s t) ∧
    (∀ j, s.kw.holder k = some j → j ≠ r.sess → ∃ t, exec (.claim r b) s = .next t ∧
      t.kw.answers[r.sess] = some (.error r.tag.toNat 0x4F05 0 (BitVec.ofNat 32 j.val)) ∧
      (∀ b' : Block, t.kw.holder b' = s.kw.holder b') ∧ Elsewhere r.sess s.kw.sess t.kw.sess ∧ Only [.kw] s t) ∧
    (x.role ≠ .maintainer → ∃ t, exec (.forceClaim r b) s = .next t ∧ Refused t r 0x4F03 ∧ (∀ b' : Block, t.kw.holder b' = s.kw.holder b') ∧ Only [.kw] s t) ∧
    (x.role = .maintainer → s.kw.holder k = none ∨ s.kw.holder k = some r.sess →
      ∃ t, exec (.forceClaim r b) s = .next t ∧ Answered t r (leBytes 4 s.tick.toNat) ∧
      t.kw.holder k = some r.sess ∧ (∀ b' : Block, b' ≠ k → t.kw.holder b' = s.kw.holder b') ∧ Elsewhere r.sess s.kw.sess t.kw.sess ∧ Only [.kw] s t) ∧
    (x.role = .maintainer → ∀ j y, s.kw.holder k = some j → j ≠ r.sess → s.kw.sess[j] = some y → y.queue.length ≤ 240 →
      ∃ t, exec (.forceClaim r b) s = .next t ∧ Answered t r (leBytes 4 s.tick.toNat) ∧ t.kw.holder k = some r.sess ∧
        (∀ b' : Block, b' ≠ k → t.kw.holder b' = s.kw.holder b') ∧ t.kw.events = s.kw.events ||| 4 ∧
        (∃ z e, t.kw.sess[j] = some z ∧ e ∈ z.queue ∧ e.code = 0x4804 ∧ e.tick = s.tick ∧ e.detail = BitVec.ofNat 32 k.code) ∧
        t.cfg = { s.cfg with shadows := s.cfg.shadows.filter fun p => blockOf p.1 != some k } ∧ Only [.kw, .cfg, .recorder, .trace, .setNow] s t)) ∧
  (∀ (s : State) (r : Req) (x : Session) (b : BlockReq) (k : Block), Asks s r x .claim → b.block? = some k →
    (s.held = true → k ≠ .unit → ∃ t, exec (.release r b) s = .next t ∧ Refused t r 0x4F06 ∧ (∀ b' : Block, t.kw.holder b' = s.kw.holder b') ∧
      Only [.kw] s t) ∧
    (s.held = false ∨ k = .unit → s.kw.holder k = some r.sess → ∃ t, exec (.release r b) s = .next t ∧ Answered t r (leBytes 4 s.tick.toNat) ∧ t.kw.holder k = none ∧
      (∀ b' : Block, b' ≠ k → t.kw.holder b' = s.kw.holder b') ∧
      t.cfg = { s.cfg with shadows := s.cfg.shadows.filter fun p => blockOf p.1 != some k } ∧ Only [.kw, .cfg, .recorder, .trace, .setNow] s t) ∧
    (s.held = false ∨ k = .unit → s.kw.holder k ≠ some r.sess → ∃ t, exec (.release r b) s = .next t ∧ Refused t r 0x4F04 ∧ (∀ b' : Block, t.kw.holder b' = s.kw.holder b') ∧
      Only [.kw] s t))

/-- SUBSCRIBE SET, ADD, CLEAR and ACK (R463, R464). SET replaces, ADD appends, CLEAR empties the list, ACK frees events; a
list over 32 entries, given by SET or reached by ADD, is refused and the list left alone. Nothing but the session and its answer
changes. -/
def Obligations.Subscriptions : Prop :=
  ∀ (s : State) (r : Req) (x : Session), Asks s r x .other →
    (let given (y : Session) (n : Nat) : Keyway :=
       { s.kw with
         sess := s.kw.sess.set r.sess (some { y with lastMsg := s.up })
         answers := s.kw.answers.set r.sess (some (.response r.tag.toNat (leBytes 2 n ++ [0, 0] ++ leBytes 4 x.nextSeq)))
         taken := s.kw.taken.set r.sess (s.kw.taken[r.sess] + 1) }
     (∀ es : List (Code × BitVec 8), es.length ≤ 32 → ∃ t, exec (.subscribeSet r es) s = .next t ∧
       t.kw = given { x with subs := es.map fun e => (e.1, e.2.toNat) } es.length ∧ Only [.kw] s t) ∧
     (∀ es : List (Code × BitVec 8), x.subs.length + es.length ≤ 32 → ∃ t, exec (.subscribeAdd r es) s = .next t ∧
       t.kw = given { x with subs := x.subs ++ es.map fun e => (e.1, e.2.toNat) } (x.subs.length + es.length) ∧ Only [.kw] s t) ∧
     (∀ es : List (Code × BitVec 8), 32 < es.length → ∃ t, exec (.subscribeSet r es) s = .next t ∧ Refused t r 0x4F07 ∧
       t.kw.sess = s.kw.sess.set r.sess (some { x with lastMsg := s.up }) ∧ Only [.kw] s t) ∧
     (∀ es : List (Code × BitVec 8), 32 < x.subs.length + es.length → ∃ t, exec (.subscribeAdd r es) s = .next t ∧ Refused t r 0x4F07 ∧
       t.kw.sess = s.kw.sess.set r.sess (some { x with lastMsg := s.up }) ∧ Only [.kw] s t) ∧
     (∃ t, exec (.subscribeClear r) s = .next t ∧ t.kw = given { x with subs := [] } 0 ∧ Only [.kw] s t) ∧
     (∀ seq : Word, ∃ t, exec (.subscribeAck r seq) s = .next t ∧
       t.kw = given { x with queue := x.queue.filter fun e => decide (seq.toNat < e.seq) } x.subs.length ∧ Only [.kw] s t))

/-- RESTART, ENTER_MAINTENANCE, EXIT_MAINTENANCE and ANCHOR (R79, R83, R409, R459). RESTART answers and stops the module
with BOLT off; MAINTENANCE is entered with zero speed and left with every jog ended; ANCHOR is taken once in 10 s. That RESTART
stops the module in the row (logs 13, 14), that commands wait for room in a heartbeat (log 22) and when the state changes (log 31) is
the model's reading. -/
def Obligations.HostCommands : Prop :=
  (∀ (s : State) (r : Req) (x : Session), Asks s r x .restart → x.role = .maintainer → Holds s r x .unit →
    ∃ t, exec (.restart r) s = .next t ∧ Answered t r (leBytes 4 s.tick.toNat) ∧
      t.unit = { s.unit with running := false, cause := .restart, coreLine := false } ∧ BoltOff t ∧ t.il.bolt.combined = false ∧
      (∀ k : PortId, t.ports[k] = { s.ports[k] with sent := none }) ∧ t.hinge.lease = false ∧ t.hinge.sent = none ∧ t.net.bypass = true ∧
      Only [.kw, .unit, .il, .ports, .can, .hinge, .net] s t) ∧
  (∀ (s : State) (r : Req) (x : Session), Asks s r x .other → x.role = .maintainer → Holds s r x .unit → s.passive = false →
    s.hinge.waiting = [] → (s.hinge.role = .active → s.hinge.records.length < 4) →
    (s.unit.st = .run → s.zeroSpeed = true → ∃ t, exec (.enterMaintenance r) s = .next t ∧ Answered t r (leBytes 4 s.tick.toNat) ∧
      t.unit = { s.unit with st := .maintenance, entryTick := s.tick, homingDue := false, maintSess := some r.sess } ∧
      t.hinge = (if s.hinge.role = .active then { s.hinge with records := s.hinge.records ++ [.command 2 0] } else s.hinge) ∧
      Only [.kw, .unit, .hinge] s t) ∧
    (s.unit.st = .run → s.zeroSpeed = false → ∃ t, exec (.enterMaintenance r) s = .next t ∧ Refused t r 0x4F07 ∧ Only [.kw] s t) ∧
    (s.unit.st = .maintenance → ∃ t, exec (.exitMaintenance r) s = .next t ∧ Answered t r (leBytes 4 s.tick.toNat) ∧
      t.unit = { s.unit with st := .run, entryTick := s.tick, homingDue := false, maintSess := none } ∧
      t.hinge = (if s.hinge.role = .active then { s.hinge with records := s.hinge.records ++ [.command 3 0] } else s.hinge) ∧
      (∀ d : DoorId, s.cfg.eff.n F.doorUsed d.val = 1 → (t.doors[d]).jog = none) ∧ ((s.ward 9 || s.ward 10) = true → TellsAfter s t 0x400E 0xFF 0) ∧
      Only [.kw, .unit, .hinge, .doors, .axes, .recorder, .trace, .setNow] s t)) ∧
  (∀ (s : State) (r : Req) (x : Session) (utc : BitVec 64) (unc : Word), Asks s r x .other → x.role.privileged = true → s.passive = false →
    ((∀ u, s.recorder.anchorAt = some u → u + 200000 ≤ s.up) → ∃ t, exec (.anchor r utc unc) s = .next t ∧
      Answered t r (leBytes 4 s.tick.toNat ++ leBytes 4 s.recorder.nextSeq) ∧ t.recorder.anchorAt = some s.up ∧ t.recorder.lastAnchor = s.tick ∧
      Only [.kw, .recorder, .trace, .setNow] s t) ∧
    (∀ u, s.recorder.anchorAt = some u → s.up < u + 200000 → ∃ t, exec (.anchor r utc unc) s = .next t ∧ Refused t r 0x4F09 ∧ Only [.kw] s t))

/-- ENROL and UNENROL (R455, R459, R462). An ENROL authorised by switch 10, or for a free index by the signature of the other
anchor, by which the session is authenticated, puts the certificate at its index, is answered with its fingerprint, and closes the
sessions that depend on the old anchor and enrolment sessions. A session of another role gets NOT_PERMITTED, a certificate that is
no anchor and a signature that does not verify get the certificate error, and an ENROL that nothing authorises is refused. UNENROL
removes an anchor with ward switch 10 ON and is refused otherwise. The code of a bad signature or certificate is the model's reading
(log 25). -/
def Obligations.Enrolment : Prop :=
  (∀ (s : State) (r : Req) (x : Session) (j k : Fin 2) (cert sig : List Byte), Asks s r x .enrol → s.passive = false →
    cert.length ≤ 2048 → k ≠ j →
    (let signed : Prop := s.se.anchorCount ≠ 0 ∧ x.role = .maintainer ∧ Holds s r x .unit ∧ s.se.anchors[j] = none ∧ x.anchor = some k ∧
       sig.length = 64 ∧ (∃ der, s.se.anchors[k] = some der ∧ Config.ecdsaVerify (Config.certKey der) cert (leAt sig 0 32) (leAt sig 32 32) = true)
     let switched : Prop := s.ward 10 = true ∧
       (s.se.anchorCount = 0 ∧ x.role = .enrolment ∨ s.se.anchorCount ≠ 0 ∧ x.role = .maintainer ∧ Holds s r x .unit)
     (switched ∨ signed → Config.anchorOk cert = true →
       ∃ t, exec (.enrol r (BitVec.ofNat 8 j.val) cert sig) s = .next t ∧ t.se = { s.se with anchors := s.se.anchors.set j (some cert) } ∧
         t.kw.events = s.kw.events ||| 8 ∧ Answered t r (leBytes 4 s.tick.toNat ++ sha256 cert) ∧
         (∀ i y, s.kw.sess[i] = some y → y.anchor = some j ∨ y.role = .enrolment → t.kw.sess[(i : SessId)] = none) ∧
         Only [.kw, .se, .cfg, .unit, .doors, .axes, .recorder, .trace, .setNow] s t) ∧
     (switched ∨ signed → Config.anchorOk cert = false →
       ∃ t, exec (.enrol r (BitVec.ofNat 8 j.val) cert sig) s = .next t ∧ Refused t r 0x4F0A ∧ Only [.kw] s t))) ∧
  -- what authorises nothing
  (∀ (s : State) (r : Req) (x : Session) (j k : Fin 2) (cert sig : List Byte), Asks s r x .enrol → s.passive = false →
    cert.length ≤ 2048 → k ≠ j →
    (x.role ≠ .enrolment → x.role ≠ .maintainer →
      ∃ t, exec (.enrol r (BitVec.ofNat 8 j.val) cert sig) s = .next t ∧ Refused t r 0x4F03 ∧ Only [.kw] s t) ∧
    (s.se.anchorCount ≠ 0 → s.ward 10 = false → x.role = .maintainer → Holds s r x .unit →
      ((s.se.anchors[j]).isSome = true ∨ sig = [] ∨ x.anchor ≠ some k →
        ∃ t, exec (.enrol r (BitVec.ofNat 8 j.val) cert sig) s = .next t ∧ Refused t r 0x4F07 ∧ Only [.kw] s t) ∧
      (s.se.anchors[j] = none → sig ≠ [] → x.anchor = some k →
        (∀ der, s.se.anchors[k] = some der → sig.length ≠ 64 ∨ Config.ecdsaVerify (Config.certKey der) cert (leAt sig 0 32) (leAt sig 32 32) = false) →
        (s.se.anchors[k]).isSome = true →
        ∃ t, exec (.enrol r (BitVec.ofNat 8 j.val) cert sig) s = .next t ∧ Refused t r 0x4F0A ∧ Only [.kw] s t))) ∧
  (∀ (s : State) (r : Req) (x : Session) (j : Fin 2) (der : List Byte), Asks s r x .unenrol → s.passive = false → x.role = .maintainer →
    Holds s r x .unit → s.se.anchors[j] = some der →
    (s.ward 10 = true → ∃ t, exec (.unenrol r (BitVec.ofNat 8 j.val)) s = .next t ∧ t.se = { s.se with anchors := s.se.anchors.set j none } ∧
      t.kw.events = s.kw.events ||| 16 ∧ (∀ i y, s.kw.sess[i] = some y → y.anchor = some j → t.kw.sess[(i : SessId)] = none) ∧
      Answered t r (leBytes 4 s.tick.toNat) ∧
      Only [.kw, .se, .cfg, .unit, .doors, .axes, .recorder, .trace, .setNow] s t) ∧
    (s.ward 10 = false → ∃ t, exec (.unenrol r (BitVec.ofNat 8 j.val)) s = .next t ∧ Refused t r 0x4F07 ∧ Only [.kw] s t))

/-- LOG_SEAL_EXPIRY and PAGE_COMMIT (R399, R413, R414, R415, R417, R420, R423, R425, R427). The expiry seals a page that has held data
for LOG_SEAL_MS and is nothing else before. A commit programs the oldest sealed page, as it was read, at the next place with its
valid mark, and takes its digest and chain; a failed one retires the block and keeps the page; a page whose block has still to be
erased waits. With no page waiting, the LOG_FULL page goes into the first of blocks 0 to 3 that is not retired. When the engine runs,
and what it does on a full log, is the model's reading (logs 14, 45). -/
def Obligations.LogPages : Prop :=
  (∀ s : State, s.unit.running = true → ∃ t, exec .logSealExpiry s = .next t ∧
    (s.sealDue = false ∨ s.recorder.opened.data = [] → t = s) ∧
    (s.sealDue = true → s.recorder.opened.data ≠ [] → s.recorder.sealedPages.length < 3 → t.recorder = { s.recorder with
      sealedPages := s.recorder.sealedPages ++ [{ s.recorder.opened with flush := s.panel.holdup, firstAfter := s.recorder.firstAfter }]
      opened := .empty, since := none, firstAfter := false, sealDue := none }) ∧
    (s.sealDue = true → s.recorder.opened.data ≠ [] → 3 ≤ s.recorder.sealedPages.length →
      t.recorder = { s.recorder with sealDue := some (s.panel.holdup || s.recorder.sealDue.getD false) }) ∧
    Only [.recorder] s t) ∧
  (∀ (s : State) (p : RecPage) (ps : List RecPage) (parity : Option (List Byte)), s.commits = true → s.recorder.sealedPages = p :: ps →
    s.recorder.nextPhys < 4194304 →
    -- the block has still to be erased
    (s.recorder.unerased (s.recorder.nextPhys / 64) = true → ∀ ok, exec (.pageCommit ok none) s = .next s) ∧
    -- the programs succeed
    (s.recorder.unerased (s.recorder.nextPhys / 64) = false → ∃ t, exec (.pageCommit true parity) s = .next t ∧
      (let q := p.asRead parity
       let bytes := pageBytes s.recorder s.recIn q s.recorder.nextPhys false
       t.recorder.nand.pages = programmed s.recorder.nextPhys bytes 0 :: s.recorder.nand.pages ∧ t.recorder.digest = sha256 bytes ∧
       t.recorder.chain = (s.recorder.chainAfter q).1) ∧
      t.recorder.committed = s.recorder.committed + 1 ∧ t.recorder.pageSeq = some s.recorder.nextPage ∧
      (parity = none → t.mem = s.mem) ∧ Only [.recorder, .kw, .trace, .setNow, .se, .mem] s t) ∧
    -- they fail, and the supply holds
    (s.recorder.unerased (s.recorder.nextPhys / 64) = false → s.panel.holdup = false →
      ∃ t, exec (.pageCommit false none) s = .next t ∧ t.recorder.sealedPages.head? = some p ∧
        (s.recorder.nextPhys / 64) ∈ t.recorder.nand.retired ∧ t.recorder.committed = s.recorder.committed ∧
        t.recorder.chain = s.recorder.chain ∧ Only [.recorder, .kw, .trace, .setNow] s t)) ∧
  -- the LOG_FULL page
  (∀ s : State, s.commits = true → s.recorder.sealedPages = [] → s.recorder.opened.data = [] → s.recorder.fullDue = true →
    s.recorder.erase = none → s.recorder.nand.nextBlock 0 < 4 → ∃ t, exec (.pageCommit true none) s = .next t ∧
      (let phys := 64 * s.recorder.nand.nextBlock 0
       let bytes := pageBytes s.recorder s.recIn (RecRun.fullPage ⟨s.recorder, []⟩ s.recIn) phys true
       t.recorder.nand.pages = programmed phys bytes 0 :: s.recorder.nand.pages ∧ t.recorder.digest = sha256 bytes) ∧
      t.recorder.fullDue = false ∧ t.recorder.committed = s.recorder.committed ∧ t.recorder.pageSeq = some s.recorder.nextPage ∧
      Only [.recorder] s t)

/-- LOG_READ, LOG_ERASE, LOG_BLOCK_ERASED and ERASE_COMPLETE (R410, R423, R426, R427). LOG_READ returns the pages asked for to a
privileged session; LOG_ERASE with the last page's PAGE_SEQ and CHAIN on a recording or full log starts an erase, and is refused
otherwise; each block's end goes on to the next, a bad one being retired; the first good block from 4 on starts the new log; the
last one ends ERASING. What LOG_READ says of a page that is not held, and the codes of the refusals, are the model's reading (log 46). -/
def Obligations.LogOffloadAndErase : Prop :=
  (∀ (s : State) (r : Req) (x : Session) (first count : Nat) (pages : List PageRead), Asks s r x .logRead → 1 ≤ count → count ≤ 15 →
    (x.role.privileged = false → ∃ t, exec (.logRead r first count pages) s = .next t ∧ Refused t r 0x4F03 ∧ Only [.kw] s t) ∧
    (x.role.privileged = true → ∃ t, exec (.logRead r first count pages) s = .next t ∧
      Answered t r (leBytes 4 s.se.eraseCount ++ leBytes 4 count ++
        (List.range count).flatMap fun k => readPage s.recorder.nand s.se.eraseCount (first + k) (pages.getD k ⟨0, none⟩)) ∧
      t.recorder.nand = s.recorder.nand ∧ t.recorder.readAt = some s.up ∧ Only [.kw, .recorder, .trace, .setNow, .taken] s t)) ∧
  (∀ (s : State) (r : Req) (x : Session) (seq : Nat) (chain : List Byte), Asks s r x .other → x.role = .maintainer → Holds s r x .unit →
    s.runs = true →
    (s.recorder.st ≠ .recording ∧ s.recorder.st ≠ .full ∨ s.recorder.pageSeq ≠ some seq ∨ s.recorder.chain ≠ chain ∨ s.recorder.fullDue = true →
      ∃ t, exec (.logErase r seq chain) s = .next t ∧ Refused t r 0x4F07 ∧ Only [.kw] s t) ∧
    (s.recorder.st = .recording ∨ s.recorder.st = .full → s.recorder.pageSeq = some seq → s.recorder.chain = chain → s.recorder.fullDue = false →
      ∃ t, exec (.logErase r seq chain) s = .next t ∧
      Answered t r (leBytes 4 (s.se.eraseCount + 1)) ∧ t.recorder.st = .erasing ∧ t.recorder.progress = 0 ∧
      t.se = { s.se with eraseCount := if s.recorder.sealedPages = [] ∧ s.recorder.opened.data = [] then s.se.eraseCount + 1 else s.se.eraseCount } ∧
      t.recorder.nand = s.recorder.nand ∧ Only [.kw, .recorder, .trace, .setNow, .se] s t)) ∧
  (∀ (s : State) (e : EraseSt), s.unit.running = true → s.recorder.erase = some e → e.counted = true →
    (e.next < 65536 → ∃ t, exec (.logBlockErased e.next none) s = .next t ∧
      t.recorder.nand.pages = s.recorder.nand.pages.filter (fun p => p.phys / 64 != e.next) ∧ t.recorder.progress = s.recorder.progress + 1 ∧
      (s.recorder.nand.nextBlock (e.next + 1) < 65536 →
        t.recorder.erase = some { e with next := e.next + 1, begun := e.begun || decide (4 ≤ e.next) }) ∧
      (65536 ≤ s.recorder.nand.nextBlock (e.next + 1) → t.recorder.erase = none ∧ t.recorder.st ≠ .erasing) ∧
      (e.begun = false → 4 ≤ e.next →
        t.recorder.pageSeq = none ∧ t.recorder.committed = 0 ∧ t.recorder.chain = genesis s.se.serial s.se.eraseCount ∧
        (e.cert.isSome = true → TellsAfter s t 0x4609 0xFF (BitVec.ofNat 32 (s.recorder.pageSeq.getD 0xFFFFFFFF)))) ∧
      Only [.recorder, .kw, .trace, .setNow] s t) ∧
    (∀ k, e.next < 65536 → s.recorder.nand.retired.contains e.next = false → ∃ t, exec (.logBlockErased e.next (some k)) s = .next t ∧
      e.next ∈ t.recorder.nand.retired ∧ t.recorder.nand.pages = s.recorder.nand.pages.filter (fun p => p.phys / 64 != e.next) ∧
      t.recorder.progress = s.recorder.progress + 1 ∧ TellsAfter s t 0x4606 0xFF (BitVec.ofNat 32 e.next) ∧
      Only [.recorder, .kw, .trace, .setNow] s t) ∧
    (s.recorder.st = .erasing → ∃ t, exec .eraseComplete s = .next t ∧ t.recorder.erase = none ∧ t.recorder.st ≠ .erasing ∧
      (∀ p ∈ t.recorder.nand.pages, p.phys / 64 < e.next ∨ s.recorder.nand.retired.contains (p.phys / 64) = true) ∧
      Only [.recorder, .kw, .trace, .setNow] s t)) ∧
  (∀ (s : State) (b : Nat), s.unit.running = true → s.recorder.erase = none → ∃ t, exec (.logBlockErased b none) s = .next t ∧
    t = { s with recorder := { s.recorder with nand := { s.recorder.nand with
      pages := s.recorder.nand.pages.filter fun p => p.phys / 64 != b || leAt p.bytes 16 4 == s.se.eraseCount } } })

/-- MOVE_LANDED, QUICK_STOP_COMPLETE, TRAVEL_LIMIT, REACTION_BRAKING_END and STEPPER_HOLD (R203, R206, R214, R223, R237,
R244). The axis of the event lands on its target, comes to rest, trips at its limit, ends its reaction or holds with less
current; other axes stay. What a landing that has not come up by itself does is the model's reading (logs 7, 37). -/
def Obligations.MovesEnd : Prop :=
  ∀ (s : State) (a : AxisId), s.unit.running = true → s.computes = true →
    ((s.axes[a]).mot.planned = true → (s.axes[a]).mot.home.phase = .none → (s.axes[a]).mot.reaction = .none →
      ∃ t, exec (.moveLanded a) s = .next t ∧
        (let m := (s.axes[a]).mot
         let d := if m.target * 65536 = m.xp then sgn m.vp else sgn (m.target * 65536 - m.xp)
         (t.axes[a]).mot = { m with xp := m.target * 65536, vp := 0, aRef := satS 32 (rdiv (-(m.vp * d * d) * 20000) 256), phase := .idle
                                    landed := true, atTarget := true, deferral := none, xRef := m.target, vRef := 0 }) ∧
        (t.axes[a]).obst.eval = (if (s.axes[a]).obst.closing = true ∧ s.isLeaf a.val = true ∧ s.cfg.eff.kind a.val = 1
          then .settle (msTicks (s.cfg.eff.n F.closeSettle a.val)) else (s.axes[a]).obst.eval) ∧
        Elsewhere a s.axes t.axes ∧ Only [.axes] s t) ∧
    ((s.axes[a]).mot.qstop = true → ∃ t, exec (.quickStopComplete a) s = .next t ∧
      (let x := rdiv (s.axes[a]).mot.xp 65536
       t.axes[a] = { s.axes[a] with mot := { (s.axes[a]).mot with
         xp := x * 65536, vp := 0, target := x, xRef := satS 32 x, vRef := 0, aRef := 0, qstop := false, phase := .idle,
         reaction := .none, braking := false } }) ∧
      Elsewhere a s.axes t.axes ∧ Only [.axes] s t) ∧
    ((s.axes[a]).mot.limPos.active = false → ∃ t, exec (.travelLimit a true) s = .next t ∧
      (t.axes[a]).mot.limPos.active = true ∧ Elsewhere a s.axes t.axes ∧ Changes [.axes] s t ∧
      ((s.axes[a]).mot.travel ≠ 1 → (t.axes[a]).mot.qstop = (s.axes[a]).mot.qstop ∧ Tells s t 0x2004 a.val 0) ∧
      ((s.axes[a]).mot.travel = 1 → (s.axes[a]).mot.home.phase = .none → (s.axes[a]).mot.driven = true → (s.axes[a]).obst.confirmed = false →
        (t.axes[a]).mot.qstop = true ∧ (t.axes[a]).mot.phase = .qstop ∧ Tells s t 0x2004 a.val 0) ∧
      ((s.axes[a]).mot.travel = 1 → (s.axes[a]).mot.home.phase ≠ .none →
        (t.axes[a]).mot.home.result = 3 ∧ (t.axes[a]).mot.home.phase = .none ∧ (t.axes[a]).mot.qstop = true ∧ Tells s t 0x2003 a.val 3)) ∧
    ((s.axes[a]).mot.limNeg.active = false → ∃ t, exec (.travelLimit a false) s = .next t ∧
      (t.axes[a]).mot.limNeg.active = true ∧ Elsewhere a s.axes t.axes ∧ Changes [.axes] s t ∧
      ((s.axes[a]).mot.travel = -1 → (s.axes[a]).mot.home.phase = .none → (s.axes[a]).mot.driven = true → (s.axes[a]).obst.confirmed = false →
        (t.axes[a]).mot.qstop = true ∧ (t.axes[a]).mot.phase = .qstop ∧ Tells s t 0x2004 a.val 0)) ∧
    (∃ t, exec (.reactionBrakingEnd a) s = .next t ∧
      t.axes[a] = { s.axes[a] with mot := { (s.axes[a]).mot with reaction := .none, braking := false } } ∧ Elsewhere a s.axes t.axes ∧ Only [.axes] s t) ∧
    (s.cfg.eff.kind a.val = 2 → (s.axes[a]).mot.driven = true → (s.axes[a]).mot.rests = true → ∃ t, exec (.stepperHold a) s = .next t ∧
      t.axes[a] = { s.axes[a] with mot := { (s.axes[a]).mot with step := { (s.axes[a]).mot.step with holding := true } } } ∧
      Elsewhere a s.axes t.axes ∧ Only [.axes] s t) ∧
    ((s.axes[a]).mot.rests = false → exec (.stepperHold a) s = .next s)

/-- HOME_POSITION_FOUND, HOME_CHATTER and HOME_TIMEOUT (R210, R211, R212, R213, R215). The found reference shifts the frame and
stops or backs off; ABSOLUTE is homed at once; at the switch of SWITCH_INDEX the search goes on toward the index, which does not count
in the same tick. Chatter and time-out fail homing with results 2 and 5 and stop the axis; none of the three acts on an axis that
does not home. The shift of a repeated ABSOLUTE homing is the model's choice (log 92). -/
def Obligations.HomingEvents : Prop :=
  ∀ (s : State) (a : AxisId), s.unit.running = true → s.computes = true →
    (∀ position : Int, (s.axes[a]).mot.home.first = false →
      (let h := (s.axes[a]).mot.home
       let shifted := satS 32 (h.offset + (s.cfg.eff.v F.homePos a.val - position))
       (h.phase = .toward ∧ s.cfg.eff.n F.homeMethod a.val ≠ 4 ∨ h.phase = .index ∧ h.switchTick ≠ some s.tick →
         ∃ t, exec (.homePositionFound a position) s = .next t ∧
         (t.axes[a]).mot.home.phase = .stopping ∧ (t.axes[a]).mot.home.found = position ∧ (t.axes[a]).mot.home.offset = shifted ∧
         (t.axes[a]).mot.qstop = true ∧ (t.axes[a]).loop.xMeas = satS 32 ((s.axes[a]).loop.xMeas + (s.cfg.eff.v F.homePos a.val - position)) ∧
         Elsewhere a s.axes t.axes ∧ Only [.axes] s t) ∧
       (h.phase = .toward → s.cfg.eff.n F.homeMethod a.val = 4 → ∃ t, exec (.homePositionFound a position) s = .next t ∧
         (t.axes[a]).mot.home = { h with phase := .index, switchTick := some s.tick } ∧ (t.axes[a]).mot.source = .homing ∧
         (t.axes[a]).loop.xMeas = (s.axes[a]).loop.xMeas ∧ Elsewhere a s.axes t.axes ∧ Changes [.axes] s t) ∧
       (h.phase = .push → ∃ t, exec (.homePositionFound a position) s = .next t ∧
         (t.axes[a]).mot.home.phase = .backoff ∧ (t.axes[a]).mot.home.found = position ∧ (t.axes[a]).mot.home.offset = shifted ∧
         (t.axes[a]).mot.vp = 0 ∧ Elsewhere a s.axes t.axes ∧ Changes [.axes] s t) ∧
       (h.phase = .absolute → s.cfg.eff.kind a.val ≠ 2 ∨ s.cfg.eff.v F.stepEncoder a.val ≠ 0 → ∃ t, exec (.homePositionFound a position) s = .next t ∧
         (t.axes[a]).mot.home.phase = .none ∧ (t.axes[a]).mot.home.homed = true ∧ (t.axes[a]).mot.home.result = 1 ∧
         (t.axes[a]).mot.home.offset = satS 32 (s.cfg.eff.v F.homePos a.val) ∧ Elsewhere a s.axes t.axes ∧ Only [.axes] s t) ∧
       (h.phase = .away ∨ h.phase = .stopping ∨ h.phase = .backoff ∨ h.phase = .index ∧ h.switchTick = some s.tick →
         exec (.homePositionFound a position) s = .next s))) ∧
    (∀ position : Int, (s.axes[a]).mot.home.phase = .none → exec (.homePositionFound a position) s = .next s) ∧
    ((s.axes[a]).mot.home.phase ≠ .none →
      (∃ t, exec (.homeChatter a) s = .next t ∧ (t.axes[a]).mot.home = { (s.axes[a]).mot.home with phase := .none, result := 2, failed := true, homed := false } ∧
        (t.axes[a]).mot.qstop = true ∧ Tells s t 0x2003 a.val 2 ∧ Elsewhere a s.axes t.axes ∧ Changes [.axes] s t) ∧
      (∃ t, exec (.homeTimeout a) s = .next t ∧ (t.axes[a]).mot.home = { (s.axes[a]).mot.home with phase := .none, result := 5, failed := true, homed := false } ∧
        (t.axes[a]).mot.qstop = true ∧ Tells s t 0x2003 a.val 5 ∧ Elsewhere a s.axes t.axes ∧ Changes [.axes] s t)) ∧
    ((s.axes[a]).mot.home.phase = .none → exec (.homeChatter a) s = .next s ∧ exec (.homeTimeout a) s = .next s)

/-- OBST_CONFIRMED, SIBLING_REVERSAL and STALL (R225, R235, R236, R238). A confirmed obstacle reverses or stops its leaf and
is counted with its place; marked siblings reverse in the next tick; a stalled stepper is realigned. -/
def Obligations.Obstacles : Prop :=
  (∀ (s : State) (a : AxisId), s.unit.running = true → s.computes = true → s.cfg.eff.kind a.val = 1 →
    (s.axes[a]).mot.driven = true → (s.axes[a]).mot.reaction = .none → (s.axes[a]).obst.marked = false →
    ∃ t, exec (.obstConfirmed a) s = .next t ∧
      (t.axes[a]).mot.reaction = (if (s.axes[a]).loop.dir = 1 then .stop else .reverse) ∧
      (t.axes[a]).obst.total = satN ((s.axes[a]).obst.total + 1) 32 ∧ (t.axes[a]).obst.lastTick = s.tick ∧
      (t.axes[a]).obst.lastX = (s.axes[a]).loop.xMeas ∧ TellsAfter s t 0x2001 a.val 0 ∧ Changes [.axes, .doors] s t) ∧
  (∀ (s : State) (d : DoorId), s.unit.running = true → s.computes = true → ∃ t, exec (.siblingReversal d) s = .next t ∧
    (∀ a ∈ leavesOf s.cfg.eff d.val, (s.axes[a]).obst.marked = true → (s.axes[a]).mot.driven = true → (s.axes[a]).mot.reaction = .none →
      (t.axes[a]).mot.reaction = .sibling ∧ (t.axes[a]).obst.marked = false) ∧
    (∀ a, a ∉ leavesOf s.cfg.eff d.val → t.axes[a] = s.axes[a]) ∧ Changes [.axes] s t) ∧
  (∀ (s : State) (a : AxisId), s.unit.running = true → s.computes = true → s.cfg.eff.kind a.val = 2 → s.cfg.eff.v F.stepEncoder a.val = 1 →
    (s.axes[a]).mot.driven = true → (s.axes[a]).mot.home.phase = .none → ∃ t, exec (.stall a) s = .next t ∧
      (t.axes[a]).mot.xp = (s.axes[a]).loop.xMeas * 65536 ∧ (t.axes[a]).mot.vp = 0 ∧ (t.axes[a]).mot.target = (s.axes[a]).loop.xMeas ∧
      (t.axes[a]).mot.phase = .idle ∧ TellsAfter s t 0x2002 a.val 0 ∧ Changes [.axes, .doors] s t)

/-- LEAF_EVALUATION and CLOSURE_LOST (R244, R251). An evaluation computes the leaf's gap and date; a lost closure withdraws
CLOSED and LOCKED and leaves the doorway's state. -/
def Obligations.ClosureEvents : Prop :=
  (∀ (s : State) (a : AxisId) (x : Int), s.unit.running = true → s.computes = true → (s.axes[a]).obst.eval ≠ .idle →
    ∃ t, exec (.leafEvaluation a x) s = .next t ∧ (t.axes[a]).obst.eval = .idle ∧ (t.axes[a]).obst.xObs = x ∧ Elsewhere a s.axes t.axes ∧
      (∀ (d : DoorId) (k : Nat), doorOfAxis s.cfg.eff a.val = some (d.val, k) → k < 2 →
        (t.axes[a]).obst.gap = satS 32 (x - (s.axes[a]).obst.xClosed) ∧ (t.axes[a]).obst.evalTick = s.tick ∧ (t.axes[a]).obst.done = true ∧
        (t.axes[a]).obst.tEval = (s.axes[a]).obst.temp ∧
        ((t.axes[a]).obst.sig ≠ .pass → TellsAfter s t 0x3011 d.val 0)) ∧ Changes [.axes, .doors] s t) ∧
  (∀ (s : State) (d : DoorId), s.unit.running = true → s.computes = true → s.cfg.eff.n F.doorUsed d.val = 1 →
    (s.doors[d]).clo.monitor = true → (s.doors[d]).clo.lost = false → ∃ t, exec (.closureLost d) s = .next t ∧
      (t.doors[d]).clo = { (s.doors[d]).clo with
        lost := true, closed := false, locked := false, withheld := 7, events := (s.doors[d]).clo.events ||| 4
        tick := if (s.doors[d]).clo.locked then s.tick else (s.doors[d]).clo.tick } ∧
      (t.doors[d]).st = (s.doors[d]).st ∧ t.axes = s.axes ∧ Elsewhere d s.doors t.doors ∧ TellsAfter s t 0x3012 d.val 0 ∧ Changes [.doors] s t) ∧
  -- the verdict of a compute phase
  (∀ (r : DoorRun) (i : DoorIn),
    (let k := (r.verdict i).door.clo
     let ls := leavesOf i.cfg i.d
     let row1 : Prop := r.door.clo.seq = true ∧ ls ≠ [] ∧ ∀ a ∈ ls, (r.axes[a]).obst.done = true
     let row2 : Prop := gapSum (r.gaps i) ≤ gapLimit i.cfg i.d
     let row3 : Prop := ∀ a ∈ ls, -gapLimit i.cfg i.d ≤ (r.axes[a]).obst.gap
     let row4 : Prop := ∀ a ∈ ls, (r.axes[a]).obst.sig = .pass
     let row6 : Prop := r.lockOk i = true
     let row7 : Prop := i.active.getLsbD 0 = true ∧ i.active.getLsbD 1 = true
     let row8 : Prop := ∀ a ∈ axesOf i.cfg i.d, i.portReady a = true
     (k.closed = true ↔ row1 ∧ row2 ∧ row3 ∧ row4 ∧ k.lost = false) ∧ (k.locked = true ↔ k.closed = true ∧ row6 ∧ row7 ∧ row8) ∧
     (k.withheld = 0 ↔ k.locked = true) ∧ (k.withheld = 1 ↔ ¬ row1) ∧ (k.withheld = 2 ↔ row1 ∧ ¬ row2) ∧
     (k.withheld = 3 ↔ row1 ∧ row2 ∧ ¬ row3) ∧ (k.withheld = 4 ↔ row1 ∧ row2 ∧ row3 ∧ ¬ row4) ∧
     (k.withheld = 7 ↔ row1 ∧ row2 ∧ row3 ∧ row4 ∧ k.lost = true) ∧ (k.withheld = 6 ↔ k.closed = true ∧ ¬ row6) ∧
     (k.withheld = 5 ↔ k.closed = true ∧ row6 ∧ ¬ row7) ∧ (k.withheld = 8 ↔ k.closed = true ∧ row6 ∧ row7 ∧ ¬ row8) ∧
     (r.door.clo.locked = true ∨ k.locked = false → ∀ a : AxisId, ((r.verdict i).axes[a]).obst.xLearnt = (r.axes[a]).obst.xLearnt)))

/-- DOORWAY_OPEN and DOORWAY_CLOSE in every doorway state (R262, R264, R266, R267). An open command without side release, without
zero speed or in UNHOMED, ISOLATED or FAULT is refused with its cause; else it unlocks, reopens or changes nothing by state. A close
command warns or locks, with the buttons blocked, or has no effect, by state; in EGRESS both act only while the pair is inactive.
That commands of one kind count once a tick, and act where the doorway has already moved in it, is the model's reading (logs 9, 66). -/
def Obligations.OpenAndClose : Prop :=
  (∀ (s : State) (r : Req) (x : Session) (d : DoorId), Writer s r x → Holds s r x (.door d) → DoorRuns s d → (s.doors[d]).given.getLsbD 1 = false →
    ∃ t, exec (.doorwayOpen r d) s = .next t ∧ Written s t r (doorBase d + 0x40) 1 1 ∧ Elsewhere d s.doors t.doors ∧
      Only ([.kw, .hinge, .doors, .axes] ++ codes) s t ∧
      (s.il.release.getLsbD (s.cfg.eff.n F.doorSide d.val) = false →
        (t.doors[d]).st = (s.doors[d]).st ∧ (t.doors[d]).refusal = 0x3030 ∧ t.axes = s.axes ∧ Tells s t 0x3006 d.val 0x3030) ∧
      (s.il.release.getLsbD (s.cfg.eff.n F.doorSide d.val) = true → s.il.release.getLsbD 2 = false →
        (t.doors[d]).st = (s.doors[d]).st ∧ (t.doors[d]).refusal = 0x3031 ∧ t.axes = s.axes ∧ Tells s t 0x3006 d.val 0x3031) ∧
      (s.il.release.getLsbD (s.cfg.eff.n F.doorSide d.val) = true → s.il.release.getLsbD 2 = true →
        ((s.doors[d]).st = .unhomed ∨ (s.doors[d]).st = .isolated ∨ (s.doors[d]).st = .fault →
          (t.doors[d]).st = (s.doors[d]).st ∧ (t.doors[d]).refusal = 0x3032 ∧ t.axes = s.axes ∧ Tells s t 0x3006 d.val 0x3032) ∧
        ((s.doors[d]).st = .closedLocked ∨ (s.doors[d]).st = .closedUnlocked ∨ (s.doors[d]).st = .stepIn ∨ (s.doors[d]).st = .locking →
          (t.doors[d]).st = .unlocking ∧ (t.doors[d]).tick = s.tick ∧ (t.doors[d]).blocked = false) ∧
        ((s.doors[d]).st = .warning ∨ (s.doors[d]).st = .closing ∨ (s.doors[d]).st = .reopening ∨ (s.doors[d]).st = .obstructedOpen →
          (t.doors[d]).st = .opening ∧ (t.doors[d]).tick = s.tick ∧ (t.doors[d]).blocked = false ∧ (t.doors[d]).attempts = 0) ∧
        ((s.doors[d]).st = .unlocking ∨ (s.doors[d]).st = .stepOut ∨ (s.doors[d]).st = .opening ∨ (s.doors[d]).st = .opened →
          t.doors[d] = { s.doors[d] with given := (s.doors[d]).given ||| 2 } ∧ t.axes = s.axes) ∧
        ((s.doors[d]).st = .egress → (s.doors[d]).active.getLsbD 4 = true →
          t.doors[d] = { s.doors[d] with given := (s.doors[d]).given ||| 2 } ∧ t.axes = s.axes) ∧
        ((s.doors[d]).st = .egress → (s.doors[d]).active.getLsbD 4 = false →
          (t.doors[d]).st = .opening ∧ (t.doors[d]).tick = s.tick ∧ (t.doors[d]).blocked = false))) ∧
  (∀ (s : State) (r : Req) (x : Session) (d : DoorId), Writer s r x → Holds s r x (.door d) → DoorRuns s d → (s.doors[d]).given.getLsbD 0 = false →
    ∃ t, exec (.doorwayClose r d) s = .next t ∧ Written s t r (doorBase d + 0x40) 2 2 ∧ Elsewhere d s.doors t.doors ∧
      Only ([.kw, .hinge, .doors, .axes] ++ codes) s t ∧
      ((s.doors[d]).st = .unhomed ∨ (s.doors[d]).st = .isolated ∨ (s.doors[d]).st = .fault →
        (t.doors[d]).st = (s.doors[d]).st ∧ (t.doors[d]).refusal = 0x3032 ∧ t.axes = s.axes ∧ Tells s t 0x3006 d.val 0x3032) ∧
      ((s.doors[d]).st = .opened ∨ (s.doors[d]).st = .obstructedOpen ∨ (s.doors[d]).st = .unlocking ∨ (s.doors[d]).st = .stepOut ∨ (s.doors[d]).st = .opening →
        (t.doors[d]).st = .warning ∧ (t.doors[d]).tick = s.tick ∧ (t.doors[d]).blocked = true ∧
        (t.doors[d]).warnEnd = after s.tick (msTicks (s.cfg.eff.n F.warningMs d.val)) ∧
        Tells s t 0x3001 d.val (BitVec.ofNat 32 (s.cfg.eff.n F.warningMs d.val))) ∧
      ((s.doors[d]).st = .closedUnlocked → (t.doors[d]).blocked = true ∧ (t.doors[d]).tick = s.tick ∧
        (t.doors[d]).st = if (s.doors[d]).clo.closed then .locking else .warning) ∧
      ((s.doors[d]).st = .closing ∨ (s.doors[d]).st = .warning ∨ (s.doors[d]).st = .reopening ∨ (s.doors[d]).st = .stepIn ∨ (s.doors[d]).st = .locking ∨
        (s.doors[d]).st = .closedLocked →
        t.doors[d] = { s.doors[d] with given := (s.doors[d]).given ||| 1 } ∧ t.axes = s.axes) ∧
      ((s.doors[d]).st = .egress → (s.doors[d]).active.getLsbD 4 = true →
        t.doors[d] = { s.doors[d] with given := (s.doors[d]).given ||| 1 } ∧ t.axes = s.axes) ∧
      ((s.doors[d]).st = .egress → (s.doors[d]).active.getLsbD 4 = false →
        (t.doors[d]).st = .warning ∧ (t.doors[d]).tick = s.tick ∧ (t.doors[d]).blocked = true))

/-- Side commands and side inputs give the command to the used doorways of the side (R262, R263, R264, R266, R285). Each bit of
DOOR_SIDE_CMD and each side input that is named gives its command to every used doorway of its side: an open command without its
release or zero speed, or in UNHOMED, ISOLATED or FAULT, is refused with its cause, else the doorway unlocks, reopens or stays by
state; a close command warns or locks with the buttons blocked, has no effect, or is refused; in EGRESS both act only while the pair
is inactive. Every other doorway stays. That a row acts at once, also where the doorway has moved in the tick, is the model's
reading (logs 9, 66). -/
def Obligations.SideCommands : Prop :=
  (∀ (s : State) (r : Req) (x : Session), Writer s r x → Holds s r x .unit →
    (∃ t, exec (.openLeft r) s = .next t ∧ Written s t r 0x200 1 1 ∧ SideDone s t false true ∧ Only ([.kw, .hinge, .doors, .axes] ++ codes) s t) ∧
    (∃ t, exec (.openRight r) s = .next t ∧ Written s t r 0x200 2 2 ∧ SideDone s t true true ∧ Only ([.kw, .hinge, .doors, .axes] ++ codes) s t) ∧
    (∃ t, exec (.closeLeft r) s = .next t ∧ Written s t r 0x200 4 4 ∧ SideDone s t false false ∧ Only ([.kw, .hinge, .doors, .axes] ++ codes) s t) ∧
    (∃ t, exec (.closeRight r) s = .next t ∧ Written s t r 0x200 8 8 ∧ SideDone s t true false ∧ Only ([.kw, .hinge, .doors, .axes] ++ codes) s t)) ∧
  (∀ (s : State) (right : Bool), s.unit.running = true →
    (s.cfg.eff.n F.sideOpenInput (if right then 1 else 0) ≠ 0xFF →
      ∃ t, exec (.sideOpenInput right) s = .next t ∧ SideDone s t right true ∧ Changes [.doors, .axes] s t) ∧
    (s.cfg.eff.n F.sideCloseInput (if right then 1 else 0) ≠ 0xFF →
      ∃ t, exec (.sideCloseInput right) s = .next t ∧ SideDone s t right false ∧ Changes [.doors, .axes] s t) ∧
    (s.cfg.eff.n F.sideOpenInput (if right then 1 else 0) = 0xFF → exec (.sideOpenInput right) s = .next s) ∧
    (s.cfg.eff.n F.sideCloseInput (if right then 1 else 0) = 0xFF → exec (.sideCloseInput right) s = .next s))

/-- DOORWAY_HOME, DOOR_RESET, ANNOUNCE_HOLD, CHIME, JOG_GO and JOG_STOP (R266, R273, R274, R278, R281, R282). Each service
command is answered and does what its rule says in the states named, and leaves the other doorways alone. That a jogged doorway keeps
its state is the model's reading (log 67). -/
def Obligations.DoorService : Prop :=
  (∀ (s : State) (r : Req) (x : Session) (d : DoorId), Writer s r x → Holds s r x (.door d) → DoorRuns s d →
    -- HOME
    (s.runs = true → (s.doors[d]).st = .unhomed → (s.doors[d]).homing = .none → ∃ t, exec (.doorwayHome r d) s = .next t ∧
      Commanded ([.doors, .axes, .recorder, .trace, .setNow]) s t r (doorBase d + 0x40) 4 4 ∧ (t.doors[d]).st = .unhomed ∧ Elsewhere d s.doors t.doors ∧
      (∀ a ∈ axesOf s.cfg.eff d.val, (t.axes[a]).mot.want = true) ∧
      (t.doors[d]).homing = (if slotAxis s.cfg.eff d.val 2 ≠ none then .step else if leavesOf s.cfg.eff d.val ≠ [] then .leaves
        else if slotAxis s.cfg.eff d.val 3 ≠ none then .lock else .moves)) ∧
    ((s.doors[d]).st ≠ .unhomed ∨ (s.doors[d]).homing ≠ .none → ∃ t, exec (.doorwayHome r d) s = .next t ∧
      Commanded ([.doors, .recorder, .trace, .setNow]) s t r (doorBase d + 0x40) 4 4 ∧ (t.doors[d]).st = (s.doors[d]).st ∧ (t.doors[d]).refusal = 0x3032 ∧
      Tells s t 0x3006 d.val 0x3032 ∧ Elsewhere d s.doors t.doors) ∧
    -- DOOR_RESET
    ((s.doors[d]).st = .fault → (s.doors[d]).cause ≠ 0x3021 → (∀ a ∈ axesOf s.cfg.eff d.val, ∃ k : PortId, s.cfg.eff.portOf a.val = some k.val ∧ (s.ports[k]).st = .ready) →
      ∃ t, exec (.doorReset r d) s = .next t ∧ Commanded ([.doors, .axes, .recorder, .trace, .setNow]) s t r (doorBase d + 0x40) 8 8 ∧
        (t.doors[d]).st = .unhomed ∧ (t.doors[d]).tick = s.tick ∧ (∀ a ∈ axesOf s.cfg.eff d.val, (t.axes[a]).mot.want = false) ∧ Elsewhere d s.doors t.doors) ∧
    ((s.doors[d]).st = .fault → (s.doors[d]).cause ≠ 0x3021 →
      ¬ (∀ a ∈ axesOf s.cfg.eff d.val, ∃ k : PortId, s.cfg.eff.portOf a.val = some k.val ∧ (s.ports[k]).st = .ready) →
      ∃ t, exec (.doorReset r d) s = .next t ∧ Commanded ([.doors, .recorder, .trace, .setNow]) s t r (doorBase d + 0x40) 8 8 ∧
        (t.doors[d]).st = .fault ∧ (t.doors[d]).refusal = 0x3033 ∧ Tells s t 0x3006 d.val 0x3033 ∧ Elsewhere d s.doors t.doors) ∧
    ((s.doors[d]).st ≠ .fault ∨ (s.doors[d]).cause = 0x3021 → ∃ t, exec (.doorReset r d) s = .next t ∧
      Commanded ([.doors, .recorder, .trace, .setNow]) s t r (doorBase d + 0x40) 8 8 ∧ (t.doors[d]).st = (s.doors[d]).st ∧ (t.doors[d]).cause = (s.doors[d]).cause ∧
      (t.doors[d]).refusal = 0x3032 ∧ Tells s t 0x3006 d.val 0x3032 ∧ Elsewhere d s.doors t.doors)) ∧
  -- ANNOUNCE_HOLD and CHIME need no claim
  (∀ (s : State) (r : Req) (x : Session) (d : DoorId), Writer s r x → DoorRuns s d →
    (∀ ms : Word, ∃ t, exec (.announceHold r d ms) s = .next t ∧ Written s t r (doorBase d + 0x44) ms (ms &&& 0xFFFF) ∧ Elsewhere d s.doors t.doors ∧
      Only ([.kw, .hinge, .doors] ++ codes) s t ∧
      ((s.doors[d]).st ≠ .warning → t.doors[d] = { s.doors[d] with holdIgnored := satN ((s.doors[d]).holdIgnored + 1) 32 }) ∧
      (let want := after s.tick (msTicks (min (ms.toNat % 65536) 3000))
       (s.doors[d]).st = .warning →
         (¬ 0 < (want - (s.doors[d]).warnEnd).toInt → t.doors[d] = s.doors[d]) ∧
         (0 < (want - (s.doors[d]).warnEnd).toInt → ¬ 0 < (want - (s.doors[d]).ceiling).toInt → t.doors[d] = { s.doors[d] with warnEnd := want }) ∧
         (0 < (want - (s.doors[d]).warnEnd).toInt → 0 < (want - (s.doors[d]).ceiling).toInt →
           (t.doors[d]).warnEnd = (s.doors[d]).ceiling ∧ Tells s t 0x3002 d.val 0))) ∧
    (∀ value : Word, value.getLsbD 0 = true → ∃ t, exec (.chime r d value) s = .next t ∧
      Commanded [.doors, .recorder] s t r (doorBase d + 0x48) value 1 ∧ Elsewhere d s.doors t.doors ∧
      t.doors[d] = (if (s.doors[d]).st = .isolated ∨ (s.doors[d]).st = .fault ∨ (s.doors[d]).st = .warning ∨ (s.doors[d]).st = .reopening
        then s.doors[d] else { s.doors[d] with chime := some (after s.tick (msTicks (s.cfg.eff.n F.chimeMs d.val))) }))) ∧
  -- jogs
  (∀ (s : State) (r : Req) (x : Session) (d : DoorId) (k : Fin 4) (a : AxisId) (p : PortId), Writer s r x → Holds s r x (.door d) → DoorRuns s d →
    slotAxis s.cfg.eff d.val k.val = some a →
    (x.role = .maintainer → s.unit.st = .maintenance → s.ward 11 = true → (s.doors[d]).st.jogs = true → s.cfg.eff.portOf a.val = some p.val →
      (s.ports[p]).st = .ready → (s.doors[d]).jog = none ∨ (s.doors[d]).jog = some k →
      ∃ t, exec (.jogGo r d (BitVec.ofNat 32 k.val)) s = .next t ∧
        Commanded [.doors, .axes, .recorder] s t r (doorBase d + 0x50) (BitVec.ofNat 32 k.val ||| 0x10) (BitVec.ofNat 32 k.val ||| 0x10) ∧
        (t.doors[d]).st = (s.doors[d]).st ∧ (t.doors[d]).jog = some k ∧ (t.doors[d]).jogTick = s.tick ∧ (t.axes[a]).mot.want = true ∧
        (t.axes[a]).mot.jog = true ∧ Elsewhere d s.doors t.doors ∧ Elsewhere a s.axes t.axes) ∧
    ((s.doors[d]).jog = some k → ∃ t, exec (.jogStop r d) s = .next t ∧
        Commanded [.doors, .axes, .recorder] s t r (doorBase d + 0x50) 0x20 0x20 ∧ (t.doors[d]).jog = none ∧ (t.doors[d]).st = (s.doors[d]).st ∧
        (t.axes[a]).mot.jog = false ∧ Elsewhere d s.doors t.doors ∧ Elsewhere a s.axes t.axes))

/-- Buttons, the isolating switch, the egress pair and the release (R262, R263, R264, R266, R275, R276, R305). A button, inside or
outside, opens an unblocked doorway whose side and zero speed are released, and a press that is refused is not reported; isolation
and its end take the doorway to ISOLATED and UNHOMED; the egress pair takes it to EGRESS from all but ISOLATED and FAULT; a lost
release warns moving doorways and ends MAINTENANCE; zero speed unlocks a deferred egress. That such a row leaves the debounced input
as its snapshot would is the model's choice (log 9). -/
def Obligations.DoorInputs : Prop :=
  (∀ (s : State) (d : DoorId), DoorRuns s d →
    -- a passenger button
    (∀ outside : Bool, s.cfg.eff.n (if outside then F.buttonOut else F.buttonIn) d.val ≠ 0xFF →
      (s.doors[d]).active.getLsbD (if outside then 6 else 5) = false → ∃ t, exec (.buttonPress d outside) s = .next t ∧
      (t.doors[d]).active = (s.doors[d]).active ||| (if outside then 0x40 else 0x20) ∧ Elsewhere d s.doors t.doors ∧ Changes [.doors, .axes] s t ∧
      (s.cfg.eff.n F.buttonEnable d.val ≠ 1 ∨ (s.doors[d]).blocked = true → (t.doors[d]).st = (s.doors[d]).st ∧ t.axes = s.axes) ∧
      (s.cfg.eff.n F.buttonEnable d.val = 1 → (s.doors[d]).blocked = false → (s.doors[d]).st = .opened →
        (t.doors[d]).st = .opened ∧ (t.doors[d]).autoTick = s.tick ∧ t.axes = s.axes) ∧
      (s.cfg.eff.n F.buttonEnable d.val = 1 → (s.doors[d]).blocked = false → s.il.release.getLsbD (s.cfg.eff.n F.doorSide d.val) = true →
        s.il.release.getLsbD 2 = true →
        ((s.doors[d]).st = .closedUnlocked ∨ (s.doors[d]).st = .closedLocked ∨ (s.doors[d]).st = .stepIn ∨ (s.doors[d]).st = .locking →
          (t.doors[d]).st = .unlocking) ∧
        ((s.doors[d]).st = .warning ∨ (s.doors[d]).st = .closing ∨ (s.doors[d]).st = .reopening ∨ (s.doors[d]).st = .obstructedOpen →
          (t.doors[d]).st = .opening)) ∧
      (s.il.release.getLsbD (s.cfg.eff.n F.doorSide d.val) = false ∨ s.il.release.getLsbD 2 = false →
        (t.doors[d]).st = (s.doors[d]).st ∧ (t.doors[d]).refusal = (s.doors[d]).refusal ∧ t.axes = s.axes)) ∧
    -- the isolating switch
    (s.cfg.eff.n F.isolatedInput d.val ≠ 0xFF → (s.doors[d]).moved = false →
      ((s.doors[d]).st ≠ .isolated → (s.doors[d]).stuck = false → ∃ t, exec (.isolationOn d) s = .next t ∧ (t.doors[d]).st = .isolated ∧ (t.doors[d]).tick = s.tick ∧
        (∀ a ∈ axesOf s.cfg.eff d.val, (t.axes[a]).mot.want = false ∧ ((s.axes[a]).mot.driven = true → (t.axes[a]).mot.driven = false ∧ (t.axes[a]).mot.cmd = .off)) ∧
        Elsewhere d s.doors t.doors ∧ Changes [.doors, .axes] s t) ∧
      ((s.doors[d]).st = .isolated → ∃ t, exec (.isolationOff d) s = .next t ∧ (t.doors[d]).st = .unhomed ∧ (t.doors[d]).tick = s.tick ∧
        (∀ a ∈ axesOf s.cfg.eff d.val, (t.axes[a]).mot.home.homed = false) ∧ Elsewhere d s.doors t.doors ∧ Changes [.doors, .axes] s t)) ∧
    -- the egress pair
    (s.cfg.eff.n F.egressPair d.val ≠ 0xFF →
      ((s.doors[d]).active.getLsbD 4 = false → ∃ t, exec (.doorEgress d) s = .next t ∧ (t.doors[d]).active.getLsbD 4 = true ∧
        ((s.doors[d]).st = .isolated ∨ (s.doors[d]).st = .fault → (t.doors[d]).st = (s.doors[d]).st ∧ t.axes = s.axes ∧ Tells s t 0x3003 d.val 0) ∧
        ((s.doors[d]).st ≠ .isolated → (s.doors[d]).st ≠ .fault → (s.doors[d]).st ≠ .egress →
          (t.doors[d]).st = .egress ∧ (t.doors[d]).tick = s.tick ∧ (t.doors[d]).attempts = 0 ∧ (t.doors[d]).blocked = false ∧
          TellsAfter s t 0x3003 d.val (if s.il.release.getLsbD 2 || s.cfg.eff.n F.egressMoving d.val == 1 then 0 else 1)) ∧
        Elsewhere d s.doors t.doors ∧ Changes [.doors, .axes] s t) ∧
      ((s.doors[d]).active.getLsbD 4 = true → ∃ t, exec (.egressCleared d) s = .next t ∧ (t.doors[d]).active.getLsbD 4 = false ∧
        (t.doors[d]).st = (s.doors[d]).st ∧ t.axes = s.axes ∧ Tells s t 0x3004 d.val 0 ∧ Elsewhere d s.doors t.doors ∧ Changes [.doors] s t))) ∧
  -- the release
  (∀ (s : State) (gone : BitVec 3), s.unit.running = true → ∃ t, exec (.releaseLost gone) s = .next t ∧
    t.il = { s.il with release := s.il.release &&& ~~~gone } ∧
    (∀ d : DoorId, DoorRuns s d → (t.il.release.getLsbD (s.cfg.eff.n F.doorSide d.val) && t.il.release.getLsbD 2) = false →
      (s.doors[d]).st = .unlocking ∨ (s.doors[d]).st = .stepOut ∨ (s.doors[d]).st = .opening ∨ (s.doors[d]).st = .opened →
      (t.doors[d]).st = .warning ∧ (t.doors[d]).warnEnd = after s.tick (msTicks (s.cfg.eff.n F.warningMs d.val))) ∧
    (t.il.release.getLsbD 2 = true ∨ s.unit.st ≠ .maintenance → t.unit = s.unit) ∧
    (t.il.release.getLsbD 2 = false → s.unit.st = .maintenance → t.unit.st = .run) ∧ Changes [.il, .doors, .axes, .unit] s t) ∧
  (∀ s : State, s.unit.running = true → ∃ t, exec .zeroSpeedPresent s = .next t ∧
    t.il = { s.il with release := s.il.release ||| 4 } ∧
    (∀ d : DoorId, DoorRuns s d → (s.doors[d]).st = .egress → (s.doors[d]).egress = .wait → (s.doors[d]).moved = false →
      (s.doors[d]).jog = none → (t.doors[d]).st = .egress ∧ (t.doors[d]).egress = .unlock) ∧
    Changes [.il, .doors, .axes] s t)

/-- The timers of a doorway, and the end of a jog (R266, R271, R272, R274, R282). Auto-close warns, the warning's end closes, the pauses
retry or give up, an unconfirmed lock goes back to CLOSED_UNLOCKED, a chime and a jog end. A compute phase ends a jog whose
200 ms are over, and every jog with ward switch 11 OFF: the axis is jogged no longer. That a jogged doorway
keeps its state is the model's reading (log 67). -/
def Obligations.DoorTimers : Prop :=
  (∀ (r : DoorRun) (i : DoorIn) (sw11 home : Bool), sw11 = false ∨ reached i.now (after r.door.jogTick 4000) = true →
    (r.finish i sw11 home).door.jog = none ∧
    ∀ (k : Fin 4) (a : AxisId), r.door.jog = some k → slotAxis i.cfg i.d k.val = some a → ((r.finish i sw11 home).axes[a]).mot.jog = false) ∧
  ∀ (s : State) (d : DoorId), DoorRuns s d →
    ((s.doors[d]).moved = false → (s.doors[d]).jog = none →
      ((s.doors[d]).st = .opened → s.cfg.eff.n F.autoCloseMs d.val ≠ 0 → ∃ t, exec (.autoCloseExpiry d) s = .next t ∧ (t.doors[d]).st = .warning ∧
        (t.doors[d]).tick = s.tick ∧ (t.doors[d]).warnEnd = after s.tick (msTicks (s.cfg.eff.n F.warningMs d.val)) ∧
        Tells s t 0x3001 d.val (BitVec.ofNat 32 (s.cfg.eff.n F.warningMs d.val)) ∧ Elsewhere d s.doors t.doors ∧ Changes [.doors, .axes] s t) ∧
      ((s.doors[d]).st = .warning → ∃ t, exec (.warningEnd d) s = .next t ∧ (t.doors[d]).st = .closing ∧ (t.doors[d]).tick = s.tick ∧
        (t.doors[d]).clo.seq = true ∧ (t.doors[d]).clo.seqObst = false ∧ (∀ a ∈ leavesOf s.cfg.eff d.val, (t.axes[a]).obst.done = false) ∧
        Elsewhere d s.doors t.doors ∧ Changes [.doors, .axes] s t) ∧
      ((s.doors[d]).st = .reopening → (s.doors[d]).timer.isSome = true → ∃ t, exec (.reopenPauseExpiry d) s = .next t ∧
        (t.doors[d]).st = (if s.cfg.eff.n F.reopenAttempts d.val < (s.doors[d]).attempts then .obstructedOpen else .closing) ∧
        (t.doors[d]).tick = s.tick ∧ (s.cfg.eff.n F.reopenAttempts d.val < (s.doors[d]).attempts → Tells s t 0x3005 d.val 0) ∧
        Elsewhere d s.doors t.doors ∧ Changes [.doors, .axes] s t) ∧
      ((s.doors[d]).st = .stepIn → (s.doors[d]).retry = true → (s.doors[d]).timer.isSome = true → ∃ t, exec (.stepRetryExpiry d) s = .next t ∧
        (s.cfg.eff.n F.reopenAttempts d.val < (s.doors[d]).attempts → (t.doors[d]).st = .fault ∧ (t.doors[d]).cause = 0x3023) ∧
        (¬ s.cfg.eff.n F.reopenAttempts d.val < (s.doors[d]).attempts → (t.doors[d]).st = .stepIn ∧ (t.doors[d]).retry = false) ∧
        Elsewhere d s.doors t.doors ∧ Changes [.doors, .axes] s t) ∧
      ((s.doors[d]).st = .locking → (s.doors[d]).timer.isSome = true → (s.doors[d]).clo.locked = false → ∃ t, exec (.lockConfirmExpiry d) s = .next t ∧
        (t.doors[d]).st = .closedUnlocked ∧ (t.doors[d]).tick = s.tick ∧ Tells s t 0x3007 d.val 0 ∧ Elsewhere d s.doors t.doors ∧
        Changes [.doors, .axes] s t)) ∧
    (∃ t, exec (.chimeEnd d) s = .next t ∧ t.doors[d] = { s.doors[d] with chime := none } ∧ Elsewhere d s.doors t.doors ∧ Changes [.doors] s t) ∧
    (∀ (k : Fin 4) (a : AxisId), (s.doors[d]).jog = some k → slotAxis s.cfg.eff d.val k.val = some a → ∃ t, exec (.jogTimeout d) s = .next t ∧
      (t.doors[d]).jog = none ∧ (t.doors[d]).st = (s.doors[d]).st ∧ (t.axes[a]).mot.jog = false ∧ Elsewhere a s.axes t.axes ∧
      Elsewhere d s.doors t.doors ∧ Changes [.doors, .axes] s t)

/-- BOLT test cycle, the four latched BOLT faults and the input pairs (R293, R294, R295, R299, R300, R301). A due test starts; each
of the four faults is latched with its event, raises its code and switches all switches off. A driven terminal in a hinge pair
only shows EXT_SEEN. A pair in discrepancy reads as it is safe, and its event is told; restored it reads again. Other pairs and
the channel B reading stay. -/
def Obligations.BoltAndPairFaults : Prop :=
  (∀ s : State, s.unit.running = true →
    (s.il.bolt.combined = true → s.il.bolt.test = none → ∃ t, exec .boltTestCycle s = .next t ∧
      t.il = { s.il with bolt := { s.il.bolt with test := some s.tick, pulseOk := false } } ∧ Only [.il] s t) ∧
    (s.io.sup.invalid = false → s.il.bolt.latched.getLsbD 0 = false → ∃ t, exec .boltTestFail s = .next t ∧
      t.il = { s.il with bolt := { s.il.bolt with latched := s.il.bolt.latched ||| 1, events := s.il.bolt.events ||| 1, switches := 0, test := none } } ∧
      Tells s t 0x4201 0xFF 0 ∧ Changes [.il] s t) ∧
    (s.il.bolt.latched.getLsbD 1 = false → ∃ t, exec .boltOverload s = .next t ∧
      t.il = { s.il with bolt := { s.il.bolt with latched := s.il.bolt.latched ||| 2, events := s.il.bolt.events ||| 2, switches := 0, test := none } } ∧
      Tells s t 0x4202 0xFF 0 ∧ Changes [.il] s t) ∧
    (s.io.sup.invalid = false → s.il.bolt.latched.getLsbD 2 = false → s.hingeIn.pair = false → ∃ t, exec .boltExtDriven s = .next t ∧
      t.il = { s.il with bolt := { s.il.bolt with latched := s.il.bolt.latched ||| 4, events := s.il.bolt.events ||| 4, switches := 0, test := none } } ∧
      Tells s t 0x4203 0xFF 0 ∧ Changes [.il] s t) ∧
    (s.io.sup.invalid = false → s.hingeIn.pair = true → ∃ t, exec .boltExtDriven s = .next t ∧
      t.il = { s.il with bolt := { s.il.bolt with extSeen := true } } ∧ Only [.il] s t) ∧
    (s.unit.st = .run → s.unit.coreLine = true → s.il.bolt.latched.getLsbD 3 = false → ∃ t, exec .boltChannelDiffer s = .next t ∧
      t.il = { s.il with bolt := { s.il.bolt with latched := s.il.bolt.latched ||| 8, events := s.il.bolt.events ||| 8, switches := 0, test := none } } ∧
      Tells s t 0x4204 0xFF 0 ∧ Changes [.il] s t)) ∧
  (∀ (s : State) (p : PairId), s.unit.running = true → s.io.sup.invalid = false →
    (s.cfg.eff.pairUsed p.val = true → (s.il.pairs[p]).a.disc = false → ∃ t, exec (.pairDiscrepancy p) s = .next t ∧
      (t.il.pairs[p]).a = ⟨s.cfg.eff.pairSafe p.val, max (s.il.pairs[p]).a.c (s.cfg.eff.pairLimit p.val), true, 0⟩ ∧
      (t.il.pairs[p]).b = (s.il.pairs[p]).b ∧ Elsewhere p s.il.pairs t.il.pairs ∧
      t.il = { s.il with pairs := t.il.pairs, pairEvents := s.il.pairEvents ||| BitVec.ofNat 32 (2 ^ p.val) } ∧
      Tells s t 0x4207 p.val 0 ∧ Changes [.il, .taken] s t) ∧
    ((s.il.pairs[p]).a.disc = true → ∃ t, exec (.pairRestored p) s = .next t ∧
      (t.il.pairs[p]).a = ⟨s.cfg.eff.pairSafe p.val, 0, false, 0⟩ ∧ (t.il.pairs[p]).b = (s.il.pairs[p]).b ∧ Elsewhere p s.il.pairs t.il.pairs ∧
      t.il = { s.il with pairs := t.il.pairs, safe := { s.il.safe with events := s.il.safe.events ||| 16 } } ∧
      Tells s t 0x4208 p.val 0 ∧ Changes [.il] s t))

/-- The loop engine and the planner (R166, R167, R168, R169, R172, R173, R174, R176, R202, R203, R214). The direction of travel
follows v_ref, then the target; where it turns, every normalised state is negated, else nothing changes. A run of the position
loop corrects within V_CORR_MAX, and the correction is held between runs. The inner loops, their integrators and the command lie
between -BRAKE_MAX and the lower of DRIVE_MAX and F_LIM; the loop selected has the lowest output; a hand-over to an output of 0
or more re-seeds so that the command carries on from that of the tick before, and no integrator but the winner's is moved
except to its limits. The planner rests on its target, brakes first while it moves away, never passes the speed from which it
can stop unless the target lies inside the braking distance, and lands with x_ref on the target and v_ref 0. A tripped limit
lets no target lie beyond the position in its direction. -/
def Obligations.LoopAndPlanner : Prop :=
  -- direction of travel
  (∀ (l : LoopSt) (vRef target xRef : Int), l.dir = 1 ∨ l.dir = -1 →
    (let m := l.direction vRef target xRef
     (0 < vRef → m.dir = 1) ∧ (vRef < 0 → m.dir = -1) ∧ (vRef = 0 → xRef < target → m.dir = 1) ∧
     (vRef = 0 → target < xRef → m.dir = -1) ∧ (vRef = 0 → target = xRef → m = l) ∧ (m.dir = l.dir → m = l) ∧
     (m.dir ≠ l.dir → m.dir = -l.dir ∧ m.vCorr = -l.vCorr ∧ m.uPrev = -l.uPrev ∧
       (∀ x : Loop, (m.ch x).i = -(l.ch x).i ∧ (m.ch x).d = -(l.ch x).d ∧ (m.ch x).sPrev = -(l.ch x).sPrev ∧ (m.ch x).ad = (l.ch x).ad) ∧
       m.sel = l.sel ∧ m.xMeas = l.xMeas ∧ m.vMeas = l.vMeas))) ∧
  -- position loop
  (∀ (l : LoopSt) (p : LoopPar) (run : Bool) (xRef vRef : Int),
    (let m := l.position p run xRef vRef
     m.vSet = satS 32 (vRef * l.dir + m.vCorr) ∧ (run = false → m.vCorr = l.vCorr) ∧
     (run = true → 0 ≤ p.b 1 → -(p.b 1) ≤ m.vCorr ∧ m.vCorr ≤ p.b 1))) ∧
  -- inner loops, selector, integrators
  (∀ (l : LoopSt) (p : LoopPar) (first : Bool) (vRef aRef fLim vCap : Int), -p.brakeMax ≤ min p.driveMax fLim →
    (let lo := -p.brakeMax
     let hi := min p.driveMax fLim
     let m := l.inner p first vRef aRef fLim vCap
     lo ≤ m.uPrev ∧ m.uPrev ≤ hi ∧ m.cmdForce = m.uPrev * l.dir ∧
     (∀ x : Loop, lo ≤ (m.ch x).i ∧ (m.ch x).i ≤ hi ∧ lo ≤ (m.ch x).out ∧ (m.ch x).out ≤ hi) ∧
     (∃ w, m.sel = some w ∧ (∀ x : Loop, (m.ch w).out ≤ (m.ch x).out) ∧
       (∀ x : Loop, x ≠ w → (m.ch x).i = sat lo hi (l.ch x).i) ∧
       (m.reseeded = true ↔ (∃ q, l.sel = some q ∧ q ≠ w) ∧ 0 ≤ (m.ch w).out) ∧
       (m.reseeded = false → l.stale = true → (m.ch w).i = sat lo hi (l.ch w).i) ∧
       m.handovers = (if l.sel = none ∨ l.sel = some w then l.handovers else satN (l.handovers + 1) 32) ∧
       (m.reseeded = true → lo ≤ l.uPrev → l.uPrev ≤ hi → lo ≤ l.uPrev - ((m.ch w).ff + (m.ch w).p + (m.ch w).d) →
         l.uPrev - ((m.ch w).ff + (m.ch w).p + (m.ch w).d) ≤ hi → m.uPrev = l.uPrev)))) ∧
  -- planner
  (∀ (r : AxRun) (i : AxIn),
    (let m := r.ax.mot
     let n := (r.profileStep i).ax.mot
     let t := m.target * 65536
     let dt := if t ≠ m.xp then sgn (t - m.xp) else sgn m.vp
     let p := (r.profileInForce i).1
     n.target = m.target ∧
     (t = m.xp → m.vp = 0 → n.phase = .idle ∧ n.xp = m.xp ∧ n.vp = 0 ∧ n.vRef = 0 ∧ n.aRef = 0) ∧
     (m.vp * dt < 0 → n.phase = .away ∧ n.vp * dt ≤ 0 ∧ n.landed = m.landed) ∧
     (m.landed = false → n.landed = true → n.xp = t ∧ n.vp = 0 ∧ n.xRef = m.target ∧ n.vRef = 0 ∧ n.phase = .idle ∧ n.atTarget = true) ∧
     (m.landed = false → n.landed = false → 0 ≤ m.vp * dt → t ≠ m.xp →
       p.vdec ((t - m.xp) * dt) * 20000 < m.vp * dt * 20000 - 2 * p.dec (m.vp * dt) * 256 ∨
       n.vp * dt ≤ p.vdec ((t - m.xp) * dt) ∧ (m.latched = true → 0 < m.vp * dt → n.vp * dt ≤ m.vp * dt)))) ∧
  -- travel limits
  (∀ (c : Cfg) (a : Nat) (m : MotionSt) (soft : Bool) (t : Int),
    (m.limNeg.active = true → m.xWhole ≤ limitTarget c a m soft t) ∧ (m.limPos.active = true → limitTarget c a m soft t ≤ m.xWhole))

/-- RELEASE telegram copies, their pair wait and time-out (R311, R312, R313, R314, R315). A copy that is not valid, one whose SEQ
does not lie 1 to 64 after the last accepted one, and one whose delay has changed too much are counted and discarded. A new copy, be
it the first after a start or newer than the accepted one, opens the pair wait; an equal copy from the other bus is accepted, an
unequal one rejects both, one more from the same bus or a lower one is stale, and a higher one closes the wait first. With the other
bus off, and at the deadline, a copy is accepted single, for SAFE_SINGLE_MAX_MS at most; a time-out makes the signals absent. -/
def Obligations.ReleaseTelegrams : Prop :=
  (∀ (s : State) (bus : BusId) (fdf : Bool) (bytes : List Byte), s.unit.running = true → operating s.unit.st = true →
    s.cfg.eff.n F.safeRxSrc 0 < 512 →
    (let valid := telegramValid (BitVec.ofNat 32 (s.cfg.eff.n F.safeConnId 0)) fdf 1 (s.cfg.eff.n F.safeRxSrc 0) bytes
     let seq := BitVec.ofNat 32 (leAt bytes 4 4)
     let stamp := BitVec.ofNat 32 (leAt bytes 8 4)
     let f := s.il.safe
     let near : Prop := 1 ≤ (seq - f.seq).toNat ∧ (seq - f.seq).toNat ≤ 64
     let timely : Prop := ((s.tick - f.tick) - (stamp - f.stamp)).toInt.natAbs ≤ msTicks (s.cfg.eff.n F.safeMaxDelayMs 0)
     let new : Prop := valid = true ∧ (f.known = true → near ∧ timely)
     let off := s.busOffs.getLsbD (1 - bus.val)
     let stale (t : State) : Prop := t.il = { s.il with safe := { f with stales := satN (f.stales + 1) 32 } } ∧ Only [.il] s t
     (valid = false → ∃ t, exec (.safeTelegramCopy bus fdf bytes) s = .next t ∧
       t.il = { s.il with safe := { f with codeErr := satN (f.codeErr + 1) 32 } } ∧ Only [.il] s t) ∧
     (valid = true → f.known = true → ¬ near → ∃ t, exec (.safeTelegramCopy bus fdf bytes) s = .next t ∧ stale t) ∧
     (valid = true → f.known = true → near → ¬ timely → ∃ t, exec (.safeTelegramCopy bus fdf bytes) s = .next t ∧
       t.il = { s.il with safe := { f with delayed := satN (f.delayed + 1) 32 } } ∧ Only [.il] s t) ∧
     (new → f.wait = none → off = false → ∃ t, exec (.safeTelegramCopy bus fdf bytes) s = .next t ∧
       t.il = { s.il with safe := { f with wait := some ⟨seq, bus, s.tick, bytes⟩ } } ∧ Only [.il] s t) ∧
     (new → f.wait = none → off = true → f.single = true → since s.tick f.singleStart < msTicks (s.cfg.eff.n F.safeSingleMaxMs 0) →
       ∃ t, exec (.safeTelegramCopy bus fdf bytes) s = .next t ∧ t.il.safe.fresh = true ∧ t.il.safe.known = true ∧ t.il.safe.seq = seq ∧
         t.il.safe.tick = s.tick ∧ t.il.safe.wait = none ∧ t.il.safe.singles = satN (f.singles + 1) 32 ∧
         t.il = { s.il with safe := t.il.safe } ∧ Only [.il] s t) ∧
     (∀ w, new → f.wait = some w → w.seq = seq → w.bus ≠ bus → w.bytes = bytes →
       ∃ t, exec (.safeTelegramCopy bus fdf bytes) s = .next t ∧ t.il.safe.fresh = true ∧ t.il.safe.known = true ∧ t.il.safe.timedOut = false ∧
         t.il.safe.seq = seq ∧ t.il.safe.stamp = stamp ∧
         t.il.safe.tick = w.tick ∧ t.il.safe.flags = BitVec.ofNat 3 (leAt bytes 12 1) ∧ t.il.safe.wait = none ∧ t.il.safe.differ = false ∧
         t.il.safe.single = false ∧ t.il.safe.dual = satN (f.dual + 1) 32 ∧ t.il = { s.il with safe := t.il.safe } ∧ Only [.il] s t) ∧
     (∀ w, new → f.wait = some w → w.seq = seq → w.bus ≠ bus → w.bytes ≠ bytes →
       ∃ t, exec (.safeTelegramCopy bus fdf bytes) s = .next t ∧
         t.il = { s.il with safe := { f with wait := none, differ := true, differs := satN (f.differs + 1) 32, events := f.events ||| 1 } } ∧
         Tells s t 0x420A 0xFF 0 ∧ Changes [.il] s t) ∧
     (∀ w, new → f.wait = some w → w.seq = seq ∧ w.bus = bus ∨ w.seq ≠ seq ∧ ¬ 0 < (seq - w.seq).toInt →
       ∃ t, exec (.safeTelegramCopy bus fdf bytes) s = .next t ∧ stale t) ∧
     (∀ w, new → f.wait = some w → w.seq ≠ seq → 0 < (seq - w.seq).toInt → off = false → f.single = true →
       since s.tick f.singleStart < msTicks (s.cfg.eff.n F.safeSingleMaxMs 0) →
       ∃ t, exec (.safeTelegramCopy bus fdf bytes) s = .next t ∧ t.il.safe.wait = some ⟨seq, bus, s.tick, bytes⟩ ∧
         t.il.safe.seq = BitVec.ofNat 32 (leAt w.bytes 4 4) ∧ t.il.safe.tick = w.tick ∧ t.il.safe.fresh = true ∧
         t.il.safe.singles = satN (f.singles + 1) 32 ∧ t.il = { s.il with safe := t.il.safe } ∧ Only [.il] s t))) ∧
  (∀ (s : State) (w : TgWait), s.unit.running = true → s.il.safe.wait = some w →
    (s.il.safe.single = false → 0 < s.cfg.eff.n F.safeSingleMaxMs 0 → ∃ t, exec .pairWaitDeadline s = .next t ∧ t.il.safe.single = true ∧
      t.il.safe.singleStart = s.tick ∧ t.il.safe.fresh = true ∧ t.il.safe.seq = BitVec.ofNat 32 (leAt w.bytes 4 4) ∧ t.il.safe.tick = w.tick ∧
      t.il.safe.wait = none ∧ t.il.safe.singles = satN (s.il.safe.singles + 1) 32 ∧ Tells s t 0x420B 0xFF 0 ∧ Changes [.il] s t) ∧
    (s.il.safe.single = true → s.il.safe.expired = false → msTicks (s.cfg.eff.n F.safeSingleMaxMs 0) ≤ since s.tick s.il.safe.singleStart →
      ∃ t, exec .pairWaitDeadline s = .next t ∧
      t.il = { s.il with safe := { s.il.safe with wait := none, expired := true, events := s.il.safe.events ||| 4 } } ∧
      Tells s t 0x420C 0xFF 0 ∧ Changes [.il] s t)) ∧
  (∀ s : State, s.unit.running = true → s.il.safe.fresh = true → ∃ t, exec .safeTgTimeout s = .next t ∧
    t.il = { s.il with safe := { s.il.safe with
      fresh := false, known := false, timedOut := true, timeouts := satN (s.il.safe.timeouts + 1) 32, events := s.il.safe.events ||| 8 } } ∧
    Tells s t 0x420D 0xFF 0 ∧ Changes [.il] s t)

/-- DOOR_STATE_SEND and DOOR_STATE_RECEIVED (R306, R307, R310, R355, R357, R370, R391). A telegram that an operating ACTIVE or ALONE
module sends takes the next sequence number; its 32 bytes go into buffer 0 of both buses, or wait for the attempt in progress, and
one that replaces an unsent telegram is counted in SAFE_TX_OVERRUN; the other buffers and all else of CAN stay. Any other module
sends nothing. A received telegram that is not valid is counted; a STANDBY takes the highest SEQ; one of ROLE ACTIVE or ALONE makes
a leasing module of a pair yield without its quorum or with a cause of R391, and else reports PAIR_SPLIT; any other changes nothing.
Which bit-rate switch the frame has is the model's choice (log 53), and that a telegram waits for the attempt its reading (log 54). -/
def Obligations.DoorStateTelegrams : Prop :=
  (∀ s : State, s.unit.running = true → operating s.unit.st = true → s.leads = true → ∃ t, exec .doorStateSend s = .next t ∧
    (let bytes := telegram (BitVec.ofNat 32 (s.cfg.eff.n F.safeConnId 0)) 2 s.addr s.il.safe.txNext s.tick s.doorStateData
     let replaces (b : BusId) : Bool := ((s.can[b]).tx[(0 : Fin 3)]).st == .pending || ((s.can[b]).tx[(0 : Fin 3)]).st == .sending && (s.can[b]).next0.isSome
     t.il = { s.il with safe := { s.il.safe with
       txSeq := s.il.safe.txNext, txNext := s.il.safe.txNext + 1
       txOverrun := (if replaces 0 && replaces 1 then satN (satN (s.il.safe.txOverrun + 1) 32 + 1) 32
         else if replaces 0 || replaces 1 then satN (s.il.safe.txOverrun + 1) 32 else s.il.safe.txOverrun) } } ∧
     (∀ b : BusId,
       (((s.can[b]).tx[(0 : Fin 3)]).st = .sending → t.can[b] = { s.can[b] with next0 := some bytes }) ∧
       (((s.can[b]).tx[(0 : Fin 3)]).st ≠ .sending → t.can[b] = { s.can[b] with tx := (s.can[b]).tx.set 0 { (s.can[b]).tx[(0 : Fin 3)] with
         st := .pending, aborting := false, id := BitVec.ofNat 32 (safeId (s.cfg.eff.n F.safeCanBase 0) 2 s.addr + 2 ^ 30)
         fmt := BitVec.ofNat 32 (13 + 16 + if busBrs s.cfg.eff b.val then 32 else 0), data := dataWords bytes } }))) ∧ Only [.il, .can] s t) ∧
  (∀ s : State, s.unit.running = false ∨ operating s.unit.st = false ∨ s.leads = false → exec .doorStateSend s = .next s) ∧
  (∀ (s : State) (fdf : Bool) (bytes : List Byte), s.unit.running = false ∨ operating s.unit.st = false →
    exec (.doorStateReceived fdf bytes) s = .next s) ∧
  (∀ (s : State) (fdf : Bool) (bytes : List Byte), s.unit.running = true → operating s.unit.st = true →
    (let valid := telegramValid (BitVec.ofNat 32 (s.cfg.eff.n F.safeConnId 0)) fdf 2 s.addr bytes
     let role := leAt bytes 19 1 / 16 % 4
     let foreign : Prop := role = Role.active.code ∨ role = Role.alone.code
     let cause := (⟨s.hinge, [], none⟩ : HingeRun).yieldCause s.hingeIn s.lostNow
     (valid = false → ∃ t, exec (.doorStateReceived fdf bytes) s = .next t ∧
       t.il = { s.il with safe := { s.il.safe with codeErr := satN (s.il.safe.codeErr + 1) 32 } } ∧ Only [.il] s t) ∧
     (valid = true → s.hinge.role = .standby → ∃ t, exec (.doorStateReceived fdf bytes) s = .next t ∧
       t.il = { s.il with safe := { s.il.safe with partnerSeq := some (match s.il.safe.partnerSeq with
         | none => BitVec.ofNat 32 (leAt bytes 4 4)
         | some p => if 0 < (BitVec.ofNat 32 (leAt bytes 4 4) - p).toInt then BitVec.ofNat 32 (leAt bytes 4 4) else p) } } ∧
       (s.hinge.leases s.hingeIn = false ∨ ¬ foreign → Only [.il] s t) ∧ Only ([.il, .hinge, .cfg] ++ codes) s t) ∧
     (valid = true → s.hinge.role ≠ .standby → s.hinge.leases s.hingeIn = true → foreign →
       s.hingeIn.heldHere s.hinge.epoch < quorum s.cfg.eff ∨ cause = true →
       (s.hingeIn.pair = true → ∃ t, exec (.doorStateReceived fdf bytes) s = .next t ∧
         t.hinge.role = .standby ∧ t.hinge.lease = false ∧ (∀ b : Block, t.kw.holder b = none) ∧ TellsAfter s t 0x4506 0xFF 0 ∧
         Only ([.hinge, .cfg] ++ codes) s t) ∧
       (s.hingeIn.pair = false → exec (.doorStateReceived fdf bytes) s = .next s)) ∧
     (valid = true → s.hinge.role ≠ .standby → s.hinge.leases s.hingeIn = true → foreign →
       quorum s.cfg.eff ≤ s.hingeIn.heldHere s.hinge.epoch → cause = false →
       ∃ t, exec (.doorStateReceived fdf bytes) s = .next t ∧
         t.hinge = { s.hinge with split := true, events := s.hinge.events ||| 64 } ∧ Tells s t 0x4507 0xFF 0 ∧ Changes [.hinge] s t) ∧
     (valid = true → s.hinge.role ≠ .standby → s.hinge.leases s.hingeIn = false ∨ ¬ foreign →
       exec (.doorStateReceived fdf bytes) s = .next s)))

/-- SHORT, READBACK, STUCK_ON, EXT_DRIVEN and FIELD_OUTPUT_RETRY (R330, R331, R335). Each check on a load switch or field
output has the action and code of R331, a trip is counted by R330 or R335, and the checks do nothing while the field supply
is invalid. -/
def Obligations.OutputChecks : Prop :=
  (∀ (s : State) (l : LoadId) (out : Fin 80), out.val = l.val → s.unit.running = true → s.io.sup.invalid = false →
    (let x := s.io.ls[l]
     let top := s.cfg.eff.n F.lsRetryMax l.val
     let slot := after s.tick (msTicks (s.cfg.eff.n F.lsRetryMs l.val))
     (x.driving = true → x.latch = false → ∃ t, exec (.short out) s = .next t ∧ LoadBecomes s t l (tripped x top slot 1) ∧
       Tells s t 0x4301 l.val 0 ∧ (top < min 16 (x.retries + 1) → TellsAfter s t 0x4308 l.val 0) ∧ Changes [.io] s t) ∧
     (x.driving = true → x.latch = true → ∃ t, exec (.short out) s = .next t ∧ LoadBecomes s t l { x with events := x.events ||| 1 } ∧
       Tells s t 0x4301 l.val 0 ∧ Changes [.io] s t) ∧
     (x.st = .on → x.cmd = true → x.blank = 0 → x.latch = false → ∃ t, exec (.readback out) s = .next t ∧
       LoadBecomes s t l (tripped x top slot 16) ∧ Tells s t 0x4302 l.val 0 ∧ (top < min 16 (x.retries + 1) → TellsAfter s t 0x4308 l.val 0) ∧
       Changes [.io] s t) ∧
     (x.cmd = false → x.driving = false →
       (∃ t, exec (.stuckOn out) s = .next t ∧ LoadBecomes s t l { x with internalOn := true, stuckRun := 3, events := x.events ||| 64 } ∧
         Tells s t 0x4303 l.val 0 ∧ Changes [.io] s t) ∧
       (s.cfg.eff.n F.lsPaired l.val ≠ 1 → ∃ t, exec (.extDriven out) s = .next t ∧
         LoadBecomes s t l { x with extSeen := true, extRun := 2001, events := x.events ||| 32 } ∧ Tells s t 0x4304 l.val 0 ∧ Changes [.io] s t) ∧
       (s.cfg.eff.n F.lsPaired l.val = 1 → ∃ t, exec (.extDriven out) s = .next t ∧
         LoadBecomes s t l { x with extSeen := true, extRun := 2001 } ∧ Only [.io] s t)))) ∧
  (∀ (s : State) (c : ChanId) (out : Fin 80), out.val = c.val + 16 → s.unit.running = true → s.cfg.eff.mode c.val = 1 →
    (let x := s.io.ch[c]
     let trip (e : Word) : Channel :=
       { x with out := .tripped, retry := some (after s.tick 20000), trips := satN (x.trips + 1) 32, readRun := 0, events := x.events ||| e }
     (s.io.sup.invalid = false → x.out = .on →
       (∃ t, exec (.short out) s = .next t ∧ ChannelBecomes s t c (trip 1) ∧ Tells s t 0x4301 out.val 0 ∧ Changes [.io] s t) ∧
       (x.cmd = true → ∃ t, exec (.readback out) s = .next t ∧ ChannelBecomes s t c (trip 2) ∧ Tells s t 0x4302 out.val 0 ∧ Changes [.io] s t)) ∧
     (s.io.sup.invalid = false → x.cmd = false → x.out ≠ .on →
       (∃ t, exec (.stuckOn out) s = .next t ∧ ChannelBecomes s t c { x with internalOn := true, stuckRun := 3, events := x.events ||| 4 } ∧
         Tells s t 0x4303 out.val 0 ∧ Changes [.io] s t) ∧
       (s.cfg.eff.n F.fcPaired c.val ≠ 1 → ∃ t, exec (.extDriven out) s = .next t ∧
         ChannelBecomes s t c { x with extSeen := true, extRun := 2001, events := x.events ||| 8 } ∧ Tells s t 0x4304 out.val 0 ∧ Changes [.io] s t) ∧
       (s.cfg.eff.n F.fcPaired c.val = 1 → ∃ t, exec (.extDriven out) s = .next t ∧
         ChannelBecomes s t c { x with extSeen := true, extRun := 2001 } ∧ Only [.io] s t)) ∧
     (x.out = .tripped → turnPassed s.io.sup (c.val + 16) = true → ∃ t, exec (.fieldOutputRetry c) s = .next t ∧
       ChannelBecomes s t c { x with out := if x.cmd then .on else .off, retry := none } ∧ Only [.io] s t))) ∧
  (∀ (s : State) (out : Fin 80), s.io.sup.invalid = true → exec (.short out) s = .next s ∧ exec (.readback out) s = .next s ∧
    exec (.stuckOn out) s = .next s ∧ exec (.extDriven out) s = .next s)

/-- Trips, thermal latch, retry slots, shedding and limits of the load switches (R332, R333, R334, R335, R336, R337).
OVERLOAD trips whatever the field supply, the thermal latch holds a channel until a slot below 130 degrees, a slot switches on or
returns to OFF, RETRIES clears, the blanking window ends, the highest channel is shed, and limits follow the housing temperature;
how the ratings between two temperatures are rounded is the model's choice (logs 56, 70). -/
def Obligations.LoadSwitches : Prop :=
  (∀ (s : State) (l : LoadId), s.unit.running = true →
    (let x := s.io.ls[l]
     let top := s.cfg.eff.n F.lsRetryMax l.val
     let slot := after s.tick (msTicks (s.cfg.eff.n F.lsRetryMs l.val))
     let start : LoadSwitch := { x with st := .ramp, blank := msTicks (s.cfg.eff.n F.lsInrushMs l.val), ovldRun := 0, onRun := 0, readRun := 0,
                                        slot := none, held := decide (s.io.iGrp < s.io.sum) }
     let off (st : LsState) : LoadSwitch := { x with st := st, blank := 0, held := false, ovldRun := 0, onRun := 0, readRun := 0 }
     (x.st = .on → x.blank = 0 → x.latch = false → ∃ t, exec (.overload l) s = .next t ∧
       LoadBecomes s t l (tripped x top slot 2) ∧ Tells s t 0x4305 l.val 0 ∧ (top < min 16 (x.retries + 1) → TellsAfter s t 0x4308 l.val 0) ∧
       Changes [.io] s t) ∧
     (x.thermWarn = false → ∃ t, exec (.lsThermalWarn l) s = .next t ∧ LoadBecomes s t l { x with thermWarn := true, events := x.events ||| 4 } ∧
       Tells s t 0x4306 l.val 0 ∧ Changes [.io] s t) ∧
     (x.latch = false → ∃ t, exec (.lsThermalShutdown l) s = .next t ∧
       LoadBecomes s t l { off (if x.st = .lockout then .lockout else .thermal) with latch := true, slot := some slot, events := x.events ||| 8 } ∧
       Tells s t 0x4307 l.val 0 ∧ Changes [.io] s t) ∧
     (x.slot.isSome = true → turnPassed s.io.sup l.val = true → ∃ t, exec (.retrySlot l) s = .next t ∧ Only [.io] s t ∧
       (∀ at', x.slot = some at' → x.latch = true → ¬ x.temp < 130 →
         LoadBecomes s t l { x with slot := some (nextSlot at' s.tick (msTicks (s.cfg.eff.n F.lsRetryMs l.val))) }) ∧
       (x.latch = true → x.temp < 130 → x.st = .lockout → LoadBecomes s t l { x with latch := false, slot := none }) ∧
       (x.latch = true → x.temp < 130 → x.st ≠ .lockout → LoadBecomes s t l
         (if x.cmd then { start with latch := false } else { off .off with latch := false, slot := none })) ∧
       (x.latch = false → x.st = .tripped ∨ x.st = .shed → LoadBecomes s t l (if x.cmd then start else { off .off with slot := none }))) ∧
     (x.st = .on → ∃ t, exec (.retriesCleared l) s = .next t ∧ Only [.io] s t ∧
       LoadBecomes s t l (if x.latch then x else { x with retries := 0, onRun := 0 })) ∧
     (x.driving = true → ∃ t, exec (.lsBlankingEnd l) s = .next t ∧ LoadBecomes s t l { x with blank := 0 } ∧ Only [.io] s t) ∧
     -- the highest reading, of equal ones the highest-numbered
     (s.io.iGrp < s.io.sum → x.driving = true →
       (∀ j : LoadId, (s.io.ls[j]).driving = true → (s.io.ls[j]).current < x.current ∨ (s.io.ls[j]).current = x.current ∧ j.val ≤ l.val) →
       ∃ t, exec .lsGroupShed s = .next t ∧ LoadBecomes s t l { off .shed with slot := some slot, events := x.events ||| 256 } ∧
         Tells s t 0x4309 l.val 0 ∧ Changes [.io] s t))) ∧
  (∀ s : State, s.unit.running = true → ∃ t, exec .limitRecompute s = .next t ∧ Only [.io] s t ∧
    t.io = { s.io with ls := t.io.ls, iGrp := t.io.iGrp } ∧
    t.io.iGrp = (groupRating s.unit.variantT0 s.panel.housingT.toInt).toNat ∧
    ∀ l : LoadId, t.io.ls[l] = { s.io.ls[l] with
      iEff := min (s.cfg.eff.n F.lsLimit l.val) (chanRating s.unit.variantT0 s.panel.housingT.toInt).toNat })

/-- The field supply: low, invalid, restored, dropped, the restore sequence, high (R341, R342). Each event of the field supply has
the status bit, the code and the effect on channels, inputs and outputs that R341 gives; the sequence of R342 takes the next output
that takes a turn, or ends. That FIELD_INVALID acts at its row is the model's reading (log 57). -/
def Obligations.FieldSupplyEvents : Prop :=
  ∀ s : State, s.unit.running = true →
    (let u := s.io.sup
     (u.low = false → ∃ t, exec .fieldLow s = .next t ∧
       t.io = { s.io with sup := { u with low := true, lowRun := 0, events := u.events ||| 1 } } ∧ Tells s t 0x0010 0xFF 0 ∧ Changes [.io] s t) ∧
     (u.low = true → ∃ t, exec .fieldLowClear s = .next t ∧ t.io = { s.io with sup := { u with low := false, lowRun := 0 } } ∧ Only [.io] s t) ∧
     (u.invalid = false → ∃ t, exec .fieldInvalid s = .next t ∧
       t.io = { s.io with ch := t.io.ch, an := t.io.an, sup := { u with invalid := true, validRun := 0, events := u.events ||| 2 } } ∧
       (∀ c : ChanId, t.io.ch[c] = { s.io.ch[c] with value := false, sensed := false }) ∧
       (∀ n : AnId, t.io.an[n] = { s.io.an[n] with valid := false }) ∧ Tells s t 0x0011 0xFF 0 ∧ Changes [.io] s t) ∧
     (u.invalid = true → ∃ t, exec .fieldRestored s = .next t ∧
       t.io = { s.io with sup := { u with invalid := false, validRun := 0, events := u.events ||| 4 } } ∧ Tells s t 0x0012 0xFF 0 ∧ Changes [.io] s t) ∧
     (u.dropped = false → ∃ t, exec .outputsDropped s = .next t ∧
       t.io = { s.io with ls := t.io.ls, ch := t.io.ch, sup := { u with dropped := true, restoreRun := 0, restore := none, events := u.events ||| 8 } } ∧
       (∀ l : LoadId, t.io.ls[l] = (let x := s.io.ls[l]
         if x.st = .tripped ∨ x.st = .thermal ∨ x.st = .lockout ∨ x.st = .shed then x
         else { x with st := .dropped, blank := 0, held := false, ovldRun := 0, onRun := 0, readRun := 0 })) ∧
       (∀ c : ChanId, t.io.ch[c] = (if (s.io.ch[c]).out = .tripped then s.io.ch[c] else { s.io.ch[c] with out := .dropped, readRun := 0 })) ∧
       Tells s t 0x0013 0xFF 0 ∧ Changes [.io] s t) ∧
     (u.dropped = true → ∃ t, exec .restoreSequenceStart s = .next t ∧
       t.io = { s.io with ls := t.io.ls, ch := t.io.ch, sup := { u with dropped := false, restoreRun := 0, restore := some 0, turn := s.tick } } ∧
       (∀ l : LoadId, t.io.ls[l] = (let x := s.io.ls[l]
         if x.st = .dropped then { x with st := if x.cmd then .waitRestore else .off } else x)) ∧
       (∀ c : ChanId, t.io.ch[c] = (let x := s.io.ch[c]
         if x.out = .dropped then { x with out := if x.cmd then .waitRestore else .off } else x)) ∧ Only [.io] s t) ∧
     (∀ k : Nat, u.dropped = false → u.restore = some k →
       (∀ l : LoadId, k ≤ l.val → (s.io.ls[l]).st = .waitRestore → (∀ i, k ≤ i → i < l.val → takesTurn s.io s.tick i = false) →
         ∃ t, exec .restoreTurn s = .next t ∧
           t.io.ls[l] = { s.io.ls[l] with st := .ramp, blank := msTicks (s.cfg.eff.n F.lsInrushMs l.val), ovldRun := 0, onRun := 0, readRun := 0,
                                          slot := none, held := decide (s.io.iGrp < s.io.sum) } ∧
           Elsewhere l s.io.ls t.io.ls ∧ (let more := (List.range 80).any (fun i => decide (l.val < i) && takesTurn s.io s.tick i)
            t.io = { s.io with ls := t.io.ls, sup := { u with turn := after s.tick 2, restore := if more then some (l.val + 1) else none } }) ∧
           Only [.io] s t) ∧
       (∀ c : ChanId, k ≤ c.val + 16 → (s.io.ch[c]).out = .waitRestore → (∀ i, k ≤ i → i < c.val + 16 → takesTurn s.io s.tick i = false) →
         ∃ t, exec .restoreTurn s = .next t ∧ t.io.ch[c] = { s.io.ch[c] with out := .on } ∧
           Elsewhere c s.io.ch t.io.ch ∧ (let more := (List.range 80).any (fun i => decide (c.val + 16 < i) && takesTurn s.io s.tick i)
            t.io = { s.io with ch := t.io.ch, sup := { u with turn := after s.tick 2, restore := if more then some (c.val + 17) else none } }) ∧
           Only [.io] s t) ∧
       ((∀ i, k ≤ i → i < 80 → takesTurn s.io s.tick i = false) →
         ∃ t, exec .restoreTurn s = .next t ∧ t.io = { s.io with sup := { u with restore := none } } ∧ Only [.io] s t)) ∧
     (u.high = false → ∃ t, exec .fieldHigh s = .next t ∧
       t.io = { s.io with sup := { u with high := true, highRun := 0, events := u.events ||| 16 } } ∧ Tells s t 0x0014 0xFF 0 ∧ Changes [.io] s t) ∧
     (u.high = true → ∃ t, exec .fieldHighClear s = .next t ∧ t.io = { s.io with sup := { u with high := false, highRun := 0 } } ∧ Only [.io] s t))

/-- Counting inputs, sensor supplies and analogue inputs (R31, R327, R328, R340). An edge counts by the mode of its channel;
a quadrature error counts no edge; a tripped sensor supply, shunt or analogue supply is off with its retry 1 s later and its
code raised, and is connected again at the retry. -/
def Obligations.InputsAndSupplies : Prop :=
  ∀ s : State, s.unit.running = true →
    (∀ c : ChanId, s.io.sup.invalid = false →
      (let x := s.io.ch[c]
       let counted (d : BitVec 32) (rising : Bool) (time : Nat) : Channel :=
         { x with count := x.count + d, tLast := if rising then some time else x.tLast, edges := if rising && x.tRef.isSome then x.edges + 1 else x.edges }
       (s.cfg.eff.mode c.val = 4 → ∃ t, exec (.quadError c) s = .next t ∧
         ChannelBecomes s t c { x with quadErr := satN (x.quadErr + 1) 32, events := x.events ||| 16 } ∧ Tells s t 0x0020 c.val 0 ∧ Changes [.io] s t) ∧
       (∀ (onTrackC rise second lead : Bool) (time : Nat),
         (s.cfg.eff.mode c.val = 2 → ∃ t, exec (.fieldCountEdge c onTrackC rise second lead time) s = .next t ∧
           ChannelBecomes s t c (if onTrackC && rise then counted 1 true time else x) ∧ Only [.io] s t) ∧
         (s.cfg.eff.mode c.val = 3 → ∃ t, exec (.fieldCountEdge c onTrackC rise second lead time) s = .next t ∧
           ChannelBecomes s t c (if onTrackC && rise then counted (if second then 1 else -1) true time else x) ∧ Only [.io] s t) ∧
         (s.cfg.eff.mode c.val = 4 → ∃ t, exec (.fieldCountEdge c onTrackC rise second lead time) s = .next t ∧
           ChannelBecomes s t c (counted (if lead then 1 else -1) (onTrackC && rise) time) ∧ Only [.io] s t)))) ∧
    (∀ k : Fin 2,
      (s.io.snsOff.getLsbD k.val = false → ∃ t, exec (.sensorSupplyTrip k) s = .next t ∧
        t.io = { s.io with snsOff := t.io.snsOff, snsRetry := t.io.snsRetry } ∧ (∀ j : Fin 2, t.io.snsOff.getLsbD j.val = (s.io.snsOff.getLsbD j.val || j == k)) ∧
        t.io.snsRetry[k] = some (after s.tick 20000) ∧ Elsewhere k s.io.snsRetry t.io.snsRetry ∧ Tells s t 0x0015 0xFF 0 ∧ Changes [.io] s t) ∧
      (s.io.snsOff.getLsbD k.val = true → ∃ t, exec (.sensorSupplyRetry k) s = .next t ∧
        t.io = { s.io with snsOff := t.io.snsOff, snsRetry := t.io.snsRetry } ∧ (∀ j : Fin 2, t.io.snsOff.getLsbD j.val = (s.io.snsOff.getLsbD j.val && j != k)) ∧
        t.io.snsRetry[k] = none ∧ Elsewhere k s.io.snsRetry t.io.snsRetry ∧ Only [.io] s t)) ∧
    (∀ n : AnId,
      (s.cfg.eff.n F.anMode n.val = 1 → (s.io.an[n]).shuntOff = false → ∃ t, exec (.anShuntOff n) s = .next t ∧
        t.io.an[n] = { s.io.an[n] with shuntOff := true, overRun := 0, retry := some (after s.tick 20000), valid := false } ∧
        Elsewhere n s.io.an t.io.an ∧ t.io = { s.io with an := t.io.an, anEvents := s.io.anEvents ||| 4 } ∧ Tells s t 0x0021 n.val 0 ∧ Changes [.io] s t) ∧
      ((s.io.an[n]).shuntOff = true → ∃ t, exec (.anShuntRetry n) s = .next t ∧ t.io.an[n] = { s.io.an[n] with shuntOff := false, retry := none } ∧
        Elsewhere n s.io.an t.io.an ∧ t.io = { s.io with an := t.io.an } ∧ Only [.io] s t)) ∧
    (s.io.anSupOff = false → ∃ t, exec .anSupplyTrip s = .next t ∧
      t.io = { s.io with anSupOff := true, anSupRetry := some (after s.tick 20000), anEvents := s.io.anEvents ||| 2 } ∧ Tells s t 0x0022 0xFF 0 ∧
      Changes [.io] s t) ∧
    (s.io.anSupOff = true → ∃ t, exec .anSupplyRetry s = .next t ∧ t.io = { s.io with anSupOff := false, anSupRetry := none } ∧ Only [.io] s t)

/-- TX_SEND, TX_ABORT, CAN_RECOVER, RESTRICT_ON, RESTRICT_OFF and RX_ACK (R351, R352, R355, R358, R362). Each accepted write
is answered and posts its one request to its controller; a SEND or ABORT of buffer 0, a SEND of a busy buffer or of a remote
FD frame, and an acknowledgement of none or more than held are refused. The code REFUSED is the model's choice (log 22). -/
def Obligations.CanCommands : Prop :=
  ∀ (s : State) (r : Req) (x : Session) (bus : BusId), Writer s r x → Holds s r x .unit →
    (∀ b : Fin 3, b ≠ 0 →
      (let y := (s.can[bus]).tx[b]
       let addr := busBase bus + 0x200 + 0x80 * b.val
       (y.st ≠ .pending → y.st ≠ .sending → ¬ (bit y.id 29 = true ∧ bit y.fmt 4 = true) → ∃ t, exec (.txSend r bus b) s = .next t ∧
         Commanded [.can] s t r addr 1 1 ∧ t.can[bus] = { s.can[bus] with reqs := (s.can[bus]).reqs ++ [(s.tick, .send b)] } ∧ Elsewhere bus s.can t.can) ∧
       (y.st = .pending ∨ y.st = .sending ∨ (bit y.id 29 = true ∧ bit y.fmt 4 = true) → ∃ t, exec (.txSend r bus b) s = .next t ∧
         Refused t r 0x4F07 ∧ t.can = s.can) ∧
       (∃ t, exec (.txAbort r bus b) s = .next t ∧ Commanded [.can] s t r addr 2 2 ∧
         t.can[bus] = { s.can[bus] with reqs := (s.can[bus]).reqs ++ [(s.tick, .abort b)] } ∧ Elsewhere bus s.can t.can))) ∧
    (∃ t, exec (.txSend r bus 0) s = .next t ∧ Refused t r 0x4F07 ∧ t.can = s.can) ∧
    (∃ t, exec (.txAbort r bus 0) s = .next t ∧ Refused t r 0x4F07 ∧ t.can = s.can) ∧
    (∃ t, exec (.canRecover r bus) s = .next t ∧ Commanded [.can] s t r (busBase bus + 8) 1 1 ∧
      t.can[bus] = { s.can[bus] with reqs := (s.can[bus]).reqs ++ [(s.tick, .recover)] } ∧ Elsewhere bus s.can t.can) ∧
    (∃ t, exec (.restrictOn r bus) s = .next t ∧ Commanded [.can] s t r (busBase bus + 8) 2 2 ∧
      t.can[bus] = { s.can[bus] with reqs := (s.can[bus]).reqs ++ [(s.tick, .restrict true)] } ∧ Elsewhere bus s.can t.can) ∧
    (∃ t, exec (.restrictOff r bus) s = .next t ∧ Commanded [.can] s t r (busBase bus + 8) 4 4 ∧
      t.can[bus] = { s.can[bus] with reqs := (s.can[bus]).reqs ++ [(s.tick, .restrict false)] } ∧ Elsewhere bus s.can t.can) ∧
    (∀ n : Word, n.toNat < 128 →
      (n ≠ 0 → (s.can[bus]).acked + n.toNat ≤ (s.can[bus]).rx.length → ∃ t, exec (.rxAck r bus n) s = .next t ∧
        Commanded [.can] s t r (busBase bus + 0x44) n n ∧
        t.can[bus] = { s.can[bus] with reqs := (s.can[bus]).reqs ++ [(s.tick, .ack n.toNat)] } ∧ Elsewhere bus s.can t.can) ∧
      (n = 0 ∨ (s.can[bus]).rx.length < (s.can[bus]).acked + n.toNat → ∃ t, exec (.rxAck r bus n) s = .next t ∧ Refused t r 0x4F07 ∧ t.can = s.can))

/-- Received frames, receive errors, integration, protocol exceptions, recovery and modes (R350, R351, R357, R358, R359,
R361, R362, R363). A valid frame is counted and takes the safe path, the queue or none; a full queue drops; errors raise REC
or integrate again in RESTRICTED; in a held state the controller is OFF from the end of the frame; a recovered controller is
error active and takes a waiting mode. REC from 128 falls to a free value from 119 to 127 (logs 2, 55); which frames are safe
telegrams is the model's reading (logs 52, 54). -/
def Obligations.CanReception : Prop :=
  ∀ (s : State) (bus : BusId), s.unit.running = true →
    (let c := s.can[bus]
     (∀ (f : CanFrame) (parity : Bool) (ts : Word), c.onBus = true → s.held = false →
       ∃ t, exec (.canFrameReceived bus f parity ts) s = .next t ∧ Elsewhere bus s.can t.can ∧
         (t.can[bus]).rxFrames = satN (c.rxFrames + 1) 32 ∧
         (c.rec' < 128 → (t.can[bus]).rec' = c.rec' - 1) ∧ (128 ≤ c.rec' → 119 ≤ (t.can[bus]).rec' ∧ (t.can[bus]).rec' ≤ 127) ∧
         (s.safeType f = some 1 → (t.can[bus]).rx = c.rx ∧ Only ([.can, .free, .il, .mem] ++ codes) s t) ∧
         (s.safeType f = some 2 → (t.can[bus]).rx = c.rx ∧ Only ([.can, .free, .il, .hinge, .cfg, .mem] ++ codes) s t) ∧
         (s.safeType f = none → matchFilter s.cfg.eff bus f = none →
           t.can[bus] = { c with rxFrames := (t.can[bus]).rxFrames, rec' := (t.can[bus]).rec' } ∧
           Changes [.can, .free, .mem] s t ∧ (parity = false → Only [.can, .free] s t)) ∧
         (∀ k, s.safeType f = none → matchFilter s.cfg.eff bus f = some k → c.rx.length < 64 →
           t.can[bus] = { c with rxFrames := (t.can[bus]).rxFrames, rec' := (t.can[bus]).rec', rxNext := (c.rxNext + 1) % 64, rxSerial := c.rxSerial + 1
                                 rx := c.rx ++ [f.entry c.rxNext k parity ts (c.rxSerial + 1)]
                                 events := if parity then c.events ||| 64 else c.events } ∧
           (parity = true → TellsAfter s t 0x4407 bus.val 0 ∧ Tells s t 0x4706 0xFF (BitVec.ofNat 32 (5 + bus.val))) ∧ Changes [.can, .free, .mem] s t) ∧
         (∀ k, s.safeType f = none → matchFilter s.cfg.eff bus f = some k → 64 ≤ c.rx.length →
           t.can[bus] = { c with rxFrames := (t.can[bus]).rxFrames, rec' := (t.can[bus]).rec', rxDropped := satN (c.rxDropped + 1) 32, overflow := true
                                 events := if c.overflow then c.events else c.events ||| 32 } ∧
           (c.overflow = false → TellsAfter s t 0x4406 bus.val 0) ∧ Changes [.can, .free, .mem] s t)) ∧
     (∀ (f : CanFrame) (parity : Bool) (ts : Word), c.onBus = true → s.held = true → c.sending = none →
       ∃ t, exec (.canFrameReceived bus f parity ts) s = .next t ∧ (t.can[bus]).mode = .off ∧ (t.can[bus]).rxFrames = satN (c.rxFrames + 1) 32 ∧
         (∀ j : Fin 3, ((t.can[bus]).tx[j]).st = .empty) ∧ Elsewhere bus s.can t.can) ∧
     (∀ (kind : Nat) (plus8 : Bool), c.onBus = true → s.held = true → c.sending = none →
       ∃ t, exec (.canReceiveError bus kind plus8) s = .next t ∧ (t.can[bus]).mode = .off ∧ (t.can[bus]).lastError = kind ∧ Elsewhere bus s.can t.can) ∧
     (∀ (kind : Nat) (plus8 : Bool), c.onBus = true → s.held = false → ∃ t, exec (.canReceiveError bus kind plus8) s = .next t ∧ Elsewhere bus s.can t.can ∧
       (c.mode = .restricted → t.can[bus] = { c with lastError := kind, errFrames := satN (c.errFrames + 1) 32, bus := .integrating } ∧ Only [.can] s t) ∧
       (c.mode ≠ .restricted →
         (let n := min 255 (c.rec' + if plus8 then 8 else 1)
          t.can[bus] = { c with lastError := kind, errFrames := satN (c.errFrames + 1) 32, rec' := n, events := (t.can[bus]).events } ∧
          (c.rec' < 96 → 96 ≤ n → Tells s t 0x4401 bus.val 0) ∧ (c.passive = false → 128 ≤ n → TellsAfter s t 0x4402 bus.val 0) ∧ Changes [.can] s t))) ∧
     (c.bus = .integrating → c.mode ≠ .off → ∃ t, exec (.canIntegrated bus) s = .next t ∧ t.can[bus] = { c with bus := .active } ∧
       Elsewhere bus s.can t.can ∧ Only [.can] s t) ∧
     (c.onBus = true → (c.sending = none → ∃ t, exec (.canPex bus) s = .next t ∧
         t.can[bus] = { c with bus := .integrating, pex := satN (c.pex + 1) 32, events := c.events ||| 128 } ∧ Elsewhere bus s.can t.can ∧
         Tells s t 0x4408 bus.val 0 ∧ Changes [.can] s t) ∧
       (∀ b, c.sending = some b → b ≠ 0 ∨ c.next0 = none → ((c.tx[b]).aborting = false) → ∃ t, exec (.canPex bus) s = .next t ∧
         t.can[bus] = { c with bus := .integrating, pex := satN (c.pex + 1) 32, events := c.events ||| 128, tx := (t.can[bus]).tx } ∧
         (t.can[bus]).tx[b] = { c.tx[b] with st := .pending, ackErrors := 0 } ∧ Elsewhere b c.tx (t.can[bus]).tx ∧ Elsewhere bus s.can t.can ∧
         Tells s t 0x4408 bus.val 0 ∧ Changes [.can] s t)) ∧
     (c.bus = .recovering → c.sending = none → ∃ t, exec (.canRecovered bus) s = .next t ∧
       t.can[bus] = { c with bus := .active, tec := 0, rec' := 0, recoverSeq := 128, events := c.events ||| 8, mode := c.modeReq.getD c.mode, modeReq := none } ∧
       Elsewhere bus s.can t.can ∧ Tells s t 0x4404 bus.val 0 ∧ Changes [.can] s t) ∧
     (∀ m, c.modeReq = some m → ∃ t, exec (.canModeChange bus) s = .next t ∧ Elsewhere bus s.can t.can ∧ Only [.can] s t ∧
       (c.bus ≠ .busOff → c.bus ≠ .recovering → c.sending = none → t.can[bus] = { c with mode := m, modeReq := none }) ∧
       (c.bus = .busOff ∨ c.bus = .recovering ∨ c.sending ≠ none → t.can[bus] = c)))

/-- The ends of a transmit attempt, and bus-off (R349, R350, R354, R355, R356, R361, R362, R363). A success makes the buffer
SENT with its timestamp, be the attempt under way or only now begun; in a held state the controller is OFF from there, which
a lost arbitration does not bring about; lost arbitration makes it PENDING and counts no error; an error makes it PENDING and
is counted, to bus-off at 256, unless ISO 11898-1 excepts it (the family's, log 81); a waiting abort makes it ABORTED; a
waiting telegram is written then. Bus-off loses no frame, and TEC passes the limits below 256 on its way. That the old
telegram counts as an overrun unless it was sent, and that an attempt may begin at its end's row, are the model's readings
(logs 54, 73). -/
def Obligations.CanTransmission : Prop :=
  ∀ (s : State) (bus : BusId) (b : Fin 3), s.unit.running = true →
    (let c := s.can[bus]
     (c.sending = some b → b ≠ 0 ∨ c.next0 = none → s.held = false →
       (let y := c.tx[b]
        let aborted : TxBuf := { y with st := .aborted, aborting := false, noListener := false, ackErrors := 0 }
        (∀ ts : Word, ∃ t, exec (.txSuccess bus b ts) s = .next t ∧
          t.can[bus] = { c with txFrames := satN (c.txFrames + 1) 32, tec := c.tec - 1, tx := (t.can[bus]).tx, measured := (t.can[bus]).measured } ∧
          (t.can[bus]).tx[b] = { y with st := .sent, ts := ts, noListener := false, ackErrors := 0, aborting := false } ∧
          Elsewhere b c.tx (t.can[bus]).tx ∧ Elsewhere bus s.can t.can ∧
          (s.cfg.eff.n F.tdcEnable bus.val ≠ 1 ∨ bit y.fmt 4 = false ∨ bit y.fmt 5 = false → (t.can[bus]).measured = c.measured) ∧ Only [.can, .free] s t) ∧
        (∃ t, exec (.txLostArbitration bus b) s = .next t ∧ t.can[bus] = { c with tx := (t.can[bus]).tx } ∧
          (t.can[bus]).tx[b] = (if y.aborting then aborted else { y with st := .pending, ackErrors := 0 }) ∧
          Elsewhere b c.tx (t.can[bus]).tx ∧ Elsewhere bus s.can t.can ∧ Only [.can] s t) ∧
        (∀ (kind : Nat) (unchanged : Bool), ∃ t, exec (.txError bus b kind unchanged) s = .next t ∧
          (let n := if kind = 3 then min 16 (y.ackErrors + 1) else 0
           let stays := unchanged && c.excepted kind
           let tec := if stays then c.tec else min 256 (c.tec + 8)
           (t.can[bus]).lastError = kind ∧ (t.can[bus]).errFrames = satN (c.errFrames + 1) 32 ∧ (t.can[bus]).tec = tec ∧ (t.can[bus]).rec' = c.rec' ∧
           (t.can[bus]).tx[b] = (if y.aborting then aborted else { y with st := .pending, ackErrors := n, noListener := y.noListener || n == 16 }) ∧
           (stays = false → 256 ≤ tec → (t.can[bus]).bus = .busOff ∧ (t.can[bus]).busOffs = satN (c.busOffs + 1) 32 ∧ TellsAfter s t 0x4403 bus.val 0) ∧
           (stays = true ∨ tec < 256 → (t.can[bus]).bus = c.bus ∧ Elsewhere b c.tx (t.can[bus]).tx) ∧
           (n = 16 → y.noListener = false → Tells s t 0x4405 bus.val 0) ∧
           (stays = false → c.tec < 96 → 96 ≤ tec → TellsAfter s t 0x4401 bus.val 0) ∧
           (stays = false → c.passive = false → 128 ≤ tec → TellsAfter s t 0x4402 bus.val 0)) ∧
          Elsewhere bus s.can t.can ∧ Changes [.can, .free] s t))) ∧
     -- an attempt that begins now, and one that ends in a held state
     (∀ ts : Word, s.held = false → c.sending = none → c.mayTransmit = true → c.choose (s.cfg.eff.n F.txOrder bus.val == 1) = some b →
       b ≠ 0 ∨ c.next0 = none → ∃ t, exec (.txSuccess bus b ts) s = .next t ∧ ((t.can[bus]).tx[b]).st = .sent ∧ ((t.can[bus]).tx[b]).ts = ts ∧
       (t.can[bus]).txFrames = satN (c.txFrames + 1) 32 ∧ Elsewhere b c.tx (t.can[bus]).tx ∧ Elsewhere bus s.can t.can ∧ Only [.can, .free] s t) ∧
     (∀ ts : Word, s.held = true → c.sending = some b → ∃ t, exec (.txSuccess bus b ts) s = .next t ∧ (t.can[bus]).mode = .off ∧
       (t.can[bus]).txFrames = satN (c.txFrames + 1) 32 ∧ (∀ j : Fin 3, ((t.can[bus]).tx[j]).st = .empty) ∧ Elsewhere bus s.can t.can) ∧
     (s.held = true → c.sending = some b → ∃ t, exec (.txLostArbitration bus b) s = .next t ∧ (t.can[bus]).mode = c.mode ∧
       ((t.can[bus]).tx[b]).st = (if (c.tx[b]).aborting then .aborted else .pending) ∧ Elsewhere bus s.can t.can ∧ Only [.can] s t) ∧
     -- a telegram that waited for buffer 0
     (∀ (bs : List Byte) (ts : Word), s.held = false → c.sending = some 0 → c.next0 = some bs → ∃ t, exec (.txSuccess bus 0 ts) s = .next t ∧
       (t.can[bus]).next0 = none ∧ ((t.can[bus]).tx[(0 : Fin 3)]).st = .pending ∧ ((t.can[bus]).tx[(0 : Fin 3)]).data = dataWords bs ∧
       (t.can[bus]).txFrames = satN (c.txFrames + 1) 32 ∧ t.il = s.il) ∧
     (∀ bs : List Byte, s.held = false → c.sending = some 0 → c.next0 = some bs → ∃ t, exec (.txLostArbitration bus 0) s = .next t ∧
       (t.can[bus]).next0 = none ∧ ((t.can[bus]).tx[(0 : Fin 3)]).st = .pending ∧ ((t.can[bus]).tx[(0 : Fin 3)]).data = dataWords bs ∧
       t.il = { s.il with safe := { s.il.safe with txOverrun := satN (s.il.safe.txOverrun + 1) 32 } }) ∧
     (c.onBus = true → c.sending ≠ some 0 ∨ c.next0 = none → ∃ t, exec (.canBusOff bus) s = .next t ∧
       t.can[bus] = { c with bus := .busOff, tec := 256, busOffs := satN (c.busOffs + 1) 32, tx := (t.can[bus]).tx
                             events := c.events ||| (if c.tec < 96 then 1 else 0) ||| (if c.passive = true then 0 else 2) ||| 4 } ∧
       (∀ j : Fin 3, (t.can[bus]).tx[j] = (if (c.tx[j]).st = .sending then { c.tx[j] with
           st := if (c.tx[j]).aborting then .aborted else .pending, aborting := false, ackErrors := 0
           noListener := (c.tx[j]).noListener && !(c.tx[j]).aborting } else c.tx[j])) ∧
       Elsewhere bus s.can t.can ∧ (c.tec < 96 → TellsAfter s t 0x4401 bus.val 0) ∧ (c.passive = false → TellsAfter s t 0x4402 bus.val 0) ∧
       TellsAfter s t 0x4403 bus.val 0 ∧ Changes [.can] s t))

/-- Heartbeats, their NAK and re-send, the loss of the pin link, and copy frames (R131, R371, R372, R373, R375, R376, R380,
R370, R443). A good heartbeat is kept for the next tick, a bad one is counted and answered NAK; a NAK is answered by one
re-send; at silence 20 the pin link is lost and an ACTIVE becomes ALONE; a STANDBY loads a good copy of the tick before that
differs and counts it, a doorway's cycle following, and drops any other; one that fails its CRC is counted too, and a frame
with a parity error fails its CRC and is told. What a copy carries is not laid out by the spec: the model brings its state
with it (log 79); that a unit copy that differs sets the unit state, and how the rows stand for the frames of a tick, are its
readings (logs 51, 58). -/
def Obligations.PinLink : Prop :=
  ∀ s : State, PairRuns s →
    (∀ f : WireFrame, f.parity = false →
      (∀ b, frameGood 96 f.payload f.crc f.lineOk = true → heartbeatOf f.payload = some b → ∃ t, exec (.heartbeatReceived f) s = .next t ∧
        t.hinge = { s.hinge with next := some b, nakOut := false } ∧ Only [.hinge] s t) ∧
      (frameGood 96 f.payload f.crc f.lineOk = false ∨ heartbeatOf f.payload = none → ∃ t, exec (.heartbeatReceived f) s = .next t ∧
        t.hinge = { s.hinge with hbCrc := satN (s.hinge.hbCrc + 1) 32, nakOut := true } ∧ Only [.hinge] s t)) ∧
    (s.hinge.sent.isSome = true → ∃ t, exec .heartbeatNak s = .next t ∧ t.hinge = { s.hinge with nakIn := true } ∧ Only [.hinge] s t) ∧
    (s.hinge.sent.isSome = true → s.hinge.nakIn = true → s.hinge.resent = false → ∃ t, exec .heartbeatResend s = .next t ∧
      t.hinge = { s.hinge with resent := true, hbResend := satN (s.hinge.hbResend + 1) 32 } ∧ Only [.hinge] s t) ∧
    (s.hinge.linkLost = false → ∃ t, exec .pinlinkLost s = .next t ∧
      t.hinge = { s.hinge with silence := max 20 s.hinge.silence, goodRun := 0, linkLost := true, events := s.hinge.events ||| 1
                               role := if s.hinge.role = .active then .alone else s.hinge.role } ∧
      Tells s t 0x4501 0xFF 0 ∧ Changes [.hinge] s t) ∧
    (s.hinge.linkLost = true → ∃ t, exec .pinlinkRestored s = .next t ∧
      t.hinge = { s.hinge with silence := 0, goodRun := 20, linkLost := false, events := s.hinge.events ||| 2 } ∧
      Tells s t 0x4502 0xFF 0 ∧ Changes [.hinge] s t) ∧
    (∀ f : WireFrame, f.parity = true → ∃ t, exec (.heartbeatReceived f) s = .next t ∧
      t.hinge = { s.hinge with hbCrc := satN (s.hinge.hbCrc + 1) 32, nakOut := true } ∧ Tells s t 0x4706 0xFF 2 ∧ Changes [.hinge, .mem] s t) ∧
    -- a good copy frame of the tick before, as a STANDBY takes it
    (∀ (p : List Byte) (e : FrameEnd) (c : CopyState), s.standby = true → operating s.unit.st = true → e.parity = false →
      frameGood 120 p e.crc e.lineOk = true → leAt p 0 1 = 2 → (leAt p 1 1, leAt p 2 1) = c.place →
      after (BitVec.ofNat 32 (leAt p 4 4)) 1 = s.tick →
      (∀ (a : AxisId) (x : Axis), c = .axis a x → ∃ t, exec (.copyFrame p e c) s = .next t ∧
        t.axes[a] = (s.axes[a]).copyFrom x ∧ Elsewhere a s.axes t.axes ∧
        t.hinge.copyDiff = (if (s.axes[a]).copyFrom x = s.axes[a] then s.hinge.copyDiff else satN (s.hinge.copyDiff + 1) 32) ∧ Only [.axes, .hinge] s t) ∧
      (∀ (d : DoorId) (x : Door), c = .door d x → ∃ t, exec (.copyFrame p e c) s = .next t ∧
        t.doors[d] = (s.doors[d]).copyFrom x ∧ Elsewhere d s.doors t.doors ∧
        t.hinge.copyDiff = (if (s.doors[d]).copyFrom x = s.doors[d] then s.hinge.copyDiff else satN (s.hinge.copyDiff + 1) 32) ∧
        t.recorder = { s.recorder with cycles := t.recorder.cycles } ∧ Elsewhere d s.recorder.cycles t.recorder.cycles ∧
        ((s.recorder.cycles[d]).active = false → (s.doors[d]).st.isClosed = true → x.st.endsCycle = false → (t.recorder.cycles[d]).active = true ∧
          (t.recorder.cycles[d]).first = x.st.code) ∧ Only [.doors, .hinge, .recorder] s t) ∧
      (c = .unit s.copyUnit → ∃ t, exec (.copyFrame p e c) s = .next t ∧ t.hinge.copyDiff = s.hinge.copyDiff ∧ Only [.hinge] s t) ∧
      (∀ x : CopyUnit, c = .unit x → x ≠ s.copyUnit → s.unit.st = .run → x.st = .maintenance → ∃ t, exec (.copyFrame p e c) s = .next t ∧
        t.unit.st = .maintenance ∧ (∀ a : AxisId, (t.axes[a]).loop.bank = x.banks.getLsbD a.val) ∧
        t.hinge.copyDiff = satN (s.hinge.copyDiff + 1) 32 ∧ Only [.unit, .axes, .hinge] s t) ∧
      (∀ x : CopyUnit, c = .unit x → x ≠ s.copyUnit → x.st = .discover ∨ x.st = .homing → ∃ t, exec (.copyFrame p e c) s = .next t ∧
        t.unit.st = x.st ∧ (∀ a : AxisId, (t.axes[a]).loop.bank = x.banks.getLsbD a.val) ∧
        t.hinge.copyDiff = satN (s.hinge.copyDiff + 1) 32 ∧ Only [.unit, .axes, .hinge] s t) ∧
      (∀ x : CopyUnit, c = .unit x → x.st = .run → s.unit.st = .homing → ∃ t, exec (.copyFrame p e c) s = .next t ∧
        t.unit.st = .run ∧ (s.wardOpen = true → Tells s t 0x400E 0xFF 0) ∧
        t.hinge.copyDiff = satN (s.hinge.copyDiff + 1) 32 ∧ Changes [.unit, .axes, .hinge] s t)) ∧
    -- any other is dropped, and one that fails its CRC is counted
    (∀ (p : List Byte) (e : FrameEnd) (c : CopyState), e.parity = false → s.standby = false ∨ operating s.unit.st = false ∨
      (frameGood 120 p e.crc e.lineOk = true ∧ (leAt p 0 1 ≠ 2 ∨ (leAt p 1 1, leAt p 2 1) ≠ c.place ∨ after (BitVec.ofNat 32 (leAt p 4 4)) 1 ≠ s.tick)) →
      exec (.copyFrame p e c) s = .next s) ∧
    (∀ (p : List Byte) (e : FrameEnd) (c : CopyState), e.parity = false → s.standby = true → operating s.unit.st = true →
      frameGood 120 p e.crc e.lineOk = false → ∃ t, exec (.copyFrame p e c) s = .next t ∧
      t.hinge = { s.hinge with hbCrc := satN (s.hinge.hbCrc + 1) 32 } ∧ Only [.hinge] s t) ∧
    (∀ (p : List Byte) (e : FrameEnd) (c : CopyState), e.parity = true → ∃ t, exec (.copyFrame p e c) s = .next t ∧ Tells s t 0x4706 0xFF 2 ∧
      (s.standby = true → operating s.unit.st = true → t.hinge = { s.hinge with hbCrc := satN (s.hinge.hbCrc + 1) 32 }) ∧ Changes [.mem, .hinge] s t)

/-- Settling, claim rounds, takeover and yielding (R386, R388, R389, R390, R391, R370, R385). PAIR_WAIT_EXPIRY settles ALONE
or ACTIVE; a round claims in its tick by the serial's bit or settles STANDBY; too few witnesses lead back to shadow frames;
a fit STANDBY takes the next epoch and adjusts its tick no more, with its state kept where it was synced and its doorways
settled anew where not, one in FAULT staying there; a yielding holder becomes STANDBY with SYNCED 0 and no claim. What
becomes of an open doorway of an unsynced takeover, and that its shadows are dropped, are the model's readings (log 40). -/
def Obligations.RolesAndLeases : Prop :=
  ∀ s : State, PairRuns s → operating s.unit.st = true →
    (∀ answered : Bool, s.hinge.role = .unsettled →
      (s.hinge.present = none → ∃ t, exec (.pairWaitExpiry answered) s = .next t ∧
        t.hinge = { s.hinge with role := .alone, claimDue := false, rounds := some s.tick, events := s.hinge.events ||| 4 } ∧
        Tells s t 0x4503 0xFF 0 ∧ (s.net.k.isSome = true ∨ s.staticIp = false ∨ s.hinge.partner.isSome = true → t.net = s.net) ∧
        (s.net.k = none → s.staticIp = true → s.hinge.partner = none → t.net.k = some answered) ∧ Changes [.hinge, .net] s t) ∧
      (∀ b, s.hinge.present = some b → b.role = 3 → ∃ t, exec (.pairWaitExpiry answered) s = .next t ∧
        t.hinge = { s.hinge with role := .active, claimDue := true, events := s.hinge.events ||| 4 } ∧ Tells s t 0x4503 0xFF 0 ∧
        Changes [.hinge, .net] s t)) ∧
    (∀ (last : Bool) (S : Tick), s.hinge.rounds = some S → s.hinge.lease = false →
      (last = false → s.hingeIn.heldByOther = true → ∃ t, exec (.claimRound last) s = .next t ∧ t.hinge.role = .standby ∧ t.hinge.rounds = none ∧
        t.hinge.lease = false ∧ t.hinge.claim = none ∧ Tells s t 0x4503 0xFF 0 ∧ Changes [.hinge] s t) ∧
      (last = true ∨ s.hingeIn.heldByOther = false →
        (let one := s.se.serial.getLsbD (since s.tick S / 80 % 32)
         (one = !last → ∃ t, exec (.claimRound last) s = .next t ∧
           t.hinge = { s.hinge with epoch := skipZero (s.hingeIn.topEpoch + 1 + if one then 1 else 0), lease := true, claim := some s.tick, claimDue := false } ∧
           Only [.hinge] s t) ∧
         (one = last → ∃ t, exec (.claimRound last) s = .next t ∧ t.hinge = s.hinge ∧ Only [] s t)))) ∧
    (s.hinge.claim.isSome = true → ∃ t, exec .claimCheck s = .next t ∧ Only [.hinge] s t ∧
      (s.hinge.rounds.isSome = true → s.hingeIn.heldHere s.hinge.epoch < quorum s.cfg.eff → t.hinge = { s.hinge with lease := false, claim := none }) ∧
      (s.hinge.rounds = none ∨ ¬ s.hingeIn.heldHere s.hinge.epoch < quorum s.cfg.eff → t.hinge = { s.hinge with claim := none, rounds := none })) ∧
    (∀ e, s.hinge.role = .standby → s.hinge.fit = true → 20 ≤ s.hinge.silence ∨ s.hinge.gone = true → s.hingeIn.lapsedEpoch = some e →
      ∃ t, exec .takeover s = .next t ∧ t.hinge.epoch = skipZero (e + 1) ∧ t.hinge.lease = true ∧ t.hinge.claim = some s.tick ∧
        t.hinge.takeoverTick = s.tick ∧ t.hinge.gone = false ∧
        t.hinge.role = (if 20 ≤ s.hinge.silence ∨ 20 ≤ s.hinge.faultRun then .alone else .active) ∧
        (∀ b : Block, t.kw.holder b = none) ∧ t.cfg.shadows = [] ∧ t.hinge.stretch = 0 ∧ t.hinge.nextTick = none ∧
        (s.hinge.synced = true → TellsAfter s t 0x4504 0xFF 0 ∧ t.axes = s.axes ∧ t.doors = s.doors) ∧
        (s.hinge.synced = false → TellsAfter s t 0x4505 0xFF 0 ∧ ∀ d : DoorId, s.cfg.eff.n F.doorUsed d.val = 1 →
          ((s.doorInputs d.val).1.getLsbD 2 = true → (s.doors[d]).stuck = false → (t.doors[d]).st = .isolated) ∧
          ((s.doorInputs d.val).1.getLsbD 2 = false ∨ (s.doors[d]).stuck = true → (s.doors[d]).st = .fault → (t.doors[d]).st = .fault ∧ (t.doors[d]).cause = (s.doors[d]).cause))) ∧
    (s.unit.st = .discover → exec .leaseYielded s = .next s) ∧
    (s.hinge.lease = true → s.unit.st ≠ .discover → ∃ t, exec .leaseYielded s = .next t ∧ t.hinge.role = .standby ∧ t.hinge.lease = false ∧ t.hinge.yielding = 20 ∧
      t.hinge.synced = false ∧ t.hinge.epoch = s.hinge.epoch ∧ (∀ b : Block, t.kw.holder b = none) ∧ Tells s t 0x4506 0xFF 0 ∧
      Only ([.hinge, .cfg] ++ codes) s t)

/-- SRAM_BIT_FLIP, SCRUB_STEP and DMA_RESUME (R433, R435, R437, R439, R440, R441, R442). A bit error changes the wrong bits
of its storage place alone, a word's or a spare's; the scrubber goes on by one word, corrects one wrong bit where the word is
stored, counts, remaps into the next spare and saves the table, poisons what it cannot correct, and ends a pass with its
summary; a halted DMA channel resumes alone, ENGINE not at all. The numbering of the spare words is the model's (log 99). -/
def Obligations.StoredWords : Prop :=
  ∀ s : State, s.unit.running = true →
    (∀ (w : Nat) (mask : BitVec 72), w < passWords + 16 → ∃ t, exec (.sramBitFlip w mask) s = .next t ∧ t.mem = { s.mem with flips := t.mem.flips } ∧
      (let f := (s.mem.flips.lookup w).getD 0 ^^^ mask
       (f ≠ 0 → t.mem.flips.lookup w = some f) ∧ (s.mem.flips = [(w, mask)] → t.mem.flips = []) ∧
       (s.mem.remap = [] → w < passWords → f ≠ 0 → t.mem.flip w = f) ∧
       ∀ v p, s.mem.remap = [(v, p)] → w = passWords → f ≠ 0 → t.mem.flip v = f) ∧
      (∀ j, j ≠ w → t.mem.flips.lookup j = s.mem.flips.lookup j) ∧ Only [.mem] s t) ∧
    (let w := s.mem.pos
     ∃ t, exec .scrubStep s = .next t ∧ Changes [.mem, .se] s t ∧
       (t.mem.remap.length = s.mem.remap.length → t.se = s.se) ∧
       -- one word is due, and it is not the last of the pass
       (w + 1 < passWords → s.up < s.mem.dueAt (w + 1) →
         t.mem.pos = w + 1 ∧ t.mem.passes = s.mem.passes ∧
         (w ∈ s.mem.poisoned ∨ s.mem.flip w = 0 → t.mem = { s.mem with pos := w + 1 }) ∧
         (w ∉ s.mem.poisoned → (flipPlaces (s.mem.flip w)).length = 1 →
           t.mem.corrScrub = satN (s.mem.corrScrub + 1) 32 ∧ t.mem.passCorr = s.mem.passCorr + 1 ∧ t.mem.poisoned = s.mem.poisoned ∧
           ((s.mem.history.lookup w).getD 0 < 3 → t.mem.flips = putFlip (s.mem.place w) 0 s.mem.flips) ∧
           (s.mem.history.lookup w = none → s.mem.history.length < 256 → t.mem.history = s.mem.history ++ [(w, 1)] ∧ t.mem.remap = s.mem.remap) ∧
           (s.mem.history.lookup w = some 3 → w < sramWords → s.mem.remap.length < 16 →
             t.mem.remap = s.mem.remap ++ [(w, s.se.powerCycle)] ∧ t.se = { s.se with remap := t.mem.remap } ∧ t.mem.history.lookup w = none ∧
             t.mem.flips = putFlip (passWords + s.mem.remap.length) 0 (putFlip (s.mem.place w) 0 s.mem.flips) ∧ Tells s t 0x4703 0xFF 0)) ∧
         (w ∉ s.mem.poisoned → (flipPlaces (s.mem.flip w)).length = 2 → w < sramWords → s.mem.decodes (pageOf w) = false →
           w ∈ t.mem.poisoned ∧ t.mem.flips = s.mem.flips ∧ t.mem.uncorrActive = true ∧ Tells s t 0x4702 0xFF (BitVec.ofNat 32 (8 * w)))) ∧
       -- the last word of the pass
       (w + 1 = passWords → s.mem.flip w = 0 → t.mem.pos = 0 ∧ t.mem.passes = s.mem.passes + 1 ∧ t.mem.passCorr = 0 ∧ t.mem.flips = s.mem.flips ∧
         t.mem.schedTick = s.up + 1 ∧ (0 < s.mem.passCorr → Tells s t 0x4707 0xFF (BitVec.ofNat 32 s.mem.passCorr)))) ∧
    exec (.dmaResume 0) s = .next s ∧
    (∀ c : Fin 4, c ≠ 0 → ∃ t, exec (.dmaResume c) s = .next t ∧ t.mem = { s.mem with dma := t.mem.dma } ∧
      (∀ j : Fin 4, t.mem.dma.getLsbD j.val = (s.mem.dma.getLsbD j.val && j != c)) ∧ Only [.mem] s t)

/-- Addresses, the census and the Ethernet links (R437, R448, R449, R465, R468, R469). A lease or link-local address is used
where DHCP is asked for; a census datagram is signed, numbered and sent to CENSUS_GROUP:CENSUS_PORT with TTL 16 in the tick in
which it is due, once, and not while channel CRYPTO is halted; a received one is dropped and counted or replaces its sender's
entry; an entry expires; a link's bit follows the link. How a certificate is read is a free constant (log 26); the order of
the checks is the model's reading (log 63). -/
def Obligations.NetworkAndCensus : Prop :=
  ∀ s : State, s.unit.running = true →
    (∀ (ip : Word) (p : BitVec 8), s.unit.st ≠ .boot → s.unit.st ≠ .config → s.staticIp = false →
      (∃ t, exec (.dhcpLease ip p) s = .next t ∧ t.net = { s.net with src := .dhcp, ip := ip, prefixLen := p.toNat } ∧ Only [.net] s t) ∧
      (s.net.src = .none → ∃ t, exec (.dhcpTimeout ip) s = .next t ∧ t.net = { s.net with src := .linkLocal, ip := ip, prefixLen := 16 } ∧ Only [.net] s t) ∧
      (s.net.src ≠ .none → exec (.dhcpTimeout ip) s = .next s)) ∧
    (operating s.unit.st = true → s.cfg.eff.n F.censusEnable 0 = 1 → s.censusDue = true → s.net.sentAt ≠ some s.up → s.mem.dma.getLsbD 3 = false →
      ∃ t, exec .censusSend s = .next t ∧
      t.net = { s.net with
        sent := some ⟨netWord (s.cfg.eff.n F.censusGroup 0), s.cfg.eff.n F.censusPort 0, 16, s.censusBody ++ Config.ecdsaSign s.censusBody⟩
        sentAt := some s.up, seq := (s.net.seq + 1) % 2 ^ 32 } ∧ Only [.net] s t) ∧
    (s.cfg.eff.n F.censusEnable 0 ≠ 1 ∨ s.censusDue = false ∨ s.net.sentAt = some s.up ∨ s.mem.dma.getLsbD 3 = true → exec .censusSend s = .next s) ∧
    (∀ bytes : List Byte, s.unit.st ≠ .boot →
      (let drop : Net := { s.net with dropped := satN (s.net.dropped + 1) 32 }
       (censusParts bytes = none → ∃ t, exec (.censusReceive bytes) s = .next t ∧ t.net = drop ∧ Only [.net] s t) ∧
       (∀ body cert serial, censusParts bytes = some (body, cert, serial) →
         (let good := deviceCertOk cert serial = true ∧
            Config.ecdsaVerify (Config.certKey cert) body (leAt bytes body.length 32) (leAt bytes (body.length + 32) 32) = true
          let e := censusEntryOf bytes s.tick s.up
          (¬ good → ∃ t, exec (.censusReceive bytes) s = .next t ∧ t.net = drop ∧ Only [.net] s t) ∧
          (∀ old, good → s.net.table.find? (fun x => x.2.serial == serial) = some old →
            ∃ t, exec (.censusReceive bytes) s = .next t ∧ Only [.net] s t ∧
              (e.newer old.2 = true → t.net.table = (old.1, e) :: s.net.table.filter (fun x => x.1 != old.1) ∧ t.net.dropped = s.net.dropped) ∧
              (e.newer old.2 = false → t.net.table = s.net.table ∧ t.net.dropped = satN (s.net.dropped + 1) 32)) ∧
          (good → s.net.table.find? (fun x => x.2.serial == serial) = none →
            ∃ t, exec (.censusReceive bytes) s = .next t ∧ Only [.net] s t ∧
              (∀ k, s.net.freePlace s.up = some k → t.net.table = (k, e) :: s.net.table.filter (fun x => x.1 != k) ∧ t.net.dropped = s.net.dropped) ∧
              (s.net.freePlace s.up = none → t.net.table = s.net.table ∧ t.net.dropped = satN (s.net.dropped + 1) 32)))))) ∧
    (∀ serial : Word, ∃ t, exec (.censusEntryExpiry serial) s = .next t ∧
      t.net = { s.net with table := s.net.table.map fun x => if x.2.serial = serial then (x.1, { x.2 with fresh := false }) else x } ∧ Only [.net] s t) ∧
    (∀ up : Bool, (∃ t, exec (.ethLinkChange false up) s = .next t ∧ t.net = { s.net with e1 := up } ∧ Only [.net] s t) ∧
      ∃ t, exec (.ethLinkChange true up) s = .next t ∧ t.net = { s.net with e2 := up } ∧ Only [.net] s t)
end

