-- ==== Sys2Proof/Laws/Memory.lean ====
section
/-! SUPPORT. Host scratch: a byte read after a write, the canonical form, and what leaves the bytes alone. -/

namespace Sys2Proof.Machine

/-! ## Host scratch as a list of bytes -/

/-- Raising or dropping the bound of a canonical list. -/
theorem memAbove_mono {lo hi : Option Nat} {m : List Host.Cell} (h : memAbove hi m = true)
    (le : ∀ l, lo = some l → ∃ k, hi = some k ∧ l ≤ k) : memAbove lo m = true := by
  cases m with
  | nil => rfl
  | cons x m =>
    obtain ⟨k, b⟩ := x
    cases lo with
    | none =>
      cases hi with
      | none => exact h
      | some j => simp [memAbove] at h ⊢; exact ⟨h.1.2, h.2⟩
    | some l =>
      obtain ⟨j, rfl, lj⟩ := le l rfl
      simp [memAbove] at h ⊢
      exact ⟨⟨by omega, h.1.2⟩, h.2⟩

/-- An address below the bound reads 0. -/
theorem memGet_below {l a : Nat} {m : List Host.Cell} (h : memAbove (some l) m = true) (le : a ≤ l) : memGet m a = 0 := by
  cases m with
  | nil => rfl
  | cons x m =>
    obtain ⟨k, b⟩ := x
    simp [memAbove] at h
    simp only [memGet]
    rw [if_neg (by omega), if_pos (by omega)]

/-- A write above the bound keeps the form. -/
theorem memAbove_memSet {lo : Option Nat} {m : List Host.Cell} (h : memAbove lo m = true) (a : Nat) (b : Byte)
    (la : ∀ l, lo = some l → l < a) : memAbove lo (memSet m a b) = true := by
  induction m generalizing lo with
  | nil =>
    unfold memSet
    split
    · rfl
    · cases lo with
      | none => simp_all [memAbove]
      | some l => simp_all [memAbove]
  | cons x m ih =>
    obtain ⟨k, c⟩ := x
    have h' : (∀ l, lo = some l → l < k) ∧ c ≠ 0 ∧ memAbove (some k) m = true := by
      cases lo with
      | none => simpa [memAbove] using h
      | some l => simp [memAbove] at h; exact ⟨by rintro _ ⟨⟩; exact h.1.1, h.1.2, h.2⟩
    obtain ⟨h1, h2, h3⟩ := h'
    have build : ∀ (j : Nat) (d : Byte) (r : List Host.Cell), (∀ l, lo = some l → l < j) → d ≠ 0 → memAbove (some j) r = true →
        memAbove lo ((j, d) :: r) = true := by
      intro j d r p q t
      cases lo with
      | none => simp_all [memAbove]
      | some l => simp_all [memAbove]
    unfold memSet
    split
    · split
      · exact h
      · exact build _ _ _ la ‹_› (build_tail k c m a h2 h3 ‹_›)
    split
    · subst_vars
      split
      · exact memAbove_mono h3 fun l e => ⟨_, rfl, Nat.le_of_lt (h1 l e)⟩
      · exact build _ _ _ la ‹_› h3
    · exact build _ _ _ h1 h2 (ih h3 fun l e => by cases e; omega)
where
  build_tail (k : Nat) (c : Byte) (m : List Host.Cell) (a : Nat) (h2 : c ≠ 0) (h3 : memAbove (some k) m = true) (lt : a < k) :
      memAbove (some a) ((k, c) :: m) = true := by simp_all [memAbove]

/-- A byte written keeps the canonical form. -/
theorem memWf_memSet {m : List Host.Cell} (h : memWf m = true) (a : Nat) (b : Byte) : memWf (memSet m a b) = true :=
  memAbove_memSet h a b (by simp)

/-- Bytes written keep the canonical form. -/
theorem memWf_memSetBytes {m : List Host.Cell} (h : memWf m = true) (a : Nat) (bs : List Byte) :
    memWf (memSetBytes m a bs) = true := by
  induction bs generalizing m a with
  | nil => exact h
  | cons b bs ih => exact ih (memWf_memSet h a b) (a + 1)

/-- Dropping entries keeps the form. -/
theorem memAbove_filter {lo : Option Nat} {m : List Host.Cell} (h : memAbove lo m = true) (p : Host.Cell → Bool) :
    memAbove lo (m.filter p) = true := by
  induction m generalizing lo with
  | nil => exact h
  | cons x m ih =>
    obtain ⟨k, c⟩ := x
    have h3 : memAbove (some k) m = true := by cases lo <;> simp [memAbove] at h <;> exact h.2
    simp only [List.filter_cons]
    split
    · cases lo with
      | none => simp [memAbove] at h ⊢; exact ⟨h.1, ih h.2⟩
      | some l => simp [memAbove] at h ⊢; exact ⟨h.1, ih h.2⟩
    · refine ih (memAbove_mono h3 fun l e => ⟨k, rfl, ?_⟩)
      subst e; simp [memAbove] at h; omega

/-- A cleared range keeps the canonical form. -/
theorem memWf_memClear {m : List Host.Cell} (h : memWf m = true) (lo hi : Nat) : memWf (memClear m lo hi) = true :=
  memAbove_filter h _

/-- A byte read after a write of it. -/
theorem memGet_memSet_same {lo : Option Nat} {m : List Host.Cell} (h : memAbove lo m = true) (a : Nat) (b : Byte) :
    memGet (memSet m a b) a = b := by
  induction m generalizing lo with
  | nil => unfold memSet; split <;> simp_all [memGet]
  | cons x m ih =>
    obtain ⟨k, c⟩ := x
    have h3 : memAbove (some k) m = true := by cases lo <;> simp [memAbove] at h <;> exact h.2
    unfold memSet
    split
    · split
      · subst_vars; simp only [memGet]; rw [if_neg (by omega), if_pos (by omega)]
      · simp [memGet]
    split
    · subst_vars
      split
      · subst_vars; exact memGet_below h3 (Nat.le_refl _)
      · simp [memGet]
    · simp only [memGet]
      rw [if_neg (by omega), if_neg (by omega)]
      exact ih h3

/-- Every other byte is left alone by a write. -/
theorem memGet_memSet_other {lo : Option Nat} {m : List Host.Cell} (h : memAbove lo m = true) {a c : Nat} (b : Byte) (ne : c ≠ a) :
    memGet (memSet m a b) c = memGet m c := by
  induction m generalizing lo with
  | nil =>
    unfold memSet
    split
    · rfl
    · simp only [memGet]; rw [if_neg (by omega)]; split <;> rfl
  | cons x m ih =>
    obtain ⟨k, d⟩ := x
    have h3 : memAbove (some k) m = true := by cases lo <;> simp [memAbove] at h <;> exact h.2
    unfold memSet
    split
    · split
      · rfl
      · rw [memGet]
        rw [if_neg (by omega)]
        split
        · simp only [memGet]; rw [if_neg (by omega), if_pos (by omega)]
        · rfl
    split
    · subst_vars
      split
      · simp only [memGet]
        rw [if_neg (by omega)]
        split
        · exact memGet_below h3 (by omega)
        · rfl
      · simp only [memGet, if_neg (Ne.symm ne)]
    · simp only [memGet, ih h3]

/-! ## Operations on the memory under SECDED: all keep the canonical form of scratch, and most leave its bytes alone -/

@[simp] theorem MemRun.upd_m (r : MemRun) (f : Mem → Mem) : (r.upd f).m = f r.m := rfl
@[simp] theorem MemRun.event_scratch (r : MemRun) (k : Nat) (code : Code) (d : Nat) : (r.event k code d).m.scratch = r.m.scratch := by unfold MemRun.event; rfl
@[simp] theorem MemRun.halt_scratch (r : MemRun) (c : Fin 4) : (r.halt c).m.scratch = r.m.scratch := by unfold MemRun.halt; rfl
@[simp] theorem MemRun.resume_scratch (r : MemRun) (c : Fin 4) : (r.resume c).m.scratch = r.m.scratch := by
  unfold MemRun.resume; split <;> rfl
@[simp] theorem MemRun.bufParity_scratch (r : MemRun) (k : Nat) : (r.bufParity k).m.scratch = r.m.scratch := by unfold MemRun.bufParity; rfl
@[simp] theorem MemRun.startCheck_scratch (r : MemRun) : r.startCheck.m.scratch = r.m.scratch := by
  unfold MemRun.startCheck; split <;> rfl
@[simp] theorem Mem.upset_scratch (m : Mem) (w : Nat) (f : BitVec 72) : (m.upset w f).scratch = m.scratch := by unfold Mem.upset; rfl
@[simp] theorem Mem.respread_scratch (m : Mem) (up p : Nat) : (m.respread up p).scratch = m.scratch := by
  unfold Mem.respread; split <;> rfl
@[simp] theorem MemRun.count_scratch (r : MemRun) (p w : Nat) : (r.count p w).m.scratch = r.m.scratch := by
  unfold MemRun.count
  split
  · rfl
  · split
    · rfl
    · split <;> rfl
  · split <;> rfl
theorem MemRun.counts_scratch (r : MemRun) (p : Nat) (ws : List Nat) :
    (ws.foldl (fun (r : MemRun) x => r.count p x) r).m.scratch = r.m.scratch := by
  induction ws generalizing r with
  | nil => rfl
  | cons w ws ih => simp [ih]

/-- Wrong data bits that a decode writes keep the canonical form. -/
theorem Mem.settle_wf (m : Mem) (w : Nat) (h : memWf m.scratch = true) : memWf (m.settle w).scratch = true := by
  unfold Mem.settle Mem.alter
  dsimp only
  split
  · exact h
  · exact memWf_memSetBytes h _ _
theorem Mem.settles_wf (ws : List Nat) (m : Mem) (h : memWf m.scratch = true) : memWf (ws.foldl Mem.settle m).scratch = true := by
  induction ws generalizing m with
  | nil => exact h
  | cons w ws ih => exact ih _ (Mem.settle_wf m w h)
@[simp] theorem MemRun.decode_wf (r : MemRun) (w : Nat) (who : Reader) (h : memWf r.m.scratch = true) :
    memWf (r.decode w who).1.m.scratch = true := by
  unfold MemRun.decode
  dsimp only
  split
  · simpa using Mem.settles_wf _ _ h
  · dsimp only; split <;> simpa using h
@[simp] theorem MemRun.read_wf (r : MemRun) (w : Nat) (who : Reader) (h : memWf r.m.scratch = true) :
    memWf (r.read w who).1.m.scratch = true := by
  unfold MemRun.read
  split
  · exact h
  · split
    · exact h
    · exact h
    · exact h
    · exact MemRun.decode_wf r w who h
@[simp] theorem MemRun.dmaRead_wf (r : MemRun) (w : Nat) (c : Fin 4) (h : memWf r.m.scratch = true) :
    memWf (r.dmaRead w c).1.m.scratch = true := by
  unfold MemRun.dmaRead
  dsimp only
  split <;> simp [h]
@[simp] theorem MemRun.readScratch_wf (r : MemRun) (a : Nat) (h : memWf r.m.scratch = true) :
    memWf (r.readScratch a).1.m.scratch = true := by
  unfold MemRun.readScratch
  split
  · exact h
  · dsimp only; split <;> simp [h]
@[simp] theorem MemRun.scrubWord_wf (r : MemRun) (p w : Nat) (h : memWf r.m.scratch = true) :
    memWf (r.scrubWord p w).m.scratch = true := by
  unfold MemRun.scrubWord
  split
  · exact h
  · split
    · exact h
    · exact h
    · simpa [Mem.clean] using h
    · split
      · exact h
      · dsimp only; split
        · simpa [MemRun.counts_scratch] using MemRun.decode_wf r w .scrubber h
        · exact MemRun.decode_wf r w .scrubber h
@[simp] theorem MemRun.scrubNext_wf (r : MemRun) (p u q : Nat) (h : memWf r.m.scratch = true) :
    memWf (r.scrubNext p u q).m.scratch = true := by
  unfold MemRun.scrubNext
  dsimp only
  split
  · simp [h]
  · split <;> simp [h]
@[simp] theorem MemRun.scrubDue_wf (r : MemRun) (p u q n : Nat) (h : memWf r.m.scratch = true) :
    memWf (r.scrubDue p u q n).m.scratch = true := by
  induction n generalizing r with
  | zero => exact h
  | succ n ih => unfold MemRun.scrubDue; split <;> simp [ih, h]
@[simp] theorem MemRun.scrub_wf (r : MemRun) (p u q : Nat) (h : memWf r.m.scratch = true) : memWf (r.scrub p u q).m.scratch = true := by
  unfold MemRun.scrub; simp [h]
@[simp] theorem MemRun.vetted_wf (r : MemRun) (w : Nat) (whole : Bool) (h : memWf r.m.scratch = true) :
    memWf (r.vetted w whole).1.m.scratch = true := by
  unfold MemRun.vetted
  dsimp only
  repeat' split
  all_goals simp_all

@[simp] theorem MemRun.write_wf (r : MemRun) (w : Nat) (whole : Bool) (h : memWf r.m.scratch = true) :
    memWf (r.write w whole).1.m.scratch = true := by
  have hq := MemRun.vetted_wf r w whole h
  unfold MemRun.write Mem.rebuild
  dsimp only
  repeat' split
  all_goals exact hq

/-- A host write keeps the canonical form of scratch. -/
theorem MemRun.writeScratch_wf (r : MemRun) (a : Nat) (v : Word) (h : memWf r.m.scratch = true) :
    memWf (r.writeScratch a v).1.m.scratch = true := by
  have hq := MemRun.vetted_wf r (scratchWord a) false h
  unfold MemRun.writeScratch
  dsimp only
  split
  · exact hq
  · exact memWf_memSetBytes hq _ _

/-- MEM_SCRATCH_CLEAR keeps the canonical form of scratch. -/
theorem Mem.clearPage_wf (m : Mem) (p : Nat) (h : memWf m.scratch = true) : memWf (m.clearPage p).scratch = true :=
  memWf_memClear h _ _

end Sys2Proof.Machine
end

