-- ==== Sys2Proof/Laws/Fold.lean ====
section
/-! SUPPORT. Folds over the state and operations that wait for a running module keep what each of their steps keeps. -/

namespace Sys2Proof.Machine

/-- What every step of a fold keeps, the fold keeps. -/
theorem foldl_keeps {α β : Type} (g : State → β) (f : State → α → State) (l : List α) (s : State) (h : ∀ s a, g (f s a) = g s) :
    g (l.foldl f s) = g s := by
  induction l generalizing s with
  | nil => rfl
  | cons a l ih => rw [List.foldl_cons, ih, h]
/-- What an operation keeps, it keeps where it waits for a running module. -/
theorem State.live_keeps {β : Type} (g : State → β) (s : State) (b : Bool) (f : State → State) (h : ∀ s, g (f s) = g s) :
    g (s.live b f) = g s := by
  unfold State.live; split
  · exact h s
  · rfl
@[simp] theorem foldl_tick {α : Type} (f : State → α → State) (l : List α) (s : State) (h : ∀ s a, (f s a).tick = s.tick) :
    (l.foldl f s).tick = s.tick := foldl_keeps State.tick f l s h
@[simp] theorem State.live_tick (s : State) (b : Bool) (f : State → State) (h : ∀ s, (f s).tick = s.tick) : (s.live b f).tick = s.tick :=
  State.live_keeps State.tick s b f h
@[simp] theorem foldl_up {α : Type} (f : State → α → State) (l : List α) (s : State) (h : ∀ s a, (f s a).up = s.up) :
    (l.foldl f s).up = s.up := foldl_keeps State.up f l s h
@[simp] theorem State.live_up (s : State) (b : Bool) (f : State → State) (h : ∀ s, (f s).up = s.up) : (s.live b f).up = s.up :=
  State.live_keeps State.up s b f h
@[simp] theorem foldl_unit {α : Type} (f : State → α → State) (l : List α) (s : State) (h : ∀ s a, (f s a).unit = s.unit) :
    (l.foldl f s).unit = s.unit := foldl_keeps State.unit f l s h
@[simp] theorem State.live_unit (s : State) (b : Bool) (f : State → State) (h : ∀ s, (f s).unit = s.unit) : (s.live b f).unit = s.unit :=
  State.live_keeps State.unit s b f h
@[simp] theorem foldl_panel {α : Type} (f : State → α → State) (l : List α) (s : State) (h : ∀ s a, (f s a).panel = s.panel) :
    (l.foldl f s).panel = s.panel := foldl_keeps State.panel f l s h
@[simp] theorem State.live_panel (s : State) (b : Bool) (f : State → State) (h : ∀ s, (f s).panel = s.panel) : (s.live b f).panel = s.panel :=
  State.live_keeps State.panel s b f h
@[simp] theorem foldl_cfg {α : Type} (f : State → α → State) (l : List α) (s : State) (h : ∀ s a, (f s a).cfg = s.cfg) :
    (l.foldl f s).cfg = s.cfg := foldl_keeps State.cfg f l s h
@[simp] theorem State.live_cfg (s : State) (b : Bool) (f : State → State) (h : ∀ s, (f s).cfg = s.cfg) : (s.live b f).cfg = s.cfg :=
  State.live_keeps State.cfg s b f h
@[simp] theorem foldl_ports {α : Type} (f : State → α → State) (l : List α) (s : State) (h : ∀ s a, (f s a).ports = s.ports) :
    (l.foldl f s).ports = s.ports := foldl_keeps State.ports f l s h
@[simp] theorem State.live_ports (s : State) (b : Bool) (f : State → State) (h : ∀ s, (f s).ports = s.ports) : (s.live b f).ports = s.ports :=
  State.live_keeps State.ports s b f h
@[simp] theorem foldl_axes {α : Type} (f : State → α → State) (l : List α) (s : State) (h : ∀ s a, (f s a).axes = s.axes) :
    (l.foldl f s).axes = s.axes := foldl_keeps State.axes f l s h
@[simp] theorem State.live_axes (s : State) (b : Bool) (f : State → State) (h : ∀ s, (f s).axes = s.axes) : (s.live b f).axes = s.axes :=
  State.live_keeps State.axes s b f h
@[simp] theorem foldl_trace {α : Type} (f : State → α → State) (l : List α) (s : State) (h : ∀ s a, (f s a).trace = s.trace) :
    (l.foldl f s).trace = s.trace := foldl_keeps State.trace f l s h
@[simp] theorem State.live_trace (s : State) (b : Bool) (f : State → State) (h : ∀ s, (f s).trace = s.trace) : (s.live b f).trace = s.trace :=
  State.live_keeps State.trace s b f h
@[simp] theorem foldl_doors {α : Type} (f : State → α → State) (l : List α) (s : State) (h : ∀ s a, (f s a).doors = s.doors) :
    (l.foldl f s).doors = s.doors := foldl_keeps State.doors f l s h
@[simp] theorem State.live_doors (s : State) (b : Bool) (f : State → State) (h : ∀ s, (f s).doors = s.doors) : (s.live b f).doors = s.doors :=
  State.live_keeps State.doors s b f h
@[simp] theorem foldl_il {α : Type} (f : State → α → State) (l : List α) (s : State) (h : ∀ s a, (f s a).il = s.il) :
    (l.foldl f s).il = s.il := foldl_keeps State.il f l s h
@[simp] theorem State.live_il (s : State) (b : Bool) (f : State → State) (h : ∀ s, (f s).il = s.il) : (s.live b f).il = s.il :=
  State.live_keeps State.il s b f h
@[simp] theorem foldl_io {α : Type} (f : State → α → State) (l : List α) (s : State) (h : ∀ s a, (f s a).io = s.io) :
    (l.foldl f s).io = s.io := foldl_keeps State.io f l s h
@[simp] theorem State.live_io (s : State) (b : Bool) (f : State → State) (h : ∀ s, (f s).io = s.io) : (s.live b f).io = s.io :=
  State.live_keeps State.io s b f h
@[simp] theorem foldl_can {α : Type} (f : State → α → State) (l : List α) (s : State) (h : ∀ s a, (f s a).can = s.can) :
    (l.foldl f s).can = s.can := foldl_keeps State.can f l s h
@[simp] theorem State.live_can (s : State) (b : Bool) (f : State → State) (h : ∀ s, (f s).can = s.can) : (s.live b f).can = s.can :=
  State.live_keeps State.can s b f h
@[simp] theorem foldl_hinge {α : Type} (f : State → α → State) (l : List α) (s : State) (h : ∀ s a, (f s a).hinge = s.hinge) :
    (l.foldl f s).hinge = s.hinge := foldl_keeps State.hinge f l s h
@[simp] theorem State.live_hinge (s : State) (b : Bool) (f : State → State) (h : ∀ s, (f s).hinge = s.hinge) : (s.live b f).hinge = s.hinge :=
  State.live_keeps State.hinge s b f h
@[simp] theorem foldl_recorder {α : Type} (f : State → α → State) (l : List α) (s : State) (h : ∀ s a, (f s a).recorder = s.recorder) :
    (l.foldl f s).recorder = s.recorder := foldl_keeps State.recorder f l s h
@[simp] theorem State.live_recorder (s : State) (b : Bool) (f : State → State) (h : ∀ s, (f s).recorder = s.recorder) : (s.live b f).recorder = s.recorder :=
  State.live_keeps State.recorder s b f h
@[simp] theorem foldl_mem {α : Type} (f : State → α → State) (l : List α) (s : State) (h : ∀ s a, (f s a).mem = s.mem) :
    (l.foldl f s).mem = s.mem := foldl_keeps State.mem f l s h
@[simp] theorem State.live_mem (s : State) (b : Bool) (f : State → State) (h : ∀ s, (f s).mem = s.mem) : (s.live b f).mem = s.mem :=
  State.live_keeps State.mem s b f h
@[simp] theorem foldl_kw {α : Type} (f : State → α → State) (l : List α) (s : State) (h : ∀ s a, (f s a).kw = s.kw) :
    (l.foldl f s).kw = s.kw := foldl_keeps State.kw f l s h
@[simp] theorem State.live_kw (s : State) (b : Bool) (f : State → State) (h : ∀ s, (f s).kw = s.kw) : (s.live b f).kw = s.kw :=
  State.live_keeps State.kw s b f h
@[simp] theorem foldl_se {α : Type} (f : State → α → State) (l : List α) (s : State) (h : ∀ s a, (f s a).se = s.se) :
    (l.foldl f s).se = s.se := foldl_keeps State.se f l s h
@[simp] theorem State.live_se (s : State) (b : Bool) (f : State → State) (h : ∀ s, (f s).se = s.se) : (s.live b f).se = s.se :=
  State.live_keeps State.se s b f h
@[simp] theorem foldl_fw {α : Type} (f : State → α → State) (l : List α) (s : State) (h : ∀ s a, (f s a).fw = s.fw) :
    (l.foldl f s).fw = s.fw := foldl_keeps State.fw f l s h
@[simp] theorem State.live_fw (s : State) (b : Bool) (f : State → State) (h : ∀ s, (f s).fw = s.fw) : (s.live b f).fw = s.fw :=
  State.live_keeps State.fw s b f h
@[simp] theorem foldl_net {α : Type} (f : State → α → State) (l : List α) (s : State) (h : ∀ s a, (f s a).net = s.net) :
    (l.foldl f s).net = s.net := foldl_keeps State.net f l s h
@[simp] theorem State.live_net (s : State) (b : Bool) (f : State → State) (h : ∀ s, (f s).net = s.net) : (s.live b f).net = s.net :=
  State.live_keeps State.net s b f h
@[simp] theorem foldl_lostNow {α : Type} (f : State → α → State) (l : List α) (s : State) (h : ∀ s a, (f s a).lostNow = s.lostNow) :
    (l.foldl f s).lostNow = s.lostNow := foldl_keeps State.lostNow f l s h
@[simp] theorem State.live_lostNow (s : State) (b : Bool) (f : State → State) (h : ∀ s, (f s).lostNow = s.lostNow) : (s.live b f).lostNow = s.lostNow :=
  State.live_keeps State.lostNow s b f h
@[simp] theorem foldl_shown {α : Type} (f : State → α → State) (l : List α) (s : State) (h : ∀ s a, (f s a).shown = s.shown) :
    (l.foldl f s).shown = s.shown := foldl_keeps State.shown f l s h
@[simp] theorem State.live_shown (s : State) (b : Bool) (f : State → State) (h : ∀ s, (f s).shown = s.shown) : (s.live b f).shown = s.shown :=
  State.live_keeps State.shown s b f h
@[simp] theorem foldl_taken {α : Type} (f : State → α → State) (l : List α) (s : State) (h : ∀ s a, (f s a).taken = s.taken) :
    (l.foldl f s).taken = s.taken := foldl_keeps State.taken f l s h
@[simp] theorem State.live_taken (s : State) (b : Bool) (f : State → State) (h : ∀ s, (f s).taken = s.taken) : (s.live b f).taken = s.taken :=
  State.live_keeps State.taken s b f h
@[simp] theorem foldl_setNow {α : Type} (f : State → α → State) (l : List α) (s : State) (h : ∀ s a, (f s a).setNow = s.setNow) :
    (l.foldl f s).setNow = s.setNow := foldl_keeps State.setNow f l s h
@[simp] theorem State.live_setNow (s : State) (b : Bool) (f : State → State) (h : ∀ s, (f s).setNow = s.setNow) : (s.live b f).setNow = s.setNow :=
  State.live_keeps State.setNow s b f h
@[simp] theorem foldl_free {α : Type} (f : State → α → State) (l : List α) (s : State) (h : ∀ s a, (f s a).free = s.free) :
    (l.foldl f s).free = s.free := foldl_keeps State.free f l s h
@[simp] theorem State.live_free (s : State) (b : Bool) (f : State → State) (h : ∀ s, (f s).free = s.free) : (s.live b f).free = s.free :=
  State.live_keeps State.free s b f h
@[simp] theorem foldl_pending {α : Type} (f : State → α → State) (l : List α) (s : State) (h : ∀ s a, (f s a).pending = s.pending) :
    (l.foldl f s).pending = s.pending := foldl_keeps State.pending f l s h
@[simp] theorem State.live_pending (s : State) (b : Bool) (f : State → State) (h : ∀ s, (f s).pending = s.pending) : (s.live b f).pending = s.pending :=
  State.live_keeps State.pending s b f h
@[simp] theorem foldl_running {α : Type} (f : State → α → State) (l : List α) (s : State) (h : ∀ s a, (f s a).unit.running = s.unit.running) :
    (l.foldl f s).unit.running = s.unit.running := foldl_keeps (fun s => s.unit.running) f l s h
@[simp] theorem State.live_running (s : State) (b : Bool) (f : State → State) (h : ∀ s, (f s).unit.running = s.unit.running) : (s.live b f).unit.running = s.unit.running :=
  State.live_keeps (fun s => s.unit.running) s b f h

end Sys2Proof.Machine
end

