-- ==== Sys2Proof/Laws/State.lean ====
section
/-! SUPPORT. For every operation `X`, `X_frame` names the fields of State that it leaves as they are: the operations that all commands share. -/

namespace Sys2Proof.Machine

@[simp] theorem State.runRec_frame (s : State) (f : RecRun → RecRun) :
    (s.runRec f).1.tick = s.tick ∧ (s.runRec f).1.up = s.up ∧ (s.runRec f).1.unit = s.unit ∧ (s.runRec f).1.panel = s.panel ∧
    (s.runRec f).1.cfg = s.cfg ∧ (s.runRec f).1.ports = s.ports ∧ (s.runRec f).1.axes = s.axes ∧
    (s.runRec f).1.trace = s.trace ∧ (s.runRec f).1.doors = s.doors ∧ (s.runRec f).1.il = s.il ∧ (s.runRec f).1.io = s.io ∧
    (s.runRec f).1.can = s.can ∧ (s.runRec f).1.hinge = s.hinge ∧ (s.runRec f).1.mem = s.mem ∧ (s.runRec f).1.kw = s.kw ∧
    (s.runRec f).1.se = s.se ∧ (s.runRec f).1.fw = s.fw ∧ (s.runRec f).1.net = s.net ∧ (s.runRec f).1.lostNow = s.lostNow ∧
    (s.runRec f).1.shown = s.shown ∧ (s.runRec f).1.setNow = s.setNow ∧ (s.runRec f).1.taken = s.taken ∧ (s.runRec f).1.free = s.free ∧
    (s.runRec f).1.pending = s.pending := by simp [State.runRec]

@[simp] theorem State.queueEvent_frame (s : State) (e : Raised) :
    (s.queueEvent e).tick = s.tick ∧ (s.queueEvent e).up = s.up ∧ (s.queueEvent e).unit = s.unit ∧
    (s.queueEvent e).panel = s.panel ∧ (s.queueEvent e).cfg = s.cfg ∧ (s.queueEvent e).ports = s.ports ∧
    (s.queueEvent e).axes = s.axes ∧ (s.queueEvent e).trace = s.trace ∧ (s.queueEvent e).doors = s.doors ∧
    (s.queueEvent e).il = s.il ∧ (s.queueEvent e).io = s.io ∧ (s.queueEvent e).can = s.can ∧
    (s.queueEvent e).hinge = s.hinge ∧ (s.queueEvent e).recorder = s.recorder ∧ (s.queueEvent e).mem = s.mem ∧
    (s.queueEvent e).se = s.se ∧ (s.queueEvent e).fw = s.fw ∧ (s.queueEvent e).net = s.net ∧
    (s.queueEvent e).lostNow = s.lostNow ∧ (s.queueEvent e).shown = s.shown ∧ (s.queueEvent e).setNow = s.setNow ∧
    (s.queueEvent e).taken = s.taken ∧ (s.queueEvent e).free = s.free ∧ (s.queueEvent e).pending = s.pending := by simp [State.queueEvent]

@[simp] theorem State.traceSee_frame (s : State) (e : Raised) :
    (s.traceSee e).tick = s.tick ∧ (s.traceSee e).up = s.up ∧ (s.traceSee e).unit = s.unit ∧ (s.traceSee e).panel = s.panel ∧
    (s.traceSee e).cfg = s.cfg ∧ (s.traceSee e).ports = s.ports ∧ (s.traceSee e).axes = s.axes ∧
    (s.traceSee e).doors = s.doors ∧ (s.traceSee e).il = s.il ∧ (s.traceSee e).io = s.io ∧ (s.traceSee e).can = s.can ∧
    (s.traceSee e).hinge = s.hinge ∧ (s.traceSee e).recorder = s.recorder ∧ (s.traceSee e).mem = s.mem ∧
    (s.traceSee e).kw = s.kw ∧ (s.traceSee e).se = s.se ∧ (s.traceSee e).fw = s.fw ∧ (s.traceSee e).net = s.net ∧
    (s.traceSee e).lostNow = s.lostNow ∧ (s.traceSee e).shown = s.shown ∧ (s.traceSee e).setNow = s.setNow ∧
    (s.traceSee e).taken = s.taken ∧ (s.traceSee e).free = s.free ∧ (s.traceSee e).pending = s.pending := by unfold State.traceSee; dsimp only; split <;> simp

@[simp] theorem State.noteSet_frame (s : State) (e : Raised) :
    (s.noteSet e).tick = s.tick ∧ (s.noteSet e).up = s.up ∧ (s.noteSet e).unit = s.unit ∧ (s.noteSet e).panel = s.panel ∧
    (s.noteSet e).cfg = s.cfg ∧ (s.noteSet e).ports = s.ports ∧ (s.noteSet e).axes = s.axes ∧ (s.noteSet e).trace = s.trace ∧
    (s.noteSet e).doors = s.doors ∧ (s.noteSet e).il = s.il ∧ (s.noteSet e).io = s.io ∧ (s.noteSet e).can = s.can ∧
    (s.noteSet e).hinge = s.hinge ∧ (s.noteSet e).recorder = s.recorder ∧ (s.noteSet e).mem = s.mem ∧
    (s.noteSet e).kw = s.kw ∧ (s.noteSet e).se = s.se ∧ (s.noteSet e).fw = s.fw ∧ (s.noteSet e).net = s.net ∧
    (s.noteSet e).lostNow = s.lostNow ∧ (s.noteSet e).shown = s.shown ∧ (s.noteSet e).taken = s.taken ∧ (s.noteSet e).free = s.free ∧
    (s.noteSet e).pending = s.pending := by simp [State.noteSet]

@[simp] theorem State.raiseOne_frame (s : State) (e : Raised) :
    (s.raiseOne e).1.tick = s.tick ∧ (s.raiseOne e).1.up = s.up ∧ (s.raiseOne e).1.unit = s.unit ∧
    (s.raiseOne e).1.panel = s.panel ∧ (s.raiseOne e).1.cfg = s.cfg ∧ (s.raiseOne e).1.ports = s.ports ∧
    (s.raiseOne e).1.axes = s.axes ∧ (s.raiseOne e).1.doors = s.doors ∧ (s.raiseOne e).1.il = s.il ∧
    (s.raiseOne e).1.io = s.io ∧ (s.raiseOne e).1.can = s.can ∧ (s.raiseOne e).1.hinge = s.hinge ∧
    (s.raiseOne e).1.mem = s.mem ∧ (s.raiseOne e).1.se = s.se ∧ (s.raiseOne e).1.fw = s.fw ∧ (s.raiseOne e).1.net = s.net ∧
    (s.raiseOne e).1.lostNow = s.lostNow ∧ (s.raiseOne e).1.shown = s.shown ∧ (s.raiseOne e).1.taken = s.taken ∧ (s.raiseOne e).1.free = s.free ∧
    (s.raiseOne e).1.pending = s.pending := by simp [State.raiseOne]

@[simp] theorem State.raiseAll_frame (s : State) (n : Nat) (es : List Raised) :
    (s.raiseAll n es).tick = s.tick ∧ (s.raiseAll n es).up = s.up ∧ (s.raiseAll n es).unit = s.unit ∧
    (s.raiseAll n es).panel = s.panel ∧ (s.raiseAll n es).cfg = s.cfg ∧ (s.raiseAll n es).ports = s.ports ∧
    (s.raiseAll n es).axes = s.axes ∧ (s.raiseAll n es).doors = s.doors ∧ (s.raiseAll n es).il = s.il ∧
    (s.raiseAll n es).io = s.io ∧ (s.raiseAll n es).can = s.can ∧ (s.raiseAll n es).hinge = s.hinge ∧
    (s.raiseAll n es).mem = s.mem ∧ (s.raiseAll n es).se = s.se ∧ (s.raiseAll n es).fw = s.fw ∧
    (s.raiseAll n es).net = s.net ∧ (s.raiseAll n es).lostNow = s.lostNow ∧ (s.raiseAll n es).shown = s.shown ∧
    (s.raiseAll n es).taken = s.taken ∧ (s.raiseAll n es).free = s.free ∧ (s.raiseAll n es).pending = s.pending := by
  induction n generalizing s es with
  | zero => simp [State.raiseAll]
  | succ n ih => unfold State.raiseAll; simp [ih]

@[simp] theorem State.deliver_frame (s : State) (ev : List Raised) :
    (s.deliver ev).tick = s.tick ∧ (s.deliver ev).up = s.up ∧ (s.deliver ev).unit = s.unit ∧ (s.deliver ev).panel = s.panel ∧
    (s.deliver ev).cfg = s.cfg ∧ (s.deliver ev).ports = s.ports ∧ (s.deliver ev).axes = s.axes ∧
    (s.deliver ev).doors = s.doors ∧ (s.deliver ev).il = s.il ∧ (s.deliver ev).io = s.io ∧ (s.deliver ev).can = s.can ∧
    (s.deliver ev).hinge = s.hinge ∧ (s.deliver ev).mem = s.mem ∧ (s.deliver ev).se = s.se ∧ (s.deliver ev).fw = s.fw ∧
    (s.deliver ev).net = s.net ∧ (s.deliver ev).lostNow = s.lostNow ∧ (s.deliver ev).shown = s.shown ∧
    (s.deliver ev).taken = s.taken ∧ (s.deliver ev).free = s.free ∧ (s.deliver ev).pending = s.pending := by simp [State.deliver]

@[simp] theorem State.deliverBut_frame (s : State) (ev : List Raised) :
    (s.deliverBut ev).1.tick = s.tick ∧ (s.deliverBut ev).1.up = s.up ∧ (s.deliverBut ev).1.unit = s.unit ∧
    (s.deliverBut ev).1.panel = s.panel ∧ (s.deliverBut ev).1.cfg = s.cfg ∧ (s.deliverBut ev).1.ports = s.ports ∧
    (s.deliverBut ev).1.axes = s.axes ∧ (s.deliverBut ev).1.doors = s.doors ∧ (s.deliverBut ev).1.il = s.il ∧
    (s.deliverBut ev).1.io = s.io ∧ (s.deliverBut ev).1.can = s.can ∧ (s.deliverBut ev).1.hinge = s.hinge ∧
    (s.deliverBut ev).1.mem = s.mem ∧ (s.deliverBut ev).1.se = s.se ∧ (s.deliverBut ev).1.fw = s.fw ∧
    (s.deliverBut ev).1.net = s.net ∧ (s.deliverBut ev).1.lostNow = s.lostNow ∧ (s.deliverBut ev).1.shown = s.shown ∧
    (s.deliverBut ev).1.taken = s.taken ∧ (s.deliverBut ev).1.free = s.free ∧ (s.deliverBut ev).1.pending = s.pending := by simp [State.deliverBut]

@[simp] theorem State.raise_frame (s : State) (code : Code) (inst : Nat) (detail : Word) :
    (s.raise code inst detail).tick = s.tick ∧ (s.raise code inst detail).up = s.up ∧
    (s.raise code inst detail).unit = s.unit ∧ (s.raise code inst detail).panel = s.panel ∧
    (s.raise code inst detail).cfg = s.cfg ∧ (s.raise code inst detail).ports = s.ports ∧
    (s.raise code inst detail).axes = s.axes ∧ (s.raise code inst detail).doors = s.doors ∧
    (s.raise code inst detail).il = s.il ∧ (s.raise code inst detail).io = s.io ∧ (s.raise code inst detail).can = s.can ∧
    (s.raise code inst detail).hinge = s.hinge ∧ (s.raise code inst detail).mem = s.mem ∧
    (s.raise code inst detail).se = s.se ∧ (s.raise code inst detail).fw = s.fw ∧ (s.raise code inst detail).net = s.net ∧
    (s.raise code inst detail).lostNow = s.lostNow ∧ (s.raise code inst detail).shown = s.shown ∧
    (s.raise code inst detail).taken = s.taken ∧ (s.raise code inst detail).free = s.free ∧ (s.raise code inst detail).pending = s.pending := by simp [State.raise]

@[simp] theorem State.onRec_frame (s : State) (f : RecRun → RecIn → RecRun) :
    (s.onRec f).tick = s.tick ∧ (s.onRec f).up = s.up ∧ (s.onRec f).unit = s.unit ∧ (s.onRec f).panel = s.panel ∧
    (s.onRec f).cfg = s.cfg ∧ (s.onRec f).ports = s.ports ∧ (s.onRec f).axes = s.axes ∧ (s.onRec f).doors = s.doors ∧
    (s.onRec f).il = s.il ∧ (s.onRec f).io = s.io ∧ (s.onRec f).can = s.can ∧ (s.onRec f).hinge = s.hinge ∧
    (s.onRec f).mem = s.mem ∧ (s.onRec f).se = s.se ∧ (s.onRec f).fw = s.fw ∧ (s.onRec f).net = s.net ∧
    (s.onRec f).lostNow = s.lostNow ∧ (s.onRec f).shown = s.shown ∧ (s.onRec f).taken = s.taken ∧ (s.onRec f).free = s.free ∧
    (s.onRec f).pending = s.pending := by simp [State.onRec]

@[simp] theorem State.security_frame (s : State) (code : Code) (detail : Nat) (data : List Byte) :
    (s.security code detail data).tick = s.tick ∧ (s.security code detail data).up = s.up ∧
    (s.security code detail data).unit = s.unit ∧ (s.security code detail data).panel = s.panel ∧
    (s.security code detail data).cfg = s.cfg ∧ (s.security code detail data).ports = s.ports ∧
    (s.security code detail data).axes = s.axes ∧ (s.security code detail data).doors = s.doors ∧
    (s.security code detail data).il = s.il ∧ (s.security code detail data).io = s.io ∧
    (s.security code detail data).can = s.can ∧ (s.security code detail data).hinge = s.hinge ∧
    (s.security code detail data).mem = s.mem ∧ (s.security code detail data).se = s.se ∧
    (s.security code detail data).fw = s.fw ∧ (s.security code detail data).net = s.net ∧
    (s.security code detail data).lostNow = s.lostNow ∧ (s.security code detail data).shown = s.shown ∧
    (s.security code detail data).taken = s.taken ∧ (s.security code detail data).free = s.free ∧ (s.security code detail data).pending = s.pending := by simp [State.security]

@[simp] theorem State.kwEvent_frame (s : State) (k : Nat) (code : Code) (detail : Word) (data : List Byte) :
    (s.kwEvent k code detail data).tick = s.tick ∧ (s.kwEvent k code detail data).up = s.up ∧
    (s.kwEvent k code detail data).unit = s.unit ∧ (s.kwEvent k code detail data).panel = s.panel ∧
    (s.kwEvent k code detail data).cfg = s.cfg ∧ (s.kwEvent k code detail data).ports = s.ports ∧
    (s.kwEvent k code detail data).axes = s.axes ∧ (s.kwEvent k code detail data).doors = s.doors ∧
    (s.kwEvent k code detail data).il = s.il ∧ (s.kwEvent k code detail data).io = s.io ∧
    (s.kwEvent k code detail data).can = s.can ∧ (s.kwEvent k code detail data).hinge = s.hinge ∧
    (s.kwEvent k code detail data).mem = s.mem ∧ (s.kwEvent k code detail data).se = s.se ∧
    (s.kwEvent k code detail data).fw = s.fw ∧ (s.kwEvent k code detail data).net = s.net ∧
    (s.kwEvent k code detail data).lostNow = s.lostNow ∧ (s.kwEvent k code detail data).shown = s.shown ∧
    (s.kwEvent k code detail data).taken = s.taken ∧ (s.kwEvent k code detail data).free = s.free ∧ (s.kwEvent k code detail data).pending = s.pending := by simp [State.kwEvent]

@[simp] theorem State.atTick_frame (s : State) :
    s.atTick.tick = s.tick ∧ s.atTick.up = s.up ∧ s.atTick.trace = s.trace ∧ s.atTick.se = s.se ∧ s.atTick.fw = s.fw ∧
    s.atTick.lostNow = s.lostNow ∧ s.atTick.shown = s.shown ∧ s.atTick.setNow = s.setNow ∧ s.atTick.taken = s.taken ∧ s.atTick.free = s.free ∧
    s.atTick.pending = s.pending := by simp [State.atTick]

@[simp] theorem State.keepTick_frame (s : State) :
    s.keepTick.tick = s.tick ∧ s.keepTick.up = s.up ∧ s.keepTick.unit = s.unit ∧ s.keepTick.panel = s.panel ∧
    s.keepTick.cfg = s.cfg ∧ s.keepTick.ports = s.ports ∧ s.keepTick.axes = s.axes ∧ s.keepTick.trace = s.trace ∧
    s.keepTick.doors = s.doors ∧ s.keepTick.il = s.il ∧ s.keepTick.io = s.io ∧ s.keepTick.can = s.can ∧
    s.keepTick.hinge = s.hinge ∧ s.keepTick.recorder = s.recorder ∧ s.keepTick.mem = s.mem ∧ s.keepTick.kw = s.kw ∧
    s.keepTick.se = s.se ∧ s.keepTick.fw = s.fw ∧ s.keepTick.net = s.net ∧ s.keepTick.lostNow = s.lostNow ∧
    s.keepTick.free = s.free ∧ s.keepTick.pending = s.pending := by simp [State.keepTick]

@[simp] theorem State.draw_frame (s : State) :
    s.draw.2.tick = s.tick ∧ s.draw.2.up = s.up ∧ s.draw.2.unit = s.unit ∧ s.draw.2.panel = s.panel ∧ s.draw.2.cfg = s.cfg ∧
    s.draw.2.ports = s.ports ∧ s.draw.2.axes = s.axes ∧ s.draw.2.trace = s.trace ∧ s.draw.2.doors = s.doors ∧
    s.draw.2.il = s.il ∧ s.draw.2.io = s.io ∧ s.draw.2.can = s.can ∧ s.draw.2.hinge = s.hinge ∧
    s.draw.2.recorder = s.recorder ∧ s.draw.2.mem = s.mem ∧ s.draw.2.kw = s.kw ∧ s.draw.2.se = s.se ∧ s.draw.2.fw = s.fw ∧
    s.draw.2.net = s.net ∧ s.draw.2.lostNow = s.lostNow ∧ s.draw.2.shown = s.shown ∧ s.draw.2.setNow = s.setNow ∧ s.draw.2.taken = s.taken ∧
    s.draw.2.pending = s.pending := by simp [State.draw]
@[simp] theorem State.clearBoth_fields (s : State) (f g : State → State) :
    (s.clearBoth f g).tick = (f s).tick ∧ (s.clearBoth f g).up = (f s).up ∧ (s.clearBoth f g).unit = (f s).unit ∧
    (s.clearBoth f g).panel = (f s).panel ∧ (s.clearBoth f g).cfg = (f s).cfg ∧ (s.clearBoth f g).ports = (f s).ports ∧
    (s.clearBoth f g).axes = (f s).axes ∧ (s.clearBoth f g).trace = (f s).trace ∧ (s.clearBoth f g).doors = (f s).doors ∧
    (s.clearBoth f g).il = (f s).il ∧ (s.clearBoth f g).io = (f s).io ∧ (s.clearBoth f g).can = (f s).can ∧
    (s.clearBoth f g).hinge = (f s).hinge ∧ (s.clearBoth f g).recorder = (f s).recorder ∧ (s.clearBoth f g).mem = (f s).mem ∧
    (s.clearBoth f g).kw = (f s).kw ∧ (s.clearBoth f g).se = (f s).se ∧ (s.clearBoth f g).fw = (f s).fw ∧
    (s.clearBoth f g).net = (f s).net ∧ (s.clearBoth f g).lostNow = (f s).lostNow ∧ (s.clearBoth f g).setNow = (f s).setNow ∧
    (s.clearBoth f g).taken = (f s).taken ∧ (s.clearBoth f g).free = (f s).free ∧ (s.clearBoth f g).pending = (f s).pending := by simp [State.clearBoth]

@[simp] theorem State.enter_frame (s : State) (st : UnitState) (t : Tick) :
    (s.enter st t).tick = s.tick ∧ (s.enter st t).up = s.up ∧ (s.enter st t).panel = s.panel ∧ (s.enter st t).cfg = s.cfg ∧
    (s.enter st t).ports = s.ports ∧ (s.enter st t).axes = s.axes ∧ (s.enter st t).trace = s.trace ∧
    (s.enter st t).doors = s.doors ∧ (s.enter st t).il = s.il ∧ (s.enter st t).io = s.io ∧ (s.enter st t).can = s.can ∧
    (s.enter st t).hinge = s.hinge ∧ (s.enter st t).recorder = s.recorder ∧ (s.enter st t).mem = s.mem ∧
    (s.enter st t).kw = s.kw ∧ (s.enter st t).se = s.se ∧ (s.enter st t).fw = s.fw ∧ (s.enter st t).net = s.net ∧
    (s.enter st t).lostNow = s.lostNow ∧ (s.enter st t).shown = s.shown ∧ (s.enter st t).setNow = s.setNow ∧
    (s.enter st t).taken = s.taken ∧ (s.enter st t).free = s.free ∧ (s.enter st t).pending = s.pending ∧ (s.enter st t).unit.running = s.unit.running := by simp [State.enter]

@[simp] theorem State.onPort_frame (s : State) (k : PortId) (f : LinkRun → LinkIn → LinkRun) :
    (s.onPort k f).tick = s.tick ∧ (s.onPort k f).up = s.up ∧ (s.onPort k f).unit = s.unit ∧ (s.onPort k f).panel = s.panel ∧
    (s.onPort k f).cfg = s.cfg ∧ (s.onPort k f).doors = s.doors ∧ (s.onPort k f).il = s.il ∧ (s.onPort k f).io = s.io ∧
    (s.onPort k f).can = s.can ∧ (s.onPort k f).hinge = s.hinge ∧ (s.onPort k f).mem = s.mem ∧ (s.onPort k f).se = s.se ∧
    (s.onPort k f).fw = s.fw ∧ (s.onPort k f).net = s.net ∧ (s.onPort k f).shown = s.shown ∧ (s.onPort k f).taken = s.taken ∧ (s.onPort k f).free = s.free ∧
    (s.onPort k f).pending = s.pending := by simp [State.onPort]

@[simp] theorem State.onHinge_frame (s : State) (f : HingeRun → HingeIn → HingeRun) :
    (s.onHinge f).tick = s.tick ∧ (s.onHinge f).up = s.up ∧ (s.onHinge f).unit = s.unit ∧ (s.onHinge f).panel = s.panel ∧
    (s.onHinge f).cfg = s.cfg ∧ (s.onHinge f).ports = s.ports ∧ (s.onHinge f).axes = s.axes ∧ (s.onHinge f).doors = s.doors ∧
    (s.onHinge f).il = s.il ∧ (s.onHinge f).io = s.io ∧ (s.onHinge f).can = s.can ∧ (s.onHinge f).mem = s.mem ∧
    (s.onHinge f).se = s.se ∧ (s.onHinge f).fw = s.fw ∧ (s.onHinge f).net = s.net ∧ (s.onHinge f).lostNow = s.lostNow ∧
    (s.onHinge f).shown = s.shown ∧ (s.onHinge f).taken = s.taken ∧ (s.onHinge f).free = s.free ∧ (s.onHinge f).pending = s.pending := by simp [State.onHinge]

@[simp] theorem State.onIo_frame (s : State) (f : IoRun → IoRun) :
    (s.onIo f).tick = s.tick ∧ (s.onIo f).up = s.up ∧ (s.onIo f).unit = s.unit ∧ (s.onIo f).panel = s.panel ∧
    (s.onIo f).cfg = s.cfg ∧ (s.onIo f).ports = s.ports ∧ (s.onIo f).axes = s.axes ∧ (s.onIo f).doors = s.doors ∧
    (s.onIo f).il = s.il ∧ (s.onIo f).can = s.can ∧ (s.onIo f).hinge = s.hinge ∧ (s.onIo f).mem = s.mem ∧
    (s.onIo f).se = s.se ∧ (s.onIo f).fw = s.fw ∧ (s.onIo f).net = s.net ∧ (s.onIo f).lostNow = s.lostNow ∧
    (s.onIo f).shown = s.shown ∧ (s.onIo f).taken = s.taken ∧ (s.onIo f).free = s.free ∧ (s.onIo f).pending = s.pending := by simp [State.onIo]

@[simp] theorem State.onLock_frame (s : State) (f : LockRun → LockRun) :
    (s.onLock f).tick = s.tick ∧ (s.onLock f).up = s.up ∧ (s.onLock f).unit = s.unit ∧ (s.onLock f).panel = s.panel ∧
    (s.onLock f).cfg = s.cfg ∧ (s.onLock f).ports = s.ports ∧ (s.onLock f).axes = s.axes ∧ (s.onLock f).doors = s.doors ∧
    (s.onLock f).io = s.io ∧ (s.onLock f).can = s.can ∧ (s.onLock f).hinge = s.hinge ∧ (s.onLock f).mem = s.mem ∧
    (s.onLock f).se = s.se ∧ (s.onLock f).fw = s.fw ∧ (s.onLock f).net = s.net ∧ (s.onLock f).lostNow = s.lostNow ∧
    (s.onLock f).shown = s.shown ∧ (s.onLock f).taken = s.taken ∧ (s.onLock f).free = s.free ∧ (s.onLock f).pending = s.pending := by simp [State.onLock]

@[simp] theorem State.onCan_frame (s : State) (b : BusId) (f : CanRun → CanRun) :
    (s.onCan b f).tick = s.tick ∧ (s.onCan b f).up = s.up ∧ (s.onCan b f).unit = s.unit ∧ (s.onCan b f).panel = s.panel ∧
    (s.onCan b f).cfg = s.cfg ∧ (s.onCan b f).ports = s.ports ∧ (s.onCan b f).axes = s.axes ∧ (s.onCan b f).doors = s.doors ∧
    (s.onCan b f).il = s.il ∧ (s.onCan b f).io = s.io ∧ (s.onCan b f).hinge = s.hinge ∧ (s.onCan b f).mem = s.mem ∧
    (s.onCan b f).se = s.se ∧ (s.onCan b f).fw = s.fw ∧ (s.onCan b f).net = s.net ∧ (s.onCan b f).lostNow = s.lostNow ∧
    (s.onCan b f).shown = s.shown ∧ (s.onCan b f).taken = s.taken ∧ (s.onCan b f).free = s.free ∧ (s.onCan b f).pending = s.pending := by simp [State.onCan]

@[simp] theorem State.onMem_frame (s : State) (f : MemRun → MemRun) :
    (s.onMem f).tick = s.tick ∧ (s.onMem f).up = s.up ∧ (s.onMem f).unit = s.unit ∧ (s.onMem f).panel = s.panel ∧
    (s.onMem f).cfg = s.cfg ∧ (s.onMem f).ports = s.ports ∧ (s.onMem f).axes = s.axes ∧ (s.onMem f).doors = s.doors ∧
    (s.onMem f).il = s.il ∧ (s.onMem f).io = s.io ∧ (s.onMem f).can = s.can ∧ (s.onMem f).hinge = s.hinge ∧
    (s.onMem f).se = s.se ∧ (s.onMem f).fw = s.fw ∧ (s.onMem f).net = s.net ∧ (s.onMem f).lostNow = s.lostNow ∧
    (s.onMem f).shown = s.shown ∧ (s.onMem f).taken = s.taken ∧ (s.onMem f).free = s.free ∧ (s.onMem f).pending = s.pending := by simp [State.onMem]

@[simp] theorem State.parityError_frame (s : State) (src : Nat) :
    (s.parityError src).tick = s.tick ∧ (s.parityError src).up = s.up ∧ (s.parityError src).unit = s.unit ∧
    (s.parityError src).panel = s.panel ∧ (s.parityError src).cfg = s.cfg ∧ (s.parityError src).ports = s.ports ∧
    (s.parityError src).axes = s.axes ∧ (s.parityError src).doors = s.doors ∧ (s.parityError src).il = s.il ∧
    (s.parityError src).io = s.io ∧ (s.parityError src).can = s.can ∧ (s.parityError src).hinge = s.hinge ∧
    (s.parityError src).se = s.se ∧ (s.parityError src).fw = s.fw ∧ (s.parityError src).net = s.net ∧
    (s.parityError src).lostNow = s.lostNow ∧ (s.parityError src).shown = s.shown ∧ (s.parityError src).taken = s.taken ∧ (s.parityError src).free = s.free ∧
    (s.parityError src).pending = s.pending := by simp [State.parityError]

@[simp] theorem State.parityError_wf (s : State) (src : Nat) (h : memWf s.mem.scratch = true) :
    memWf (s.parityError src).mem.scratch = true := by simp [State.parityError, State.onMem, MemRun.bufParity, MemRun.event, MemRun.upd, h]

@[simp] theorem State.onAxis_frame (s : State) (a : AxisId) (f : AxRun → AxIn → AxRun) :
    (s.onAxis a f).tick = s.tick ∧ (s.onAxis a f).up = s.up ∧ (s.onAxis a f).unit = s.unit ∧ (s.onAxis a f).panel = s.panel ∧
    (s.onAxis a f).cfg = s.cfg ∧ (s.onAxis a f).ports = s.ports ∧ (s.onAxis a f).doors = s.doors ∧ (s.onAxis a f).il = s.il ∧
    (s.onAxis a f).io = s.io ∧ (s.onAxis a f).can = s.can ∧ (s.onAxis a f).hinge = s.hinge ∧ (s.onAxis a f).mem = s.mem ∧
    (s.onAxis a f).se = s.se ∧ (s.onAxis a f).fw = s.fw ∧ (s.onAxis a f).net = s.net ∧ (s.onAxis a f).lostNow = s.lostNow ∧
    (s.onAxis a f).shown = s.shown ∧ (s.onAxis a f).taken = s.taken ∧ (s.onAxis a f).free = s.free ∧ (s.onAxis a f).pending = s.pending := by simp [State.onAxis]

@[simp] theorem State.runDoor_frame (s : State) (d : DoorId) (i : DoorIn) (f : DoorRun → DoorIn → DoorRun) :
    (s.runDoor d i f).tick = s.tick ∧ (s.runDoor d i f).up = s.up ∧ (s.runDoor d i f).unit = s.unit ∧
    (s.runDoor d i f).panel = s.panel ∧ (s.runDoor d i f).cfg = s.cfg ∧ (s.runDoor d i f).ports = s.ports ∧
    (s.runDoor d i f).il = s.il ∧ (s.runDoor d i f).io = s.io ∧ (s.runDoor d i f).can = s.can ∧
    (s.runDoor d i f).hinge = s.hinge ∧ (s.runDoor d i f).mem = s.mem ∧ (s.runDoor d i f).se = s.se ∧
    (s.runDoor d i f).fw = s.fw ∧ (s.runDoor d i f).net = s.net ∧ (s.runDoor d i f).lostNow = s.lostNow ∧
    (s.runDoor d i f).shown = s.shown ∧ (s.runDoor d i f).taken = s.taken ∧ (s.runDoor d i f).free = s.free ∧ (s.runDoor d i f).pending = s.pending := by simp [State.runDoor]

@[simp] theorem State.onDoor_frame (s : State) (d : DoorId) (f : DoorRun → DoorIn → DoorRun) :
    (s.onDoor d f).tick = s.tick ∧ (s.onDoor d f).up = s.up ∧ (s.onDoor d f).unit = s.unit ∧ (s.onDoor d f).panel = s.panel ∧
    (s.onDoor d f).cfg = s.cfg ∧ (s.onDoor d f).ports = s.ports ∧ (s.onDoor d f).il = s.il ∧ (s.onDoor d f).io = s.io ∧
    (s.onDoor d f).can = s.can ∧ (s.onDoor d f).hinge = s.hinge ∧ (s.onDoor d f).mem = s.mem ∧ (s.onDoor d f).se = s.se ∧
    (s.onDoor d f).fw = s.fw ∧ (s.onDoor d f).net = s.net ∧ (s.onDoor d f).lostNow = s.lostNow ∧
    (s.onDoor d f).shown = s.shown ∧ (s.onDoor d f).taken = s.taken ∧ (s.onDoor d f).free = s.free ∧ (s.onDoor d f).pending = s.pending := by unfold State.onDoor; split <;> simp

@[simp] theorem State.onDoorCmd_frame (s : State) (d : DoorId) (f : DoorRun → DoorIn → DoorRun) :
    (s.onDoorCmd d f).tick = s.tick ∧ (s.onDoorCmd d f).up = s.up ∧ (s.onDoorCmd d f).unit = s.unit ∧
    (s.onDoorCmd d f).panel = s.panel ∧ (s.onDoorCmd d f).cfg = s.cfg ∧ (s.onDoorCmd d f).ports = s.ports ∧
    (s.onDoorCmd d f).il = s.il ∧ (s.onDoorCmd d f).io = s.io ∧ (s.onDoorCmd d f).can = s.can ∧
    (s.onDoorCmd d f).hinge = s.hinge ∧ (s.onDoorCmd d f).mem = s.mem ∧ (s.onDoorCmd d f).se = s.se ∧
    (s.onDoorCmd d f).fw = s.fw ∧ (s.onDoorCmd d f).net = s.net ∧ (s.onDoorCmd d f).lostNow = s.lostNow ∧
    (s.onDoorCmd d f).shown = s.shown ∧ (s.onDoorCmd d f).taken = s.taken ∧ (s.onDoorCmd d f).free = s.free ∧ (s.onDoorCmd d f).pending = s.pending := by unfold State.onDoorCmd; split <;> simp

@[simp] theorem State.onDoors_frame (s : State) (p : DoorId → Bool) (f : DoorRun → DoorIn → DoorRun) :
    (s.onDoors p f).tick = s.tick ∧ (s.onDoors p f).up = s.up ∧ (s.onDoors p f).unit = s.unit ∧
    (s.onDoors p f).panel = s.panel ∧ (s.onDoors p f).cfg = s.cfg ∧ (s.onDoors p f).ports = s.ports ∧
    (s.onDoors p f).il = s.il ∧ (s.onDoors p f).io = s.io ∧ (s.onDoors p f).can = s.can ∧ (s.onDoors p f).hinge = s.hinge ∧
    (s.onDoors p f).mem = s.mem ∧ (s.onDoors p f).se = s.se ∧ (s.onDoors p f).fw = s.fw ∧ (s.onDoors p f).net = s.net ∧
    (s.onDoors p f).lostNow = s.lostNow ∧ (s.onDoors p f).shown = s.shown ∧ (s.onDoors p f).taken = s.taken ∧ (s.onDoors p f).free = s.free ∧
    (s.onDoors p f).pending = s.pending := by
  unfold State.onDoors
  simp [apply_ite]

@[simp] theorem State.doorsLose_frame (s : State) (k : PortId) :
    (s.doorsLose k).tick = s.tick ∧ (s.doorsLose k).up = s.up ∧ (s.doorsLose k).unit = s.unit ∧
    (s.doorsLose k).panel = s.panel ∧ (s.doorsLose k).cfg = s.cfg ∧ (s.doorsLose k).ports = s.ports ∧
    (s.doorsLose k).il = s.il ∧ (s.doorsLose k).io = s.io ∧ (s.doorsLose k).can = s.can ∧ (s.doorsLose k).hinge = s.hinge ∧
    (s.doorsLose k).mem = s.mem ∧ (s.doorsLose k).se = s.se ∧ (s.doorsLose k).fw = s.fw ∧ (s.doorsLose k).net = s.net ∧
    (s.doorsLose k).lostNow = s.lostNow ∧ (s.doorsLose k).shown = s.shown ∧ (s.doorsLose k).taken = s.taken ∧ (s.doorsLose k).free = s.free ∧
    (s.doorsLose k).pending = s.pending := by simp [State.doorsLose]

@[simp] theorem State.portEvent_frame (s : State) (k : PortId) (f : LinkRun → LinkIn → LinkRun) :
    (s.portEvent k f).tick = s.tick ∧ (s.portEvent k f).up = s.up ∧ (s.portEvent k f).unit = s.unit ∧
    (s.portEvent k f).panel = s.panel ∧ (s.portEvent k f).cfg = s.cfg ∧ (s.portEvent k f).il = s.il ∧
    (s.portEvent k f).io = s.io ∧ (s.portEvent k f).can = s.can ∧ (s.portEvent k f).hinge = s.hinge ∧
    (s.portEvent k f).mem = s.mem ∧ (s.portEvent k f).se = s.se ∧ (s.portEvent k f).fw = s.fw ∧
    (s.portEvent k f).net = s.net ∧ (s.portEvent k f).shown = s.shown ∧ (s.portEvent k f).taken = s.taken ∧ (s.portEvent k f).free = s.free ∧
    (s.portEvent k f).pending = s.pending := by unfold State.portEvent; dsimp only; split <;> simp

@[simp] theorem State.holdAll_frame (s : State) :
    s.holdAll.tick = s.tick ∧ s.holdAll.up = s.up ∧ s.holdAll.unit = s.unit ∧ s.holdAll.panel = s.panel ∧
    s.holdAll.cfg = s.cfg ∧ s.holdAll.ports = s.ports ∧ s.holdAll.trace = s.trace ∧ s.holdAll.doors = s.doors ∧
    s.holdAll.il = s.il ∧ s.holdAll.io = s.io ∧ s.holdAll.can = s.can ∧ s.holdAll.recorder = s.recorder ∧
    s.holdAll.mem = s.mem ∧ s.holdAll.kw = s.kw ∧ s.holdAll.se = s.se ∧ s.holdAll.fw = s.fw ∧ s.holdAll.net = s.net ∧
    s.holdAll.lostNow = s.lostNow ∧ s.holdAll.shown = s.shown ∧ s.holdAll.setNow = s.setNow ∧ s.holdAll.taken = s.taken ∧ s.holdAll.free = s.free ∧
    s.holdAll.pending = s.pending := by simp [State.holdAll]

@[simp] theorem State.abortHomings_frame (s : State) :
    s.abortHomings.tick = s.tick ∧ s.abortHomings.up = s.up ∧ s.abortHomings.unit = s.unit ∧ s.abortHomings.panel = s.panel ∧
    s.abortHomings.cfg = s.cfg ∧ s.abortHomings.ports = s.ports ∧ s.abortHomings.doors = s.doors ∧ s.abortHomings.il = s.il ∧
    s.abortHomings.io = s.io ∧ s.abortHomings.can = s.can ∧ s.abortHomings.hinge = s.hinge ∧ s.abortHomings.mem = s.mem ∧
    s.abortHomings.se = s.se ∧ s.abortHomings.fw = s.fw ∧ s.abortHomings.net = s.net ∧ s.abortHomings.lostNow = s.lostNow ∧
    s.abortHomings.shown = s.shown ∧ s.abortHomings.taken = s.taken ∧ s.abortHomings.free = s.free ∧
    s.abortHomings.pending = s.pending := by
  unfold State.abortHomings
  simp [apply_ite]

@[simp] theorem State.faultHeld_frame (s : State) (code : Code) (trap : Bool) :
    (s.faultHeld code trap).tick = s.tick ∧ (s.faultHeld code trap).up = s.up ∧ (s.faultHeld code trap).panel = s.panel ∧
    (s.faultHeld code trap).cfg = s.cfg ∧ (s.faultHeld code trap).ports = s.ports ∧
    (s.faultHeld code trap).il = s.il ∧ (s.faultHeld code trap).io = s.io ∧
    (s.faultHeld code trap).can = s.can ∧ (s.faultHeld code trap).mem = s.mem ∧
    (s.faultHeld code trap).se = s.se ∧ (s.faultHeld code trap).fw = s.fw ∧ (s.faultHeld code trap).net = s.net ∧
    (s.faultHeld code trap).lostNow = s.lostNow ∧ (s.faultHeld code trap).shown = s.shown ∧
    (s.faultHeld code trap).taken = s.taken ∧ (s.faultHeld code trap).free = s.free ∧
    (s.faultHeld code trap).pending = s.pending ∧ (s.faultHeld code trap).unit.running = s.unit.running := by simp [State.faultHeld]

@[simp] theorem State.raiseHold_frame (s : State) (code : Code) (late : Bool) :
    (s.raiseHold code late).tick = s.tick ∧ (s.raiseHold code late).up = s.up ∧ (s.raiseHold code late).unit = s.unit ∧
    (s.raiseHold code late).panel = s.panel ∧ (s.raiseHold code late).cfg = s.cfg ∧ (s.raiseHold code late).ports = s.ports ∧
    (s.raiseHold code late).axes = s.axes ∧ (s.raiseHold code late).doors = s.doors ∧ (s.raiseHold code late).il = s.il ∧
    (s.raiseHold code late).io = s.io ∧ (s.raiseHold code late).can = s.can ∧ (s.raiseHold code late).hinge = s.hinge ∧
    (s.raiseHold code late).mem = s.mem ∧ (s.raiseHold code late).se = s.se ∧ (s.raiseHold code late).fw = s.fw ∧
    (s.raiseHold code late).net = s.net ∧ (s.raiseHold code late).lostNow = s.lostNow ∧
    (s.raiseHold code late).shown = s.shown ∧ (s.raiseHold code late).taken = s.taken ∧ (s.raiseHold code late).free = s.free ∧
    (s.raiseHold code late).pending = s.pending := by unfold State.raiseHold; split <;> simp

@[simp] theorem State.holdCause_frame (s : State) (code : Code) (late trap : Bool) :
    (s.holdCause code late trap).tick = s.tick ∧ (s.holdCause code late trap).up = s.up ∧
    (s.holdCause code late trap).panel = s.panel ∧ (s.holdCause code late trap).cfg = s.cfg ∧
    (s.holdCause code late trap).ports = s.ports ∧
    (s.holdCause code late trap).il = s.il ∧ (s.holdCause code late trap).io = s.io ∧
    (s.holdCause code late trap).can = s.can ∧ (s.holdCause code late trap).mem = s.mem ∧
    (s.holdCause code late trap).se = s.se ∧ (s.holdCause code late trap).fw = s.fw ∧
    (s.holdCause code late trap).net = s.net ∧ (s.holdCause code late trap).lostNow = s.lostNow ∧
    (s.holdCause code late trap).shown = s.shown ∧ (s.holdCause code late trap).taken = s.taken ∧ (s.holdCause code late trap).free = s.free ∧
    (s.holdCause code late trap).pending = s.pending ∧ (s.holdCause code late trap).unit.running = s.unit.running := by unfold State.holdCause; split <;> simp

/-! What an operation of a unit makes of that unit: delivering the codes that it raises does not come back to it. -/

@[simp] theorem State.onPort_ports (s : State) (k : PortId) (f : LinkRun → LinkIn → LinkRun) :
    (s.onPort k f).ports = s.ports.set k (f ⟨s.ports[k], []⟩ (s.linkIn k)).p := by simp [State.onPort]
@[simp] theorem State.portEvent_ports (s : State) (k : PortId) (f : LinkRun → LinkIn → LinkRun) :
    (s.portEvent k f).ports = s.ports.set k (f ⟨s.ports[k], []⟩ (s.linkIn k)).p := by
  unfold State.portEvent
  dsimp only
  split <;> simp
theorem State.onHinge_hinge (s : State) (f : HingeRun → HingeIn → HingeRun) :
    (s.onHinge f).hinge = { (f ⟨s.hinge, [], none⟩ s.hingeIn).h with
      nextTick := (f ⟨s.hinge, [], none⟩ s.hingeIn).retick.orElse fun _ => (f ⟨s.hinge, [], none⟩ s.hingeIn).h.nextTick } := by
  simp [State.onHinge]
@[simp] theorem State.onIo_io (s : State) (f : IoRun → IoRun) : (s.onIo f).io = (f ⟨s.io, []⟩).io := by simp [State.onIo]
@[simp] theorem State.onLock_il (s : State) (f : LockRun → LockRun) : (s.onLock f).il = (f ⟨s.il, []⟩).il := by simp [State.onLock]
@[simp] theorem State.onCan_can (s : State) (b : BusId) (f : CanRun → CanRun) :
    (s.onCan b f).can = s.can.set b (f ⟨s.can[b], []⟩).can := by simp [State.onCan]
@[simp] theorem State.onMem_mem (s : State) (f : MemRun → MemRun) : (s.onMem f).mem = (f ⟨s.mem, []⟩).m := by simp [State.onMem]
@[simp] theorem State.onAxis_axes (s : State) (a : AxisId) (f : AxRun → AxIn → AxRun) :
    (s.onAxis a f).axes = s.axes.set a (f ⟨s.axes[a], []⟩ (s.axIn a)).ax := by simp [State.onAxis]
@[simp] theorem State.runDoor_doors (s : State) (d : DoorId) (i : DoorIn) (f : DoorRun → DoorIn → DoorRun) :
    (s.runDoor d i f).doors = s.doors.set d (f ⟨s.doors[d], s.axes, []⟩ i).door := by simp [State.runDoor]
@[simp] theorem State.runDoor_axes (s : State) (d : DoorId) (i : DoorIn) (f : DoorRun → DoorIn → DoorRun) :
    (s.runDoor d i f).axes = (f ⟨s.doors[d], s.axes, []⟩ i).axes := by simp [State.runDoor]

end Sys2Proof.Machine
end

