-- ==== Sys2Proof/Laws/Registers.lean ====
section
/-! SUPPORT. What a register's action, W1C write or clearing read can reach at most. For every operation `X`, `X_frame` names the fields of State that it leaves as they are. -/

namespace Sys2Proof.Machine

@[simp] theorem State.dropShadows_frame (s : State) (b : Block) :
    (s.dropShadows b).tick = s.tick ∧ (s.dropShadows b).up = s.up ∧ (s.dropShadows b).unit = s.unit ∧
    (s.dropShadows b).panel = s.panel ∧ (s.dropShadows b).ports = s.ports ∧ (s.dropShadows b).axes = s.axes ∧
    (s.dropShadows b).trace = s.trace ∧ (s.dropShadows b).doors = s.doors ∧ (s.dropShadows b).il = s.il ∧
    (s.dropShadows b).io = s.io ∧ (s.dropShadows b).can = s.can ∧ (s.dropShadows b).hinge = s.hinge ∧
    (s.dropShadows b).recorder = s.recorder ∧ (s.dropShadows b).mem = s.mem ∧ (s.dropShadows b).kw = s.kw ∧
    (s.dropShadows b).se = s.se ∧ (s.dropShadows b).fw = s.fw ∧ (s.dropShadows b).net = s.net ∧
    (s.dropShadows b).lostNow = s.lostNow ∧ (s.dropShadows b).shown = s.shown ∧ (s.dropShadows b).setNow = s.setNow ∧
    (s.dropShadows b).taken = s.taken ∧ (s.dropShadows b).free = s.free ∧ (s.dropShadows b).pending = s.pending := by simp [State.dropShadows]

@[simp] theorem State.claimLost_frame (s : State) (i : SessId) (b : Block) :
    (s.claimLost i b).tick = s.tick ∧ (s.claimLost i b).up = s.up ∧ (s.claimLost i b).unit = s.unit ∧
    (s.claimLost i b).panel = s.panel ∧ (s.claimLost i b).cfg = s.cfg ∧ (s.claimLost i b).ports = s.ports ∧
    (s.claimLost i b).axes = s.axes ∧ (s.claimLost i b).doors = s.doors ∧ (s.claimLost i b).il = s.il ∧
    (s.claimLost i b).io = s.io ∧ (s.claimLost i b).can = s.can ∧ (s.claimLost i b).hinge = s.hinge ∧
    (s.claimLost i b).mem = s.mem ∧ (s.claimLost i b).se = s.se ∧ (s.claimLost i b).fw = s.fw ∧
    (s.claimLost i b).net = s.net ∧ (s.claimLost i b).lostNow = s.lostNow ∧ (s.claimLost i b).shown = s.shown ∧
    (s.claimLost i b).taken = s.taken ∧ (s.claimLost i b).free = s.free ∧ (s.claimLost i b).pending = s.pending := by simp [State.claimLost]

@[simp] theorem State.endClaim_frame (s : State) (b : Block) :
    (s.endClaim b).tick = s.tick ∧ (s.endClaim b).up = s.up ∧ (s.endClaim b).unit = s.unit ∧ (s.endClaim b).panel = s.panel ∧
    (s.endClaim b).ports = s.ports ∧ (s.endClaim b).axes = s.axes ∧ (s.endClaim b).doors = s.doors ∧
    (s.endClaim b).il = s.il ∧ (s.endClaim b).io = s.io ∧ (s.endClaim b).can = s.can ∧ (s.endClaim b).hinge = s.hinge ∧
    (s.endClaim b).mem = s.mem ∧ (s.endClaim b).se = s.se ∧ (s.endClaim b).fw = s.fw ∧ (s.endClaim b).net = s.net ∧
    (s.endClaim b).lostNow = s.lostNow ∧ (s.endClaim b).shown = s.shown ∧ (s.endClaim b).taken = s.taken ∧ (s.endClaim b).free = s.free ∧
    (s.endClaim b).pending = s.pending := by unfold State.endClaim; dsimp only; (repeat' split) <;> simp

@[simp] theorem State.endClaims_frame (s : State) (bs : List Block) :
    (s.endClaims bs).tick = s.tick ∧ (s.endClaims bs).up = s.up ∧ (s.endClaims bs).unit = s.unit ∧
    (s.endClaims bs).panel = s.panel ∧ (s.endClaims bs).ports = s.ports ∧ (s.endClaims bs).axes = s.axes ∧
    (s.endClaims bs).doors = s.doors ∧ (s.endClaims bs).il = s.il ∧ (s.endClaims bs).io = s.io ∧
    (s.endClaims bs).can = s.can ∧ (s.endClaims bs).hinge = s.hinge ∧ (s.endClaims bs).mem = s.mem ∧
    (s.endClaims bs).se = s.se ∧ (s.endClaims bs).fw = s.fw ∧ (s.endClaims bs).net = s.net ∧
    (s.endClaims bs).lostNow = s.lostNow ∧ (s.endClaims bs).shown = s.shown ∧ (s.endClaims bs).taken = s.taken ∧ (s.endClaims bs).free = s.free ∧
    (s.endClaims bs).pending = s.pending := by simp [State.endClaims]

@[simp] theorem State.yieldLease_frame (s : State) :
    s.yieldLease.tick = s.tick ∧ s.yieldLease.up = s.up ∧ s.yieldLease.unit = s.unit ∧ s.yieldLease.panel = s.panel ∧
    s.yieldLease.ports = s.ports ∧ s.yieldLease.axes = s.axes ∧ s.yieldLease.doors = s.doors ∧ s.yieldLease.il = s.il ∧
    s.yieldLease.io = s.io ∧ s.yieldLease.can = s.can ∧ s.yieldLease.mem = s.mem ∧ s.yieldLease.se = s.se ∧
    s.yieldLease.fw = s.fw ∧ s.yieldLease.net = s.net ∧ s.yieldLease.lostNow = s.lostNow ∧ s.yieldLease.shown = s.shown ∧
    s.yieldLease.taken = s.taken ∧ s.yieldLease.free = s.free ∧ s.yieldLease.pending = s.pending := by simp [State.yieldLease]

@[simp] theorem State.closeSession_frame (s : State) (i : SessId) :
    (s.closeSession i).tick = s.tick ∧ (s.closeSession i).up = s.up ∧ (s.closeSession i).unit = s.unit ∧
    (s.closeSession i).panel = s.panel ∧ (s.closeSession i).ports = s.ports ∧ (s.closeSession i).axes = s.axes ∧
    (s.closeSession i).doors = s.doors ∧ (s.closeSession i).il = s.il ∧ (s.closeSession i).io = s.io ∧
    (s.closeSession i).can = s.can ∧ (s.closeSession i).hinge = s.hinge ∧ (s.closeSession i).mem = s.mem ∧
    (s.closeSession i).se = s.se ∧ (s.closeSession i).fw = s.fw ∧ (s.closeSession i).net = s.net ∧
    (s.closeSession i).lostNow = s.lostNow ∧ (s.closeSession i).shown = s.shown ∧ (s.closeSession i).taken = s.taken ∧ (s.closeSession i).free = s.free ∧
    (s.closeSession i).pending = s.pending := by simp [State.closeSession]

@[simp] theorem State.traceRecord_frame (s : State) :
    s.traceRecord.tick = s.tick ∧ s.traceRecord.up = s.up ∧ s.traceRecord.unit = s.unit ∧ s.traceRecord.panel = s.panel ∧
    s.traceRecord.cfg = s.cfg ∧ s.traceRecord.ports = s.ports ∧ s.traceRecord.axes = s.axes ∧ s.traceRecord.doors = s.doors ∧
    s.traceRecord.il = s.il ∧ s.traceRecord.io = s.io ∧ s.traceRecord.can = s.can ∧ s.traceRecord.hinge = s.hinge ∧
    s.traceRecord.recorder = s.recorder ∧ s.traceRecord.mem = s.mem ∧ s.traceRecord.kw = s.kw ∧ s.traceRecord.se = s.se ∧
    s.traceRecord.fw = s.fw ∧ s.traceRecord.net = s.net ∧ s.traceRecord.lostNow = s.lostNow ∧ s.traceRecord.shown = s.shown ∧
    s.traceRecord.setNow = s.setNow ∧ s.traceRecord.taken = s.taken ∧ s.traceRecord.free = s.free ∧ s.traceRecord.pending = s.pending := by simp [State.traceRecord]

@[simp] theorem State.traceTick_frame (s : State) :
    s.traceTick.tick = s.tick ∧ s.traceTick.up = s.up ∧ s.traceTick.unit = s.unit ∧ s.traceTick.panel = s.panel ∧
    s.traceTick.cfg = s.cfg ∧ s.traceTick.ports = s.ports ∧ s.traceTick.axes = s.axes ∧ s.traceTick.doors = s.doors ∧
    s.traceTick.il = s.il ∧ s.traceTick.io = s.io ∧ s.traceTick.can = s.can ∧ s.traceTick.hinge = s.hinge ∧
    s.traceTick.recorder = s.recorder ∧ s.traceTick.mem = s.mem ∧ s.traceTick.kw = s.kw ∧ s.traceTick.se = s.se ∧
    s.traceTick.fw = s.fw ∧ s.traceTick.net = s.net ∧ s.traceTick.lostNow = s.lostNow ∧ s.traceTick.shown = s.shown ∧
    s.traceTick.setNow = s.setNow ∧ s.traceTick.taken = s.taken ∧ s.traceTick.free = s.free ∧ s.traceTick.pending = s.pending := by unfold State.traceTick; split <;> simp

@[simp] theorem State.bolt_frame (s : State) (f : BoltSt → BoltSt) :
    (s.bolt f).tick = s.tick ∧ (s.bolt f).up = s.up ∧ (s.bolt f).unit = s.unit ∧ (s.bolt f).panel = s.panel ∧
    (s.bolt f).cfg = s.cfg ∧ (s.bolt f).ports = s.ports ∧ (s.bolt f).axes = s.axes ∧ (s.bolt f).trace = s.trace ∧
    (s.bolt f).doors = s.doors ∧ (s.bolt f).io = s.io ∧ (s.bolt f).can = s.can ∧ (s.bolt f).hinge = s.hinge ∧
    (s.bolt f).recorder = s.recorder ∧ (s.bolt f).mem = s.mem ∧ (s.bolt f).kw = s.kw ∧ (s.bolt f).se = s.se ∧
    (s.bolt f).fw = s.fw ∧ (s.bolt f).net = s.net ∧ (s.bolt f).lostNow = s.lostNow ∧ (s.bolt f).shown = s.shown ∧
    (s.bolt f).setNow = s.setNow ∧ (s.bolt f).taken = s.taken ∧ (s.bolt f).free = s.free ∧ (s.bolt f).pending = s.pending := by simp [State.bolt]

@[simp] theorem State.safe_frame (s : State) (f : SafeSt → SafeSt) :
    (s.safe f).tick = s.tick ∧ (s.safe f).up = s.up ∧ (s.safe f).unit = s.unit ∧ (s.safe f).panel = s.panel ∧
    (s.safe f).cfg = s.cfg ∧ (s.safe f).ports = s.ports ∧ (s.safe f).axes = s.axes ∧ (s.safe f).trace = s.trace ∧
    (s.safe f).doors = s.doors ∧ (s.safe f).io = s.io ∧ (s.safe f).can = s.can ∧ (s.safe f).hinge = s.hinge ∧
    (s.safe f).recorder = s.recorder ∧ (s.safe f).mem = s.mem ∧ (s.safe f).kw = s.kw ∧ (s.safe f).se = s.se ∧
    (s.safe f).fw = s.fw ∧ (s.safe f).net = s.net ∧ (s.safe f).lostNow = s.lostNow ∧ (s.safe f).shown = s.shown ∧
    (s.safe f).setNow = s.setNow ∧ (s.safe f).taken = s.taken ∧ (s.safe f).free = s.free ∧ (s.safe f).pending = s.pending := by simp [State.safe]

@[simp] theorem State.pairOf_frame (s : State) (p : PairId) (f : Pair → Pair) :
    (s.pairOf p f).tick = s.tick ∧ (s.pairOf p f).up = s.up ∧ (s.pairOf p f).unit = s.unit ∧ (s.pairOf p f).panel = s.panel ∧
    (s.pairOf p f).cfg = s.cfg ∧ (s.pairOf p f).ports = s.ports ∧ (s.pairOf p f).axes = s.axes ∧
    (s.pairOf p f).trace = s.trace ∧ (s.pairOf p f).doors = s.doors ∧ (s.pairOf p f).io = s.io ∧ (s.pairOf p f).can = s.can ∧
    (s.pairOf p f).hinge = s.hinge ∧ (s.pairOf p f).recorder = s.recorder ∧ (s.pairOf p f).mem = s.mem ∧
    (s.pairOf p f).kw = s.kw ∧ (s.pairOf p f).se = s.se ∧ (s.pairOf p f).fw = s.fw ∧ (s.pairOf p f).net = s.net ∧
    (s.pairOf p f).lostNow = s.lostNow ∧ (s.pairOf p f).shown = s.shown ∧ (s.pairOf p f).setNow = s.setNow ∧
    (s.pairOf p f).taken = s.taken ∧ (s.pairOf p f).free = s.free ∧ (s.pairOf p f).pending = s.pending := by simp [State.pairOf]

@[simp] theorem State.obstOf_frame (s : State) (a : AxisId) (f : ObstSt → ObstSt) :
    (s.obstOf a f).tick = s.tick ∧ (s.obstOf a f).up = s.up ∧ (s.obstOf a f).unit = s.unit ∧ (s.obstOf a f).panel = s.panel ∧
    (s.obstOf a f).cfg = s.cfg ∧ (s.obstOf a f).ports = s.ports ∧ (s.obstOf a f).trace = s.trace ∧
    (s.obstOf a f).doors = s.doors ∧ (s.obstOf a f).il = s.il ∧ (s.obstOf a f).io = s.io ∧ (s.obstOf a f).can = s.can ∧
    (s.obstOf a f).hinge = s.hinge ∧ (s.obstOf a f).recorder = s.recorder ∧ (s.obstOf a f).mem = s.mem ∧
    (s.obstOf a f).kw = s.kw ∧ (s.obstOf a f).se = s.se ∧ (s.obstOf a f).fw = s.fw ∧ (s.obstOf a f).net = s.net ∧
    (s.obstOf a f).lostNow = s.lostNow ∧ (s.obstOf a f).shown = s.shown ∧ (s.obstOf a f).setNow = s.setNow ∧
    (s.obstOf a f).taken = s.taken ∧ (s.obstOf a f).free = s.free ∧ (s.obstOf a f).pending = s.pending := by simp [State.obstOf]

@[simp] theorem State.closureOf_frame (s : State) (d : DoorId) (f : Closure → Closure) :
    (s.closureOf d f).tick = s.tick ∧ (s.closureOf d f).up = s.up ∧ (s.closureOf d f).unit = s.unit ∧
    (s.closureOf d f).panel = s.panel ∧ (s.closureOf d f).cfg = s.cfg ∧ (s.closureOf d f).ports = s.ports ∧
    (s.closureOf d f).axes = s.axes ∧ (s.closureOf d f).trace = s.trace ∧ (s.closureOf d f).il = s.il ∧
    (s.closureOf d f).io = s.io ∧ (s.closureOf d f).can = s.can ∧ (s.closureOf d f).hinge = s.hinge ∧
    (s.closureOf d f).recorder = s.recorder ∧ (s.closureOf d f).mem = s.mem ∧ (s.closureOf d f).kw = s.kw ∧
    (s.closureOf d f).se = s.se ∧ (s.closureOf d f).fw = s.fw ∧ (s.closureOf d f).net = s.net ∧
    (s.closureOf d f).lostNow = s.lostNow ∧ (s.closureOf d f).shown = s.shown ∧ (s.closureOf d f).setNow = s.setNow ∧
    (s.closureOf d f).taken = s.taken ∧ (s.closureOf d f).free = s.free ∧ (s.closureOf d f).pending = s.pending := by simp [State.closureOf]

@[simp] theorem State.canOf_frame (s : State) (b : BusId) (f : Can → Can) :
    (s.canOf b f).tick = s.tick ∧ (s.canOf b f).up = s.up ∧ (s.canOf b f).unit = s.unit ∧ (s.canOf b f).panel = s.panel ∧
    (s.canOf b f).cfg = s.cfg ∧ (s.canOf b f).ports = s.ports ∧ (s.canOf b f).axes = s.axes ∧ (s.canOf b f).trace = s.trace ∧
    (s.canOf b f).doors = s.doors ∧ (s.canOf b f).il = s.il ∧ (s.canOf b f).io = s.io ∧ (s.canOf b f).hinge = s.hinge ∧
    (s.canOf b f).recorder = s.recorder ∧ (s.canOf b f).mem = s.mem ∧ (s.canOf b f).kw = s.kw ∧ (s.canOf b f).se = s.se ∧
    (s.canOf b f).fw = s.fw ∧ (s.canOf b f).net = s.net ∧ (s.canOf b f).lostNow = s.lostNow ∧ (s.canOf b f).shown = s.shown ∧
    (s.canOf b f).setNow = s.setNow ∧ (s.canOf b f).taken = s.taken ∧ (s.canOf b f).free = s.free ∧ (s.canOf b f).pending = s.pending := by simp [State.canOf]

@[simp] theorem State.ioOf_frame (s : State) (f : FieldIo → FieldIo) :
    (s.ioOf f).tick = s.tick ∧ (s.ioOf f).up = s.up ∧ (s.ioOf f).unit = s.unit ∧ (s.ioOf f).panel = s.panel ∧
    (s.ioOf f).cfg = s.cfg ∧ (s.ioOf f).ports = s.ports ∧ (s.ioOf f).axes = s.axes ∧ (s.ioOf f).trace = s.trace ∧
    (s.ioOf f).doors = s.doors ∧ (s.ioOf f).il = s.il ∧ (s.ioOf f).can = s.can ∧ (s.ioOf f).hinge = s.hinge ∧
    (s.ioOf f).recorder = s.recorder ∧ (s.ioOf f).mem = s.mem ∧ (s.ioOf f).kw = s.kw ∧ (s.ioOf f).se = s.se ∧
    (s.ioOf f).fw = s.fw ∧ (s.ioOf f).net = s.net ∧ (s.ioOf f).lostNow = s.lostNow ∧ (s.ioOf f).shown = s.shown ∧
    (s.ioOf f).setNow = s.setNow ∧ (s.ioOf f).taken = s.taken ∧ (s.ioOf f).free = s.free ∧ (s.ioOf f).pending = s.pending := by simp [State.ioOf]

@[simp] theorem State.chanOf_frame (s : State) (c : ChanId) (f : Channel → Channel) :
    (s.chanOf c f).tick = s.tick ∧ (s.chanOf c f).up = s.up ∧ (s.chanOf c f).unit = s.unit ∧ (s.chanOf c f).panel = s.panel ∧
    (s.chanOf c f).cfg = s.cfg ∧ (s.chanOf c f).ports = s.ports ∧ (s.chanOf c f).axes = s.axes ∧
    (s.chanOf c f).trace = s.trace ∧ (s.chanOf c f).doors = s.doors ∧ (s.chanOf c f).il = s.il ∧ (s.chanOf c f).can = s.can ∧
    (s.chanOf c f).hinge = s.hinge ∧ (s.chanOf c f).recorder = s.recorder ∧ (s.chanOf c f).mem = s.mem ∧
    (s.chanOf c f).kw = s.kw ∧ (s.chanOf c f).se = s.se ∧ (s.chanOf c f).fw = s.fw ∧ (s.chanOf c f).net = s.net ∧
    (s.chanOf c f).lostNow = s.lostNow ∧ (s.chanOf c f).shown = s.shown ∧ (s.chanOf c f).setNow = s.setNow ∧
    (s.chanOf c f).taken = s.taken ∧ (s.chanOf c f).free = s.free ∧ (s.chanOf c f).pending = s.pending := by simp [State.chanOf]

@[simp] theorem State.loadOf_frame (s : State) (l : LoadId) (f : LoadSwitch → LoadSwitch) :
    (s.loadOf l f).tick = s.tick ∧ (s.loadOf l f).up = s.up ∧ (s.loadOf l f).unit = s.unit ∧ (s.loadOf l f).panel = s.panel ∧
    (s.loadOf l f).cfg = s.cfg ∧ (s.loadOf l f).ports = s.ports ∧ (s.loadOf l f).axes = s.axes ∧
    (s.loadOf l f).trace = s.trace ∧ (s.loadOf l f).doors = s.doors ∧ (s.loadOf l f).il = s.il ∧ (s.loadOf l f).can = s.can ∧
    (s.loadOf l f).hinge = s.hinge ∧ (s.loadOf l f).recorder = s.recorder ∧ (s.loadOf l f).mem = s.mem ∧
    (s.loadOf l f).kw = s.kw ∧ (s.loadOf l f).se = s.se ∧ (s.loadOf l f).fw = s.fw ∧ (s.loadOf l f).net = s.net ∧
    (s.loadOf l f).lostNow = s.lostNow ∧ (s.loadOf l f).shown = s.shown ∧ (s.loadOf l f).setNow = s.setNow ∧
    (s.loadOf l f).taken = s.taken ∧ (s.loadOf l f).free = s.free ∧ (s.loadOf l f).pending = s.pending := by simp [State.loadOf]

@[simp] theorem State.doorOf_frame (s : State) (d : DoorId) (f : Door → Door) :
    (s.doorOf d f).tick = s.tick ∧ (s.doorOf d f).up = s.up ∧ (s.doorOf d f).unit = s.unit ∧ (s.doorOf d f).panel = s.panel ∧
    (s.doorOf d f).cfg = s.cfg ∧ (s.doorOf d f).ports = s.ports ∧ (s.doorOf d f).axes = s.axes ∧
    (s.doorOf d f).trace = s.trace ∧ (s.doorOf d f).il = s.il ∧ (s.doorOf d f).io = s.io ∧ (s.doorOf d f).can = s.can ∧
    (s.doorOf d f).hinge = s.hinge ∧ (s.doorOf d f).recorder = s.recorder ∧ (s.doorOf d f).mem = s.mem ∧
    (s.doorOf d f).kw = s.kw ∧ (s.doorOf d f).se = s.se ∧ (s.doorOf d f).fw = s.fw ∧ (s.doorOf d f).net = s.net ∧
    (s.doorOf d f).lostNow = s.lostNow ∧ (s.doorOf d f).shown = s.shown ∧ (s.doorOf d f).setNow = s.setNow ∧
    (s.doorOf d f).taken = s.taken ∧ (s.doorOf d f).free = s.free ∧ (s.doorOf d f).pending = s.pending := by simp [State.doorOf]

@[simp] theorem State.doorCommand_frame (s : State) (d : DoorId) (w : Word) :
    (s.doorCommand d w).tick = s.tick ∧ (s.doorCommand d w).up = s.up ∧ (s.doorCommand d w).unit = s.unit ∧
    (s.doorCommand d w).panel = s.panel ∧ (s.doorCommand d w).cfg = s.cfg ∧ (s.doorCommand d w).ports = s.ports ∧
    (s.doorCommand d w).il = s.il ∧ (s.doorCommand d w).io = s.io ∧ (s.doorCommand d w).can = s.can ∧
    (s.doorCommand d w).hinge = s.hinge ∧ (s.doorCommand d w).mem = s.mem ∧ (s.doorCommand d w).se = s.se ∧
    (s.doorCommand d w).fw = s.fw ∧ (s.doorCommand d w).net = s.net ∧ (s.doorCommand d w).lostNow = s.lostNow ∧
    (s.doorCommand d w).shown = s.shown ∧ (s.doorCommand d w).taken = s.taken ∧ (s.doorCommand d w).free = s.free ∧ (s.doorCommand d w).pending = s.pending := by unfold State.doorCommand; (repeat' split) <;> simp

@[simp] theorem State.motOf_frame (s : State) (a : AxisId) (f : MotionSt → MotionSt) :
    (s.motOf a f).tick = s.tick ∧ (s.motOf a f).up = s.up ∧ (s.motOf a f).unit = s.unit ∧ (s.motOf a f).panel = s.panel ∧
    (s.motOf a f).cfg = s.cfg ∧ (s.motOf a f).ports = s.ports ∧ (s.motOf a f).trace = s.trace ∧
    (s.motOf a f).doors = s.doors ∧ (s.motOf a f).il = s.il ∧ (s.motOf a f).io = s.io ∧ (s.motOf a f).can = s.can ∧
    (s.motOf a f).hinge = s.hinge ∧ (s.motOf a f).recorder = s.recorder ∧ (s.motOf a f).mem = s.mem ∧
    (s.motOf a f).kw = s.kw ∧ (s.motOf a f).se = s.se ∧ (s.motOf a f).fw = s.fw ∧ (s.motOf a f).net = s.net ∧
    (s.motOf a f).lostNow = s.lostNow ∧ (s.motOf a f).shown = s.shown ∧ (s.motOf a f).setNow = s.setNow ∧
    (s.motOf a f).taken = s.taken ∧ (s.motOf a f).free = s.free ∧ (s.motOf a f).pending = s.pending := by simp [State.motOf]

@[simp] theorem State.loopOf_frame (s : State) (a : AxisId) (f : LoopSt → LoopSt) :
    (s.loopOf a f).tick = s.tick ∧ (s.loopOf a f).up = s.up ∧ (s.loopOf a f).unit = s.unit ∧ (s.loopOf a f).panel = s.panel ∧
    (s.loopOf a f).cfg = s.cfg ∧ (s.loopOf a f).ports = s.ports ∧ (s.loopOf a f).trace = s.trace ∧
    (s.loopOf a f).doors = s.doors ∧ (s.loopOf a f).il = s.il ∧ (s.loopOf a f).io = s.io ∧ (s.loopOf a f).can = s.can ∧
    (s.loopOf a f).hinge = s.hinge ∧ (s.loopOf a f).recorder = s.recorder ∧ (s.loopOf a f).mem = s.mem ∧
    (s.loopOf a f).kw = s.kw ∧ (s.loopOf a f).se = s.se ∧ (s.loopOf a f).fw = s.fw ∧ (s.loopOf a f).net = s.net ∧
    (s.loopOf a f).lostNow = s.lostNow ∧ (s.loopOf a f).shown = s.shown ∧ (s.loopOf a f).setNow = s.setNow ∧
    (s.loopOf a f).taken = s.taken ∧ (s.loopOf a f).free = s.free ∧ (s.loopOf a f).pending = s.pending := by simp [State.loopOf]

@[simp] theorem State.portOf_frame (s : State) (k : PortId) (f : Port → Port) :
    (s.portOf k f).tick = s.tick ∧ (s.portOf k f).up = s.up ∧ (s.portOf k f).unit = s.unit ∧ (s.portOf k f).panel = s.panel ∧
    (s.portOf k f).cfg = s.cfg ∧ (s.portOf k f).axes = s.axes ∧ (s.portOf k f).trace = s.trace ∧
    (s.portOf k f).doors = s.doors ∧ (s.portOf k f).il = s.il ∧ (s.portOf k f).io = s.io ∧ (s.portOf k f).can = s.can ∧
    (s.portOf k f).hinge = s.hinge ∧ (s.portOf k f).recorder = s.recorder ∧ (s.portOf k f).mem = s.mem ∧
    (s.portOf k f).kw = s.kw ∧ (s.portOf k f).se = s.se ∧ (s.portOf k f).fw = s.fw ∧ (s.portOf k f).net = s.net ∧
    (s.portOf k f).lostNow = s.lostNow ∧ (s.portOf k f).shown = s.shown ∧ (s.portOf k f).setNow = s.setNow ∧
    (s.portOf k f).taken = s.taken ∧ (s.portOf k f).free = s.free ∧ (s.portOf k f).pending = s.pending := by simp [State.portOf]

@[simp] theorem State.traceCtrl_frame (s : State) (w : Word) :
    (s.traceCtrl w).tick = s.tick ∧ (s.traceCtrl w).up = s.up ∧ (s.traceCtrl w).unit = s.unit ∧
    (s.traceCtrl w).panel = s.panel ∧ (s.traceCtrl w).cfg = s.cfg ∧ (s.traceCtrl w).ports = s.ports ∧
    (s.traceCtrl w).axes = s.axes ∧ (s.traceCtrl w).doors = s.doors ∧ (s.traceCtrl w).il = s.il ∧ (s.traceCtrl w).io = s.io ∧
    (s.traceCtrl w).can = s.can ∧ (s.traceCtrl w).hinge = s.hinge ∧ (s.traceCtrl w).recorder = s.recorder ∧
    (s.traceCtrl w).mem = s.mem ∧ (s.traceCtrl w).kw = s.kw ∧ (s.traceCtrl w).se = s.se ∧ (s.traceCtrl w).fw = s.fw ∧
    (s.traceCtrl w).net = s.net ∧ (s.traceCtrl w).lostNow = s.lostNow ∧ (s.traceCtrl w).shown = s.shown ∧
    (s.traceCtrl w).setNow = s.setNow ∧ (s.traceCtrl w).taken = s.taken ∧ (s.traceCtrl w).free = s.free ∧ (s.traceCtrl w).pending = s.pending := by simp [State.traceCtrl]

@[simp] theorem State.sideCommand_frame (s : State) (right opening : Bool) :
    (s.sideCommand right opening).tick = s.tick ∧ (s.sideCommand right opening).up = s.up ∧
    (s.sideCommand right opening).unit = s.unit ∧ (s.sideCommand right opening).panel = s.panel ∧
    (s.sideCommand right opening).cfg = s.cfg ∧ (s.sideCommand right opening).ports = s.ports ∧
    (s.sideCommand right opening).il = s.il ∧ (s.sideCommand right opening).io = s.io ∧
    (s.sideCommand right opening).can = s.can ∧ (s.sideCommand right opening).hinge = s.hinge ∧
    (s.sideCommand right opening).mem = s.mem ∧ (s.sideCommand right opening).se = s.se ∧
    (s.sideCommand right opening).fw = s.fw ∧ (s.sideCommand right opening).net = s.net ∧
    (s.sideCommand right opening).lostNow = s.lostNow ∧ (s.sideCommand right opening).shown = s.shown ∧
    (s.sideCommand right opening).taken = s.taken ∧ (s.sideCommand right opening).free = s.free ∧ (s.sideCommand right opening).pending = s.pending := by simp [State.sideCommand]

@[simp] theorem State.sideWrite_frame (s : State) (w : Word) :
    (s.sideWrite w).tick = s.tick ∧ (s.sideWrite w).up = s.up ∧ (s.sideWrite w).unit = s.unit ∧
    (s.sideWrite w).panel = s.panel ∧ (s.sideWrite w).cfg = s.cfg ∧ (s.sideWrite w).ports = s.ports ∧
    (s.sideWrite w).il = s.il ∧ (s.sideWrite w).io = s.io ∧ (s.sideWrite w).can = s.can ∧ (s.sideWrite w).hinge = s.hinge ∧
    (s.sideWrite w).mem = s.mem ∧ (s.sideWrite w).se = s.se ∧ (s.sideWrite w).fw = s.fw ∧ (s.sideWrite w).net = s.net ∧
    (s.sideWrite w).lostNow = s.lostNow ∧ (s.sideWrite w).shown = s.shown ∧ (s.sideWrite w).taken = s.taken ∧ (s.sideWrite w).free = s.free ∧
    (s.sideWrite w).pending = s.pending := by unfold State.sideWrite; (repeat' split) <;> simp

@[simp] theorem State.ackEvents_frame (s : State) (i : SessId) (seq : Word) :
    (s.ackEvents i seq).tick = s.tick ∧ (s.ackEvents i seq).up = s.up ∧ (s.ackEvents i seq).unit = s.unit ∧
    (s.ackEvents i seq).panel = s.panel ∧ (s.ackEvents i seq).cfg = s.cfg ∧ (s.ackEvents i seq).ports = s.ports ∧
    (s.ackEvents i seq).axes = s.axes ∧ (s.ackEvents i seq).trace = s.trace ∧ (s.ackEvents i seq).doors = s.doors ∧
    (s.ackEvents i seq).il = s.il ∧ (s.ackEvents i seq).io = s.io ∧ (s.ackEvents i seq).can = s.can ∧
    (s.ackEvents i seq).hinge = s.hinge ∧ (s.ackEvents i seq).recorder = s.recorder ∧ (s.ackEvents i seq).mem = s.mem ∧
    (s.ackEvents i seq).se = s.se ∧ (s.ackEvents i seq).fw = s.fw ∧ (s.ackEvents i seq).net = s.net ∧
    (s.ackEvents i seq).lostNow = s.lostNow ∧ (s.ackEvents i seq).shown = s.shown ∧ (s.ackEvents i seq).setNow = s.setNow ∧
    (s.ackEvents i seq).taken = s.taken ∧ (s.ackEvents i seq).free = s.free ∧ (s.ackEvents i seq).pending = s.pending := by simp [State.ackEvents]

theorem mapFrom_get {α β : Type} (f : Nat → α → β) (l : List α) (k i : Nat) (h : i < l.length) :
    (mapFrom f k l)[i]'(by simpa [mapFrom_length] using h) = f (k + i) l[i] := by
  induction l generalizing k i with
  | nil => simp at h
  | cons a l ih =>
    cases i with
    | zero => simp [mapFrom]
    | succ i =>
      simp only [mapFrom, List.getElem_cons_succ]
      rw [ih (k + 1) i (by simpa using h)]
      congr 1; omega
theorem vmapIdx_get {α β : Type} {n : Nat} (f : Nat → α → β) (v : Vector α n) (i : Nat) (h : i < n) :
    (vmapIdx f v)[i] = f i v[i] := by
  have := mapFrom_get f v.toList 0 i (by simpa using h)
  simpa [vmapIdx] using this
theorem vmap_get {α β : Type} {n : Nat} (f : α → β) (v : Vector α n) (i : Nat) (h : i < n) : (vmap f v)[i] = f v[i] :=
  vmapIdx_get _ v i h

/-! Which sessions are open: what raising codes, doorway operations and acknowledgements leave. -/

@[simp] theorem vmod_opens {n : Nat} (v : Vector (Option Session) n) (i : Fin n) (f : Session → Session) :
    (vmod v i fun x => x.map f).map Option.isSome = v.map Option.isSome := by
  ext j hj
  simp [vmod, Vector.getElem_set]
  intro h; subst h; cases v[i.val] <;> rfl
theorem vmap_opens {n : Nat} (v : Vector (Option Session) n) (f : Session → Session) :
    (vmap (fun x : Option Session => x.map f) v).map Option.isSome = v.map Option.isSome := by
  ext j hj; simp [vmap_get]
@[simp] theorem State.queueEvent_opens (s : State) (e : Raised) :
    (s.queueEvent e).kw.sess.map Option.isSome = s.kw.sess.map Option.isSome := by
  unfold State.queueEvent; exact vmap_opens _ _
@[simp] theorem State.raiseOne_opens (s : State) (e : Raised) :
    (s.raiseOne e).1.kw.sess.map Option.isSome = s.kw.sess.map Option.isSome := by simp [State.raiseOne]
@[simp] theorem State.raiseAll_opens (s : State) (n : Nat) (es : List Raised) :
    (s.raiseAll n es).kw.sess.map Option.isSome = s.kw.sess.map Option.isSome := by
  induction n generalizing s es with
  | zero => rfl
  | succ n ih =>
    rw [State.raiseAll]
    induction es generalizing s with
    | nil => rfl
    | cons e es ih' => rw [List.foldl_cons, ih', ih]; simp
@[simp] theorem State.deliver_opens (s : State) (ev : List Raised) :
    (s.deliver ev).kw.sess.map Option.isSome = s.kw.sess.map Option.isSome := by unfold State.deliver; exact State.raiseAll_opens ..
@[simp] theorem State.raise_opens (s : State) (c : Code) (i : Nat) (d : Word) :
    (s.raise c i d).kw.sess.map Option.isSome = s.kw.sess.map Option.isSome := by unfold State.raise; exact State.raiseAll_opens ..
@[simp] theorem State.runDoor_opens (s : State) (d : DoorId) (i : DoorIn) (f : DoorRun → DoorIn → DoorRun) :
    (s.runDoor d i f).kw.sess.map Option.isSome = s.kw.sess.map Option.isSome := by simp [State.runDoor]
@[simp] theorem State.onDoor_opens (s : State) (d : DoorId) (f : DoorRun → DoorIn → DoorRun) :
    (s.onDoor d f).kw.sess.map Option.isSome = s.kw.sess.map Option.isSome := by unfold State.onDoor; split <;> simp
@[simp] theorem State.onDoorCmd_opens (s : State) (d : DoorId) (f : DoorRun → DoorIn → DoorRun) :
    (s.onDoorCmd d f).kw.sess.map Option.isSome = s.kw.sess.map Option.isSome := by unfold State.onDoorCmd; split <;> simp
@[simp] theorem State.onDoors_opens (s : State) (p : DoorId → Bool) (f : DoorRun → DoorIn → DoorRun) :
    (s.onDoors p f).kw.sess.map Option.isSome = s.kw.sess.map Option.isSome := by
  unfold State.onDoors
  generalize fins 16 = l
  induction l generalizing s with
  | nil => rfl
  | cons d l ih => rw [List.foldl_cons, ih]; split <;> simp
@[simp] theorem State.doorCommand_opens (s : State) (d : DoorId) (w : Word) :
    (s.doorCommand d w).kw.sess.map Option.isSome = s.kw.sess.map Option.isSome := by
  unfold State.doorCommand; (repeat' split) <;> simp
@[simp] theorem State.sideWrite_opens (s : State) (w : Word) :
    (s.sideWrite w).kw.sess.map Option.isSome = s.kw.sess.map Option.isSome := by
  unfold State.sideWrite State.sideCommand; (repeat' split) <;> simp
@[simp] theorem State.ackEvents_opens (s : State) (i : SessId) (seq : Word) :
    (s.ackEvents i seq).kw.sess.map Option.isSome = s.kw.sess.map Option.isSome := by simp [State.ackEvents]
@[simp] theorem State.noteClamp_opens (s : State) (f elem : Nat) (used : Int) (why : Reason) :
    (s.noteClamp f elem used why).kw.sess.map Option.isSome = s.kw.sess.map Option.isSome := by simp [State.noteClamp]
@[simp] theorem State.postField_opens (s : State) (t : Tick) (p : Part) (v : Int) :
    (s.postField t p v).kw.sess.map Option.isSome = s.kw.sess.map Option.isSome := by unfold State.postField; split <;> simp
@[simp] theorem State.memRan_opens (s : State) (r : MemRun) :
    (s.memRan r).kw.sess.map Option.isSome = s.kw.sess.map Option.isSome := by simp [State.memRan]
@[simp] theorem Keyway.setHolder_opens (k : Keyway) (b : Block) (h : Option SessId) : (k.setHolder b h).sess = k.sess := by cases b <;> rfl
@[simp] theorem State.endClaim_opens (s : State) (b : Block) :
    (s.endClaim b).kw.sess.map Option.isSome = s.kw.sess.map Option.isSome := by
  cases h : s.kw.holder b with
  | none => simp [State.endClaim, h]
  | some i =>
    simp only [State.endClaim, h, State.claimLost]
    by_cases c : ({ s.dropShadows b with kw := (s.dropShadows b).kw.setHolder b none } : State).kw.sess[i].isSome
    · rw [if_pos c]; simp [State.dropShadows]
    · rw [if_neg c]; simp [State.dropShadows]
@[simp] theorem State.endClaims_opens (s : State) (bs : List Block) :
    (s.endClaims bs).kw.sess.map Option.isSome = s.kw.sess.map Option.isSome := by
  unfold State.endClaims
  induction bs generalizing s with
  | nil => rfl
  | cons b bs ih => rw [List.foldl_cons, ih]; simp
@[simp] theorem State.yieldLease_opens (s : State) : s.yieldLease.kw.sess.map Option.isSome = s.kw.sess.map Option.isSome := by
  simp [State.yieldLease, State.onHinge]

def RegRow.Keeps (P : State → State → Prop) (r : RegRow) : Prop :=
  (∀ f, r.clear = some f → ∀ w s, P s (f w s)) ∧ (∀ f, r.act = some f → ∀ i w s t, f i w s = .ok t → P s t) ∧
    ∀ c, r.readClear = some c → ∀ n s, P s (c.put n s)

/-- What no register write or clearing read reaches: the clock, the secure element, NOR, the free values, the queue and which sessions are open. -/
def State.HostKept (s t : State) : Prop :=
  t.tick = s.tick ∧ t.up = s.up ∧ t.se = s.se ∧ t.fw = s.fw ∧ t.lostNow = s.lostNow ∧ t.taken = s.taken ∧ t.free = s.free ∧ t.pending = s.pending ∧
    t.unit.running = s.unit.running ∧ t.kw.sess.map Option.isSome = s.kw.sess.map Option.isSome

/-- The same, with the memory under SECDED. -/
def State.HostMem (s t : State) : Prop := s.HostKept t ∧ t.mem = s.mem

/-- The same, with the canonical form of host scratch. -/
def State.HostScratch (s t : State) : Prop := s.HostKept t ∧ (memWf s.mem.scratch = true → memWf t.mem.scratch = true)

@[simp] theorem State.hostKept_iff (s t : State) : s.HostKept t ↔ t.tick = s.tick ∧ t.up = s.up ∧ t.se = s.se ∧ t.fw = s.fw ∧
    t.lostNow = s.lostNow ∧ t.taken = s.taken ∧ t.free = s.free ∧ t.pending = s.pending ∧ t.unit.running = s.unit.running ∧
    t.kw.sess.map Option.isSome = s.kw.sess.map Option.isSome := Iff.rfl
theorem State.HostKept.frame {s t : State} (h : s.HostKept t) : t.tick = s.tick ∧ t.up = s.up ∧ t.se = s.se ∧ t.fw = s.fw ∧
    t.lostNow = s.lostNow ∧ t.taken = s.taken ∧ t.free = s.free ∧ t.pending = s.pending ∧ t.unit.running = s.unit.running :=
  ⟨h.1, h.2.1, h.2.2.1, h.2.2.2.1, h.2.2.2.2.1, h.2.2.2.2.2.1, h.2.2.2.2.2.2.1, h.2.2.2.2.2.2.2.1, h.2.2.2.2.2.2.2.2.1⟩
@[simp] theorem State.hostMem_iff (s t : State) : s.HostMem t ↔ s.HostKept t ∧ t.mem = s.mem := Iff.rfl

variable {P : State → State → Prop}

theorem keeps_none {r : RegRow} (a : r.clear = none) (b : r.act = none) (c : r.readClear = none) : r.Keeps P :=
  ⟨fun f e => by simp [a] at e, fun f e => by simp [b] at e, fun f e => by simp [c] at e⟩
theorem keeps_ro (r : Reg) : (roRow r).Keeps P := keeps_none rfl rfl rfl
theorem keeps_clear {r : RegRow} {f : Word → State → State} (a : r.clear = some f) (b : r.act = none) (c : r.readClear = none)
    (h : ∀ w s, P s (f w s)) : r.Keeps P :=
  ⟨fun g e => by rw [a] at e; cases e; exact h, fun g e => by simp [b] at e, fun g e => by simp [c] at e⟩
theorem keeps_w1c {w m : Word} {f : Word → State → State} (h : ∀ w s, P s (f w s)) : (w1cRow w m f).Keeps P :=
  keeps_clear rfl rfl rfl h
theorem keeps_rc {q : State} {c : ClearRead} (h : ∀ n s, P s (c.put n s)) : (rcRow q c).Keeps P :=
  ⟨fun g e => (nomatch e), fun g e => (nomatch e), fun g e => by cases e; exact h⟩
theorem keeps_act {r : RegRow} {f : Sender → Word → State → WriteResult} (a : r.clear = none) (b : r.act = some f)
    (c : r.readClear = none) (h : ∀ i w s t, f i w s = .ok t → P s t) : r.Keeps P :=
  ⟨fun g e => by simp [a] at e, fun g e => by rw [b] at e; cases e; exact h, fun g e => by simp [c] at e⟩
theorem keeps_wo {v : Bool} {m : Word} {f : Sender → Word → State → WriteResult} (h : ∀ i w s t, f i w s = .ok t → P s t) :
    (woRow v m f).Keeps P := keeps_act rfl rfl rfl h
theorem keeps_ok {f : Sender → Word → State → State} {v : Bool} {m : Word} (h : ∀ i w s, P s (f i w s)) :
    (woRow v m fun i w s => .ok (f i w s)).Keeps P := keeps_wo fun i w s t e => by cases e; exact h i w s
theorem keeps_mono {Q : State → State → Prop} {r : RegRow} (h : r.Keeps P) (i : ∀ s t, P s t → Q s t) : r.Keeps Q :=
  ⟨fun f e w s => i _ _ (h.1 f e w s), fun f e a w s t o => i _ _ (h.2.1 f e a w s t o), fun c e n s => i _ _ (h.2.2 c e n s)⟩

theorem all_nil : ∀ x ∈ ([] : List (Nat × RegRow)), x.2.Keeps P := fun _ h => nomatch h
theorem all_cons {n : Nat} {r : RegRow} {l : List (Nat × RegRow)} (h : r.Keeps P) (t : ∀ x ∈ l, x.2.Keeps P) :
    ∀ x ∈ (n, r) :: l, x.2.Keeps P := List.forall_mem_cons.2 ⟨h, t⟩
theorem keeps_atOffset {off : Nat} {l : List (Nat × RegRow)} (h : ∀ x ∈ l, x.2.Keeps P) {r : RegRow} (e : atOffset off l = some r) :
    r.Keeps P := by
  induction l with
  | nil => simp [atOffset] at e
  | cons x xs ih =>
    rw [atOffset] at e
    split at e
    · cases e; exact h _ (by simp)
    · exact ih (fun y m => h y (by simp [m])) e
theorem keeps_some {r q : RegRow} (h : q.Keeps P) (e : some q = some r) : r.Keeps P := by cases e; exact h
theorem keeps_bind {α : Type} {o : Option α} {f : α → Option RegRow} (h : ∀ a r, f a = some r → r.Keeps P) {r : RegRow}
    (e : o.bind f = some r) : r.Keeps P := by cases o <;> simp at e; exact h _ _ e
theorem keeps_map {α : Type} {o : Option α} {f : α → RegRow} (h : ∀ a, (f a).Keeps P) {r : RegRow}
    (e : o.map f = some r) : r.Keeps P := by cases o <;> simp at e; subst e; exact h _

theorem ok_eq {a b : State} (e : (Except.ok a : WriteResult) = .ok b) : b = a := (Except.ok.inj e).symm
theorem handOver_mem {i : Sender} {w : Word} {s t : State} (e : s.handOver i w = .ok t) : s.HostMem t := by
  unfold State.handOver at e
  split at e
  · cases e; simp
  split at e
  · cases e
  split at e
  · cases e
  dsimp only at e
  split at e
  · rw [ok_eq e]; simp
  · cases e
theorem learnResetWrite_mem {d : DoorId} {i : Sender} {w : Word} {s t : State} (e : s.learnResetWrite d i w = .ok t) : s.HostMem t := by
  unfold State.learnResetWrite at e
  split at e
  · cases e; simp
  split at e
  · cases e
  split at e
  · cases e
  cases e; simp
theorem canCtrl_mem {b : BusId} {w : Word} {s t : State} (e : s.canCtrl b w = .ok t) : s.HostMem t := by
  unfold State.canCtrl at e
  split at e
  · cases e
  dsimp only at e
  cases e
  (repeat' split) <;> simp
theorem rxAckWrite_mem {b : BusId} {w : Word} {s t : State} (e : s.rxAckWrite b w = .ok t) : s.HostMem t := by
  unfold State.rxAckWrite at e
  dsimp only at e
  split at e <;> cases e
  simp
theorem txCtrl_mem {b : BusId} {k : Fin 3} {w : Word} {s t : State} (e : s.txCtrl b k w = .ok t) : s.HostMem t := by
  unfold State.txCtrl at e
  dsimp only at e
  split at e
  · cases e
  split at e
  · split at e <;> cases e
    simp
  split at e <;> cases e <;> simp
theorem txWrite_mem {b : BusId} {k : Fin 3} {f : TxBuf → TxBuf} {s t : State} (e : s.txWrite b k f = .ok t) : s.HostMem t := by
  unfold State.txWrite at e
  split at e <;> cases e
  simp
theorem jogWrite_mem {d : DoorId} {i : Sender} {w : Word} {s t : State} (e : s.jogWrite d i w = .ok t) : s.HostMem t := by
  unfold State.jogWrite at e
  dsimp only at e
  split at e
  · split at e <;> cases e
    split <;> simp
  · cases e
    split <;> simp

theorem unitRows_mem (s : State) : ∀ x ∈ unitRows s, x.2.Keeps State.HostMem := by
  unfold unitRows
  exact all_cons (keeps_ro _) <| all_cons (keeps_ro _) <| all_cons (keeps_ro _) <| all_cons (keeps_clear rfl rfl rfl fun w s => by (try dsimp only) <;> split <;> simp) <| all_cons (keeps_w1c fun w s => by (try dsimp only) <;> split <;> simp) <| all_cons (keeps_clear rfl rfl rfl fun w s => by (try dsimp only) <;> split <;> simp) <| all_cons (keeps_ro _) <| all_cons (keeps_ro _) <| all_cons (keeps_ro _) <| all_cons (keeps_w1c fun w s => by (try dsimp only) <;> split <;> simp) <| all_cons (keeps_ok fun i w s => by simp) <| all_nil

theorem cfgRow_mem (s : State) (off : Nat) {r : RegRow} (e : s.cfgRow off = some r) : r.Keeps State.HostMem := by
  unfold State.cfgRow at e
  dsimp only at e
  split at e
  · exact keeps_some (keeps_ro _) e
  split at e
  · exact keeps_map (fun _ => keeps_ro _) e
  refine keeps_atOffset ?_ e
  exact all_cons (keeps_ro _) <| all_cons (keeps_ro _) <| all_cons (keeps_ro _) <| all_cons (keeps_ro _) <| all_cons (keeps_ro _) <| all_cons (keeps_ro _) <| all_nil

theorem hingeRows_mem (s : State) : ∀ x ∈ hingeRows s, x.2.Keeps State.HostMem := by
  unfold hingeRows
  exact all_cons (keeps_ro _) <| all_cons (keeps_ro _) <| all_cons (keeps_ro _) <| all_cons (keeps_ro _) <| all_cons (keeps_ro _) <| all_cons (keeps_ro _) <| all_cons (keeps_ro _) <| all_cons (keeps_ro _) <| all_cons (keeps_ro _) <| all_cons (keeps_ro _) <| all_cons (keeps_w1c fun w s => by simp) <| all_cons (keeps_ro _) <| all_cons (keeps_rc fun _ s => by simp) <| all_cons (keeps_rc fun _ s => by simp) <| all_cons (keeps_rc fun _ s => by simp) <| all_cons (keeps_rc fun _ s => by simp) <| all_cons (keeps_rc fun _ s => by simp) <| all_cons (keeps_rc fun _ s => by simp) <| all_cons (keeps_wo fun i w s t e => handOver_mem e) <| all_nil

theorem recRow_mem (s : State) (off : Nat) {r : RegRow} (e : s.recRow off = some r) : r.Keeps State.HostMem := by
  unfold State.recRow at e
  dsimp only at e
  split at e
  · exact keeps_some (keeps_ro _) e
  refine keeps_atOffset ?_ e
  exact all_cons (keeps_ro _) <| all_cons (keeps_ro _) <| all_cons (keeps_ro _) <| all_cons (keeps_ro _) <| all_cons (keeps_ro _) <| all_cons (keeps_ro _) <| all_cons (keeps_ro _) <| all_cons (keeps_ro _) <| all_cons (keeps_ro _) <| all_cons (keeps_rc fun _ s => by simp) <| all_cons (keeps_ro _) <| all_cons (keeps_w1c fun w s => by simp) <| all_cons (keeps_ok fun i w s => by (try dsimp only) <;> split <;> simp) <| all_cons (keeps_rc fun _ s => by simp) <| all_cons (keeps_ro _) <| all_cons (keeps_ro _) <| all_nil

theorem sessionRow_mem (s : State) (i k : Nat) {r : RegRow} (e : s.sessionRow i k = some r) : r.Keeps State.HostMem := by
  unfold State.sessionRow at e
  dsimp only at e
  split at e
  all_goals first | exact keeps_some (keeps_ro _) e | cases e

theorem anchorRow_mem (s : State) (j k : Nat) {r : RegRow} (e : s.anchorRow j k = some r) : r.Keeps State.HostMem := by
  unfold State.anchorRow at e
  dsimp only at e
  split at e
  · exact keeps_some (keeps_ro _) e
  split at e
  · exact keeps_some (keeps_ro _) e
  cases e

theorem kwRows_mem (s : State) (me : Option SessId) : ∀ x ∈ kwRows s me, x.2.Keeps State.HostMem := by
  unfold kwRows
  exact all_cons (keeps_ro _) <| all_cons (keeps_ro _) <| all_cons (keeps_w1c fun w s => by simp) <| all_cons (keeps_rc fun _ s => by simp) <| all_cons (keeps_ro _) <| all_cons (keeps_ro _) <| all_cons (keeps_ro _) <| all_cons (keeps_ok fun i w s => by cases i <;> simp) <| all_cons (keeps_ro _) <| all_cons (keeps_ro _) <| all_cons (keeps_ro _) <| all_cons (keeps_ro _) <| all_cons (keeps_ro _) <| all_cons (keeps_ro _) <| all_cons (keeps_ro _) <| all_cons (keeps_ro _) <| all_cons (keeps_ro _) <| all_cons (keeps_ro _) <| all_cons (keeps_ro _) <| all_cons (keeps_rc fun _ s => by simp) <| all_nil

theorem kwRow_mem (s : State) (me : Option SessId) (off : Nat) {r : RegRow} (e : s.kwRow me off = some r) : r.Keeps State.HostMem := by
  unfold State.kwRow at e
  split at e
  · exact keeps_some (keeps_ro _) e
  split at e
  · exact keeps_some (keeps_ro _) e
  split at e
  · exact sessionRow_mem _ _ _ e
  split at e
  · exact keeps_some (keeps_ro _) e
  split at e
  · exact anchorRow_mem _ _ _ e
  split at e
  · exact keeps_some (keeps_ro _) e
  exact keeps_atOffset (kwRows_mem _ _) e

theorem boltRows_mem (s : State) : ∀ x ∈ boltRows s, x.2.Keeps State.HostMem := by
  unfold boltRows
  exact all_cons (keeps_ro _) <| all_cons (keeps_ro _) <| all_cons (keeps_w1c fun w s => by simp) <| all_cons (keeps_rc fun _ s => by simp) <| all_cons (keeps_ro _) <| all_cons (keeps_ro _) <| all_cons (keeps_ro _) <| all_cons (keeps_ro _) <| all_cons (keeps_ro _) <| all_cons (keeps_ro _) <| all_cons (keeps_w1c fun w s => by simp) <| all_cons (keeps_ro _) <| all_cons (keeps_ro _) <| all_cons (keeps_ro _) <| all_cons (keeps_ro _) <| all_cons (keeps_ro _) <| all_cons (keeps_w1c fun w s => by simp) <| all_cons (keeps_rc fun _ s => by simp) <| all_cons (keeps_rc fun _ s => by simp) <| all_cons (keeps_rc fun _ s => by simp) <| all_cons (keeps_rc fun _ s => by simp) <| all_cons (keeps_rc fun _ s => by simp) <| all_cons (keeps_rc fun _ s => by simp) <| all_cons (keeps_rc fun _ s => by simp) <| all_cons (keeps_rc fun _ s => by simp) <| all_nil

theorem pairRow_mem (s : State) (p : PairId) (off : Nat) {r : RegRow} (e : s.pairRow p off = some r) : r.Keeps State.HostMem := by
  unfold State.pairRow at e
  (try dsimp only at e)
  refine keeps_atOffset ?_ e
  exact all_cons (keeps_ro _) <| all_cons (keeps_ro _) <| all_cons (keeps_ro _) <| all_cons (keeps_rc fun _ s => by simp) <| all_nil

theorem obstRow_mem (s : State) (a : AxisId) (off : Nat) {r : RegRow} (e : s.obstRow a off = some r) : r.Keeps State.HostMem := by
  unfold State.obstRow at e
  dsimp only at e
  split at e
  · exact keeps_some (keeps_ro _) e
  split at e
  · exact keeps_some (keeps_ro _) e
  refine keeps_atOffset ?_ e
  exact all_cons (keeps_ro _) <| all_cons (keeps_ro _) <| all_cons (keeps_ro _) <| all_cons (keeps_ro _) <| all_cons (keeps_ro _) <| all_cons (keeps_rc fun _ s => by simp) <| all_cons (keeps_ro _) <| all_cons (keeps_ro _) <| all_cons (keeps_ro _) <| all_cons (keeps_ro _) <| all_cons (keeps_ro _) <| all_nil

theorem closureRow_mem (s : State) (d : DoorId) (off : Nat) {r : RegRow} (e : s.closureRow d off = some r) : r.Keeps State.HostMem := by
  unfold State.closureRow at e
  (try dsimp only at e)
  refine keeps_atOffset ?_ e
  exact all_cons (keeps_ro _) <| all_cons (keeps_ro _) <| all_cons (keeps_ro _) <| all_cons (keeps_w1c fun w s => by simp) <| all_cons (keeps_wo fun i w s t e => learnResetWrite_mem e) <| all_nil

theorem boltRow_mem (s : State) (off : Nat) {r : RegRow} (e : s.boltRow off = some r) : r.Keeps State.HostMem := by
  unfold State.boltRow at e
  split at e
  · exact keeps_bind (fun _ _ e => pairRow_mem _ _ _ e) e
  split at e
  · exact keeps_bind (fun _ _ e => obstRow_mem _ _ _ e) e
  split at e
  · exact keeps_bind (fun _ _ e => closureRow_mem _ _ _ e) e
  exact keeps_atOffset (boltRows_mem _) e

theorem txWordRow_mem (b : BusId) (k : Fin 3) (w m : Word) (f : Word → TxBuf → TxBuf) : (txWordRow b k w m f).Keeps State.HostMem :=
  keeps_act rfl rfl rfl fun _ _ _ _ e => txWrite_mem e

theorem txRow_mem (s : State) (b : BusId) (k : Fin 3) (off : Nat) {r : RegRow} (e : s.txRow b k off = some r) : r.Keeps State.HostMem := by
  unfold State.txRow at e
  dsimp only at e
  split at e
  · exact keeps_some (txWordRow_mem _ _ _ _ _) e
  refine keeps_atOffset ?_ e
  exact all_cons (keeps_wo fun i w s t e => txCtrl_mem e) <| all_cons (keeps_ro _) <| all_cons (keeps_ro _) <| all_cons (txWordRow_mem _ _ _ _ _) <| all_cons (txWordRow_mem _ _ _ _ _) <| all_nil

theorem canRows_mem (s : State) (b : BusId) : ∀ x ∈ canRows s b, x.2.Keeps State.HostMem := by
  unfold canRows
  exact all_cons (keeps_ro _) <| all_cons (keeps_ro _) <| all_cons (keeps_wo fun i w s t e => canCtrl_mem e) <| all_cons (keeps_ro _) <| all_cons (keeps_ro _) <| all_cons (keeps_w1c fun w s => by simp) <| all_cons (keeps_rc fun _ s => by simp) <| all_cons (keeps_rc fun _ s => by simp) <| all_cons (keeps_rc fun _ s => by simp) <| all_cons (keeps_rc fun _ s => by simp) <| all_cons (keeps_rc fun _ s => by simp) <| all_cons (keeps_rc fun _ s => by simp) <| all_cons (keeps_ro _) <| all_cons (keeps_wo fun i w s t e => rxAckWrite_mem e) <| all_cons (keeps_ro _) <| all_nil

theorem canRow_mem (s : State) (b : BusId) (off : Nat) {r : RegRow} (e : s.canRow b off = some r) : r.Keeps State.HostMem := by
  unfold State.canRow at e
  split at e
  · exact keeps_some (keeps_ro _) e
  split at e
  · exact keeps_bind (fun _ _ e => txRow_mem _ _ _ _ e) e
  exact keeps_atOffset (canRows_mem _ _) e

theorem rxRow_mem (s : State) (b : BusId) (off : Nat) {r : RegRow} (e : s.rxRow b off = some r) : r.Keeps State.HostMem := by
  unfold State.rxRow at e
  dsimp only at e
  split at e
  · cases e
  exact keeps_some (keeps_ro _) e

theorem chanRow_mem (s : State) (c : ChanId) (off : Nat) {r : RegRow} (e : s.chanRow c off = some r) : r.Keeps State.HostMem := by
  unfold State.chanRow at e
  (try dsimp only at e)
  refine keeps_atOffset ?_ e
  exact all_cons (keeps_ro _) <| all_cons (keeps_ro _) <| all_cons (keeps_ro _) <| all_cons (keeps_ro _) <| all_cons (keeps_ro _) <| all_cons (keeps_w1c fun w s => by simp) <| all_cons (keeps_rc fun _ s => by simp) <| all_cons (keeps_rc fun _ s => by simp) <| all_nil

theorem fieldRows_mem (s : State) : ∀ x ∈ fieldRows s, x.2.Keeps State.HostMem := by
  unfold fieldRows
  exact all_cons (keeps_ro _) <| all_cons (keeps_ro _) <| all_cons (keeps_ro _) <| all_cons (keeps_ro _) <| all_cons (keeps_ro _) <| all_cons (keeps_ro _) <| all_cons (keeps_ro _) <| all_cons (keeps_w1c fun w s => by simp) <| all_cons (keeps_rc fun _ s => by simp) <| all_nil

theorem fieldRow_mem (s : State) (off : Nat) {r : RegRow} (e : s.fieldRow off = some r) : r.Keeps State.HostMem := by
  unfold State.fieldRow at e
  split at e
  · exact keeps_bind (fun _ _ e => chanRow_mem _ _ _ e) e
  exact keeps_atOffset (fieldRows_mem _) e

theorem analogueRow_mem (s : State) (off : Nat) {r : RegRow} (e : s.analogueRow off = some r) : r.Keeps State.HostMem := by
  unfold State.analogueRow at e
  split at e
  · split at e
    · exact keeps_map (fun _ => keeps_ro _) e
    · cases e
  split at e
  · exact keeps_some (keeps_w1c fun w s => by simp) e
  cases e

theorem switchRow_mem (s : State) (l : LoadId) (off : Nat) {r : RegRow} (e : s.switchRow l off = some r) : r.Keeps State.HostMem := by
  unfold State.switchRow at e
  (try dsimp only at e)
  refine keeps_atOffset ?_ e
  exact all_cons (keeps_ro _) <| all_cons (keeps_ro _) <| all_cons (keeps_ro _) <| all_cons (keeps_w1c fun w s => by simp) <| all_cons (keeps_ok fun i w s => by (try dsimp only) <;> split <;> simp) <| all_nil

theorem loadRow_mem (s : State) (off : Nat) {r : RegRow} (e : s.loadRow off = some r) : r.Keeps State.HostMem := by
  unfold State.loadRow at e
  dsimp only at e
  split at e
  · exact keeps_bind (fun _ _ e => switchRow_mem _ _ _ e) e
  refine keeps_atOffset ?_ e
  exact all_cons (keeps_ro _) <| all_cons (keeps_ro _) <| all_cons (keeps_rc fun _ s => by simp) <| all_nil

theorem doorRows_mem (s : State) (d : DoorId) : ∀ x ∈ doorRows s d, x.2.Keeps State.HostMem := by
  unfold doorRows
  exact all_cons (keeps_ro _) <| all_cons (keeps_ro _) <| all_cons (keeps_ro _) <| all_cons (keeps_ro _) <| all_cons (keeps_ro _) <| all_cons (keeps_w1c fun w s => by simp) <| all_cons (keeps_ro _) <| all_cons (keeps_rc fun _ s => by simp) <| all_cons (keeps_ok fun i w s => by simp) <| all_cons (keeps_ok fun i w s => by simp) <| all_cons (keeps_ok fun i w s => by (try dsimp only) <;> split <;> simp) <| all_cons (keeps_ok fun i w s => by simp) <| all_cons (keeps_wo fun i w s t e => jogWrite_mem e) <| all_nil

theorem axisRows_mem (s : State) (a : AxisId) : ∀ x ∈ axisRows s a, x.2.Keeps State.HostMem := by
  unfold axisRows
  exact all_cons (keeps_ro _) <| all_cons (keeps_ro _) <| all_cons (keeps_ro _) <| all_cons (keeps_ro _) <| all_cons (keeps_ro _) <| all_cons (keeps_ro _) <| all_cons (keeps_ro _) <| all_cons (keeps_ro _) <| all_cons (keeps_ro _) <| all_cons (keeps_ro _) <| all_cons (keeps_w1c fun w s => by simp) <| all_cons (keeps_rc fun _ s => by simp) <| all_cons (keeps_ro _) <| all_cons (keeps_ro _) <| all_cons (keeps_ro _) <| all_cons (keeps_ro _) <| all_cons (keeps_ro _) <| all_cons (keeps_ro _) <| all_cons (keeps_rc fun _ s => by simp) <| all_cons (keeps_rc fun _ s => by simp) <| all_cons (keeps_ro _) <| all_nil

theorem axisRow_mem (s : State) (a : AxisId) (off : Nat) {r : RegRow} (e : s.axisRow a off = some r) : r.Keeps State.HostMem := by
  unfold State.axisRow at e
  split at e
  · exact keeps_some (keeps_none rfl rfl rfl) e
  split at e
  · split at e
    · exact keeps_some (keeps_ro _) e
    · cases e
  exact keeps_atOffset (axisRows_mem _ _) e

theorem portRows_mem (s : State) (k : PortId) : ∀ x ∈ portRows s k, x.2.Keeps State.HostMem := by
  unfold portRows
  exact all_cons (keeps_ro _) <| all_cons (keeps_ro _) <| all_cons (keeps_ro _) <| all_cons (keeps_ro _) <| all_cons (keeps_ro _) <| all_cons (keeps_ro _) <| all_cons (keeps_ro _) <| all_cons (keeps_ro _) <| all_cons (keeps_ro _) <| all_cons (keeps_rc fun _ s => by simp) <| all_cons (keeps_rc fun _ s => by simp) <| all_cons (keeps_rc fun _ s => by simp) <| all_cons (keeps_rc fun _ s => by simp) <| all_cons (keeps_rc fun _ s => by simp) <| all_cons (keeps_rc fun _ s => by simp) <| all_cons (keeps_ok fun i w s => by (try dsimp only) <;> split <;> simp) <| all_cons (keeps_ro _) <| all_nil

theorem portRow_mem (s : State) (off : Nat) {r : RegRow} (e : s.portRow off = some r) : r.Keeps State.HostMem := by
  unfold State.portRow at e
  split at e
  · exact keeps_bind (fun _ _ e => keeps_atOffset (portRows_mem _ _) e) e
  split at e
  · exact keeps_some (keeps_ro _) e
  split at e
  · exact keeps_some (keeps_ro _) e
  cases e

theorem traceBlock_mem (s : State) (off : Nat) {r : RegRow} (e : s.traceBlock off = some r) : r.Keeps State.HostMem := by
  unfold State.traceBlock at e
  dsimp only at e
  split at e
  · exact keeps_some (keeps_none rfl rfl rfl) e
  refine keeps_atOffset ?_ e
  exact all_cons (keeps_ok fun i w s => by simp) <| all_cons (keeps_ro _) <| all_cons (keeps_ro _) <| all_cons (keeps_ro _) <| all_nil

end Sys2Proof.Machine
end

