-- ==== Sys2Proof/Laws/Access.lean ====
section
/-! SUPPORT. Reads and writes of the host address space: what they can reach at most, and the canonical form of scratch that they keep. -/

namespace Sys2Proof.Machine

@[simp] theorem State.hostScratch_iff (s t : State) :
    s.HostScratch t ↔ s.HostKept t ∧ (memWf s.mem.scratch = true → memWf t.mem.scratch = true) := Iff.rfl

theorem State.HostScratch.rfl' (s : State) : s.HostScratch s := by simp
theorem State.HostScratch.trans {a b c : State} (h : a.HostScratch b) (k : b.HostScratch c) : a.HostScratch c := by
  simp_all
theorem State.HostMem.scratch {a b : State} (h : a.HostMem b) : a.HostScratch b := by simp_all

/-- What is shown of the last tick is none of it. -/
theorem clearBoth_kept {s : State} {f g : State → State} (h : s.HostScratch (f s)) : s.HostScratch (s.clearBoth f g) := by
  simpa using h

theorem RegRow.Keeps.scratch {r : RegRow} (h : r.Keeps State.HostMem) : r.Keeps State.HostScratch :=
  keeps_mono h fun _ _ h => h.scratch

theorem memRow_kept (s : State) (off : Nat) {r : RegRow} (e : s.memRow off = some r) : r.Keeps State.HostScratch := by
  unfold State.memRow at e
  by_cases h : 0x100 ≤ off ∧ off < 0x180
  · rw [if_pos h] at e
    exact keeps_some (keeps_ro _) e
  rw [if_neg h] at e
  refine keeps_atOffset ?_ e
  have rc : ∀ (q : State) (g : Mem → Nat) (f : Nat → Mem → Mem), (∀ n m, (f n m).scratch = m.scratch) →
      (memRc q g f).Keeps State.HostScratch := fun q g f h => keeps_rc fun n s => by simp [h]
  exact all_cons (keeps_ro _) <| all_cons (keeps_ro _) <| all_cons (keeps_ro _) <| all_cons (rc _ _ _ fun _ _ => rfl) <|
    all_cons (rc _ _ _ fun _ _ => rfl) <| all_cons (rc _ _ _ fun _ _ => rfl) <| all_cons (rc _ _ _ fun _ _ => rfl) <|
    all_cons (rc _ _ _ fun _ _ => rfl) <| all_cons (rc _ _ _ fun _ _ => rfl) <| all_cons (rc _ _ _ fun _ _ => rfl) <|
    all_cons (keeps_ro _) <| all_cons (keeps_ro _) <| all_cons (keeps_w1c fun w s => by simp) <| all_cons (keeps_ro _) <|
    all_cons (keeps_w1c fun w s => by simp) <|
    all_cons (keeps_ok fun i w s => by
      split
      · exact ⟨⟨rfl, rfl, rfl, rfl, rfl, rfl, rfl, rfl, rfl, rfl⟩, Mem.clearPage_wf _ _⟩
      · simp) <| all_nil

theorem ownRow_kept (s : State) (me : Sender) (addr : Nat) {r : RegRow} (e : s.ownRow me addr = some r) :
    r.Keeps State.HostScratch := by
  unfold State.ownRow at e
  by_cases c0 : addr < 0x10000
  · rw [if_pos c0] at e; exact (keeps_atOffset (unitRows_mem s) e).scratch
  rw [if_neg c0] at e
  by_cases c1 : addr < 0x20000
  · rw [if_pos c1] at e; exact (cfgRow_mem _ _ e).scratch
  rw [if_neg c1] at e
  by_cases c2 : addr < 0x30000
  · rw [if_pos c2] at e; exact (keeps_atOffset (hingeRows_mem s) e).scratch
  rw [if_neg c2] at e
  by_cases c3 : addr < 0x40000
  · rw [if_pos c3] at e; exact (boltRow_mem _ _ e).scratch
  rw [if_neg c3] at e
  by_cases c4 : addr < 0x41000
  · rw [if_pos c4] at e; exact (canRow_mem _ _ _ e).scratch
  rw [if_neg c4] at e
  by_cases c5 : addr < 0x42000
  · rw [if_pos c5] at e; exact (canRow_mem _ _ _ e).scratch
  rw [if_neg c5] at e
  by_cases c6 : addr < 0x48000
  · rw [if_pos c6] at e; cases e
  rw [if_neg c6] at e
  by_cases c7 : addr < 0x4A000
  · rw [if_pos c7] at e; exact (rxRow_mem _ _ _ e).scratch
  rw [if_neg c7] at e
  by_cases c8 : addr < 0x4C000
  · rw [if_pos c8] at e; exact (rxRow_mem _ _ _ e).scratch
  rw [if_neg c8] at e
  by_cases c9 : addr < 0x50000
  · rw [if_pos c9] at e; cases e
  rw [if_neg c9] at e
  by_cases c10 : addr < 0x58000
  · rw [if_pos c10] at e; exact (fieldRow_mem _ _ e).scratch
  rw [if_neg c10] at e
  by_cases c11 : addr < 0x60000
  · rw [if_pos c11] at e; exact (analogueRow_mem _ _ e).scratch
  rw [if_neg c11] at e
  by_cases c12 : addr < 0x70000
  · rw [if_pos c12] at e; exact (loadRow_mem _ _ e).scratch
  rw [if_neg c12] at e
  by_cases c13 : addr < 0x80000
  · rw [if_pos c13] at e; exact (recRow_mem _ _ e).scratch
  rw [if_neg c13] at e
  by_cases c14 : addr < 0x90000
  · rw [if_pos c14] at e; exact memRow_kept _ _ e
  rw [if_neg c14] at e
  by_cases c15 : addr < 0xA0000
  · rw [if_pos c15] at e; exact (kwRow_mem _ _ _ e).scratch
  rw [if_neg c15] at e
  by_cases c16 : 0x300000 ≤ addr ∧ addr < 0x310000
  · rw [if_pos c16] at e; exact (portRow_mem _ _ e).scratch
  rw [if_neg c16] at e
  by_cases c17 : 0x400000 ≤ addr ∧ addr < 0x680000
  · rw [if_pos c17] at e; exact (traceBlock_mem _ _ e).scratch
  rw [if_neg c17] at e
  split at e
  · exact (keeps_atOffset (doorRows_mem _ _) e).scratch
  · exact (axisRow_mem _ _ _ e).scratch
  · cases e

theorem liveRow_kept (s : State) (me : Sender) (addr : Nat) {r : RegRow} (e : s.liveRow me addr = some r) :
    r.Keeps State.HostScratch := by
  unfold State.liveRow at e
  split at e
  · exact ownRow_kept _ _ _ e
  · exact keeps_some (keeps_none rfl rfl rfl) e
  · rename_i q h
    have k := ownRow_kept _ _ _ h
    cases e
    exact ⟨k.1, k.2.1, k.2.2⟩

theorem shadowRow_kept (s : State) (me : Sender) (live : Nat) {r : RegRow} (e : s.shadowRow me live = some r) :
    r.Keeps State.HostScratch := by
  unfold State.shadowRow at e
  refine keeps_map (fun q => ?_) e
  dsimp only
  split
  · exact keeps_ro _
  · refine keeps_act rfl rfl rfl fun i w s t e => ?_
    split at e
    · cases e
    · cases e; simp

theorem applyRow_kept (s : State) (b : Block) : (s.applyRow b).Keeps State.HostScratch := by
  refine keeps_act rfl rfl rfl fun i w s t e => ?_
  split at e
  · cases e
  · rw [ok_eq e]
    split <;> simp [State.postApply]

theorem row_kept (s : State) (me : Sender) (addr : Nat) {r : RegRow} (e : s.row me addr = some r) : r.Keeps State.HostScratch := by
  unfold State.row at e
  split at e
  · exact keeps_some (applyRow_kept _ _) e
  · exact shadowRow_kept _ _ _ e
  · exact liveRow_kept _ _ _ e

theorem afterRead_kept (s : State) (me : SessId) (p : Bool) (addr : Nat) : s.HostScratch (s.afterRead me p addr) := by
  unfold State.afterRead
  split
  · split
    · rename_i f h
      rw [Option.bind_eq_some_iff] at h
      obtain ⟨r, h1, h2⟩ := h
      exact clearBoth_kept ((row_kept _ _ _ h1).2.2 f h2 _ s)
    · simp
  · simp

theorem memRan_kept (s : State) (r : MemRun) (h : memWf s.mem.scratch = true → memWf r.m.scratch = true) : s.HostScratch (s.memRan r) := by
  simpa [State.memRan] using h

theorem scratchRead_kept (s : State) (p : Bool) (addr : Nat) : s.HostScratch (s.scratchRead p addr).1 := by
  unfold State.scratchRead
  split
  · simp
  · exact memRan_kept s _ (MemRun.readScratch_wf ⟨s.mem, []⟩ addr)

theorem scratchAll_kept (s : State) (p : Bool) (as : List Nat) : s.HostScratch (s.scratchAll p as).1 := by
  induction as generalizing s with
  | nil => simp [State.scratchAll]
  | cons a as ih =>
    unfold State.scratchAll
    dsimp only
    split
    · exact scratchRead_kept _ _ _
    · split <;> exact (scratchRead_kept s p a).trans (ih _)

theorem fetchWindow_kept (s : State) (as : List Nat) : s.HostScratch (s.fetchWindow as).1 := by
  induction as generalizing s with
  | nil => simp [State.fetchWindow]
  | cons a as ih =>
    unfold State.fetchWindow
    split
    · exact ih s
    · have h := memRan_kept s (MemRun.dmaRead ⟨s.mem, []⟩ ‹_› 1).1 (MemRun.dmaRead_wf ⟨s.mem, []⟩ _ 1)
      dsimp only
      split
      · exact h.trans (ih _)
      · exact h

theorem readWord_kept (s : State) (me : SessId) (p : Bool) (addr : Nat) : s.HostScratch (s.readWord me p addr).1 := by
  unfold State.readWord
  split
  · exact scratchRead_kept _ _ _
  · split
    · simp
    · dsimp only
      split
      · exact fetchWindow_kept _ _
      · exact (fetchWindow_kept _ _).trans (afterRead_kept _ _ _ _)

theorem afterReads_kept (s : State) (me : SessId) (p : Bool) (as : List Nat) :
    s.HostScratch (as.foldl (fun s a => s.afterRead me p a) s) := by
  induction as generalizing s with
  | nil => simp
  | cons a as ih => exact (afterRead_kept s me p a).trans (ih _)

theorem readWords_kept (s : State) (me : SessId) (p : Bool) (as : List Nat) : s.HostScratch (s.readWords me p as).1 := by
  unfold State.readWords
  split
  · split
    · simp
    · exact scratchAll_kept _ _ _
  · split
    · simp
    · dsimp only
      split
      · exact fetchWindow_kept _ _
      · exact (fetchWindow_kept _ _).trans (afterReads_kept _ _ _ _)

theorem writePlace_kept (s : State) (i : Sender) (w : Word) (p : Part) : s.HostMem (s.writePlace i w p).1 := by
  unfold State.writePlace State.postField State.noteClamp
  dsimp only
  (repeat' split) <;> simp

theorem writePlaces_kept (s : State) (i : Sender) (w : Word) (ps : List Part) : s.HostMem (s.writePlaces i w ps).1 := by
  induction ps generalizing s with
  | nil => simp [State.writePlaces]
  | cons p ps ih =>
    have h := writePlace_kept s i w p
    have k := ih (s.writePlace i w p).1
    simp only [State.writePlaces]
    simp_all

theorem writeRow_kept {s : State} {i : Sender} {addr : Nat} {r : RegRow} {w : Word} {x : State × Word} (k : r.Keeps State.HostScratch)
    (e : s.writeRow i addr r w = .ok x) : s.HostScratch x.1 := by
  unfold State.writeRow at e
  dsimp only at e
  by_cases c1 : r.mask = 0 ∧ (r.parts.filter Part.rw).isEmpty = true
  · rw [if_pos c1] at e; cases e
  rw [if_neg c1] at e
  by_cases c2 : (!(r.parts.filter Part.rw).isEmpty && (Option.isSome i && !s.runs || traceConfig addr && s.trace.active)) = true
  · rw [if_pos c2] at e; cases e
  rw [if_neg c2] at e
  have h1 := (writePlaces_kept s i w (r.parts.filter Part.rw)).scratch
  generalize s.writePlaces i w (r.parts.filter Part.rw) = y at e h1
  have fin : ∀ q : State, s.HostScratch q → ∀ u : Word, (match r.act with
      | none => Except.ok (q, u)
      | some f => match f i w q with
        | .error c => .error c
        | .ok q => .ok (q, u) : Except Code (State × Word)) = .ok x → s.HostScratch x.1 := by
    intro q hq u e
    split at e
    · cases e; exact hq
    · rename_i f hf
      split at e
      · cases e
      · rename_i t ht
        cases e; exact hq.trans (k.2.1 f hf _ _ _ _ ht)
  refine fin _ ?_ _ e
  split
  · exact h1.trans (clearBoth_kept (k.1 _ ‹_› _ _))
  · exact h1

theorem writeReg_kept {s : State} {me : SessId} {role : KwRole} {b : Block} {addr : Nat} {w : Word} {x : State × Word}
    (e : s.writeReg me role b addr w = .ok x) : s.HostScratch x.1 := by
  unfold State.writeReg at e
  split at e
  · cases e
  · rename_i r hr
    dsimp only at e
    split at e
    · cases e
    · split at e
      · cases e
      · split at e
        · cases e
        · split at e
          · cases e
          · exact writeRow_kept (row_kept _ _ _ hr) e

theorem scratchWrite_kept (s : State) (me : SessId) (role : KwRole) (addr : Nat) (w : Word) :
    s.HostScratch (s.scratchWrite me role addr w).1 := by
  unfold State.scratchWrite
  split
  · simp
  split
  · simp
  split
  · simp
  exact memRan_kept s _ (MemRun.writeScratch_wf ⟨s.mem, []⟩ addr w)

theorem writeWord_kept (s : State) (me : SessId) (role : KwRole) (addr : Nat) (w : Word) :
    s.HostScratch (s.writeWord me role addr w).1 := by
  unfold State.writeWord
  split
  · simp
  · split
    · exact scratchWrite_kept _ _ _ _ _
    · split
      · simp
      · rename_i e
        have := writeReg_kept e
        unfold State.mirror
        dsimp only
        split <;> simp_all

theorem applyWrite_kept (s : State) (addr : Nat) (w : Word) : s.HostScratch (s.applyWrite addr w) := by
  unfold State.applyWrite
  split
  · simp
  · split
    · simp
    · rename_i r hr
      split
      · exact writeRow_kept (row_kept _ _ _ hr) ‹_›
      · simp

@[simp] theorem State.answer_frame (s : State) (i : SessId) (t : Nat) (x : Reply) :
    (s.answer i t x).tick = s.tick ∧ (s.answer i t x).up = s.up ∧ (s.answer i t x).unit = s.unit ∧
    (s.answer i t x).panel = s.panel ∧ (s.answer i t x).cfg = s.cfg ∧ (s.answer i t x).ports = s.ports ∧
    (s.answer i t x).axes = s.axes ∧ (s.answer i t x).trace = s.trace ∧ (s.answer i t x).doors = s.doors ∧
    (s.answer i t x).il = s.il ∧ (s.answer i t x).io = s.io ∧ (s.answer i t x).can = s.can ∧ (s.answer i t x).hinge = s.hinge ∧
    (s.answer i t x).recorder = s.recorder ∧ (s.answer i t x).mem = s.mem ∧ (s.answer i t x).se = s.se ∧
    (s.answer i t x).fw = s.fw ∧ (s.answer i t x).net = s.net ∧ (s.answer i t x).lostNow = s.lostNow ∧
    (s.answer i t x).shown = s.shown ∧ (s.answer i t x).setNow = s.setNow ∧ (s.answer i t x).taken = s.taken ∧
    (s.answer i t x).taken = s.taken ∧ (s.answer i t x).free = s.free ∧ (s.answer i t x).pending = s.pending := by
  cases x <;> simp [State.answer]

@[simp] theorem State.live_wf (s : State) (b : Bool) (f : State → State) (h : ∀ s, memWf s.mem.scratch = true → memWf (f s).mem.scratch = true)
    (w : memWf s.mem.scratch = true) : memWf (s.live b f).mem.scratch = true := by
  unfold State.live; split
  · exact h s w
  · exact w
@[simp] theorem foldl_wf {α : Type} (f : State → α → State) (l : List α) (s : State)
    (h : ∀ s a, memWf s.mem.scratch = true → memWf (f s a).mem.scratch = true) (w : memWf s.mem.scratch = true) :
    memWf (l.foldl f s).mem.scratch = true := by
  induction l generalizing s with
  | nil => exact w
  | cons a l ih => exact ih _ (h _ _ w)
@[simp] theorem State.onMem_wf (s : State) (f : MemRun → MemRun) (h : ∀ r, memWf r.m.scratch = true → memWf (f r).m.scratch = true)
    (w : memWf s.mem.scratch = true) : memWf (s.onMem f).mem.scratch = true := by
  rw [show (s.onMem f).mem = (f ⟨s.mem, []⟩).m by simp [State.onMem]]; exact h _ w
@[simp] theorem State.afterRead_frame (s : State) (me : SessId) (p : Bool) (addr : Nat) : (s.afterRead me p addr).tick = s.tick ∧ (s.afterRead me p addr).up = s.up ∧ (s.afterRead me p addr).se = s.se ∧ (s.afterRead me p addr).fw = s.fw ∧ (s.afterRead me p addr).lostNow = s.lostNow ∧ (s.afterRead me p addr).taken = s.taken ∧ (s.afterRead me p addr).free = s.free ∧ (s.afterRead me p addr).pending = s.pending ∧ (s.afterRead me p addr).unit.running = s.unit.running := (afterRead_kept s me p addr).1.frame
@[simp] theorem State.afterRead_wf (s : State) (me : SessId) (p : Bool) (addr : Nat) (w : memWf s.mem.scratch = true) : memWf (s.afterRead me p addr).mem.scratch = true := (afterRead_kept s me p addr).2 w
@[simp] theorem State.readWord_frame (s : State) (me : SessId) (p : Bool) (addr : Nat) : ((s.readWord me p addr).1).tick = s.tick ∧ ((s.readWord me p addr).1).up = s.up ∧ ((s.readWord me p addr).1).se = s.se ∧ ((s.readWord me p addr).1).fw = s.fw ∧ ((s.readWord me p addr).1).lostNow = s.lostNow ∧ ((s.readWord me p addr).1).taken = s.taken ∧ ((s.readWord me p addr).1).free = s.free ∧ ((s.readWord me p addr).1).pending = s.pending ∧ ((s.readWord me p addr).1).unit.running = s.unit.running := (readWord_kept s me p addr).1.frame
@[simp] theorem State.readWord_wf (s : State) (me : SessId) (p : Bool) (addr : Nat) (w : memWf s.mem.scratch = true) : memWf ((s.readWord me p addr).1).mem.scratch = true := (readWord_kept s me p addr).2 w
@[simp] theorem State.readWords_frame (s : State) (me : SessId) (p : Bool) (as : List Nat) : ((s.readWords me p as).1).tick = s.tick ∧ ((s.readWords me p as).1).up = s.up ∧ ((s.readWords me p as).1).se = s.se ∧ ((s.readWords me p as).1).fw = s.fw ∧ ((s.readWords me p as).1).lostNow = s.lostNow ∧ ((s.readWords me p as).1).taken = s.taken ∧ ((s.readWords me p as).1).free = s.free ∧ ((s.readWords me p as).1).pending = s.pending ∧ ((s.readWords me p as).1).unit.running = s.unit.running := (readWords_kept s me p as).1.frame
@[simp] theorem State.readWords_wf (s : State) (me : SessId) (p : Bool) (as : List Nat) (w : memWf s.mem.scratch = true) : memWf ((s.readWords me p as).1).mem.scratch = true := (readWords_kept s me p as).2 w
@[simp] theorem State.scratchRead_frame (s : State) (p : Bool) (addr : Nat) : ((s.scratchRead p addr).1).tick = s.tick ∧ ((s.scratchRead p addr).1).up = s.up ∧ ((s.scratchRead p addr).1).se = s.se ∧ ((s.scratchRead p addr).1).fw = s.fw ∧ ((s.scratchRead p addr).1).lostNow = s.lostNow ∧ ((s.scratchRead p addr).1).taken = s.taken ∧ ((s.scratchRead p addr).1).free = s.free ∧ ((s.scratchRead p addr).1).pending = s.pending ∧ ((s.scratchRead p addr).1).unit.running = s.unit.running := (scratchRead_kept s p addr).1.frame
@[simp] theorem State.scratchRead_wf (s : State) (p : Bool) (addr : Nat) (w : memWf s.mem.scratch = true) : memWf ((s.scratchRead p addr).1).mem.scratch = true := (scratchRead_kept s p addr).2 w
@[simp] theorem State.scratchWrite_frame (s : State) (me : SessId) (role : KwRole) (addr : Nat) (w' : Word) : ((s.scratchWrite me role addr w').1).tick = s.tick ∧ ((s.scratchWrite me role addr w').1).up = s.up ∧ ((s.scratchWrite me role addr w').1).se = s.se ∧ ((s.scratchWrite me role addr w').1).fw = s.fw ∧ ((s.scratchWrite me role addr w').1).lostNow = s.lostNow ∧ ((s.scratchWrite me role addr w').1).taken = s.taken ∧ ((s.scratchWrite me role addr w').1).free = s.free ∧ ((s.scratchWrite me role addr w').1).pending = s.pending ∧ ((s.scratchWrite me role addr w').1).unit.running = s.unit.running := (scratchWrite_kept s me role addr w').1.frame
@[simp] theorem State.scratchWrite_wf (s : State) (me : SessId) (role : KwRole) (addr : Nat) (w' : Word) (w : memWf s.mem.scratch = true) : memWf ((s.scratchWrite me role addr w').1).mem.scratch = true := (scratchWrite_kept s me role addr w').2 w
@[simp] theorem State.writeWord_frame (s : State) (me : SessId) (role : KwRole) (addr : Nat) (w' : Word) : ((s.writeWord me role addr w').1).tick = s.tick ∧ ((s.writeWord me role addr w').1).up = s.up ∧ ((s.writeWord me role addr w').1).se = s.se ∧ ((s.writeWord me role addr w').1).fw = s.fw ∧ ((s.writeWord me role addr w').1).lostNow = s.lostNow ∧ ((s.writeWord me role addr w').1).taken = s.taken ∧ ((s.writeWord me role addr w').1).free = s.free ∧ ((s.writeWord me role addr w').1).pending = s.pending ∧ ((s.writeWord me role addr w').1).unit.running = s.unit.running := (writeWord_kept s me role addr w').1.frame
@[simp] theorem State.writeWord_wf (s : State) (me : SessId) (role : KwRole) (addr : Nat) (w' : Word) (w : memWf s.mem.scratch = true) : memWf ((s.writeWord me role addr w').1).mem.scratch = true := (writeWord_kept s me role addr w').2 w
@[simp] theorem State.applyWrite_frame (s : State) (addr : Nat) (w' : Word) : (s.applyWrite addr w').tick = s.tick ∧ (s.applyWrite addr w').up = s.up ∧ (s.applyWrite addr w').se = s.se ∧ (s.applyWrite addr w').fw = s.fw ∧ (s.applyWrite addr w').lostNow = s.lostNow ∧ (s.applyWrite addr w').taken = s.taken ∧ (s.applyWrite addr w').free = s.free ∧ (s.applyWrite addr w').pending = s.pending ∧ (s.applyWrite addr w').unit.running = s.unit.running := (applyWrite_kept s addr w').1.frame
@[simp] theorem State.applyWrite_wf (s : State) (addr : Nat) (w' : Word) (w : memWf s.mem.scratch = true) : memWf (s.applyWrite addr w').mem.scratch = true := (applyWrite_kept s addr w').2 w
@[simp] theorem State.mirror_frame (s : State) (m : MirrorRec) : (s.mirror m).tick = s.tick ∧ (s.mirror m).up = s.up ∧ (s.mirror m).unit = s.unit ∧ (s.mirror m).panel = s.panel ∧ (s.mirror m).cfg = s.cfg ∧ (s.mirror m).ports = s.ports ∧ (s.mirror m).axes = s.axes ∧ (s.mirror m).trace = s.trace ∧ (s.mirror m).doors = s.doors ∧ (s.mirror m).il = s.il ∧ (s.mirror m).io = s.io ∧ (s.mirror m).can = s.can ∧ (s.mirror m).recorder = s.recorder ∧ (s.mirror m).mem = s.mem ∧ (s.mirror m).kw = s.kw ∧ (s.mirror m).se = s.se ∧ (s.mirror m).fw = s.fw ∧ (s.mirror m).net = s.net ∧ (s.mirror m).lostNow = s.lostNow ∧ (s.mirror m).shown = s.shown ∧ (s.mirror m).setNow = s.setNow ∧ (s.mirror m).taken = s.taken ∧ (s.mirror m).free = s.free ∧ (s.mirror m).pending = s.pending := by
  unfold State.mirror; split <;> simp

@[simp] theorem State.noteClamp_frame (s : State) (f elem : Nat) (used : Int) (why : Reason) :
    (s.noteClamp f elem used why).tick = s.tick ∧ (s.noteClamp f elem used why).up = s.up ∧
    (s.noteClamp f elem used why).unit = s.unit ∧ (s.noteClamp f elem used why).panel = s.panel ∧
    (s.noteClamp f elem used why).ports = s.ports ∧ (s.noteClamp f elem used why).axes = s.axes ∧
    (s.noteClamp f elem used why).doors = s.doors ∧ (s.noteClamp f elem used why).il = s.il ∧
    (s.noteClamp f elem used why).io = s.io ∧ (s.noteClamp f elem used why).can = s.can ∧
    (s.noteClamp f elem used why).hinge = s.hinge ∧ (s.noteClamp f elem used why).mem = s.mem ∧
    (s.noteClamp f elem used why).se = s.se ∧ (s.noteClamp f elem used why).fw = s.fw ∧
    (s.noteClamp f elem used why).net = s.net ∧ (s.noteClamp f elem used why).lostNow = s.lostNow ∧
    (s.noteClamp f elem used why).shown = s.shown ∧ (s.noteClamp f elem used why).taken = s.taken ∧ (s.noteClamp f elem used why).free = s.free ∧
    (s.noteClamp f elem used why).pending = s.pending := by simp [State.noteClamp]

@[simp] theorem State.postField_frame (s : State) (t : Tick) (p : Part) (v : Int) :
    (s.postField t p v).tick = s.tick ∧ (s.postField t p v).up = s.up ∧ (s.postField t p v).unit = s.unit ∧
    (s.postField t p v).panel = s.panel ∧ (s.postField t p v).ports = s.ports ∧ (s.postField t p v).axes = s.axes ∧
    (s.postField t p v).trace = s.trace ∧ (s.postField t p v).doors = s.doors ∧ (s.postField t p v).il = s.il ∧
    (s.postField t p v).io = s.io ∧ (s.postField t p v).can = s.can ∧ (s.postField t p v).hinge = s.hinge ∧
    (s.postField t p v).recorder = s.recorder ∧ (s.postField t p v).mem = s.mem ∧ (s.postField t p v).kw = s.kw ∧
    (s.postField t p v).se = s.se ∧ (s.postField t p v).fw = s.fw ∧ (s.postField t p v).net = s.net ∧
    (s.postField t p v).lostNow = s.lostNow ∧ (s.postField t p v).shown = s.shown ∧ (s.postField t p v).setNow = s.setNow ∧
    (s.postField t p v).taken = s.taken ∧ (s.postField t p v).free = s.free ∧ (s.postField t p v).pending = s.pending := by unfold State.postField; split <;> simp

@[simp] theorem State.writePlace_frame (s : State) (i : Sender) (w : Word) (p : Part) :
    (s.writePlace i w p).1.tick = s.tick ∧ (s.writePlace i w p).1.up = s.up ∧ (s.writePlace i w p).1.unit = s.unit ∧
    (s.writePlace i w p).1.panel = s.panel ∧ (s.writePlace i w p).1.ports = s.ports ∧ (s.writePlace i w p).1.axes = s.axes ∧
    (s.writePlace i w p).1.doors = s.doors ∧ (s.writePlace i w p).1.il = s.il ∧ (s.writePlace i w p).1.io = s.io ∧
    (s.writePlace i w p).1.can = s.can ∧ (s.writePlace i w p).1.hinge = s.hinge ∧ (s.writePlace i w p).1.mem = s.mem ∧
    (s.writePlace i w p).1.se = s.se ∧ (s.writePlace i w p).1.fw = s.fw ∧ (s.writePlace i w p).1.net = s.net ∧
    (s.writePlace i w p).1.lostNow = s.lostNow ∧ (s.writePlace i w p).1.shown = s.shown ∧
    (s.writePlace i w p).1.taken = s.taken ∧ (s.writePlace i w p).1.free = s.free ∧ (s.writePlace i w p).1.pending = s.pending := by unfold State.writePlace; dsimp only; split <;> simp

@[simp] theorem State.writePlaces_frame (s : State) (i : Sender) (w : Word) (ps : List Part) :
    (s.writePlaces i w ps).1.tick = s.tick ∧ (s.writePlaces i w ps).1.up = s.up ∧ (s.writePlaces i w ps).1.unit = s.unit ∧
    (s.writePlaces i w ps).1.panel = s.panel ∧ (s.writePlaces i w ps).1.ports = s.ports ∧
    (s.writePlaces i w ps).1.axes = s.axes ∧ (s.writePlaces i w ps).1.doors = s.doors ∧ (s.writePlaces i w ps).1.il = s.il ∧
    (s.writePlaces i w ps).1.io = s.io ∧ (s.writePlaces i w ps).1.can = s.can ∧ (s.writePlaces i w ps).1.hinge = s.hinge ∧
    (s.writePlaces i w ps).1.mem = s.mem ∧ (s.writePlaces i w ps).1.se = s.se ∧ (s.writePlaces i w ps).1.fw = s.fw ∧
    (s.writePlaces i w ps).1.net = s.net ∧ (s.writePlaces i w ps).1.lostNow = s.lostNow ∧
    (s.writePlaces i w ps).1.shown = s.shown ∧ (s.writePlaces i w ps).1.taken = s.taken ∧ (s.writePlaces i w ps).1.free = s.free ∧
    (s.writePlaces i w ps).1.pending = s.pending := by
  induction ps generalizing s with
  | nil => simp [State.writePlaces]
  | cons p ps ih => simp only [State.writePlaces]; simp [ih]

end Sys2Proof.Machine
end

