-- ==== Sys2Proof/Laws/Module.lean ====
section
/-! SUPPORT. For every operation `X`, `X_frame` names the fields of State that it leaves as they are: boundary, census, Keyway, panel, start, pair and cycles. `X_wf` says that the operation keeps the canonical form of scratch. -/

namespace Sys2Proof.Machine

@[simp] theorem State.followField_frame (s : State) (row elem : Nat) (v : Int) :
    (s.followField row elem v).tick = s.tick ∧ (s.followField row elem v).up = s.up ∧
    (s.followField row elem v).unit = s.unit ∧ (s.followField row elem v).panel = s.panel ∧
    (s.followField row elem v).cfg = s.cfg ∧ (s.followField row elem v).ports = s.ports ∧
    (s.followField row elem v).trace = s.trace ∧ (s.followField row elem v).doors = s.doors ∧
    (s.followField row elem v).il = s.il ∧ (s.followField row elem v).io = s.io ∧ (s.followField row elem v).can = s.can ∧
    (s.followField row elem v).hinge = s.hinge ∧ (s.followField row elem v).recorder = s.recorder ∧
    (s.followField row elem v).kw = s.kw ∧ (s.followField row elem v).se = s.se ∧ (s.followField row elem v).fw = s.fw ∧
    (s.followField row elem v).net = s.net ∧ (s.followField row elem v).lostNow = s.lostNow ∧
    (s.followField row elem v).shown = s.shown ∧ (s.followField row elem v).setNow = s.setNow ∧
    (s.followField row elem v).taken = s.taken ∧ (s.followField row elem v).free = s.free ∧ (s.followField row elem v).pending = s.pending := by unfold State.followField; (repeat' split) <;> simp

@[simp] theorem State.followField_wf (s : State) (row elem : Nat) (v : Int) (h : memWf s.mem.scratch = true) :
    memWf (s.followField row elem v).mem.scratch = true := by unfold State.followField; dsimp only; (repeat' split) <;> simp [h]

@[simp] theorem State.followField_scratch (s : State) (row elem : Nat) (v : Int) :
    (s.followField row elem v).mem.scratch = s.mem.scratch := by unfold State.followField; dsimp only; (repeat' split) <;> simp

@[simp] theorem State.setField_frame (s : State) (row elem item : Nat) (v : Int) :
    (s.setField row elem item v).tick = s.tick ∧ (s.setField row elem item v).up = s.up ∧
    (s.setField row elem item v).unit = s.unit ∧ (s.setField row elem item v).panel = s.panel ∧
    (s.setField row elem item v).ports = s.ports ∧ (s.setField row elem item v).trace = s.trace ∧
    (s.setField row elem item v).doors = s.doors ∧ (s.setField row elem item v).il = s.il ∧
    (s.setField row elem item v).io = s.io ∧ (s.setField row elem item v).can = s.can ∧
    (s.setField row elem item v).recorder = s.recorder ∧ (s.setField row elem item v).kw = s.kw ∧
    (s.setField row elem item v).se = s.se ∧ (s.setField row elem item v).fw = s.fw ∧
    (s.setField row elem item v).net = s.net ∧ (s.setField row elem item v).lostNow = s.lostNow ∧
    (s.setField row elem item v).shown = s.shown ∧ (s.setField row elem item v).setNow = s.setNow ∧
    (s.setField row elem item v).taken = s.taken ∧ (s.setField row elem item v).free = s.free ∧ (s.setField row elem item v).pending = s.pending := by simp [State.setField]

@[simp] theorem State.setField_wf (s : State) (row elem item : Nat) (v : Int) (h : memWf s.mem.scratch = true) :
    memWf (s.setField row elem item v).mem.scratch = true := by simp [State.setField, h]

@[simp] theorem State.applyPlace_frame (ps : List (Part × Word)) (s : State) (x : Part × Word) :
    (State.applyPlace ps s x).tick = s.tick ∧ (State.applyPlace ps s x).up = s.up ∧ (State.applyPlace ps s x).unit = s.unit ∧
    (State.applyPlace ps s x).panel = s.panel ∧ (State.applyPlace ps s x).ports = s.ports ∧
    (State.applyPlace ps s x).doors = s.doors ∧ (State.applyPlace ps s x).il = s.il ∧ (State.applyPlace ps s x).io = s.io ∧
    (State.applyPlace ps s x).can = s.can ∧ (State.applyPlace ps s x).se = s.se ∧ (State.applyPlace ps s x).fw = s.fw ∧
    (State.applyPlace ps s x).net = s.net ∧ (State.applyPlace ps s x).lostNow = s.lostNow ∧
    (State.applyPlace ps s x).shown = s.shown ∧ (State.applyPlace ps s x).taken = s.taken ∧ (State.applyPlace ps s x).free = s.free ∧
    (State.applyPlace ps s x).pending = s.pending := by unfold State.applyPlace; dsimp only; split <;> simp

@[simp] theorem State.applyPlace_wf (ps : List (Part × Word)) (s : State) (x : Part × Word) (h : memWf s.mem.scratch = true) :
    memWf (State.applyPlace ps s x).mem.scratch = true := by unfold State.applyPlace; dsimp only; split <;> simp [h]

@[simp] theorem State.applyShadows_frame (s : State) (b : Block) :
    (s.applyShadows b).tick = s.tick ∧ (s.applyShadows b).up = s.up ∧ (s.applyShadows b).unit = s.unit ∧
    (s.applyShadows b).panel = s.panel ∧ (s.applyShadows b).ports = s.ports ∧ (s.applyShadows b).doors = s.doors ∧
    (s.applyShadows b).il = s.il ∧ (s.applyShadows b).io = s.io ∧ (s.applyShadows b).can = s.can ∧
    (s.applyShadows b).se = s.se ∧ (s.applyShadows b).fw = s.fw ∧ (s.applyShadows b).net = s.net ∧
    (s.applyShadows b).lostNow = s.lostNow ∧ (s.applyShadows b).shown = s.shown ∧ (s.applyShadows b).taken = s.taken ∧ (s.applyShadows b).free = s.free ∧
    (s.applyShadows b).pending = s.pending := by simp [State.applyShadows]

@[simp] theorem State.applyShadows_wf (s : State) (b : Block) (h : memWf s.mem.scratch = true) :
    memWf (s.applyShadows b).mem.scratch = true := by simp +contextual [State.applyShadows, h]

@[simp] theorem State.takeEntry_frame (s : State) (e : Tick × Nat × Bool × Nat × Int) :
    (s.takeEntry e).tick = s.tick ∧ (s.takeEntry e).up = s.up ∧ (s.takeEntry e).unit = s.unit ∧
    (s.takeEntry e).panel = s.panel ∧ (s.takeEntry e).cfg = s.cfg ∧ (s.takeEntry e).ports = s.ports ∧
    (s.takeEntry e).trace = s.trace ∧ (s.takeEntry e).doors = s.doors ∧ (s.takeEntry e).il = s.il ∧
    (s.takeEntry e).io = s.io ∧ (s.takeEntry e).can = s.can ∧ (s.takeEntry e).hinge = s.hinge ∧
    (s.takeEntry e).recorder = s.recorder ∧ (s.takeEntry e).mem = s.mem ∧ (s.takeEntry e).kw = s.kw ∧
    (s.takeEntry e).se = s.se ∧ (s.takeEntry e).fw = s.fw ∧ (s.takeEntry e).net = s.net ∧
    (s.takeEntry e).lostNow = s.lostNow ∧ (s.takeEntry e).shown = s.shown ∧ (s.takeEntry e).setNow = s.setNow ∧
    (s.takeEntry e).taken = s.taken ∧ (s.takeEntry e).free = s.free ∧ (s.takeEntry e).pending = s.pending := by unfold State.takeEntry; split <;> simp

@[simp] theorem State.tableBoundary_frame (s : State) :
    s.tableBoundary.tick = s.tick ∧ s.tableBoundary.up = s.up ∧ s.tableBoundary.unit = s.unit ∧
    s.tableBoundary.panel = s.panel ∧ s.tableBoundary.ports = s.ports ∧ s.tableBoundary.il = s.il ∧
    s.tableBoundary.io = s.io ∧ s.tableBoundary.can = s.can ∧ s.tableBoundary.mem = s.mem ∧ s.tableBoundary.se = s.se ∧
    s.tableBoundary.fw = s.fw ∧ s.tableBoundary.net = s.net ∧ s.tableBoundary.lostNow = s.lostNow ∧
    s.tableBoundary.shown = s.shown ∧ s.tableBoundary.taken = s.taken ∧ s.tableBoundary.free = s.free ∧ s.tableBoundary.pending = s.pending := by simp [State.tableBoundary]

@[simp] theorem State.takeWrite_frame (s : State) (w : DueWrite) :
    (s.takeWrite w).tick = s.tick ∧ (s.takeWrite w).up = s.up ∧ (s.takeWrite w).unit = s.unit ∧
    (s.takeWrite w).panel = s.panel ∧ (s.takeWrite w).ports = s.ports ∧ (s.takeWrite w).doors = s.doors ∧
    (s.takeWrite w).il = s.il ∧ (s.takeWrite w).io = s.io ∧ (s.takeWrite w).can = s.can ∧ (s.takeWrite w).se = s.se ∧
    (s.takeWrite w).fw = s.fw ∧ (s.takeWrite w).net = s.net ∧ (s.takeWrite w).lostNow = s.lostNow ∧
    (s.takeWrite w).shown = s.shown ∧ (s.takeWrite w).taken = s.taken ∧ (s.takeWrite w).free = s.free ∧ (s.takeWrite w).pending = s.pending := by unfold State.takeWrite; (repeat' split) <;> simp

@[simp] theorem State.takeWrite_wf (s : State) (w : DueWrite) (h : memWf s.mem.scratch = true) :
    memWf (s.takeWrite w).mem.scratch = true := by
  unfold State.takeWrite
  (try dsimp only) <;> (repeat' split) <;> (try simp +contextual [h]) <;> (repeat' split) <;> (try simp +contextual [h])

@[simp] theorem State.learnBoundary_frame (s : State) (d : DoorId) :
    (s.learnBoundary d).tick = s.tick ∧ (s.learnBoundary d).up = s.up ∧ (s.learnBoundary d).unit = s.unit ∧
    (s.learnBoundary d).panel = s.panel ∧ (s.learnBoundary d).cfg = s.cfg ∧ (s.learnBoundary d).ports = s.ports ∧
    (s.learnBoundary d).il = s.il ∧ (s.learnBoundary d).io = s.io ∧ (s.learnBoundary d).can = s.can ∧
    (s.learnBoundary d).mem = s.mem ∧ (s.learnBoundary d).se = s.se ∧ (s.learnBoundary d).fw = s.fw ∧
    (s.learnBoundary d).net = s.net ∧ (s.learnBoundary d).lostNow = s.lostNow ∧ (s.learnBoundary d).shown = s.shown ∧
    (s.learnBoundary d).taken = s.taken ∧ (s.learnBoundary d).free = s.free ∧ (s.learnBoundary d).pending = s.pending := by unfold State.learnBoundary; (repeat' split) <;> simp

@[simp] theorem State.boundary_frame (s : State) :
    s.boundary.tick = s.tick ∧ s.boundary.up = s.up ∧ s.boundary.unit = s.unit ∧ s.boundary.panel = s.panel ∧
    s.boundary.ports = s.ports ∧ s.boundary.il = s.il ∧ s.boundary.io = s.io ∧ s.boundary.can = s.can ∧ s.boundary.se = s.se ∧
    s.boundary.fw = s.fw ∧ s.boundary.net = s.net ∧ s.boundary.lostNow = s.lostNow ∧ s.boundary.shown = s.shown ∧
    s.boundary.taken = s.taken ∧ s.boundary.free = s.free ∧ s.boundary.pending = s.pending := by simp [State.boundary]

@[simp] theorem State.boundary_wf (s : State) (h : memWf s.mem.scratch = true) :
    memWf s.boundary.mem.scratch = true := by simp +contextual [State.boundary, h]

@[simp] theorem State.recomputeBits_frame (s : State) :
    s.recomputeBits.tick = s.tick ∧ s.recomputeBits.up = s.up ∧ s.recomputeBits.unit = s.unit ∧
    s.recomputeBits.panel = s.panel ∧ s.recomputeBits.ports = s.ports ∧ s.recomputeBits.axes = s.axes ∧
    s.recomputeBits.trace = s.trace ∧ s.recomputeBits.doors = s.doors ∧ s.recomputeBits.il = s.il ∧
    s.recomputeBits.io = s.io ∧ s.recomputeBits.can = s.can ∧ s.recomputeBits.hinge = s.hinge ∧
    s.recomputeBits.recorder = s.recorder ∧ s.recomputeBits.mem = s.mem ∧ s.recomputeBits.kw = s.kw ∧
    s.recomputeBits.se = s.se ∧ s.recomputeBits.fw = s.fw ∧ s.recomputeBits.net = s.net ∧
    s.recomputeBits.lostNow = s.lostNow ∧ s.recomputeBits.shown = s.shown ∧ s.recomputeBits.setNow = s.setNow ∧
    s.recomputeBits.taken = s.taken ∧ s.recomputeBits.free = s.free ∧ s.recomputeBits.pending = s.pending := by unfold State.recomputeBits; (repeat' split) <;> simp

@[simp] theorem State.onNet_frame (s : State) (f : Net → Net) :
    (s.onNet f).tick = s.tick ∧ (s.onNet f).up = s.up ∧ (s.onNet f).unit = s.unit ∧ (s.onNet f).panel = s.panel ∧
    (s.onNet f).cfg = s.cfg ∧ (s.onNet f).ports = s.ports ∧ (s.onNet f).axes = s.axes ∧ (s.onNet f).trace = s.trace ∧
    (s.onNet f).doors = s.doors ∧ (s.onNet f).il = s.il ∧ (s.onNet f).io = s.io ∧ (s.onNet f).can = s.can ∧
    (s.onNet f).hinge = s.hinge ∧ (s.onNet f).recorder = s.recorder ∧ (s.onNet f).mem = s.mem ∧ (s.onNet f).kw = s.kw ∧
    (s.onNet f).se = s.se ∧ (s.onNet f).fw = s.fw ∧ (s.onNet f).lostNow = s.lostNow ∧ (s.onNet f).shown = s.shown ∧
    (s.onNet f).setNow = s.setNow ∧ (s.onNet f).taken = s.taken ∧ (s.onNet f).free = s.free ∧ (s.onNet f).pending = s.pending := by simp [State.onNet]

@[simp] theorem State.takeStatic_frame (s : State) (k : Bool) :
    (s.takeStatic k).tick = s.tick ∧ (s.takeStatic k).up = s.up ∧ (s.takeStatic k).unit = s.unit ∧
    (s.takeStatic k).panel = s.panel ∧ (s.takeStatic k).cfg = s.cfg ∧ (s.takeStatic k).ports = s.ports ∧
    (s.takeStatic k).axes = s.axes ∧ (s.takeStatic k).trace = s.trace ∧ (s.takeStatic k).doors = s.doors ∧
    (s.takeStatic k).il = s.il ∧ (s.takeStatic k).io = s.io ∧ (s.takeStatic k).can = s.can ∧
    (s.takeStatic k).hinge = s.hinge ∧ (s.takeStatic k).recorder = s.recorder ∧ (s.takeStatic k).mem = s.mem ∧
    (s.takeStatic k).kw = s.kw ∧ (s.takeStatic k).se = s.se ∧ (s.takeStatic k).fw = s.fw ∧
    (s.takeStatic k).lostNow = s.lostNow ∧ (s.takeStatic k).shown = s.shown ∧ (s.takeStatic k).setNow = s.setNow ∧
    (s.takeStatic k).taken = s.taken ∧ (s.takeStatic k).free = s.free ∧ (s.takeStatic k).pending = s.pending := by unfold State.takeStatic; split <;> simp

@[simp] theorem State.singleAddress_frame (s : State) :
    s.singleAddress.tick = s.tick ∧ s.singleAddress.up = s.up ∧ s.singleAddress.unit = s.unit ∧
    s.singleAddress.panel = s.panel ∧ s.singleAddress.cfg = s.cfg ∧ s.singleAddress.ports = s.ports ∧
    s.singleAddress.axes = s.axes ∧ s.singleAddress.trace = s.trace ∧ s.singleAddress.doors = s.doors ∧
    s.singleAddress.il = s.il ∧ s.singleAddress.io = s.io ∧ s.singleAddress.can = s.can ∧ s.singleAddress.hinge = s.hinge ∧
    s.singleAddress.recorder = s.recorder ∧ s.singleAddress.mem = s.mem ∧ s.singleAddress.kw = s.kw ∧
    s.singleAddress.se = s.se ∧ s.singleAddress.fw = s.fw ∧ s.singleAddress.lostNow = s.lostNow ∧
    s.singleAddress.shown = s.shown ∧ s.singleAddress.setNow = s.setNow ∧ s.singleAddress.taken = s.taken ∧ s.singleAddress.free = s.free ∧
    s.singleAddress.pending = s.pending := by unfold State.singleAddress; split <;> simp

@[simp] theorem State.pairAddress_frame (s : State) :
    s.pairAddress.tick = s.tick ∧ s.pairAddress.up = s.up ∧ s.pairAddress.unit = s.unit ∧ s.pairAddress.panel = s.panel ∧
    s.pairAddress.cfg = s.cfg ∧ s.pairAddress.ports = s.ports ∧ s.pairAddress.axes = s.axes ∧ s.pairAddress.trace = s.trace ∧
    s.pairAddress.doors = s.doors ∧ s.pairAddress.il = s.il ∧ s.pairAddress.io = s.io ∧ s.pairAddress.can = s.can ∧
    s.pairAddress.hinge = s.hinge ∧ s.pairAddress.recorder = s.recorder ∧ s.pairAddress.mem = s.mem ∧
    s.pairAddress.kw = s.kw ∧ s.pairAddress.se = s.se ∧ s.pairAddress.fw = s.fw ∧ s.pairAddress.lostNow = s.lostNow ∧
    s.pairAddress.shown = s.shown ∧ s.pairAddress.setNow = s.setNow ∧ s.pairAddress.taken = s.taken ∧ s.pairAddress.free = s.free ∧
    s.pairAddress.pending = s.pending := by unfold State.pairAddress; (repeat' split) <;> simp

@[simp] theorem State.probeAddress_frame (s : State) (answered : Bool) :
    (s.probeAddress answered).tick = s.tick ∧ (s.probeAddress answered).up = s.up ∧ (s.probeAddress answered).unit = s.unit ∧
    (s.probeAddress answered).panel = s.panel ∧ (s.probeAddress answered).cfg = s.cfg ∧
    (s.probeAddress answered).ports = s.ports ∧ (s.probeAddress answered).axes = s.axes ∧
    (s.probeAddress answered).trace = s.trace ∧ (s.probeAddress answered).doors = s.doors ∧
    (s.probeAddress answered).il = s.il ∧ (s.probeAddress answered).io = s.io ∧ (s.probeAddress answered).can = s.can ∧
    (s.probeAddress answered).hinge = s.hinge ∧ (s.probeAddress answered).recorder = s.recorder ∧
    (s.probeAddress answered).mem = s.mem ∧ (s.probeAddress answered).kw = s.kw ∧ (s.probeAddress answered).se = s.se ∧
    (s.probeAddress answered).fw = s.fw ∧ (s.probeAddress answered).lostNow = s.lostNow ∧
    (s.probeAddress answered).shown = s.shown ∧ (s.probeAddress answered).setNow = s.setNow ∧
    (s.probeAddress answered).taken = s.taken ∧ (s.probeAddress answered).free = s.free ∧ (s.probeAddress answered).pending = s.pending := by unfold State.probeAddress; split <;> simp

@[simp] theorem State.leased_frame (s : State) (ip : Word) (prefixLen : Nat) :
    (s.leased ip prefixLen).tick = s.tick ∧ (s.leased ip prefixLen).up = s.up ∧ (s.leased ip prefixLen).unit = s.unit ∧
    (s.leased ip prefixLen).panel = s.panel ∧ (s.leased ip prefixLen).cfg = s.cfg ∧ (s.leased ip prefixLen).ports = s.ports ∧
    (s.leased ip prefixLen).axes = s.axes ∧ (s.leased ip prefixLen).trace = s.trace ∧
    (s.leased ip prefixLen).doors = s.doors ∧ (s.leased ip prefixLen).il = s.il ∧ (s.leased ip prefixLen).io = s.io ∧
    (s.leased ip prefixLen).can = s.can ∧ (s.leased ip prefixLen).hinge = s.hinge ∧
    (s.leased ip prefixLen).recorder = s.recorder ∧ (s.leased ip prefixLen).mem = s.mem ∧ (s.leased ip prefixLen).kw = s.kw ∧
    (s.leased ip prefixLen).se = s.se ∧ (s.leased ip prefixLen).fw = s.fw ∧ (s.leased ip prefixLen).lostNow = s.lostNow ∧
    (s.leased ip prefixLen).shown = s.shown ∧ (s.leased ip prefixLen).setNow = s.setNow ∧
    (s.leased ip prefixLen).taken = s.taken ∧ (s.leased ip prefixLen).free = s.free ∧ (s.leased ip prefixLen).pending = s.pending := by unfold State.leased; split <;> simp

@[simp] theorem State.linkLocal_frame (s : State) (ip : Word) :
    (s.linkLocal ip).tick = s.tick ∧ (s.linkLocal ip).up = s.up ∧ (s.linkLocal ip).unit = s.unit ∧
    (s.linkLocal ip).panel = s.panel ∧ (s.linkLocal ip).cfg = s.cfg ∧ (s.linkLocal ip).ports = s.ports ∧
    (s.linkLocal ip).axes = s.axes ∧ (s.linkLocal ip).trace = s.trace ∧ (s.linkLocal ip).doors = s.doors ∧
    (s.linkLocal ip).il = s.il ∧ (s.linkLocal ip).io = s.io ∧ (s.linkLocal ip).can = s.can ∧
    (s.linkLocal ip).hinge = s.hinge ∧ (s.linkLocal ip).recorder = s.recorder ∧ (s.linkLocal ip).mem = s.mem ∧
    (s.linkLocal ip).kw = s.kw ∧ (s.linkLocal ip).se = s.se ∧ (s.linkLocal ip).fw = s.fw ∧
    (s.linkLocal ip).lostNow = s.lostNow ∧ (s.linkLocal ip).shown = s.shown ∧ (s.linkLocal ip).setNow = s.setNow ∧
    (s.linkLocal ip).taken = s.taken ∧ (s.linkLocal ip).free = s.free ∧ (s.linkLocal ip).pending = s.pending := by unfold State.linkLocal; split <;> simp

@[simp] theorem State.censusSend_frame (s : State) :
    s.censusSend.tick = s.tick ∧ s.censusSend.up = s.up ∧ s.censusSend.unit = s.unit ∧ s.censusSend.panel = s.panel ∧
    s.censusSend.cfg = s.cfg ∧ s.censusSend.ports = s.ports ∧ s.censusSend.axes = s.axes ∧ s.censusSend.trace = s.trace ∧
    s.censusSend.doors = s.doors ∧ s.censusSend.il = s.il ∧ s.censusSend.io = s.io ∧ s.censusSend.can = s.can ∧
    s.censusSend.hinge = s.hinge ∧ s.censusSend.recorder = s.recorder ∧ s.censusSend.mem = s.mem ∧ s.censusSend.kw = s.kw ∧
    s.censusSend.se = s.se ∧ s.censusSend.fw = s.fw ∧ s.censusSend.lostNow = s.lostNow ∧ s.censusSend.shown = s.shown ∧
    s.censusSend.setNow = s.setNow ∧ s.censusSend.taken = s.taken ∧ s.censusSend.free = s.free ∧ s.censusSend.pending = s.pending := by unfold State.censusSend; split <;> simp

@[simp] theorem State.censusTurn_frame (s : State) :
    s.censusTurn.tick = s.tick ∧ s.censusTurn.up = s.up ∧ s.censusTurn.unit = s.unit ∧ s.censusTurn.panel = s.panel ∧
    s.censusTurn.cfg = s.cfg ∧ s.censusTurn.ports = s.ports ∧ s.censusTurn.axes = s.axes ∧ s.censusTurn.trace = s.trace ∧
    s.censusTurn.doors = s.doors ∧ s.censusTurn.il = s.il ∧ s.censusTurn.io = s.io ∧ s.censusTurn.can = s.can ∧
    s.censusTurn.hinge = s.hinge ∧ s.censusTurn.recorder = s.recorder ∧ s.censusTurn.mem = s.mem ∧ s.censusTurn.kw = s.kw ∧
    s.censusTurn.se = s.se ∧ s.censusTurn.fw = s.fw ∧ s.censusTurn.lostNow = s.lostNow ∧ s.censusTurn.shown = s.shown ∧
    s.censusTurn.setNow = s.setNow ∧ s.censusTurn.taken = s.taken ∧ s.censusTurn.free = s.free ∧ s.censusTurn.pending = s.pending := by simp [State.censusTurn]

@[simp] theorem State.askLease_frame (s : State) :
    s.askLease.tick = s.tick ∧ s.askLease.up = s.up ∧ s.askLease.unit = s.unit ∧ s.askLease.panel = s.panel ∧
    s.askLease.cfg = s.cfg ∧ s.askLease.ports = s.ports ∧ s.askLease.axes = s.axes ∧ s.askLease.trace = s.trace ∧
    s.askLease.doors = s.doors ∧ s.askLease.il = s.il ∧ s.askLease.io = s.io ∧ s.askLease.can = s.can ∧
    s.askLease.hinge = s.hinge ∧ s.askLease.recorder = s.recorder ∧ s.askLease.mem = s.mem ∧ s.askLease.kw = s.kw ∧
    s.askLease.se = s.se ∧ s.askLease.fw = s.fw ∧ s.askLease.lostNow = s.lostNow ∧ s.askLease.shown = s.shown ∧
    s.askLease.setNow = s.setNow ∧ s.askLease.taken = s.taken ∧ s.askLease.free = s.free ∧ s.askLease.pending = s.pending := by unfold State.askLease; split <;> simp

@[simp] theorem State.censusTick_frame (s : State) :
    s.censusTick.tick = s.tick ∧ s.censusTick.up = s.up ∧ s.censusTick.unit = s.unit ∧ s.censusTick.panel = s.panel ∧
    s.censusTick.cfg = s.cfg ∧ s.censusTick.ports = s.ports ∧ s.censusTick.axes = s.axes ∧ s.censusTick.doors = s.doors ∧
    s.censusTick.il = s.il ∧ s.censusTick.io = s.io ∧ s.censusTick.can = s.can ∧ s.censusTick.hinge = s.hinge ∧
    s.censusTick.mem = s.mem ∧ s.censusTick.se = s.se ∧ s.censusTick.fw = s.fw ∧ s.censusTick.lostNow = s.lostNow ∧
    s.censusTick.shown = s.shown ∧ s.censusTick.taken = s.taken ∧ s.censusTick.free = s.free ∧ s.censusTick.pending = s.pending := by unfold State.censusTick; dsimp only; (repeat' split) <;> simp

@[simp] theorem State.enterRun_frame (s : State) (t : Tick) :
    (s.enterRun t).tick = s.tick ∧ (s.enterRun t).up = s.up ∧ (s.enterRun t).panel = s.panel ∧ (s.enterRun t).cfg = s.cfg ∧
    (s.enterRun t).ports = s.ports ∧ (s.enterRun t).axes = s.axes ∧ (s.enterRun t).doors = s.doors ∧
    (s.enterRun t).il = s.il ∧ (s.enterRun t).io = s.io ∧ (s.enterRun t).can = s.can ∧ (s.enterRun t).hinge = s.hinge ∧
    (s.enterRun t).mem = s.mem ∧ (s.enterRun t).se = s.se ∧ (s.enterRun t).fw = s.fw ∧ (s.enterRun t).net = s.net ∧
    (s.enterRun t).lostNow = s.lostNow ∧ (s.enterRun t).shown = s.shown ∧ (s.enterRun t).taken = s.taken ∧ (s.enterRun t).free = s.free ∧
    (s.enterRun t).pending = s.pending ∧ (s.enterRun t).unit.running = s.unit.running := by unfold State.enterRun; dsimp only; split <;> simp

@[simp] theorem State.leaveMaintenance_frame (s : State) :
    s.leaveMaintenance.tick = s.tick ∧ s.leaveMaintenance.up = s.up ∧ s.leaveMaintenance.panel = s.panel ∧
    s.leaveMaintenance.cfg = s.cfg ∧ s.leaveMaintenance.ports = s.ports ∧ s.leaveMaintenance.il = s.il ∧
    s.leaveMaintenance.io = s.io ∧ s.leaveMaintenance.can = s.can ∧ s.leaveMaintenance.hinge = s.hinge ∧
    s.leaveMaintenance.mem = s.mem ∧ s.leaveMaintenance.se = s.se ∧ s.leaveMaintenance.fw = s.fw ∧
    s.leaveMaintenance.net = s.net ∧ s.leaveMaintenance.lostNow = s.lostNow ∧ s.leaveMaintenance.shown = s.shown ∧
    s.leaveMaintenance.taken = s.taken ∧ s.leaveMaintenance.free = s.free ∧ s.leaveMaintenance.pending = s.pending ∧
    s.leaveMaintenance.unit.running = s.unit.running := by unfold State.leaveMaintenance; split <;> simp

@[simp] theorem State.endSession_frame (s : State) (i : SessId) :
    (s.endSession i).tick = s.tick ∧ (s.endSession i).up = s.up ∧ (s.endSession i).panel = s.panel ∧
    (s.endSession i).ports = s.ports ∧ (s.endSession i).il = s.il ∧ (s.endSession i).io = s.io ∧
    (s.endSession i).can = s.can ∧ (s.endSession i).hinge = s.hinge ∧ (s.endSession i).mem = s.mem ∧
    (s.endSession i).se = s.se ∧ (s.endSession i).fw = s.fw ∧ (s.endSession i).net = s.net ∧
    (s.endSession i).lostNow = s.lostNow ∧ (s.endSession i).shown = s.shown ∧ (s.endSession i).taken = s.taken ∧ (s.endSession i).free = s.free ∧
    (s.endSession i).pending = s.pending ∧ (s.endSession i).unit.running = s.unit.running := by unfold State.endSession; dsimp only; (repeat' split) <;> simp

/-- What a request keeps besides the Keyway block, taking it keeps. -/
theorem State.take_keeps {β : Type} (g : State → β) (hk : ∀ (s : State) k, g { s with kw := k } = g s) (s : State) (r : Req) (x : Session)
    (k : Ask) (f : Session → State → State × Reply) (h : ∀ y t, g (f y t).1 = g t) : g (s.take r x k f) = g s := by
  have ha : ∀ (s : State) (i : SessId) (t : Nat) (x : Reply), g (s.answer i t x) = g s := by
    intro s i t x; cases x <;> first | rfl | exact hk ..
  unfold State.take
  dsimp only
  rw [ha]
  split
  · exact hk ..
  · rw [h, hk]
/-- What a request keeps besides the Keyway block, and the end of a session keeps, serving it keeps. -/
theorem State.serve_keeps {β : Type} (g : State → β) (hk : ∀ (s : State) k, g { s with kw := k } = g s)
    (he : ∀ (s : State) i, g (s.endSession i) = g s) (s : State) (r : Req) (k : Ask) (q : Form)
    (f : Session → State → State × Reply) (h : ∀ y t, g (f y t).1 = g t) : g (s.serve r k q f) = g s := by
  have ha : ∀ (s : State) (i : SessId) (t : Nat) (x : Reply), g (s.answer i t x) = g s := by
    intro s i t x; cases x <;> first | rfl | exact hk ..
  unfold State.serve
  split
  · rfl
  split
  · rfl
  split
  · exact he ..
  dsimp only
  split
  · rw [ha, hk]
  split
  · rw [ha, hk]
  split
  · exact hk ..
  rw [State.take_keeps g hk _ _ _ _ _ h, hk]
@[simp] theorem State.serve_tick (s : State) (r : Req) (k : Ask) (q : Form) (f : Session → State → State × Reply) (h : ∀ y t, (f y t).1.tick = t.tick) :
    (s.serve r k q f).tick = s.tick := State.serve_keeps State.tick (fun _ _ => rfl) (fun _ _ => by simp) s r k q f h
@[simp] theorem State.serve_up (s : State) (r : Req) (k : Ask) (q : Form) (f : Session → State → State × Reply) (h : ∀ y t, (f y t).1.up = t.up) :
    (s.serve r k q f).up = s.up := State.serve_keeps State.up (fun _ _ => rfl) (fun _ _ => by simp) s r k q f h
@[simp] theorem State.serve_panel (s : State) (r : Req) (k : Ask) (q : Form) (f : Session → State → State × Reply) (h : ∀ y t, (f y t).1.panel = t.panel) :
    (s.serve r k q f).panel = s.panel := State.serve_keeps State.panel (fun _ _ => rfl) (fun _ _ => by simp) s r k q f h
@[simp] theorem State.serve_ports (s : State) (r : Req) (k : Ask) (q : Form) (f : Session → State → State × Reply) (h : ∀ y t, (f y t).1.ports = t.ports) :
    (s.serve r k q f).ports = s.ports := State.serve_keeps State.ports (fun _ _ => rfl) (fun _ _ => by simp) s r k q f h
@[simp] theorem State.serve_il (s : State) (r : Req) (k : Ask) (q : Form) (f : Session → State → State × Reply) (h : ∀ y t, (f y t).1.il = t.il) :
    (s.serve r k q f).il = s.il := State.serve_keeps State.il (fun _ _ => rfl) (fun _ _ => by simp) s r k q f h
@[simp] theorem State.serve_io (s : State) (r : Req) (k : Ask) (q : Form) (f : Session → State → State × Reply) (h : ∀ y t, (f y t).1.io = t.io) :
    (s.serve r k q f).io = s.io := State.serve_keeps State.io (fun _ _ => rfl) (fun _ _ => by simp) s r k q f h
@[simp] theorem State.serve_can (s : State) (r : Req) (k : Ask) (q : Form) (f : Session → State → State × Reply) (h : ∀ y t, (f y t).1.can = t.can) :
    (s.serve r k q f).can = s.can := State.serve_keeps State.can (fun _ _ => rfl) (fun _ _ => by simp) s r k q f h
@[simp] theorem State.serve_hinge (s : State) (r : Req) (k : Ask) (q : Form) (f : Session → State → State × Reply) (h : ∀ y t, (f y t).1.hinge = t.hinge) :
    (s.serve r k q f).hinge = s.hinge := State.serve_keeps State.hinge (fun _ _ => rfl) (fun _ _ => by simp) s r k q f h
@[simp] theorem State.serve_mem (s : State) (r : Req) (k : Ask) (q : Form) (f : Session → State → State × Reply) (h : ∀ y t, (f y t).1.mem = t.mem) :
    (s.serve r k q f).mem = s.mem := State.serve_keeps State.mem (fun _ _ => rfl) (fun _ _ => by simp) s r k q f h
@[simp] theorem State.serve_se (s : State) (r : Req) (k : Ask) (q : Form) (f : Session → State → State × Reply) (h : ∀ y t, (f y t).1.se = t.se) :
    (s.serve r k q f).se = s.se := State.serve_keeps State.se (fun _ _ => rfl) (fun _ _ => by simp) s r k q f h
@[simp] theorem State.serve_fw (s : State) (r : Req) (k : Ask) (q : Form) (f : Session → State → State × Reply) (h : ∀ y t, (f y t).1.fw = t.fw) :
    (s.serve r k q f).fw = s.fw := State.serve_keeps State.fw (fun _ _ => rfl) (fun _ _ => by simp) s r k q f h
@[simp] theorem State.serve_net (s : State) (r : Req) (k : Ask) (q : Form) (f : Session → State → State × Reply) (h : ∀ y t, (f y t).1.net = t.net) :
    (s.serve r k q f).net = s.net := State.serve_keeps State.net (fun _ _ => rfl) (fun _ _ => by simp) s r k q f h
@[simp] theorem State.serve_lostNow (s : State) (r : Req) (k : Ask) (q : Form) (f : Session → State → State × Reply) (h : ∀ y t, (f y t).1.lostNow = t.lostNow) :
    (s.serve r k q f).lostNow = s.lostNow := State.serve_keeps State.lostNow (fun _ _ => rfl) (fun _ _ => by simp) s r k q f h
@[simp] theorem State.serve_shown (s : State) (r : Req) (k : Ask) (q : Form) (f : Session → State → State × Reply) (h : ∀ y t, (f y t).1.shown = t.shown) :
    (s.serve r k q f).shown = s.shown := State.serve_keeps State.shown (fun _ _ => rfl) (fun _ _ => by simp) s r k q f h
@[simp] theorem State.serve_taken (s : State) (r : Req) (k : Ask) (q : Form) (f : Session → State → State × Reply) (h : ∀ y t, (f y t).1.taken = t.taken) :
    (s.serve r k q f).taken = s.taken := State.serve_keeps State.taken (fun _ _ => rfl) (fun _ _ => by simp) s r k q f h
@[simp] theorem State.serve_free (s : State) (r : Req) (k : Ask) (q : Form) (f : Session → State → State × Reply) (h : ∀ y t, (f y t).1.free = t.free) :
    (s.serve r k q f).free = s.free := State.serve_keeps State.free (fun _ _ => rfl) (fun _ _ => by simp) s r k q f h
@[simp] theorem State.serve_pending (s : State) (r : Req) (k : Ask) (q : Form) (f : Session → State → State × Reply) (h : ∀ y t, (f y t).1.pending = t.pending) :
    (s.serve r k q f).pending = s.pending := State.serve_keeps State.pending (fun _ _ => rfl) (fun _ _ => by simp) s r k q f h
@[simp] theorem State.serve_running (s : State) (r : Req) (k : Ask) (q : Form) (f : Session → State → State × Reply) (h : ∀ y t, (f y t).1.unit.running = t.unit.running) :
    (s.serve r k q f).unit.running = s.unit.running := State.serve_keeps (fun s => s.unit.running) (fun _ _ => rfl) (fun _ _ => by simp) s r k q f h
theorem State.take_wf (s : State) (r : Req) (x : Session) (k : Ask) (f : Session → State → State × Reply)
    (h : ∀ y t, memWf t.mem.scratch = true → memWf (f y t).1.mem.scratch = true) (w : memWf s.mem.scratch = true) :
    memWf (s.take r x k f).mem.scratch = true := by
  unfold State.take
  dsimp only
  rw [(State.answer_frame _ _ _ _).2.2.2.2.2.2.2.2.2.2.2.2.2.2.1]
  split
  · exact w
  · exact h _ _ w
@[simp] theorem State.serve_wf (s : State) (r : Req) (k : Ask) (q : Form) (f : Session → State → State × Reply)
    (h : ∀ y t, memWf t.mem.scratch = true → memWf (f y t).1.mem.scratch = true) (w : memWf s.mem.scratch = true) :
    memWf (s.serve r k q f).mem.scratch = true := by
  unfold State.serve
  split
  · exact w
  split
  · exact w
  split
  · simpa using w
  dsimp only
  split
  · simpa using w
  split
  · simpa using w
  split
  · exact w
  exact State.take_wf _ _ _ _ _ h w

@[simp] theorem State.doRead_frame (s : State) (i : SessId) (x : Session) (addr : Nat) :
    (s.doRead i x addr).1.tick = s.tick ∧ (s.doRead i x addr).1.up = s.up ∧ (s.doRead i x addr).1.se = s.se ∧
    (s.doRead i x addr).1.fw = s.fw ∧ (s.doRead i x addr).1.lostNow = s.lostNow ∧ (s.doRead i x addr).1.taken = s.taken ∧ (s.doRead i x addr).1.free = s.free ∧
    (s.doRead i x addr).1.pending = s.pending := by unfold State.doRead; dsimp only; (repeat' split) <;> simp

@[simp] theorem State.doRead_wf (s : State) (i : SessId) (x : Session) (addr : Nat) (h : memWf s.mem.scratch = true) :
    memWf (s.doRead i x addr).1.mem.scratch = true := by unfold State.doRead; dsimp only; (repeat' split) <;> simp [h]

@[simp] theorem State.doReadBlock_frame (s : State) (i : SessId) (x : Session) (addr n : Nat) :
    (s.doReadBlock i x addr n).1.tick = s.tick ∧ (s.doReadBlock i x addr n).1.up = s.up ∧
    (s.doReadBlock i x addr n).1.se = s.se ∧ (s.doReadBlock i x addr n).1.fw = s.fw ∧
    (s.doReadBlock i x addr n).1.lostNow = s.lostNow ∧ (s.doReadBlock i x addr n).1.taken = s.taken ∧ (s.doReadBlock i x addr n).1.free = s.free ∧
    (s.doReadBlock i x addr n).1.pending = s.pending := by unfold State.doReadBlock; dsimp only; (repeat' split) <;> simp

@[simp] theorem State.doReadBlock_wf (s : State) (i : SessId) (x : Session) (addr n : Nat) (h : memWf s.mem.scratch = true) :
    memWf (s.doReadBlock i x addr n).1.mem.scratch = true := by unfold State.doReadBlock; dsimp only; (repeat' split) <;> simp [h]

@[simp] theorem State.writeSome_frame (s : State) (i : SessId) (role : KwRole) (ps : List (Nat × Word)) (run : WriteRun) :
    (s.writeSome i role ps run).1.tick = s.tick ∧ (s.writeSome i role ps run).1.up = s.up ∧
    (s.writeSome i role ps run).1.se = s.se ∧ (s.writeSome i role ps run).1.fw = s.fw ∧
    (s.writeSome i role ps run).1.lostNow = s.lostNow ∧ (s.writeSome i role ps run).1.taken = s.taken ∧ (s.writeSome i role ps run).1.free = s.free ∧
    (s.writeSome i role ps run).1.pending = s.pending ∧ (s.writeSome i role ps run).1.unit.running = s.unit.running := by
  induction ps generalizing s run with
  | nil => simp [State.writeSome]
  | cons p ps ih => simp only [State.writeSome]; (repeat' split) <;> simp [ih]

@[simp] theorem State.writeSome_wf (s : State) (i : SessId) (role : KwRole) (ps : List (Nat × Word)) (run : WriteRun) (h : memWf s.mem.scratch = true) :
    memWf (s.writeSome i role ps run).1.mem.scratch = true := by
  induction ps generalizing s run with
  | nil => simpa [State.writeSome] using h
  | cons p ps ih =>
    simp only [State.writeSome]
    (repeat' split) <;> first | exact h | exact ih _ _ (State.writeWord_wf _ _ _ _ _ h) | exact State.writeWord_wf _ _ _ _ _ h

@[simp] theorem State.writeRequest_frame (s : State) (i : SessId) (tag num : Nat) (role : KwRole) (form : WaitForm) (ws : List (Nat × Word)) (done : Nat) :
    (s.writeRequest i tag num role form ws done).1.tick = s.tick ∧ (s.writeRequest i tag num role form ws done).1.up = s.up ∧
    (s.writeRequest i tag num role form ws done).1.se = s.se ∧ (s.writeRequest i tag num role form ws done).1.fw = s.fw ∧
    (s.writeRequest i tag num role form ws done).1.lostNow = s.lostNow ∧
    (s.writeRequest i tag num role form ws done).1.taken = s.taken ∧ (s.writeRequest i tag num role form ws done).1.free = s.free ∧
    (s.writeRequest i tag num role form ws done).1.pending = s.pending ∧
    (s.writeRequest i tag num role form ws done).1.unit.running = s.unit.running := by unfold State.writeRequest; dsimp only; split <;> simp

@[simp] theorem State.writeRequest_wf (s : State) (i : SessId) (tag num : Nat) (role : KwRole) (form : WaitForm) (ws : List (Nat × Word)) (done : Nat) (h : memWf s.mem.scratch = true) :
    memWf (s.writeRequest i tag num role form ws done).1.mem.scratch = true := by unfold State.writeRequest; dsimp only; split <;> simp [h]

@[simp] theorem State.doWrites_frame (s : State) (r : Req) (x : Session) (form : WaitForm) (ws : List (Nat × Word)) :
    (s.doWrites r x form ws).1.tick = s.tick ∧ (s.doWrites r x form ws).1.up = s.up ∧ (s.doWrites r x form ws).1.se = s.se ∧
    (s.doWrites r x form ws).1.fw = s.fw ∧ (s.doWrites r x form ws).1.lostNow = s.lostNow ∧
    (s.doWrites r x form ws).1.taken = s.taken ∧ (s.doWrites r x form ws).1.free = s.free ∧ (s.doWrites r x form ws).1.pending = s.pending ∧
    (s.doWrites r x form ws).1.unit.running = s.unit.running := by unfold State.doWrites; split <;> simp

@[simp] theorem State.doWrites_wf (s : State) (r : Req) (x : Session) (form : WaitForm) (ws : List (Nat × Word)) (h : memWf s.mem.scratch = true) :
    memWf (s.doWrites r x form ws).1.mem.scratch = true := by unfold State.doWrites; split <;> simp [h]

@[simp] theorem State.hostWrite_frame (s : State) (r : Req) (addr : Nat) (w : Word) :
    (s.hostWrite r addr w).tick = s.tick ∧ (s.hostWrite r addr w).up = s.up ∧ (s.hostWrite r addr w).se = s.se ∧
    (s.hostWrite r addr w).fw = s.fw ∧ (s.hostWrite r addr w).lostNow = s.lostNow ∧ (s.hostWrite r addr w).taken = s.taken ∧ (s.hostWrite r addr w).free = s.free ∧
    (s.hostWrite r addr w).pending = s.pending ∧ (s.hostWrite r addr w).unit.running = s.unit.running := by simp [State.hostWrite]

@[simp] theorem State.hostWrite_wf (s : State) (r : Req) (addr : Nat) (w : Word) (h : memWf s.mem.scratch = true) :
    memWf (s.hostWrite r addr w).mem.scratch = true := by simp +contextual [State.hostWrite, h]

@[simp] theorem State.doWriteBlock_frame (s : State) (r : Req) (x : Session) (addr n : Nat) (ws : List Word) :
    (s.doWriteBlock r x addr n ws).1.tick = s.tick ∧ (s.doWriteBlock r x addr n ws).1.up = s.up ∧
    (s.doWriteBlock r x addr n ws).1.se = s.se ∧ (s.doWriteBlock r x addr n ws).1.fw = s.fw ∧
    (s.doWriteBlock r x addr n ws).1.lostNow = s.lostNow ∧ (s.doWriteBlock r x addr n ws).1.taken = s.taken ∧ (s.doWriteBlock r x addr n ws).1.free = s.free ∧
    (s.doWriteBlock r x addr n ws).1.pending = s.pending ∧ (s.doWriteBlock r x addr n ws).1.unit.running = s.unit.running := by unfold State.doWriteBlock; (repeat' split) <;> simp

@[simp] theorem State.doWriteBlock_wf (s : State) (r : Req) (x : Session) (addr n : Nat) (ws : List Word) (h : memWf s.mem.scratch = true) :
    memWf (s.doWriteBlock r x addr n ws).1.mem.scratch = true := by
  unfold State.doWriteBlock
  (try dsimp only) <;> (repeat' split) <;> (try simp +contextual [h]) <;> (repeat' split) <;> (try simp +contextual [h])

@[simp] theorem State.doApply_frame (s : State) (r : Req) (x : Session) (b : BlockReq) :
    (s.doApply r x b).1.tick = s.tick ∧ (s.doApply r x b).1.up = s.up ∧ (s.doApply r x b).1.se = s.se ∧
    (s.doApply r x b).1.fw = s.fw ∧ (s.doApply r x b).1.lostNow = s.lostNow ∧ (s.doApply r x b).1.taken = s.taken ∧ (s.doApply r x b).1.free = s.free ∧
    (s.doApply r x b).1.pending = s.pending ∧ (s.doApply r x b).1.unit.running = s.unit.running := by unfold State.doApply; split <;> simp

@[simp] theorem State.doApply_wf (s : State) (r : Req) (x : Session) (b : BlockReq) (h : memWf s.mem.scratch = true) :
    memWf (s.doApply r x b).1.mem.scratch = true := by unfold State.doApply; split <;> simp [h]

@[simp] theorem State.enterMaint_frame (s : State) (i : Sender) :
    (s.enterMaint i).tick = s.tick ∧ (s.enterMaint i).up = s.up ∧ (s.enterMaint i).panel = s.panel ∧
    (s.enterMaint i).cfg = s.cfg ∧ (s.enterMaint i).ports = s.ports ∧ (s.enterMaint i).axes = s.axes ∧
    (s.enterMaint i).trace = s.trace ∧ (s.enterMaint i).doors = s.doors ∧ (s.enterMaint i).il = s.il ∧
    (s.enterMaint i).io = s.io ∧ (s.enterMaint i).can = s.can ∧ (s.enterMaint i).hinge = s.hinge ∧
    (s.enterMaint i).recorder = s.recorder ∧ (s.enterMaint i).mem = s.mem ∧ (s.enterMaint i).kw = s.kw ∧
    (s.enterMaint i).se = s.se ∧ (s.enterMaint i).fw = s.fw ∧ (s.enterMaint i).net = s.net ∧
    (s.enterMaint i).lostNow = s.lostNow ∧ (s.enterMaint i).shown = s.shown ∧ (s.enterMaint i).setNow = s.setNow ∧
    (s.enterMaint i).taken = s.taken ∧ (s.enterMaint i).free = s.free ∧ (s.enterMaint i).pending = s.pending ∧ (s.enterMaint i).unit.running = s.unit.running := by unfold State.enterMaint; split <;> simp

@[simp] theorem State.maintCommand_frame (s : State) (i : SessId) (x : Session) (code : Nat) :
    (s.maintCommand i x code).1.tick = s.tick ∧ (s.maintCommand i x code).1.up = s.up ∧
    (s.maintCommand i x code).1.panel = s.panel ∧ (s.maintCommand i x code).1.cfg = s.cfg ∧
    (s.maintCommand i x code).1.ports = s.ports ∧ (s.maintCommand i x code).1.il = s.il ∧
    (s.maintCommand i x code).1.io = s.io ∧ (s.maintCommand i x code).1.can = s.can ∧
    (s.maintCommand i x code).1.mem = s.mem ∧ (s.maintCommand i x code).1.se = s.se ∧ (s.maintCommand i x code).1.fw = s.fw ∧
    (s.maintCommand i x code).1.net = s.net ∧ (s.maintCommand i x code).1.lostNow = s.lostNow ∧
    (s.maintCommand i x code).1.shown = s.shown ∧ (s.maintCommand i x code).1.taken = s.taken ∧ (s.maintCommand i x code).1.free = s.free ∧
    (s.maintCommand i x code).1.pending = s.pending ∧ (s.maintCommand i x code).1.unit.running = s.unit.running := by unfold State.maintCommand; dsimp only; (repeat' split) <;> simp

@[simp] theorem State.doMaint_frame (s : State) (r : Req) (x : Session) (code : Nat) :
    (s.doMaint r x code).1.tick = s.tick ∧ (s.doMaint r x code).1.up = s.up ∧ (s.doMaint r x code).1.panel = s.panel ∧
    (s.doMaint r x code).1.cfg = s.cfg ∧ (s.doMaint r x code).1.ports = s.ports ∧ (s.doMaint r x code).1.il = s.il ∧
    (s.doMaint r x code).1.io = s.io ∧ (s.doMaint r x code).1.can = s.can ∧ (s.doMaint r x code).1.mem = s.mem ∧
    (s.doMaint r x code).1.se = s.se ∧ (s.doMaint r x code).1.fw = s.fw ∧ (s.doMaint r x code).1.net = s.net ∧
    (s.doMaint r x code).1.lostNow = s.lostNow ∧ (s.doMaint r x code).1.shown = s.shown ∧
    (s.doMaint r x code).1.taken = s.taken ∧ (s.doMaint r x code).1.free = s.free ∧ (s.doMaint r x code).1.pending = s.pending ∧
    (s.doMaint r x code).1.unit.running = s.unit.running := by unfold State.doMaint; split <;> simp

@[simp] theorem State.serveWait_frame (s : State) (w : MirrorWait) :
    (s.serveWait w).tick = s.tick ∧ (s.serveWait w).up = s.up ∧ (s.serveWait w).se = s.se ∧ (s.serveWait w).fw = s.fw ∧
    (s.serveWait w).lostNow = s.lostNow ∧ (s.serveWait w).taken = s.taken ∧ (s.serveWait w).free = s.free ∧ (s.serveWait w).pending = s.pending ∧
    (s.serveWait w).unit.running = s.unit.running := by
  unfold State.serveWait
  split
  · simp
  split
  · simp
  dsimp only
  split <;> simp

@[simp] theorem State.serveWait_wf (s : State) (w : MirrorWait) (h : memWf s.mem.scratch = true) :
    memWf (s.serveWait w).mem.scratch = true := by
  unfold State.serveWait
  split
  · exact h
  split
  · exact h
  dsimp only
  split <;> simp [h]

@[simp] theorem State.serveWaiting_frame (s : State) (ws : List MirrorWait) :
    (s.serveWaiting ws).tick = s.tick ∧ (s.serveWaiting ws).up = s.up ∧ (s.serveWaiting ws).se = s.se ∧
    (s.serveWaiting ws).fw = s.fw ∧ (s.serveWaiting ws).lostNow = s.lostNow ∧ (s.serveWaiting ws).taken = s.taken ∧ (s.serveWaiting ws).free = s.free ∧
    (s.serveWaiting ws).pending = s.pending ∧ (s.serveWaiting ws).unit.running = s.unit.running := by
  induction ws generalizing s with
  | nil => simp [State.serveWaiting]
  | cons w ws ih => simp only [State.serveWaiting]; (repeat' split) <;> simp [ih]

@[simp] theorem State.serveWaiting_wf (s : State) (ws : List MirrorWait) (h : memWf s.mem.scratch = true) :
    memWf (s.serveWaiting ws).mem.scratch = true := by
  induction ws generalizing s with
  | nil => simpa [State.serveWaiting] using h
  | cons w ws ih =>
    simp only [State.serveWaiting]
    (repeat' split) <;> first | exact h | exact ih _ (State.serveWait_wf _ _ h) | exact State.serveWait_wf _ _ h

@[simp] theorem State.applyCommand_frame (s : State) (code : Nat) :
    (s.applyCommand code).tick = s.tick ∧ (s.applyCommand code).up = s.up ∧ (s.applyCommand code).panel = s.panel ∧
    (s.applyCommand code).cfg = s.cfg ∧ (s.applyCommand code).ports = s.ports ∧ (s.applyCommand code).il = s.il ∧
    (s.applyCommand code).io = s.io ∧ (s.applyCommand code).can = s.can ∧ (s.applyCommand code).hinge = s.hinge ∧
    (s.applyCommand code).mem = s.mem ∧ (s.applyCommand code).se = s.se ∧ (s.applyCommand code).fw = s.fw ∧
    (s.applyCommand code).net = s.net ∧ (s.applyCommand code).lostNow = s.lostNow ∧ (s.applyCommand code).shown = s.shown ∧
    (s.applyCommand code).taken = s.taken ∧ (s.applyCommand code).free = s.free ∧ (s.applyCommand code).pending = s.pending ∧
    (s.applyCommand code).unit.running = s.unit.running := by unfold State.applyCommand; (repeat' split) <;> simp

@[simp] theorem State.endSessions_frame (s : State) (p : Session → Bool) :
    (s.endSessions p).tick = s.tick ∧ (s.endSessions p).up = s.up ∧ (s.endSessions p).panel = s.panel ∧
    (s.endSessions p).ports = s.ports ∧ (s.endSessions p).il = s.il ∧ (s.endSessions p).io = s.io ∧
    (s.endSessions p).can = s.can ∧ (s.endSessions p).hinge = s.hinge ∧ (s.endSessions p).mem = s.mem ∧
    (s.endSessions p).se = s.se ∧ (s.endSessions p).fw = s.fw ∧ (s.endSessions p).net = s.net ∧
    (s.endSessions p).lostNow = s.lostNow ∧ (s.endSessions p).shown = s.shown ∧ (s.endSessions p).taken = s.taken ∧ (s.endSessions p).free = s.free ∧
    (s.endSessions p).pending = s.pending ∧ (s.endSessions p).unit.running = s.unit.running := by simp [State.endSessions, apply_ite]

@[simp] theorem State.idleSessions_frame (s : State) :
    s.idleSessions.tick = s.tick ∧ s.idleSessions.up = s.up ∧ s.idleSessions.panel = s.panel ∧
    s.idleSessions.ports = s.ports ∧ s.idleSessions.il = s.il ∧ s.idleSessions.io = s.io ∧ s.idleSessions.can = s.can ∧
    s.idleSessions.hinge = s.hinge ∧ s.idleSessions.mem = s.mem ∧ s.idleSessions.se = s.se ∧ s.idleSessions.fw = s.fw ∧
    s.idleSessions.net = s.net ∧ s.idleSessions.lostNow = s.lostNow ∧ s.idleSessions.shown = s.shown ∧
    s.idleSessions.taken = s.taken ∧ s.idleSessions.free = s.free ∧ s.idleSessions.pending = s.pending ∧ s.idleSessions.unit.running = s.unit.running := by unfold State.idleSessions; dsimp only; split <;> simp

@[simp] theorem State.authFail_frame (s : State) (peer : Word) :
    (s.authFail peer).tick = s.tick ∧ (s.authFail peer).up = s.up ∧ (s.authFail peer).unit = s.unit ∧
    (s.authFail peer).panel = s.panel ∧ (s.authFail peer).cfg = s.cfg ∧ (s.authFail peer).ports = s.ports ∧
    (s.authFail peer).axes = s.axes ∧ (s.authFail peer).doors = s.doors ∧ (s.authFail peer).il = s.il ∧
    (s.authFail peer).io = s.io ∧ (s.authFail peer).can = s.can ∧ (s.authFail peer).hinge = s.hinge ∧
    (s.authFail peer).mem = s.mem ∧ (s.authFail peer).se = s.se ∧ (s.authFail peer).fw = s.fw ∧
    (s.authFail peer).net = s.net ∧ (s.authFail peer).lostNow = s.lostNow ∧ (s.authFail peer).shown = s.shown ∧
    (s.authFail peer).taken = s.taken ∧ (s.authFail peer).free = s.free ∧ (s.authFail peer).pending = s.pending := by simp [State.authFail]

@[simp] theorem State.handshake_frame (s : State) (h : Handshake) :
    (s.handshake h).tick = s.tick ∧ (s.handshake h).up = s.up ∧ (s.handshake h).unit = s.unit ∧
    (s.handshake h).panel = s.panel ∧ (s.handshake h).cfg = s.cfg ∧ (s.handshake h).ports = s.ports ∧
    (s.handshake h).axes = s.axes ∧ (s.handshake h).doors = s.doors ∧ (s.handshake h).il = s.il ∧ (s.handshake h).io = s.io ∧
    (s.handshake h).can = s.can ∧ (s.handshake h).hinge = s.hinge ∧ (s.handshake h).mem = s.mem ∧ (s.handshake h).se = s.se ∧
    (s.handshake h).fw = s.fw ∧ (s.handshake h).net = s.net ∧ (s.handshake h).lostNow = s.lostNow ∧
    (s.handshake h).shown = s.shown ∧ (s.handshake h).taken = s.taken ∧ (s.handshake h).free = s.free ∧ (s.handshake h).pending = s.pending := by unfold State.handshake; (repeat' split) <;> simp

@[simp] theorem State.doClaim_frame (s : State) (i : SessId) (x : Session) (b : BlockReq) (force : Bool) :
    (s.doClaim i x b force).1.tick = s.tick ∧ (s.doClaim i x b force).1.up = s.up ∧ (s.doClaim i x b force).1.unit = s.unit ∧
    (s.doClaim i x b force).1.panel = s.panel ∧ (s.doClaim i x b force).1.ports = s.ports ∧
    (s.doClaim i x b force).1.axes = s.axes ∧ (s.doClaim i x b force).1.doors = s.doors ∧
    (s.doClaim i x b force).1.il = s.il ∧ (s.doClaim i x b force).1.io = s.io ∧ (s.doClaim i x b force).1.can = s.can ∧
    (s.doClaim i x b force).1.hinge = s.hinge ∧ (s.doClaim i x b force).1.mem = s.mem ∧ (s.doClaim i x b force).1.se = s.se ∧
    (s.doClaim i x b force).1.fw = s.fw ∧ (s.doClaim i x b force).1.net = s.net ∧
    (s.doClaim i x b force).1.lostNow = s.lostNow ∧ (s.doClaim i x b force).1.shown = s.shown ∧
    (s.doClaim i x b force).1.taken = s.taken ∧ (s.doClaim i x b force).1.free = s.free ∧ (s.doClaim i x b force).1.pending = s.pending := by unfold State.doClaim; (repeat' split) <;> simp

@[simp] theorem State.doRelease_frame (s : State) (i : SessId) (b : BlockReq) :
    (s.doRelease i b).1.tick = s.tick ∧ (s.doRelease i b).1.up = s.up ∧ (s.doRelease i b).1.unit = s.unit ∧
    (s.doRelease i b).1.panel = s.panel ∧ (s.doRelease i b).1.ports = s.ports ∧ (s.doRelease i b).1.axes = s.axes ∧
    (s.doRelease i b).1.doors = s.doors ∧ (s.doRelease i b).1.il = s.il ∧ (s.doRelease i b).1.io = s.io ∧
    (s.doRelease i b).1.can = s.can ∧ (s.doRelease i b).1.hinge = s.hinge ∧ (s.doRelease i b).1.mem = s.mem ∧
    (s.doRelease i b).1.se = s.se ∧ (s.doRelease i b).1.fw = s.fw ∧ (s.doRelease i b).1.net = s.net ∧
    (s.doRelease i b).1.lostNow = s.lostNow ∧ (s.doRelease i b).1.shown = s.shown ∧ (s.doRelease i b).1.taken = s.taken ∧ (s.doRelease i b).1.free = s.free ∧
    (s.doRelease i b).1.pending = s.pending := by unfold State.doRelease; (repeat' split) <;> simp

@[simp] theorem State.sessOf_frame (s : State) (i : SessId) (f : Session → Session) :
    (s.sessOf i f).tick = s.tick ∧ (s.sessOf i f).up = s.up ∧ (s.sessOf i f).unit = s.unit ∧ (s.sessOf i f).panel = s.panel ∧
    (s.sessOf i f).cfg = s.cfg ∧ (s.sessOf i f).ports = s.ports ∧ (s.sessOf i f).axes = s.axes ∧
    (s.sessOf i f).trace = s.trace ∧ (s.sessOf i f).doors = s.doors ∧ (s.sessOf i f).il = s.il ∧ (s.sessOf i f).io = s.io ∧
    (s.sessOf i f).can = s.can ∧ (s.sessOf i f).hinge = s.hinge ∧ (s.sessOf i f).recorder = s.recorder ∧
    (s.sessOf i f).mem = s.mem ∧ (s.sessOf i f).se = s.se ∧ (s.sessOf i f).fw = s.fw ∧ (s.sessOf i f).net = s.net ∧
    (s.sessOf i f).lostNow = s.lostNow ∧ (s.sessOf i f).shown = s.shown ∧ (s.sessOf i f).setNow = s.setNow ∧
    (s.sessOf i f).taken = s.taken ∧ (s.sessOf i f).free = s.free ∧ (s.sessOf i f).pending = s.pending := by simp [State.sessOf]

@[simp] theorem State.doSubscribe_frame (s : State) (i : SessId) (x : Session) (keep : Bool) (es : List (Code × BitVec 8)) :
    (s.doSubscribe i x keep es).1.tick = s.tick ∧ (s.doSubscribe i x keep es).1.up = s.up ∧
    (s.doSubscribe i x keep es).1.unit = s.unit ∧ (s.doSubscribe i x keep es).1.panel = s.panel ∧
    (s.doSubscribe i x keep es).1.cfg = s.cfg ∧ (s.doSubscribe i x keep es).1.ports = s.ports ∧
    (s.doSubscribe i x keep es).1.axes = s.axes ∧ (s.doSubscribe i x keep es).1.trace = s.trace ∧
    (s.doSubscribe i x keep es).1.doors = s.doors ∧ (s.doSubscribe i x keep es).1.il = s.il ∧
    (s.doSubscribe i x keep es).1.io = s.io ∧ (s.doSubscribe i x keep es).1.can = s.can ∧
    (s.doSubscribe i x keep es).1.hinge = s.hinge ∧ (s.doSubscribe i x keep es).1.recorder = s.recorder ∧
    (s.doSubscribe i x keep es).1.mem = s.mem ∧ (s.doSubscribe i x keep es).1.se = s.se ∧
    (s.doSubscribe i x keep es).1.fw = s.fw ∧ (s.doSubscribe i x keep es).1.net = s.net ∧
    (s.doSubscribe i x keep es).1.lostNow = s.lostNow ∧ (s.doSubscribe i x keep es).1.shown = s.shown ∧
    (s.doSubscribe i x keep es).1.setNow = s.setNow ∧ (s.doSubscribe i x keep es).1.taken = s.taken ∧ (s.doSubscribe i x keep es).1.free = s.free ∧
    (s.doSubscribe i x keep es).1.pending = s.pending := by simp [State.doSubscribe, apply_ite]

@[simp] theorem State.setStaging_frame (s : State) (fw : Bool) (g : Option Staging) :
    (s.setStaging fw g).tick = s.tick ∧ (s.setStaging fw g).up = s.up ∧ (s.setStaging fw g).unit = s.unit ∧
    (s.setStaging fw g).panel = s.panel ∧ (s.setStaging fw g).cfg = s.cfg ∧ (s.setStaging fw g).ports = s.ports ∧
    (s.setStaging fw g).axes = s.axes ∧ (s.setStaging fw g).trace = s.trace ∧ (s.setStaging fw g).doors = s.doors ∧
    (s.setStaging fw g).il = s.il ∧ (s.setStaging fw g).io = s.io ∧ (s.setStaging fw g).can = s.can ∧
    (s.setStaging fw g).hinge = s.hinge ∧ (s.setStaging fw g).recorder = s.recorder ∧ (s.setStaging fw g).mem = s.mem ∧
    (s.setStaging fw g).se = s.se ∧ (s.setStaging fw g).fw = s.fw ∧ (s.setStaging fw g).net = s.net ∧
    (s.setStaging fw g).lostNow = s.lostNow ∧ (s.setStaging fw g).shown = s.shown ∧ (s.setStaging fw g).setNow = s.setNow ∧
    (s.setStaging fw g).taken = s.taken ∧ (s.setStaging fw g).free = s.free ∧ (s.setStaging fw g).pending = s.pending := by simp [State.setStaging]

@[simp] theorem State.stageBegin_frame (s : State) (i : SessId) (x : Session) (fw : Bool) (slot : BitVec 8) (len : Nat) :
    (s.stageBegin i x fw slot len).1.tick = s.tick ∧ (s.stageBegin i x fw slot len).1.up = s.up ∧
    (s.stageBegin i x fw slot len).1.unit = s.unit ∧ (s.stageBegin i x fw slot len).1.panel = s.panel ∧
    (s.stageBegin i x fw slot len).1.cfg = s.cfg ∧ (s.stageBegin i x fw slot len).1.ports = s.ports ∧
    (s.stageBegin i x fw slot len).1.axes = s.axes ∧ (s.stageBegin i x fw slot len).1.trace = s.trace ∧
    (s.stageBegin i x fw slot len).1.doors = s.doors ∧ (s.stageBegin i x fw slot len).1.il = s.il ∧
    (s.stageBegin i x fw slot len).1.io = s.io ∧ (s.stageBegin i x fw slot len).1.can = s.can ∧
    (s.stageBegin i x fw slot len).1.hinge = s.hinge ∧ (s.stageBegin i x fw slot len).1.recorder = s.recorder ∧
    (s.stageBegin i x fw slot len).1.mem = s.mem ∧ (s.stageBegin i x fw slot len).1.se = s.se ∧
    (s.stageBegin i x fw slot len).1.fw = s.fw ∧ (s.stageBegin i x fw slot len).1.net = s.net ∧
    (s.stageBegin i x fw slot len).1.lostNow = s.lostNow ∧ (s.stageBegin i x fw slot len).1.shown = s.shown ∧
    (s.stageBegin i x fw slot len).1.setNow = s.setNow ∧ (s.stageBegin i x fw slot len).1.taken = s.taken ∧ (s.stageBegin i x fw slot len).1.free = s.free ∧
    (s.stageBegin i x fw slot len).1.pending = s.pending := by unfold State.stageBegin; dsimp only; (repeat' split) <;> simp

@[simp] theorem State.stageData_frame (s : State) (i : SessId) (x : Session) (fw : Bool) (off : Nat) (bs : List Byte) :
    (s.stageData i x fw off bs).1.tick = s.tick ∧ (s.stageData i x fw off bs).1.up = s.up ∧
    (s.stageData i x fw off bs).1.unit = s.unit ∧ (s.stageData i x fw off bs).1.panel = s.panel ∧
    (s.stageData i x fw off bs).1.cfg = s.cfg ∧ (s.stageData i x fw off bs).1.ports = s.ports ∧
    (s.stageData i x fw off bs).1.axes = s.axes ∧ (s.stageData i x fw off bs).1.trace = s.trace ∧
    (s.stageData i x fw off bs).1.doors = s.doors ∧ (s.stageData i x fw off bs).1.il = s.il ∧
    (s.stageData i x fw off bs).1.io = s.io ∧ (s.stageData i x fw off bs).1.can = s.can ∧
    (s.stageData i x fw off bs).1.hinge = s.hinge ∧ (s.stageData i x fw off bs).1.recorder = s.recorder ∧
    (s.stageData i x fw off bs).1.mem = s.mem ∧ (s.stageData i x fw off bs).1.se = s.se ∧
    (s.stageData i x fw off bs).1.fw = s.fw ∧ (s.stageData i x fw off bs).1.net = s.net ∧
    (s.stageData i x fw off bs).1.lostNow = s.lostNow ∧ (s.stageData i x fw off bs).1.shown = s.shown ∧
    (s.stageData i x fw off bs).1.setNow = s.setNow ∧ (s.stageData i x fw off bs).1.taken = s.taken ∧ (s.stageData i x fw off bs).1.free = s.free ∧
    (s.stageData i x fw off bs).1.pending = s.pending := by unfold State.stageData; (repeat' split) <;> simp

@[simp] theorem State.stageEnd_frame (s : State) (r : Req) (x : Session) (fw : Bool) :
    (s.stageEnd r x fw).1.tick = s.tick ∧ (s.stageEnd r x fw).1.up = s.up ∧ (s.stageEnd r x fw).1.unit = s.unit ∧
    (s.stageEnd r x fw).1.panel = s.panel ∧ (s.stageEnd r x fw).1.cfg = s.cfg ∧ (s.stageEnd r x fw).1.ports = s.ports ∧
    (s.stageEnd r x fw).1.axes = s.axes ∧ (s.stageEnd r x fw).1.trace = s.trace ∧ (s.stageEnd r x fw).1.doors = s.doors ∧
    (s.stageEnd r x fw).1.il = s.il ∧ (s.stageEnd r x fw).1.io = s.io ∧ (s.stageEnd r x fw).1.can = s.can ∧
    (s.stageEnd r x fw).1.hinge = s.hinge ∧ (s.stageEnd r x fw).1.recorder = s.recorder ∧ (s.stageEnd r x fw).1.mem = s.mem ∧
    (s.stageEnd r x fw).1.se = s.se ∧ (s.stageEnd r x fw).1.fw = s.fw ∧ (s.stageEnd r x fw).1.net = s.net ∧
    (s.stageEnd r x fw).1.lostNow = s.lostNow ∧ (s.stageEnd r x fw).1.shown = s.shown ∧
    (s.stageEnd r x fw).1.setNow = s.setNow ∧ (s.stageEnd r x fw).1.taken = s.taken ∧ (s.stageEnd r x fw).1.free = s.free ∧ (s.stageEnd r x fw).1.pending = s.pending := by unfold State.stageEnd; (repeat' split) <;> simp

@[simp] theorem State.stageCancel_frame (s : State) (i : SessId) (x : Session) (fw : Bool) :
    (s.stageCancel i x fw).1.tick = s.tick ∧ (s.stageCancel i x fw).1.up = s.up ∧ (s.stageCancel i x fw).1.unit = s.unit ∧
    (s.stageCancel i x fw).1.panel = s.panel ∧ (s.stageCancel i x fw).1.cfg = s.cfg ∧
    (s.stageCancel i x fw).1.ports = s.ports ∧ (s.stageCancel i x fw).1.axes = s.axes ∧
    (s.stageCancel i x fw).1.trace = s.trace ∧ (s.stageCancel i x fw).1.doors = s.doors ∧ (s.stageCancel i x fw).1.il = s.il ∧
    (s.stageCancel i x fw).1.io = s.io ∧ (s.stageCancel i x fw).1.can = s.can ∧ (s.stageCancel i x fw).1.hinge = s.hinge ∧
    (s.stageCancel i x fw).1.recorder = s.recorder ∧ (s.stageCancel i x fw).1.mem = s.mem ∧
    (s.stageCancel i x fw).1.se = s.se ∧ (s.stageCancel i x fw).1.fw = s.fw ∧ (s.stageCancel i x fw).1.net = s.net ∧
    (s.stageCancel i x fw).1.lostNow = s.lostNow ∧ (s.stageCancel i x fw).1.shown = s.shown ∧
    (s.stageCancel i x fw).1.setNow = s.setNow ∧ (s.stageCancel i x fw).1.taken = s.taken ∧ (s.stageCancel i x fw).1.free = s.free ∧
    (s.stageCancel i x fw).1.pending = s.pending := by unfold State.stageCancel; (repeat' split) <;> simp

@[simp] theorem State.answerOf_frame (s : State) (g : Staging) (t : Nat) (x : Reply) :
    (s.answerOf g t x).tick = s.tick ∧ (s.answerOf g t x).up = s.up ∧ (s.answerOf g t x).unit = s.unit ∧
    (s.answerOf g t x).panel = s.panel ∧ (s.answerOf g t x).cfg = s.cfg ∧ (s.answerOf g t x).ports = s.ports ∧
    (s.answerOf g t x).axes = s.axes ∧ (s.answerOf g t x).trace = s.trace ∧ (s.answerOf g t x).doors = s.doors ∧
    (s.answerOf g t x).il = s.il ∧ (s.answerOf g t x).io = s.io ∧ (s.answerOf g t x).can = s.can ∧ (s.answerOf g t x).hinge = s.hinge ∧
    (s.answerOf g t x).recorder = s.recorder ∧ (s.answerOf g t x).mem = s.mem ∧ (s.answerOf g t x).se = s.se ∧
    (s.answerOf g t x).fw = s.fw ∧ (s.answerOf g t x).net = s.net ∧ (s.answerOf g t x).lostNow = s.lostNow ∧
    (s.answerOf g t x).shown = s.shown ∧ (s.answerOf g t x).setNow = s.setNow ∧ (s.answerOf g t x).taken = s.taken ∧
    (s.answerOf g t x).taken = s.taken ∧ (s.answerOf g t x).free = s.free ∧ (s.answerOf g t x).pending = s.pending := by
  unfold State.answerOf; split <;> simp

@[simp] theorem State.imageWritten_frame (s : State) (g : Staging) (tag : Nat) :
    (s.imageWritten g tag).tick = s.tick ∧ (s.imageWritten g tag).up = s.up ∧ (s.imageWritten g tag).unit = s.unit ∧
    (s.imageWritten g tag).panel = s.panel ∧ (s.imageWritten g tag).ports = s.ports ∧ (s.imageWritten g tag).axes = s.axes ∧
    (s.imageWritten g tag).doors = s.doors ∧ (s.imageWritten g tag).il = s.il ∧ (s.imageWritten g tag).io = s.io ∧
    (s.imageWritten g tag).can = s.can ∧ (s.imageWritten g tag).hinge = s.hinge ∧ (s.imageWritten g tag).mem = s.mem ∧
    (s.imageWritten g tag).se = s.se ∧ (s.imageWritten g tag).net = s.net ∧ (s.imageWritten g tag).lostNow = s.lostNow ∧
    (s.imageWritten g tag).shown = s.shown ∧ (s.imageWritten g tag).taken = s.taken ∧ (s.imageWritten g tag).free = s.free ∧ (s.imageWritten g tag).pending = s.pending := by simp [State.imageWritten]

@[simp] theorem State.firmwareWritten_frame (s : State) (g : Staging) (tag : Nat) :
    (s.firmwareWritten g tag).tick = s.tick ∧ (s.firmwareWritten g tag).up = s.up ∧ (s.firmwareWritten g tag).unit = s.unit ∧
    (s.firmwareWritten g tag).panel = s.panel ∧ (s.firmwareWritten g tag).cfg = s.cfg ∧
    (s.firmwareWritten g tag).ports = s.ports ∧ (s.firmwareWritten g tag).axes = s.axes ∧
    (s.firmwareWritten g tag).doors = s.doors ∧ (s.firmwareWritten g tag).il = s.il ∧ (s.firmwareWritten g tag).io = s.io ∧
    (s.firmwareWritten g tag).can = s.can ∧ (s.firmwareWritten g tag).hinge = s.hinge ∧
    (s.firmwareWritten g tag).mem = s.mem ∧ (s.firmwareWritten g tag).se = s.se ∧ (s.firmwareWritten g tag).net = s.net ∧
    (s.firmwareWritten g tag).lostNow = s.lostNow ∧ (s.firmwareWritten g tag).shown = s.shown ∧
    (s.firmwareWritten g tag).taken = s.taken ∧ (s.firmwareWritten g tag).free = s.free ∧ (s.firmwareWritten g tag).pending = s.pending := by simp [State.firmwareWritten]

@[simp] theorem State.stageWritten_frame (s : State) (fw : Bool) :
    (s.stageWritten fw).tick = s.tick ∧ (s.stageWritten fw).up = s.up ∧ (s.stageWritten fw).unit = s.unit ∧
    (s.stageWritten fw).panel = s.panel ∧ (s.stageWritten fw).ports = s.ports ∧ (s.stageWritten fw).axes = s.axes ∧
    (s.stageWritten fw).doors = s.doors ∧ (s.stageWritten fw).il = s.il ∧ (s.stageWritten fw).io = s.io ∧
    (s.stageWritten fw).can = s.can ∧ (s.stageWritten fw).hinge = s.hinge ∧ (s.stageWritten fw).mem = s.mem ∧
    (s.stageWritten fw).se = s.se ∧ (s.stageWritten fw).net = s.net ∧ (s.stageWritten fw).lostNow = s.lostNow ∧
    (s.stageWritten fw).shown = s.shown ∧ (s.stageWritten fw).taken = s.taken ∧ (s.stageWritten fw).free = s.free ∧ (s.stageWritten fw).pending = s.pending := by unfold State.stageWritten; (repeat' split) <;> simp

@[simp] theorem State.fwChecked_frame (s : State) :
    s.fwChecked.tick = s.tick ∧ s.fwChecked.up = s.up ∧ s.fwChecked.unit = s.unit ∧ s.fwChecked.panel = s.panel ∧
    s.fwChecked.cfg = s.cfg ∧ s.fwChecked.ports = s.ports ∧ s.fwChecked.axes = s.axes ∧ s.fwChecked.trace = s.trace ∧
    s.fwChecked.doors = s.doors ∧ s.fwChecked.il = s.il ∧ s.fwChecked.io = s.io ∧ s.fwChecked.can = s.can ∧
    s.fwChecked.hinge = s.hinge ∧ s.fwChecked.recorder = s.recorder ∧ s.fwChecked.mem = s.mem ∧ s.fwChecked.kw = s.kw ∧
    s.fwChecked.se = s.se ∧ s.fwChecked.net = s.net ∧ s.fwChecked.lostNow = s.lostNow ∧ s.fwChecked.shown = s.shown ∧
    s.fwChecked.setNow = s.setNow ∧ s.fwChecked.taken = s.taken ∧ s.fwChecked.free = s.free ∧ s.fwChecked.pending = s.pending := by unfold State.fwChecked; split <;> simp

@[simp] theorem State.dryRunEnd_frame (s : State) :
    s.dryRunEnd.tick = s.tick ∧ s.dryRunEnd.up = s.up ∧ s.dryRunEnd.unit = s.unit ∧ s.dryRunEnd.panel = s.panel ∧
    s.dryRunEnd.ports = s.ports ∧ s.dryRunEnd.axes = s.axes ∧ s.dryRunEnd.trace = s.trace ∧ s.dryRunEnd.doors = s.doors ∧
    s.dryRunEnd.il = s.il ∧ s.dryRunEnd.io = s.io ∧ s.dryRunEnd.can = s.can ∧ s.dryRunEnd.hinge = s.hinge ∧
    s.dryRunEnd.recorder = s.recorder ∧ s.dryRunEnd.mem = s.mem ∧ s.dryRunEnd.kw = s.kw ∧ s.dryRunEnd.se = s.se ∧
    s.dryRunEnd.fw = s.fw ∧ s.dryRunEnd.net = s.net ∧ s.dryRunEnd.lostNow = s.lostNow ∧ s.dryRunEnd.shown = s.shown ∧
    s.dryRunEnd.setNow = s.setNow ∧ s.dryRunEnd.taken = s.taken ∧ s.dryRunEnd.free = s.free ∧ s.dryRunEnd.pending = s.pending := by unfold State.dryRunEnd; split <;> simp

@[simp] theorem State.doAnchor_frame (s : State) (i : SessId) (x : Session) (utc : BitVec 64) (unc : Word) :
    (s.doAnchor i x utc unc).1.tick = s.tick ∧ (s.doAnchor i x utc unc).1.up = s.up ∧
    (s.doAnchor i x utc unc).1.unit = s.unit ∧ (s.doAnchor i x utc unc).1.panel = s.panel ∧
    (s.doAnchor i x utc unc).1.cfg = s.cfg ∧ (s.doAnchor i x utc unc).1.ports = s.ports ∧
    (s.doAnchor i x utc unc).1.axes = s.axes ∧ (s.doAnchor i x utc unc).1.doors = s.doors ∧
    (s.doAnchor i x utc unc).1.il = s.il ∧ (s.doAnchor i x utc unc).1.io = s.io ∧ (s.doAnchor i x utc unc).1.can = s.can ∧
    (s.doAnchor i x utc unc).1.hinge = s.hinge ∧ (s.doAnchor i x utc unc).1.mem = s.mem ∧
    (s.doAnchor i x utc unc).1.se = s.se ∧ (s.doAnchor i x utc unc).1.fw = s.fw ∧ (s.doAnchor i x utc unc).1.net = s.net ∧
    (s.doAnchor i x utc unc).1.lostNow = s.lostNow ∧ (s.doAnchor i x utc unc).1.shown = s.shown ∧
    (s.doAnchor i x utc unc).1.taken = s.taken ∧ (s.doAnchor i x utc unc).1.free = s.free ∧ (s.doAnchor i x utc unc).1.pending = s.pending := by unfold State.doAnchor; dsimp only; (repeat' split) <;> simp

@[simp] theorem State.setAnchor_frame (s : State) (j : Fin 2) (der : Option (List Byte)) :
    (s.setAnchor j der).tick = s.tick ∧ (s.setAnchor j der).up = s.up ∧ (s.setAnchor j der).panel = s.panel ∧
    (s.setAnchor j der).ports = s.ports ∧ (s.setAnchor j der).il = s.il ∧ (s.setAnchor j der).io = s.io ∧
    (s.setAnchor j der).can = s.can ∧ (s.setAnchor j der).hinge = s.hinge ∧ (s.setAnchor j der).mem = s.mem ∧
    (s.setAnchor j der).fw = s.fw ∧ (s.setAnchor j der).net = s.net ∧ (s.setAnchor j der).lostNow = s.lostNow ∧
    (s.setAnchor j der).shown = s.shown ∧ (s.setAnchor j der).taken = s.taken ∧ (s.setAnchor j der).free = s.free ∧ (s.setAnchor j der).pending = s.pending ∧
    (s.setAnchor j der).unit.running = s.unit.running := by simp [State.setAnchor]

@[simp] theorem State.doEnrol_frame (s : State) (i : SessId) (x : Session) (index : BitVec 8) (cert sig : List Byte) :
    (s.doEnrol i x index cert sig).1.tick = s.tick ∧ (s.doEnrol i x index cert sig).1.up = s.up ∧
    (s.doEnrol i x index cert sig).1.panel = s.panel ∧ (s.doEnrol i x index cert sig).1.ports = s.ports ∧
    (s.doEnrol i x index cert sig).1.il = s.il ∧ (s.doEnrol i x index cert sig).1.io = s.io ∧
    (s.doEnrol i x index cert sig).1.can = s.can ∧ (s.doEnrol i x index cert sig).1.hinge = s.hinge ∧
    (s.doEnrol i x index cert sig).1.mem = s.mem ∧ (s.doEnrol i x index cert sig).1.fw = s.fw ∧
    (s.doEnrol i x index cert sig).1.net = s.net ∧ (s.doEnrol i x index cert sig).1.lostNow = s.lostNow ∧
    (s.doEnrol i x index cert sig).1.shown = s.shown ∧ (s.doEnrol i x index cert sig).1.taken = s.taken ∧ (s.doEnrol i x index cert sig).1.free = s.free ∧
    (s.doEnrol i x index cert sig).1.pending = s.pending ∧ (s.doEnrol i x index cert sig).1.unit.running = s.unit.running := by unfold State.doEnrol; dsimp only; (repeat' split) <;> simp

@[simp] theorem State.doUnenrol_frame (s : State) (i : SessId) (x : Session) (index : BitVec 8) :
    (s.doUnenrol i x index).1.tick = s.tick ∧ (s.doUnenrol i x index).1.up = s.up ∧
    (s.doUnenrol i x index).1.panel = s.panel ∧ (s.doUnenrol i x index).1.ports = s.ports ∧
    (s.doUnenrol i x index).1.il = s.il ∧ (s.doUnenrol i x index).1.io = s.io ∧ (s.doUnenrol i x index).1.can = s.can ∧
    (s.doUnenrol i x index).1.hinge = s.hinge ∧ (s.doUnenrol i x index).1.mem = s.mem ∧ (s.doUnenrol i x index).1.fw = s.fw ∧
    (s.doUnenrol i x index).1.net = s.net ∧ (s.doUnenrol i x index).1.lostNow = s.lostNow ∧
    (s.doUnenrol i x index).1.shown = s.shown ∧ (s.doUnenrol i x index).1.taken = s.taken ∧ (s.doUnenrol i x index).1.free = s.free ∧
    (s.doUnenrol i x index).1.pending = s.pending ∧ (s.doUnenrol i x index).1.unit.running = s.unit.running := by unfold State.doUnenrol; (repeat' split) <;> simp

@[simp] theorem State.noteTaken_frame (s : State) (a v : Nat) :
    (s.noteTaken a v).tick = s.tick ∧ (s.noteTaken a v).up = s.up ∧ (s.noteTaken a v).unit = s.unit ∧
    (s.noteTaken a v).panel = s.panel ∧ (s.noteTaken a v).cfg = s.cfg ∧ (s.noteTaken a v).ports = s.ports ∧
    (s.noteTaken a v).axes = s.axes ∧ (s.noteTaken a v).trace = s.trace ∧ (s.noteTaken a v).kw = s.kw ∧ (s.noteTaken a v).doors = s.doors ∧
    (s.noteTaken a v).il = s.il ∧ (s.noteTaken a v).io = s.io ∧ (s.noteTaken a v).can = s.can ∧ (s.noteTaken a v).hinge = s.hinge ∧
    (s.noteTaken a v).recorder = s.recorder ∧ (s.noteTaken a v).mem = s.mem ∧ (s.noteTaken a v).se = s.se ∧
    (s.noteTaken a v).fw = s.fw ∧ (s.noteTaken a v).net = s.net ∧ (s.noteTaken a v).lostNow = s.lostNow ∧
    (s.noteTaken a v).shown = s.shown ∧ (s.noteTaken a v).setNow = s.setNow ∧ 
    (s.noteTaken a v).free = s.free ∧ (s.noteTaken a v).pending = s.pending := by
  simp [State.noteTaken]

@[simp] theorem State.doLogRead_frame (s : State) (x : Session) (first count : Nat) (pages : List PageRead) :
    (s.doLogRead x first count pages).1.tick = s.tick ∧ (s.doLogRead x first count pages).1.up = s.up ∧
    (s.doLogRead x first count pages).1.unit = s.unit ∧ (s.doLogRead x first count pages).1.panel = s.panel ∧
    (s.doLogRead x first count pages).1.cfg = s.cfg ∧ (s.doLogRead x first count pages).1.ports = s.ports ∧
    (s.doLogRead x first count pages).1.axes = s.axes ∧ (s.doLogRead x first count pages).1.doors = s.doors ∧
    (s.doLogRead x first count pages).1.il = s.il ∧ (s.doLogRead x first count pages).1.io = s.io ∧
    (s.doLogRead x first count pages).1.can = s.can ∧ (s.doLogRead x first count pages).1.hinge = s.hinge ∧
    (s.doLogRead x first count pages).1.mem = s.mem ∧ (s.doLogRead x first count pages).1.se = s.se ∧
    (s.doLogRead x first count pages).1.fw = s.fw ∧ (s.doLogRead x first count pages).1.net = s.net ∧
    (s.doLogRead x first count pages).1.lostNow = s.lostNow ∧ (s.doLogRead x first count pages).1.shown = s.shown ∧
    (s.doLogRead x first count pages).1.free = s.free ∧ (s.doLogRead x first count pages).1.pending = s.pending := by unfold State.doLogRead; (repeat' split) <;> simp

@[simp] theorem State.eraseCounted_frame (s : State) :
    s.eraseCounted.tick = s.tick ∧ s.eraseCounted.up = s.up ∧ s.eraseCounted.unit = s.unit ∧ s.eraseCounted.panel = s.panel ∧
    s.eraseCounted.cfg = s.cfg ∧ s.eraseCounted.ports = s.ports ∧ s.eraseCounted.axes = s.axes ∧
    s.eraseCounted.doors = s.doors ∧ s.eraseCounted.il = s.il ∧ s.eraseCounted.io = s.io ∧ s.eraseCounted.can = s.can ∧
    s.eraseCounted.hinge = s.hinge ∧ s.eraseCounted.mem = s.mem ∧ s.eraseCounted.fw = s.fw ∧ s.eraseCounted.net = s.net ∧
    s.eraseCounted.lostNow = s.lostNow ∧ s.eraseCounted.shown = s.shown ∧ s.eraseCounted.taken = s.taken ∧ s.eraseCounted.free = s.free ∧
    s.eraseCounted.pending = s.pending := by unfold State.eraseCounted; split <;> simp

@[simp] theorem State.doLogErase_frame (s : State) (i : SessId) (x : Session) (seq : Nat) (chain : List Byte) :
    (s.doLogErase i x seq chain).1.tick = s.tick ∧ (s.doLogErase i x seq chain).1.up = s.up ∧
    (s.doLogErase i x seq chain).1.unit = s.unit ∧ (s.doLogErase i x seq chain).1.panel = s.panel ∧
    (s.doLogErase i x seq chain).1.cfg = s.cfg ∧ (s.doLogErase i x seq chain).1.ports = s.ports ∧
    (s.doLogErase i x seq chain).1.axes = s.axes ∧ (s.doLogErase i x seq chain).1.doors = s.doors ∧
    (s.doLogErase i x seq chain).1.il = s.il ∧ (s.doLogErase i x seq chain).1.io = s.io ∧
    (s.doLogErase i x seq chain).1.can = s.can ∧ (s.doLogErase i x seq chain).1.hinge = s.hinge ∧
    (s.doLogErase i x seq chain).1.mem = s.mem ∧ (s.doLogErase i x seq chain).1.fw = s.fw ∧
    (s.doLogErase i x seq chain).1.net = s.net ∧ (s.doLogErase i x seq chain).1.lostNow = s.lostNow ∧
    (s.doLogErase i x seq chain).1.shown = s.shown ∧ (s.doLogErase i x seq chain).1.taken = s.taken ∧ (s.doLogErase i x seq chain).1.free = s.free ∧
    (s.doLogErase i x seq chain).1.pending = s.pending := by unfold State.doLogErase; dsimp only; (repeat' split) <;> simp

@[simp] theorem State.onPanel_frame (s : State) (f : Panel → Panel) :
    (s.onPanel f).tick = s.tick ∧ (s.onPanel f).up = s.up ∧ (s.onPanel f).unit = s.unit ∧ (s.onPanel f).cfg = s.cfg ∧
    (s.onPanel f).ports = s.ports ∧ (s.onPanel f).axes = s.axes ∧ (s.onPanel f).trace = s.trace ∧
    (s.onPanel f).doors = s.doors ∧ (s.onPanel f).il = s.il ∧ (s.onPanel f).io = s.io ∧ (s.onPanel f).can = s.can ∧
    (s.onPanel f).hinge = s.hinge ∧ (s.onPanel f).recorder = s.recorder ∧ (s.onPanel f).mem = s.mem ∧
    (s.onPanel f).kw = s.kw ∧ (s.onPanel f).se = s.se ∧ (s.onPanel f).fw = s.fw ∧ (s.onPanel f).net = s.net ∧
    (s.onPanel f).lostNow = s.lostNow ∧ (s.onPanel f).shown = s.shown ∧ (s.onPanel f).setNow = s.setNow ∧
    (s.onPanel f).taken = s.taken ∧ (s.onPanel f).free = s.free ∧ (s.onPanel f).pending = s.pending := by simp [State.onPanel]

@[simp] theorem State.stop_frame (s : State) (cause : StartCause) :
    (s.stop cause).tick = s.tick ∧ (s.stop cause).up = s.up ∧ (s.stop cause).panel = s.panel ∧ (s.stop cause).cfg = s.cfg ∧
    (s.stop cause).axes = s.axes ∧ (s.stop cause).trace = s.trace ∧ (s.stop cause).doors = s.doors ∧
    (s.stop cause).io = s.io ∧ (s.stop cause).recorder = s.recorder ∧ (s.stop cause).mem = s.mem ∧ (s.stop cause).kw = s.kw ∧
    (s.stop cause).se = s.se ∧ (s.stop cause).fw = s.fw ∧ (s.stop cause).lostNow = s.lostNow ∧
    (s.stop cause).shown = s.shown ∧ (s.stop cause).setNow = s.setNow ∧ (s.stop cause).taken = s.taken ∧ (s.stop cause).free = s.free ∧
    (s.stop cause).pending = s.pending := by simp [State.stop]

@[simp] theorem State.lastHeartbeat_frame (s : State) :
    s.lastHeartbeat.tick = s.tick ∧ s.lastHeartbeat.up = s.up ∧ s.lastHeartbeat.unit = s.unit ∧
    s.lastHeartbeat.panel = s.panel ∧ s.lastHeartbeat.cfg = s.cfg ∧ s.lastHeartbeat.ports = s.ports ∧
    s.lastHeartbeat.axes = s.axes ∧ s.lastHeartbeat.doors = s.doors ∧ s.lastHeartbeat.il = s.il ∧ s.lastHeartbeat.io = s.io ∧
    s.lastHeartbeat.can = s.can ∧ s.lastHeartbeat.mem = s.mem ∧ s.lastHeartbeat.se = s.se ∧ s.lastHeartbeat.fw = s.fw ∧
    s.lastHeartbeat.net = s.net ∧ s.lastHeartbeat.lostNow = s.lostNow ∧ s.lastHeartbeat.shown = s.shown ∧
    s.lastHeartbeat.taken = s.taken ∧ s.lastHeartbeat.free = s.free ∧ s.lastHeartbeat.pending = s.pending := by unfold State.lastHeartbeat; split <;> simp

@[simp] theorem State.resetStop_frame (s : State) :
    s.resetStop.tick = s.tick ∧ s.resetStop.up = s.up ∧ s.resetStop.panel = s.panel ∧ s.resetStop.cfg = s.cfg ∧
    s.resetStop.axes = s.axes ∧ s.resetStop.doors = s.doors ∧ s.resetStop.io = s.io ∧ s.resetStop.mem = s.mem ∧
    s.resetStop.se = s.se ∧ s.resetStop.fw = s.fw ∧ s.resetStop.lostNow = s.lostNow ∧ s.resetStop.shown = s.shown ∧
    s.resetStop.taken = s.taken ∧ s.resetStop.free = s.free ∧ s.resetStop.pending = s.pending := by simp [State.resetStop]

@[simp] theorem State.onReset_frame (s : State) (f : ResetIn → ResetIn) :
    (s.onReset f).tick = s.tick ∧ (s.onReset f).up = s.up ∧ (s.onReset f).unit = s.unit ∧ (s.onReset f).cfg = s.cfg ∧
    (s.onReset f).ports = s.ports ∧ (s.onReset f).axes = s.axes ∧ (s.onReset f).trace = s.trace ∧
    (s.onReset f).doors = s.doors ∧ (s.onReset f).il = s.il ∧ (s.onReset f).io = s.io ∧ (s.onReset f).can = s.can ∧
    (s.onReset f).hinge = s.hinge ∧ (s.onReset f).recorder = s.recorder ∧ (s.onReset f).mem = s.mem ∧
    (s.onReset f).kw = s.kw ∧ (s.onReset f).se = s.se ∧ (s.onReset f).fw = s.fw ∧ (s.onReset f).net = s.net ∧
    (s.onReset f).lostNow = s.lostNow ∧ (s.onReset f).shown = s.shown ∧ (s.onReset f).setNow = s.setNow ∧
    (s.onReset f).taken = s.taken ∧ (s.onReset f).free = s.free ∧ (s.onReset f).pending = s.pending := by simp [State.onReset]

@[simp] theorem State.resetJam_frame (s : State) :
    s.resetJam.tick = s.tick ∧ s.resetJam.up = s.up ∧ s.resetJam.unit = s.unit ∧ s.resetJam.cfg = s.cfg ∧
    s.resetJam.ports = s.ports ∧ s.resetJam.axes = s.axes ∧ s.resetJam.doors = s.doors ∧ s.resetJam.il = s.il ∧
    s.resetJam.io = s.io ∧ s.resetJam.can = s.can ∧ s.resetJam.hinge = s.hinge ∧ s.resetJam.mem = s.mem ∧
    s.resetJam.se = s.se ∧ s.resetJam.fw = s.fw ∧ s.resetJam.net = s.net ∧ s.resetJam.lostNow = s.lostNow ∧
    s.resetJam.shown = s.shown ∧ s.resetJam.taken = s.taken ∧ s.resetJam.free = s.free ∧ s.resetJam.pending = s.pending := by simp [State.resetJam]

@[simp] theorem State.resetRelease_frame (s : State) :
    s.resetRelease.tick = s.tick ∧ s.resetRelease.up = s.up ∧ s.resetRelease.cfg = s.cfg ∧ s.resetRelease.axes = s.axes ∧
    s.resetRelease.doors = s.doors ∧ s.resetRelease.io = s.io ∧ s.resetRelease.mem = s.mem ∧ s.resetRelease.se = s.se ∧
    s.resetRelease.fw = s.fw ∧ s.resetRelease.lostNow = s.lostNow ∧ s.resetRelease.shown = s.shown ∧
    s.resetRelease.taken = s.taken ∧ s.resetRelease.free = s.free ∧ s.resetRelease.pending = s.pending := by unfold State.resetRelease; dsimp only; split <;> simp

@[simp] theorem State.resetTick_frame (s : State) (level : Bool) :
    (s.resetTick level).tick = s.tick ∧ (s.resetTick level).up = s.up ∧ (s.resetTick level).cfg = s.cfg ∧
    (s.resetTick level).axes = s.axes ∧ (s.resetTick level).doors = s.doors ∧ (s.resetTick level).io = s.io ∧
    (s.resetTick level).mem = s.mem ∧ (s.resetTick level).se = s.se ∧ (s.resetTick level).fw = s.fw ∧
    (s.resetTick level).lostNow = s.lostNow ∧ (s.resetTick level).shown = s.shown ∧ (s.resetTick level).taken = s.taken ∧ (s.resetTick level).free = s.free ∧
    (s.resetTick level).pending = s.pending := by unfold State.resetTick; dsimp only; (repeat' split) <;> simp

@[simp] theorem State.saveOpTime_frame (s : State) :
    s.saveOpTime.tick = s.tick ∧ s.saveOpTime.up = s.up ∧ s.saveOpTime.unit = s.unit ∧ s.saveOpTime.panel = s.panel ∧
    s.saveOpTime.cfg = s.cfg ∧ s.saveOpTime.ports = s.ports ∧ s.saveOpTime.axes = s.axes ∧ s.saveOpTime.trace = s.trace ∧
    s.saveOpTime.doors = s.doors ∧ s.saveOpTime.il = s.il ∧ s.saveOpTime.io = s.io ∧ s.saveOpTime.can = s.can ∧
    s.saveOpTime.hinge = s.hinge ∧ s.saveOpTime.recorder = s.recorder ∧ s.saveOpTime.mem = s.mem ∧ s.saveOpTime.kw = s.kw ∧
    s.saveOpTime.fw = s.fw ∧ s.saveOpTime.net = s.net ∧ s.saveOpTime.lostNow = s.lostNow ∧ s.saveOpTime.shown = s.shown ∧
    s.saveOpTime.setNow = s.setNow ∧ s.saveOpTime.taken = s.taken ∧ s.saveOpTime.free = s.free ∧ s.saveOpTime.pending = s.pending := by simp [State.saveOpTime]

@[simp] theorem State.supplyLoss_frame (s : State) :
    s.supplyLoss.tick = s.tick ∧ s.supplyLoss.up = s.up ∧ s.supplyLoss.unit = s.unit ∧ s.supplyLoss.cfg = s.cfg ∧
    s.supplyLoss.ports = s.ports ∧ s.supplyLoss.axes = s.axes ∧ s.supplyLoss.doors = s.doors ∧ s.supplyLoss.il = s.il ∧
    s.supplyLoss.io = s.io ∧ s.supplyLoss.can = s.can ∧ s.supplyLoss.hinge = s.hinge ∧ s.supplyLoss.mem = s.mem ∧
    s.supplyLoss.fw = s.fw ∧ s.supplyLoss.net = s.net ∧ s.supplyLoss.lostNow = s.lostNow ∧ s.supplyLoss.shown = s.shown ∧
    s.supplyLoss.taken = s.taken ∧ s.supplyLoss.free = s.free ∧ s.supplyLoss.pending = s.pending := by simp [State.supplyLoss]

@[simp] theorem State.supplyReturn_frame (s : State) :
    s.supplyReturn.tick = s.tick ∧ s.supplyReturn.up = s.up ∧ s.supplyReturn.unit = s.unit ∧ s.supplyReturn.cfg = s.cfg ∧
    s.supplyReturn.ports = s.ports ∧ s.supplyReturn.axes = s.axes ∧ s.supplyReturn.trace = s.trace ∧
    s.supplyReturn.doors = s.doors ∧ s.supplyReturn.il = s.il ∧ s.supplyReturn.io = s.io ∧ s.supplyReturn.can = s.can ∧
    s.supplyReturn.hinge = s.hinge ∧ s.supplyReturn.recorder = s.recorder ∧ s.supplyReturn.mem = s.mem ∧
    s.supplyReturn.kw = s.kw ∧ s.supplyReturn.se = s.se ∧ s.supplyReturn.fw = s.fw ∧ s.supplyReturn.net = s.net ∧
    s.supplyReturn.lostNow = s.lostNow ∧ s.supplyReturn.shown = s.shown ∧ s.supplyReturn.setNow = s.setNow ∧
    s.supplyReturn.taken = s.taken ∧ s.supplyReturn.free = s.free ∧ s.supplyReturn.pending = s.pending := by simp [State.supplyReturn]

@[simp] theorem State.supplyHigh_frame (s : State) :
    s.supplyHigh.tick = s.tick ∧ s.supplyHigh.up = s.up ∧ s.supplyHigh.unit = s.unit ∧ s.supplyHigh.cfg = s.cfg ∧
    s.supplyHigh.ports = s.ports ∧ s.supplyHigh.axes = s.axes ∧ s.supplyHigh.doors = s.doors ∧ s.supplyHigh.il = s.il ∧
    s.supplyHigh.io = s.io ∧ s.supplyHigh.can = s.can ∧ s.supplyHigh.hinge = s.hinge ∧ s.supplyHigh.mem = s.mem ∧
    s.supplyHigh.se = s.se ∧ s.supplyHigh.fw = s.fw ∧ s.supplyHigh.net = s.net ∧ s.supplyHigh.lostNow = s.lostNow ∧
    s.supplyHigh.shown = s.shown ∧ s.supplyHigh.taken = s.taken ∧ s.supplyHigh.free = s.free ∧ s.supplyHigh.pending = s.pending := by unfold State.supplyHigh; split <;> simp

@[simp] theorem State.supplyTick_frame (s : State) (v : BitVec 16) :
    (s.supplyTick v).tick = s.tick ∧ (s.supplyTick v).up = s.up ∧ (s.supplyTick v).unit = s.unit ∧
    (s.supplyTick v).cfg = s.cfg ∧ (s.supplyTick v).ports = s.ports ∧ (s.supplyTick v).axes = s.axes ∧
    (s.supplyTick v).doors = s.doors ∧ (s.supplyTick v).il = s.il ∧ (s.supplyTick v).io = s.io ∧
    (s.supplyTick v).can = s.can ∧ (s.supplyTick v).hinge = s.hinge ∧ (s.supplyTick v).mem = s.mem ∧
    (s.supplyTick v).fw = s.fw ∧ (s.supplyTick v).net = s.net ∧ (s.supplyTick v).lostNow = s.lostNow ∧
    (s.supplyTick v).shown = s.shown ∧ (s.supplyTick v).taken = s.taken ∧ (s.supplyTick v).free = s.free ∧ (s.supplyTick v).pending = s.pending := by unfold State.supplyTick; dsimp only; (repeat' split) <;> simp

@[simp] theorem State.flushOpen_frame (s : State) :
    s.flushOpen.tick = s.tick ∧ s.flushOpen.up = s.up ∧ s.flushOpen.unit = s.unit ∧ s.flushOpen.panel = s.panel ∧
    s.flushOpen.cfg = s.cfg ∧ s.flushOpen.ports = s.ports ∧ s.flushOpen.axes = s.axes ∧ s.flushOpen.trace = s.trace ∧
    s.flushOpen.doors = s.doors ∧ s.flushOpen.il = s.il ∧ s.flushOpen.io = s.io ∧ s.flushOpen.can = s.can ∧
    s.flushOpen.hinge = s.hinge ∧ s.flushOpen.mem = s.mem ∧ s.flushOpen.kw = s.kw ∧ s.flushOpen.se = s.se ∧
    s.flushOpen.fw = s.fw ∧ s.flushOpen.net = s.net ∧ s.flushOpen.lostNow = s.lostNow ∧ s.flushOpen.shown = s.shown ∧
    s.flushOpen.setNow = s.setNow ∧ s.flushOpen.taken = s.taken ∧ s.flushOpen.free = s.free ∧ s.flushOpen.pending = s.pending := by unfold State.flushOpen; split <;> simp

@[simp] theorem State.logClocks_frame (s : State) :
    s.logClocks.tick = s.tick ∧ s.logClocks.up = s.up ∧ s.logClocks.unit = s.unit ∧ s.logClocks.panel = s.panel ∧
    s.logClocks.cfg = s.cfg ∧ s.logClocks.ports = s.ports ∧ s.logClocks.axes = s.axes ∧ s.logClocks.trace = s.trace ∧
    s.logClocks.doors = s.doors ∧ s.logClocks.il = s.il ∧ s.logClocks.io = s.io ∧ s.logClocks.can = s.can ∧
    s.logClocks.hinge = s.hinge ∧ s.logClocks.mem = s.mem ∧ s.logClocks.kw = s.kw ∧ s.logClocks.fw = s.fw ∧
    s.logClocks.net = s.net ∧ s.logClocks.lostNow = s.lostNow ∧ s.logClocks.shown = s.shown ∧ s.logClocks.setNow = s.setNow ∧
    s.logClocks.taken = s.taken ∧ s.logClocks.free = s.free ∧ s.logClocks.pending = s.pending := by unfold State.logClocks; dsimp only; (repeat' split) <;> simp

@[simp] theorem State.housingHot_frame (s : State) :
    s.housingHot.tick = s.tick ∧ s.housingHot.up = s.up ∧ s.housingHot.unit = s.unit ∧ s.housingHot.cfg = s.cfg ∧
    s.housingHot.ports = s.ports ∧ s.housingHot.axes = s.axes ∧ s.housingHot.doors = s.doors ∧ s.housingHot.il = s.il ∧
    s.housingHot.io = s.io ∧ s.housingHot.can = s.can ∧ s.housingHot.hinge = s.hinge ∧ s.housingHot.mem = s.mem ∧
    s.housingHot.se = s.se ∧ s.housingHot.fw = s.fw ∧ s.housingHot.net = s.net ∧ s.housingHot.lostNow = s.lostNow ∧
    s.housingHot.shown = s.shown ∧ s.housingHot.taken = s.taken ∧ s.housingHot.free = s.free ∧ s.housingHot.pending = s.pending := by unfold State.housingHot; split <;> simp

@[simp] theorem State.housingTick_frame (s : State) (t : BitVec 16) :
    (s.housingTick t).tick = s.tick ∧ (s.housingTick t).up = s.up ∧ (s.housingTick t).unit = s.unit ∧
    (s.housingTick t).cfg = s.cfg ∧ (s.housingTick t).ports = s.ports ∧ (s.housingTick t).axes = s.axes ∧
    (s.housingTick t).doors = s.doors ∧ (s.housingTick t).il = s.il ∧ (s.housingTick t).io = s.io ∧
    (s.housingTick t).can = s.can ∧ (s.housingTick t).hinge = s.hinge ∧ (s.housingTick t).mem = s.mem ∧
    (s.housingTick t).se = s.se ∧ (s.housingTick t).fw = s.fw ∧ (s.housingTick t).net = s.net ∧
    (s.housingTick t).lostNow = s.lostNow ∧ (s.housingTick t).shown = s.shown ∧ (s.housingTick t).taken = s.taken ∧ (s.housingTick t).free = s.free ∧
    (s.housingTick t).pending = s.pending := by unfold State.housingTick; dsimp only; (repeat' split) <;> simp

@[simp] theorem State.addrChanged_frame (s : State) (pins : BitVec 10) :
    (s.addrChanged pins).tick = s.tick ∧ (s.addrChanged pins).up = s.up ∧ (s.addrChanged pins).unit = s.unit ∧
    (s.addrChanged pins).cfg = s.cfg ∧ (s.addrChanged pins).ports = s.ports ∧ (s.addrChanged pins).axes = s.axes ∧
    (s.addrChanged pins).doors = s.doors ∧ (s.addrChanged pins).il = s.il ∧ (s.addrChanged pins).io = s.io ∧
    (s.addrChanged pins).can = s.can ∧ (s.addrChanged pins).hinge = s.hinge ∧ (s.addrChanged pins).mem = s.mem ∧
    (s.addrChanged pins).se = s.se ∧ (s.addrChanged pins).fw = s.fw ∧ (s.addrChanged pins).net = s.net ∧
    (s.addrChanged pins).lostNow = s.lostNow ∧ (s.addrChanged pins).shown = s.shown ∧ (s.addrChanged pins).taken = s.taken ∧ (s.addrChanged pins).free = s.free ∧
    (s.addrChanged pins).pending = s.pending := by simp [State.addrChanged]

@[simp] theorem State.pinsTick_frame (s : State) (pins : BitVec 10) :
    (s.pinsTick pins).tick = s.tick ∧ (s.pinsTick pins).up = s.up ∧ (s.pinsTick pins).unit = s.unit ∧
    (s.pinsTick pins).cfg = s.cfg ∧ (s.pinsTick pins).ports = s.ports ∧ (s.pinsTick pins).axes = s.axes ∧
    (s.pinsTick pins).doors = s.doors ∧ (s.pinsTick pins).il = s.il ∧ (s.pinsTick pins).io = s.io ∧
    (s.pinsTick pins).can = s.can ∧ (s.pinsTick pins).hinge = s.hinge ∧ (s.pinsTick pins).mem = s.mem ∧
    (s.pinsTick pins).se = s.se ∧ (s.pinsTick pins).fw = s.fw ∧ (s.pinsTick pins).net = s.net ∧
    (s.pinsTick pins).lostNow = s.lostNow ∧ (s.pinsTick pins).shown = s.shown ∧ (s.pinsTick pins).taken = s.taken ∧ (s.pinsTick pins).free = s.free ∧
    (s.pinsTick pins).pending = s.pending := by unfold State.pinsTick; dsimp only; (repeat' split) <;> simp

@[simp] theorem State.wardChange_frame (s : State) (k : Fin 12) (on : Bool) :
    (s.wardChange k on).tick = s.tick ∧ (s.wardChange k on).up = s.up ∧ (s.wardChange k on).unit = s.unit ∧
    (s.wardChange k on).cfg = s.cfg ∧ (s.wardChange k on).ports = s.ports ∧ (s.wardChange k on).axes = s.axes ∧
    (s.wardChange k on).doors = s.doors ∧ (s.wardChange k on).il = s.il ∧ (s.wardChange k on).io = s.io ∧
    (s.wardChange k on).can = s.can ∧ (s.wardChange k on).hinge = s.hinge ∧ (s.wardChange k on).mem = s.mem ∧
    (s.wardChange k on).se = s.se ∧ (s.wardChange k on).fw = s.fw ∧ (s.wardChange k on).net = s.net ∧
    (s.wardChange k on).lostNow = s.lostNow ∧ (s.wardChange k on).shown = s.shown ∧ (s.wardChange k on).taken = s.taken ∧ (s.wardChange k on).free = s.free ∧
    (s.wardChange k on).pending = s.pending := by unfold State.wardChange; dsimp only; (repeat' split) <;> simp

@[simp] theorem State.wardSwitch_frame (s : State) (raw : BitVec 12) (k : Fin 12) :
    (s.wardSwitch raw k).tick = s.tick ∧ (s.wardSwitch raw k).up = s.up ∧ (s.wardSwitch raw k).unit = s.unit ∧
    (s.wardSwitch raw k).cfg = s.cfg ∧ (s.wardSwitch raw k).ports = s.ports ∧ (s.wardSwitch raw k).axes = s.axes ∧
    (s.wardSwitch raw k).doors = s.doors ∧ (s.wardSwitch raw k).il = s.il ∧ (s.wardSwitch raw k).io = s.io ∧
    (s.wardSwitch raw k).can = s.can ∧ (s.wardSwitch raw k).hinge = s.hinge ∧ (s.wardSwitch raw k).mem = s.mem ∧
    (s.wardSwitch raw k).se = s.se ∧ (s.wardSwitch raw k).fw = s.fw ∧ (s.wardSwitch raw k).net = s.net ∧
    (s.wardSwitch raw k).lostNow = s.lostNow ∧ (s.wardSwitch raw k).shown = s.shown ∧ (s.wardSwitch raw k).taken = s.taken ∧ (s.wardSwitch raw k).free = s.free ∧
    (s.wardSwitch raw k).pending = s.pending := by unfold State.wardSwitch; dsimp only; (repeat' split) <;> simp

@[simp] theorem State.wardTick_frame (s : State) (raw : BitVec 12) :
    (s.wardTick raw).tick = s.tick ∧ (s.wardTick raw).up = s.up ∧ (s.wardTick raw).unit = s.unit ∧
    (s.wardTick raw).cfg = s.cfg ∧ (s.wardTick raw).ports = s.ports ∧ (s.wardTick raw).axes = s.axes ∧
    (s.wardTick raw).doors = s.doors ∧ (s.wardTick raw).il = s.il ∧ (s.wardTick raw).io = s.io ∧
    (s.wardTick raw).can = s.can ∧ (s.wardTick raw).hinge = s.hinge ∧ (s.wardTick raw).mem = s.mem ∧
    (s.wardTick raw).se = s.se ∧ (s.wardTick raw).fw = s.fw ∧ (s.wardTick raw).net = s.net ∧
    (s.wardTick raw).lostNow = s.lostNow ∧ (s.wardTick raw).shown = s.shown ∧ (s.wardTick raw).taken = s.taken ∧ (s.wardTick raw).free = s.free ∧
    (s.wardTick raw).pending = s.pending := by simp [State.wardTick]

@[simp] theorem State.coverReport_frame (s : State) :
    s.coverReport.tick = s.tick ∧ s.coverReport.up = s.up ∧ s.coverReport.unit = s.unit ∧ s.coverReport.panel = s.panel ∧
    s.coverReport.cfg = s.cfg ∧ s.coverReport.ports = s.ports ∧ s.coverReport.axes = s.axes ∧ s.coverReport.doors = s.doors ∧
    s.coverReport.il = s.il ∧ s.coverReport.io = s.io ∧ s.coverReport.can = s.can ∧ s.coverReport.hinge = s.hinge ∧
    s.coverReport.mem = s.mem ∧ s.coverReport.se = s.se ∧ s.coverReport.fw = s.fw ∧ s.coverReport.net = s.net ∧
    s.coverReport.lostNow = s.lostNow ∧ s.coverReport.shown = s.shown ∧ s.coverReport.taken = s.taken ∧ s.coverReport.free = s.free ∧
    s.coverReport.pending = s.pending := by simp [State.coverReport]

@[simp] theorem State.coverLift_frame (s : State) :
    s.coverLift.tick = s.tick ∧ s.coverLift.up = s.up ∧ s.coverLift.unit = s.unit ∧ s.coverLift.cfg = s.cfg ∧
    s.coverLift.ports = s.ports ∧ s.coverLift.axes = s.axes ∧ s.coverLift.doors = s.doors ∧ s.coverLift.il = s.il ∧
    s.coverLift.io = s.io ∧ s.coverLift.can = s.can ∧ s.coverLift.hinge = s.hinge ∧ s.coverLift.mem = s.mem ∧
    s.coverLift.se = s.se ∧ s.coverLift.fw = s.fw ∧ s.coverLift.net = s.net ∧ s.coverLift.lostNow = s.lostNow ∧
    s.coverLift.shown = s.shown ∧ s.coverLift.taken = s.taken ∧ s.coverLift.free = s.free ∧ s.coverLift.pending = s.pending := by unfold State.coverLift; dsimp only; (repeat' split) <;> simp

@[simp] theorem State.coverBack_frame (s : State) :
    s.coverBack.tick = s.tick ∧ s.coverBack.up = s.up ∧ s.coverBack.unit = s.unit ∧ s.coverBack.cfg = s.cfg ∧
    s.coverBack.ports = s.ports ∧ s.coverBack.axes = s.axes ∧ s.coverBack.trace = s.trace ∧ s.coverBack.doors = s.doors ∧
    s.coverBack.il = s.il ∧ s.coverBack.io = s.io ∧ s.coverBack.can = s.can ∧ s.coverBack.hinge = s.hinge ∧
    s.coverBack.recorder = s.recorder ∧ s.coverBack.mem = s.mem ∧ s.coverBack.kw = s.kw ∧ s.coverBack.se = s.se ∧
    s.coverBack.fw = s.fw ∧ s.coverBack.net = s.net ∧ s.coverBack.lostNow = s.lostNow ∧ s.coverBack.shown = s.shown ∧
    s.coverBack.setNow = s.setNow ∧ s.coverBack.taken = s.taken ∧ s.coverBack.free = s.free ∧ s.coverBack.pending = s.pending := by simp [State.coverBack]

@[simp] theorem State.coverTick_frame (s : State) (open' : Bool) :
    (s.coverTick open').tick = s.tick ∧ (s.coverTick open').up = s.up ∧ (s.coverTick open').unit = s.unit ∧
    (s.coverTick open').cfg = s.cfg ∧ (s.coverTick open').ports = s.ports ∧ (s.coverTick open').axes = s.axes ∧
    (s.coverTick open').doors = s.doors ∧ (s.coverTick open').il = s.il ∧ (s.coverTick open').io = s.io ∧
    (s.coverTick open').can = s.can ∧ (s.coverTick open').hinge = s.hinge ∧ (s.coverTick open').mem = s.mem ∧
    (s.coverTick open').se = s.se ∧ (s.coverTick open').fw = s.fw ∧ (s.coverTick open').net = s.net ∧
    (s.coverTick open').lostNow = s.lostNow ∧ (s.coverTick open').shown = s.shown ∧ (s.coverTick open').taken = s.taken ∧ (s.coverTick open').free = s.free ∧
    (s.coverTick open').pending = s.pending := by unfold State.coverTick; split <;> simp

@[simp] theorem State.coverAtBootEnd_frame (s : State) :
    s.coverAtBootEnd.tick = s.tick ∧ s.coverAtBootEnd.up = s.up ∧ s.coverAtBootEnd.unit = s.unit ∧
    s.coverAtBootEnd.panel = s.panel ∧ s.coverAtBootEnd.cfg = s.cfg ∧ s.coverAtBootEnd.ports = s.ports ∧
    s.coverAtBootEnd.axes = s.axes ∧ s.coverAtBootEnd.doors = s.doors ∧ s.coverAtBootEnd.il = s.il ∧
    s.coverAtBootEnd.io = s.io ∧ s.coverAtBootEnd.can = s.can ∧ s.coverAtBootEnd.hinge = s.hinge ∧
    s.coverAtBootEnd.mem = s.mem ∧ s.coverAtBootEnd.se = s.se ∧ s.coverAtBootEnd.fw = s.fw ∧ s.coverAtBootEnd.net = s.net ∧
    s.coverAtBootEnd.lostNow = s.lostNow ∧ s.coverAtBootEnd.shown = s.shown ∧ s.coverAtBootEnd.taken = s.taken ∧ s.coverAtBootEnd.free = s.free ∧
    s.coverAtBootEnd.pending = s.pending := by unfold State.coverAtBootEnd; split <;> simp

@[simp] theorem State.pinDown_frame (s : State) :
    s.pinDown.tick = s.tick ∧ s.pinDown.up = s.up ∧ s.pinDown.unit = s.unit ∧ s.pinDown.panel = s.panel ∧
    s.pinDown.cfg = s.cfg ∧ s.pinDown.ports = s.ports ∧ s.pinDown.axes = s.axes ∧ s.pinDown.trace = s.trace ∧
    s.pinDown.doors = s.doors ∧ s.pinDown.il = s.il ∧ s.pinDown.io = s.io ∧ s.pinDown.can = s.can ∧
    s.pinDown.recorder = s.recorder ∧ s.pinDown.mem = s.mem ∧ s.pinDown.kw = s.kw ∧ s.pinDown.se = s.se ∧
    s.pinDown.fw = s.fw ∧ s.pinDown.net = s.net ∧ s.pinDown.lostNow = s.lostNow ∧ s.pinDown.shown = s.shown ∧
    s.pinDown.setNow = s.setNow ∧ s.pinDown.taken = s.taken ∧ s.pinDown.free = s.free ∧ s.pinDown.pending = s.pending := by simp [State.pinDown]

@[simp] theorem State.clocks_frame (s : State) (locks : BitVec 8) (late : Bool) :
    (s.clocks locks late).tick = s.tick ∧ (s.clocks locks late).up = s.up ∧ (s.clocks locks late).panel = s.panel ∧
    (s.clocks locks late).cfg = s.cfg ∧ (s.clocks locks late).ports = s.ports ∧     (s.clocks locks late).il = s.il ∧ (s.clocks locks late).io = s.io ∧ (s.clocks locks late).can = s.can ∧
    (s.clocks locks late).mem = s.mem ∧ (s.clocks locks late).se = s.se ∧ (s.clocks locks late).fw = s.fw ∧
    (s.clocks locks late).net = s.net ∧ (s.clocks locks late).lostNow = s.lostNow ∧ (s.clocks locks late).shown = s.shown ∧
    (s.clocks locks late).taken = s.taken ∧ (s.clocks locks late).free = s.free ∧ (s.clocks locks late).pending = s.pending ∧
    (s.clocks locks late).unit.running = s.unit.running := by unfold State.clocks; (repeat' split) <;> simp

@[simp] theorem State.strobeFault_frame (s : State) (late : Bool) :
    (s.strobeFault late).tick = s.tick ∧ (s.strobeFault late).up = s.up ∧ (s.strobeFault late).panel = s.panel ∧
    (s.strobeFault late).cfg = s.cfg ∧ (s.strobeFault late).ports = s.ports ∧     (s.strobeFault late).il = s.il ∧ (s.strobeFault late).io = s.io ∧ (s.strobeFault late).can = s.can ∧
    (s.strobeFault late).mem = s.mem ∧ (s.strobeFault late).se = s.se ∧ (s.strobeFault late).fw = s.fw ∧
    (s.strobeFault late).net = s.net ∧ (s.strobeFault late).lostNow = s.lostNow ∧ (s.strobeFault late).shown = s.shown ∧
    (s.strobeFault late).taken = s.taken ∧ (s.strobeFault late).free = s.free ∧ (s.strobeFault late).pending = s.pending ∧
    (s.strobeFault late).unit.running = s.unit.running := by simp [State.strobeFault]

@[simp] theorem State.panelTick_frame (s : State) (x : Snapshot) :
    (s.panelTick x).tick = s.tick ∧ (s.panelTick x).up = s.up ∧ (s.panelTick x).unit = s.unit ∧ (s.panelTick x).cfg = s.cfg ∧
    (s.panelTick x).ports = s.ports ∧ (s.panelTick x).axes = s.axes ∧ (s.panelTick x).doors = s.doors ∧
    (s.panelTick x).il = s.il ∧ (s.panelTick x).io = s.io ∧ (s.panelTick x).can = s.can ∧ (s.panelTick x).hinge = s.hinge ∧
    (s.panelTick x).mem = s.mem ∧ (s.panelTick x).fw = s.fw ∧ (s.panelTick x).net = s.net ∧
    (s.panelTick x).lostNow = s.lostNow ∧ (s.panelTick x).shown = s.shown ∧ (s.panelTick x).taken = s.taken ∧ (s.panelTick x).free = s.free ∧
    (s.panelTick x).pending = s.pending := by simp [State.panelTick]

@[simp] theorem State.startWarnings_frame (s : State) :
    s.startWarnings.tick = s.tick ∧ s.startWarnings.up = s.up ∧ s.startWarnings.unit = s.unit ∧ s.startWarnings.cfg = s.cfg ∧
    s.startWarnings.ports = s.ports ∧ s.startWarnings.axes = s.axes ∧ s.startWarnings.doors = s.doors ∧
    s.startWarnings.il = s.il ∧ s.startWarnings.io = s.io ∧ s.startWarnings.can = s.can ∧ s.startWarnings.hinge = s.hinge ∧
    s.startWarnings.se = s.se ∧ s.startWarnings.fw = s.fw ∧ s.startWarnings.net = s.net ∧
    s.startWarnings.lostNow = s.lostNow ∧ s.startWarnings.shown = s.shown ∧ s.startWarnings.taken = s.taken ∧ s.startWarnings.free = s.free ∧
    s.startWarnings.pending = s.pending := by unfold State.startWarnings; dsimp only; (repeat' split) <;> simp

@[simp] theorem State.startWarnings_wf (s : State) (h : memWf s.mem.scratch = true) :
    memWf s.startWarnings.mem.scratch = true := by
  unfold State.startWarnings
  (try dsimp only) <;> (repeat' split) <;> simp [h]

@[simp] theorem State.endBoot_frame (s : State) :
    s.endBoot.tick = s.tick ∧ s.endBoot.up = s.up ∧ s.endBoot.unit = s.unit ∧ s.endBoot.panel = s.panel ∧
    s.endBoot.cfg = s.cfg ∧ s.endBoot.ports = s.ports ∧ s.endBoot.axes = s.axes ∧ s.endBoot.doors = s.doors ∧
    s.endBoot.il = s.il ∧ s.endBoot.io = s.io ∧ s.endBoot.can = s.can ∧ s.endBoot.hinge = s.hinge ∧ s.endBoot.mem = s.mem ∧
    s.endBoot.se = s.se ∧ s.endBoot.fw = s.fw ∧ s.endBoot.lostNow = s.lostNow ∧ s.endBoot.shown = s.shown ∧
    s.endBoot.taken = s.taken ∧ s.endBoot.free = s.free ∧ s.endBoot.pending = s.pending := by simp [State.endBoot]

@[simp] theorem State.bootHeld_frame (s : State) (code : Code) :
    (s.bootHeld code).tick = s.tick ∧ (s.bootHeld code).up = s.up ∧ (s.bootHeld code).panel = s.panel ∧
    (s.bootHeld code).cfg = s.cfg ∧ (s.bootHeld code).ports = s.ports ∧     (s.bootHeld code).il = s.il ∧ (s.bootHeld code).io = s.io ∧ (s.bootHeld code).can = s.can ∧
    (s.bootHeld code).mem = s.mem ∧ (s.bootHeld code).se = s.se ∧ (s.bootHeld code).fw = s.fw ∧
    (s.bootHeld code).lostNow = s.lostNow ∧ (s.bootHeld code).shown = s.shown ∧ (s.bootHeld code).taken = s.taken ∧ (s.bootHeld code).free = s.free ∧
    (s.bootHeld code).pending = s.pending ∧ (s.bootHeld code).unit.running = s.unit.running := by simp [State.bootHeld]

@[simp] theorem State.copyFirmware_frame (s : State) (wrong : List (Nat × Byte)) :
    (s.copyFirmware wrong).tick = s.tick ∧ (s.copyFirmware wrong).up = s.up ∧ (s.copyFirmware wrong).panel = s.panel ∧
    (s.copyFirmware wrong).cfg = s.cfg ∧ (s.copyFirmware wrong).ports = s.ports ∧     (s.copyFirmware wrong).il = s.il ∧ (s.copyFirmware wrong).io = s.io ∧ (s.copyFirmware wrong).can = s.can ∧
    (s.copyFirmware wrong).se = s.se ∧ (s.copyFirmware wrong).fw = s.fw ∧ (s.copyFirmware wrong).lostNow = s.lostNow ∧
    (s.copyFirmware wrong).shown = s.shown ∧ (s.copyFirmware wrong).taken = s.taken ∧ (s.copyFirmware wrong).free = s.free ∧
    (s.copyFirmware wrong).pending = s.pending ∧ (s.copyFirmware wrong).unit.running = s.unit.running := by unfold State.copyFirmware; dsimp only; split <;> simp

@[simp] theorem State.copyFirmware_wf (s : State) (wrong : List (Nat × Byte)) (h : memWf s.mem.scratch = true) :
    memWf (s.copyFirmware wrong).mem.scratch = true := by unfold State.copyFirmware; dsimp only; split <;> simp [h]

theorem State.rebuild_free (s : State) (p : PowerUp) : (s.rebuild p).free = s.free ∧ (s.rebuild p).pending = s.pending := ⟨rfl, rfl⟩
theorem State.rebuild_scratch (s : State) (p : PowerUp) : memWf (s.rebuild p).mem.scratch = true := rfl
theorem State.started_frame (s : State) (p : PowerUp) : (s.rebuild p).startWarnings.free = s.free ∧ (s.rebuild p).startWarnings.pending = s.pending := by
  have h := State.rebuild_free s p
  generalize s.rebuild p = q at h ⊢
  simp [h]
theorem State.started_scratch (s : State) (p : PowerUp) : memWf (s.rebuild p).startWarnings.mem.scratch = true := by
  have h := State.rebuild_scratch s p
  generalize s.rebuild p = q at h ⊢
  exact State.startWarnings_wf _ h

@[simp] theorem State.powerOn_frame (s : State) (p : PowerUp) :
    (s.powerOn p).free = s.free ∧ (s.powerOn p).pending = s.pending := by
  have h := State.started_frame s p
  unfold State.powerOn
  generalize (s.rebuild p).startWarnings = q at h ⊢
  dsimp only
  split
  · simp [h]
  · split <;> simp [h]

@[simp] theorem State.powerOn_wf (s : State) (p : PowerUp) (h : memWf s.mem.scratch = true) :
    memWf (s.powerOn p).mem.scratch = true := by
  have h := State.started_scratch s p
  unfold State.powerOn
  generalize (s.rebuild p).startWarnings = q at h ⊢
  dsimp only
  split
  · simp [h]
  · split <;> simp [h]

@[simp] theorem State.acceptSafety_frame (s : State) (o : SlotOutcome) :
    (s.acceptSafety o).tick = s.tick ∧ (s.acceptSafety o).up = s.up ∧ (s.acceptSafety o).unit = s.unit ∧
    (s.acceptSafety o).panel = s.panel ∧ (s.acceptSafety o).ports = s.ports ∧ (s.acceptSafety o).axes = s.axes ∧
    (s.acceptSafety o).doors = s.doors ∧ (s.acceptSafety o).il = s.il ∧ (s.acceptSafety o).io = s.io ∧
    (s.acceptSafety o).can = s.can ∧ (s.acceptSafety o).hinge = s.hinge ∧ (s.acceptSafety o).mem = s.mem ∧
    (s.acceptSafety o).fw = s.fw ∧ (s.acceptSafety o).net = s.net ∧ (s.acceptSafety o).lostNow = s.lostNow ∧
    (s.acceptSafety o).shown = s.shown ∧ (s.acceptSafety o).taken = s.taken ∧ (s.acceptSafety o).free = s.free ∧ (s.acceptSafety o).pending = s.pending := by unfold State.acceptSafety; split <;> simp

@[simp] theorem State.takeSlot_frame (s : State) (slotB fallback : Bool) (o : SlotOutcome) :
    (s.takeSlot slotB fallback o).tick = s.tick ∧ (s.takeSlot slotB fallback o).up = s.up ∧
    (s.takeSlot slotB fallback o).panel = s.panel ∧ (s.takeSlot slotB fallback o).ports = s.ports ∧
    (s.takeSlot slotB fallback o).axes = s.axes ∧ (s.takeSlot slotB fallback o).doors = s.doors ∧
    (s.takeSlot slotB fallback o).io = s.io ∧ (s.takeSlot slotB fallback o).can = s.can ∧
    (s.takeSlot slotB fallback o).hinge = s.hinge ∧     (s.takeSlot slotB fallback o).fw = s.fw ∧ (s.takeSlot slotB fallback o).lostNow = s.lostNow ∧
    (s.takeSlot slotB fallback o).shown = s.shown ∧ (s.takeSlot slotB fallback o).taken = s.taken ∧ (s.takeSlot slotB fallback o).free = s.free ∧
    (s.takeSlot slotB fallback o).pending = s.pending ∧ (s.takeSlot slotB fallback o).unit.running = s.unit.running := by simp [State.takeSlot, apply_ite]

@[simp] theorem State.takeSlot_scratch (s : State) (slotB fallback : Bool) (o : SlotOutcome) :
    (s.takeSlot slotB fallback o).mem.scratch = s.mem.scratch := by simp [State.takeSlot, apply_ite]

@[simp] theorem State.chooseSlot_frame (s : State) :
    s.chooseSlot.tick = s.tick ∧ s.chooseSlot.up = s.up ∧ s.chooseSlot.panel = s.panel ∧ s.chooseSlot.ports = s.ports ∧
    s.chooseSlot.axes = s.axes ∧ s.chooseSlot.doors = s.doors ∧ s.chooseSlot.io = s.io ∧ s.chooseSlot.can = s.can ∧
    s.chooseSlot.hinge = s.hinge ∧ s.chooseSlot.fw = s.fw ∧ s.chooseSlot.lostNow = s.lostNow ∧
    s.chooseSlot.shown = s.shown ∧ s.chooseSlot.taken = s.taken ∧ s.chooseSlot.free = s.free ∧ s.chooseSlot.pending = s.pending ∧
    s.chooseSlot.unit.running = s.unit.running := by unfold State.chooseSlot; dsimp only; (repeat' split) <;> simp

@[simp] theorem State.chooseSlot_scratch (s : State) : s.chooseSlot.mem.scratch = s.mem.scratch := by
  unfold State.chooseSlot; dsimp only; (repeat' split) <;> simp

@[simp] theorem State.bootWaitOver_frame (s : State) :
    s.bootWaitOver.tick = s.tick ∧ s.bootWaitOver.up = s.up ∧ s.bootWaitOver.panel = s.panel ∧
    s.bootWaitOver.ports = s.ports ∧ s.bootWaitOver.axes = s.axes ∧ s.bootWaitOver.doors = s.doors ∧
    s.bootWaitOver.io = s.io ∧ s.bootWaitOver.can = s.can ∧ s.bootWaitOver.hinge = s.hinge ∧     s.bootWaitOver.fw = s.fw ∧ s.bootWaitOver.lostNow = s.lostNow ∧ s.bootWaitOver.shown = s.shown ∧
    s.bootWaitOver.taken = s.taken ∧ s.bootWaitOver.free = s.free ∧ s.bootWaitOver.pending = s.pending ∧ s.bootWaitOver.unit.running = s.unit.running := by unfold State.bootWaitOver; split <;> simp

@[simp] theorem State.bootWaitOver_scratch (s : State) : s.bootWaitOver.mem.scratch = s.mem.scratch := by
  unfold State.bootWaitOver; split <;> simp

@[simp] theorem State.configEnd_frame (s : State) (t : Tick) :
    (s.configEnd t).tick = s.tick ∧ (s.configEnd t).up = s.up ∧ (s.configEnd t).panel = s.panel ∧
    (s.configEnd t).cfg = s.cfg ∧ (s.configEnd t).ports = s.ports ∧ (s.configEnd t).doors = s.doors ∧
    (s.configEnd t).il = s.il ∧ (s.configEnd t).io = s.io ∧ (s.configEnd t).can = s.can ∧ (s.configEnd t).mem = s.mem ∧
    (s.configEnd t).se = s.se ∧ (s.configEnd t).fw = s.fw ∧ (s.configEnd t).net = s.net ∧
    (s.configEnd t).lostNow = s.lostNow ∧ (s.configEnd t).shown = s.shown ∧ (s.configEnd t).taken = s.taken ∧ (s.configEnd t).free = s.free ∧
    (s.configEnd t).pending = s.pending ∧ (s.configEnd t).unit.running = s.unit.running := by unfold State.configEnd; (repeat' split) <;> simp

@[simp] theorem State.mountLog_frame (s : State) (reads : Option (List (Nat × List Byte))) :
    (s.mountLog reads).tick = s.tick ∧ (s.mountLog reads).up = s.up ∧ (s.mountLog reads).unit = s.unit ∧
    (s.mountLog reads).panel = s.panel ∧ (s.mountLog reads).cfg = s.cfg ∧ (s.mountLog reads).ports = s.ports ∧
    (s.mountLog reads).axes = s.axes ∧ (s.mountLog reads).doors = s.doors ∧ (s.mountLog reads).il = s.il ∧
    (s.mountLog reads).io = s.io ∧ (s.mountLog reads).can = s.can ∧ (s.mountLog reads).hinge = s.hinge ∧
    (s.mountLog reads).mem = s.mem ∧ (s.mountLog reads).se = s.se ∧ (s.mountLog reads).fw = s.fw ∧
    (s.mountLog reads).net = s.net ∧ (s.mountLog reads).lostNow = s.lostNow ∧ (s.mountLog reads).shown = s.shown ∧
    (s.mountLog reads).taken = s.taken ∧ (s.mountLog reads).free = s.free ∧ (s.mountLog reads).pending = s.pending := by unfold State.mountLog; split <;> simp

@[simp] theorem State.loadUnit_frame (s : State) (x : CopyUnit) :
    (s.loadUnit x).tick = s.tick ∧ (s.loadUnit x).up = s.up ∧ (s.loadUnit x).panel = s.panel ∧ (s.loadUnit x).cfg = s.cfg ∧
    (s.loadUnit x).ports = s.ports ∧ (s.loadUnit x).il = s.il ∧ (s.loadUnit x).io = s.io ∧ (s.loadUnit x).can = s.can ∧
    (s.loadUnit x).hinge = s.hinge ∧ (s.loadUnit x).mem = s.mem ∧ (s.loadUnit x).se = s.se ∧ (s.loadUnit x).fw = s.fw ∧
    (s.loadUnit x).net = s.net ∧ (s.loadUnit x).lostNow = s.lostNow ∧ (s.loadUnit x).shown = s.shown ∧
    (s.loadUnit x).taken = s.taken ∧ (s.loadUnit x).free = s.free ∧ (s.loadUnit x).pending = s.pending ∧ (s.loadUnit x).unit.running = s.unit.running := by unfold State.loadUnit; dsimp only; (repeat' split) <;> simp

@[simp] theorem State.copied_frame (s : State) (unit inst : Nat) (differs : Bool) :
    (s.copied unit inst differs).tick = s.tick ∧ (s.copied unit inst differs).up = s.up ∧
    (s.copied unit inst differs).unit = s.unit ∧ (s.copied unit inst differs).panel = s.panel ∧
    (s.copied unit inst differs).cfg = s.cfg ∧ (s.copied unit inst differs).ports = s.ports ∧
    (s.copied unit inst differs).axes = s.axes ∧ (s.copied unit inst differs).doors = s.doors ∧
    (s.copied unit inst differs).il = s.il ∧ (s.copied unit inst differs).io = s.io ∧
    (s.copied unit inst differs).can = s.can ∧ (s.copied unit inst differs).mem = s.mem ∧
    (s.copied unit inst differs).se = s.se ∧ (s.copied unit inst differs).fw = s.fw ∧
    (s.copied unit inst differs).net = s.net ∧ (s.copied unit inst differs).lostNow = s.lostNow ∧
    (s.copied unit inst differs).shown = s.shown ∧ (s.copied unit inst differs).taken = s.taken ∧ (s.copied unit inst differs).free = s.free ∧
    (s.copied unit inst differs).pending = s.pending := by simp [State.copied]

@[simp] theorem State.loadCopy_frame (s : State) (x : CopyState) :
    (s.loadCopy x).tick = s.tick ∧ (s.loadCopy x).up = s.up ∧ (s.loadCopy x).panel = s.panel ∧ (s.loadCopy x).cfg = s.cfg ∧
    (s.loadCopy x).ports = s.ports ∧ (s.loadCopy x).il = s.il ∧ (s.loadCopy x).io = s.io ∧ (s.loadCopy x).can = s.can ∧
    (s.loadCopy x).mem = s.mem ∧ (s.loadCopy x).se = s.se ∧ (s.loadCopy x).fw = s.fw ∧ (s.loadCopy x).net = s.net ∧
    (s.loadCopy x).lostNow = s.lostNow ∧ (s.loadCopy x).shown = s.shown ∧ (s.loadCopy x).taken = s.taken ∧ (s.loadCopy x).free = s.free ∧
    (s.loadCopy x).pending = s.pending ∧ (s.loadCopy x).unit.running = s.unit.running := by unfold State.loadCopy; (repeat' split) <;> simp

@[simp] theorem State.takeCopy_frame (s : State) (p : List Byte) (e : FrameEnd) (x : CopyState) :
    (s.takeCopy p e x).tick = s.tick ∧ (s.takeCopy p e x).up = s.up ∧ (s.takeCopy p e x).panel = s.panel ∧
    (s.takeCopy p e x).cfg = s.cfg ∧ (s.takeCopy p e x).ports = s.ports ∧ (s.takeCopy p e x).il = s.il ∧
    (s.takeCopy p e x).io = s.io ∧ (s.takeCopy p e x).can = s.can ∧ (s.takeCopy p e x).mem = s.mem ∧ (s.takeCopy p e x).se = s.se ∧
    (s.takeCopy p e x).fw = s.fw ∧ (s.takeCopy p e x).net = s.net ∧ (s.takeCopy p e x).lostNow = s.lostNow ∧
    (s.takeCopy p e x).shown = s.shown ∧ (s.takeCopy p e x).taken = s.taken ∧ (s.takeCopy p e x).free = s.free ∧ (s.takeCopy p e x).pending = s.pending ∧
    (s.takeCopy p e x).unit.running = s.unit.running := by unfold State.takeCopy; (repeat' split) <;> simp

@[simp] theorem State.sweepNext_frame (s : State) :
    s.sweepNext.tick = s.tick ∧ s.sweepNext.up = s.up ∧ s.sweepNext.unit = s.unit ∧ s.sweepNext.panel = s.panel ∧
    s.sweepNext.cfg = s.cfg ∧ s.sweepNext.ports = s.ports ∧ s.sweepNext.axes = s.axes ∧ s.sweepNext.trace = s.trace ∧
    s.sweepNext.doors = s.doors ∧ s.sweepNext.il = s.il ∧ s.sweepNext.io = s.io ∧ s.sweepNext.can = s.can ∧
    s.sweepNext.recorder = s.recorder ∧ s.sweepNext.mem = s.mem ∧ s.sweepNext.kw = s.kw ∧ s.sweepNext.se = s.se ∧
    s.sweepNext.fw = s.fw ∧ s.sweepNext.net = s.net ∧ s.sweepNext.lostNow = s.lostNow ∧ s.sweepNext.shown = s.shown ∧
    s.sweepNext.setNow = s.setNow ∧ s.sweepNext.taken = s.taken ∧ s.sweepNext.free = s.free ∧ s.sweepNext.pending = s.pending := by simp [State.sweepNext]

@[simp] theorem State.sweepFill_frame (s : State) (n : Nat) :
    (s.sweepFill n).tick = s.tick ∧ (s.sweepFill n).up = s.up ∧ (s.sweepFill n).unit = s.unit ∧
    (s.sweepFill n).panel = s.panel ∧ (s.sweepFill n).cfg = s.cfg ∧ (s.sweepFill n).ports = s.ports ∧
    (s.sweepFill n).axes = s.axes ∧ (s.sweepFill n).trace = s.trace ∧ (s.sweepFill n).doors = s.doors ∧
    (s.sweepFill n).il = s.il ∧ (s.sweepFill n).io = s.io ∧ (s.sweepFill n).can = s.can ∧
    (s.sweepFill n).recorder = s.recorder ∧ (s.sweepFill n).mem = s.mem ∧ (s.sweepFill n).kw = s.kw ∧
    (s.sweepFill n).se = s.se ∧ (s.sweepFill n).fw = s.fw ∧ (s.sweepFill n).net = s.net ∧
    (s.sweepFill n).lostNow = s.lostNow ∧ (s.sweepFill n).shown = s.shown ∧ (s.sweepFill n).setNow = s.setNow ∧
    (s.sweepFill n).taken = s.taken ∧ (s.sweepFill n).free = s.free ∧ (s.sweepFill n).pending = s.pending := by
  induction n generalizing s with
  | zero => simp [State.sweepFill]
  | succ n ih => unfold State.sweepFill; split <;> simp [ih]

@[simp] theorem State.sweepSend_frame (s : State) :
    s.sweepSend.tick = s.tick ∧ s.sweepSend.up = s.up ∧ s.sweepSend.unit = s.unit ∧ s.sweepSend.panel = s.panel ∧
    s.sweepSend.cfg = s.cfg ∧ s.sweepSend.ports = s.ports ∧ s.sweepSend.axes = s.axes ∧ s.sweepSend.trace = s.trace ∧
    s.sweepSend.doors = s.doors ∧ s.sweepSend.il = s.il ∧ s.sweepSend.io = s.io ∧ s.sweepSend.can = s.can ∧
    s.sweepSend.recorder = s.recorder ∧ s.sweepSend.mem = s.mem ∧ s.sweepSend.kw = s.kw ∧ s.sweepSend.se = s.se ∧
    s.sweepSend.fw = s.fw ∧ s.sweepSend.net = s.net ∧ s.sweepSend.lostNow = s.lostNow ∧ s.sweepSend.shown = s.shown ∧
    s.sweepSend.setNow = s.setNow ∧ s.sweepSend.taken = s.taken ∧ s.sweepSend.free = s.free ∧ s.sweepSend.pending = s.pending := by unfold State.sweepSend; split <;> simp

@[simp] theorem State.swept_frame (s : State) (u : SweepUnit) (loaded : Bool) (causes : List Nat) :
    (s.swept u loaded causes).tick = s.tick ∧ (s.swept u loaded causes).up = s.up ∧ (s.swept u loaded causes).unit = s.unit ∧
    (s.swept u loaded causes).panel = s.panel ∧ (s.swept u loaded causes).cfg = s.cfg ∧
    (s.swept u loaded causes).ports = s.ports ∧ (s.swept u loaded causes).axes = s.axes ∧
    (s.swept u loaded causes).doors = s.doors ∧ (s.swept u loaded causes).il = s.il ∧ (s.swept u loaded causes).io = s.io ∧
    (s.swept u loaded causes).can = s.can ∧ (s.swept u loaded causes).mem = s.mem ∧ (s.swept u loaded causes).se = s.se ∧
    (s.swept u loaded causes).fw = s.fw ∧ (s.swept u loaded causes).net = s.net ∧
    (s.swept u loaded causes).lostNow = s.lostNow ∧ (s.swept u loaded causes).shown = s.shown ∧
    (s.swept u loaded causes).taken = s.taken ∧ (s.swept u loaded causes).free = s.free ∧ (s.swept u loaded causes).pending = s.pending := by simp [State.swept]

@[simp] theorem State.sweepLearnt_frame (s : State) (u : SweepUnit) (a : AxisId) :
    (s.sweepLearnt u a).tick = s.tick ∧ (s.sweepLearnt u a).up = s.up ∧ (s.sweepLearnt u a).unit = s.unit ∧
    (s.sweepLearnt u a).panel = s.panel ∧ (s.sweepLearnt u a).cfg = s.cfg ∧ (s.sweepLearnt u a).ports = s.ports ∧
    (s.sweepLearnt u a).doors = s.doors ∧ (s.sweepLearnt u a).il = s.il ∧ (s.sweepLearnt u a).io = s.io ∧
    (s.sweepLearnt u a).can = s.can ∧ (s.sweepLearnt u a).mem = s.mem ∧ (s.sweepLearnt u a).se = s.se ∧
    (s.sweepLearnt u a).fw = s.fw ∧ (s.sweepLearnt u a).net = s.net ∧ (s.sweepLearnt u a).lostNow = s.lostNow ∧
    (s.sweepLearnt u a).shown = s.shown ∧ (s.sweepLearnt u a).taken = s.taken ∧ (s.sweepLearnt u a).free = s.free ∧ (s.sweepLearnt u a).pending = s.pending := by unfold State.sweepLearnt; dsimp only; split <;> simp

@[simp] theorem State.loadField_frame (s : State) (x : Nat × Nat × Int) :
    (s.loadField x).tick = s.tick ∧ (s.loadField x).up = s.up ∧ (s.loadField x).unit = s.unit ∧
    (s.loadField x).panel = s.panel ∧ (s.loadField x).ports = s.ports ∧ (s.loadField x).doors = s.doors ∧
    (s.loadField x).il = s.il ∧ (s.loadField x).io = s.io ∧ (s.loadField x).can = s.can ∧ (s.loadField x).hinge = s.hinge ∧
    (s.loadField x).se = s.se ∧ (s.loadField x).fw = s.fw ∧ (s.loadField x).net = s.net ∧ (s.loadField x).lostNow = s.lostNow ∧
    (s.loadField x).shown = s.shown ∧ (s.loadField x).taken = s.taken ∧ (s.loadField x).free = s.free ∧
    (s.loadField x).pending = s.pending ∧ (s.loadField x).mem.scratch = s.mem.scratch := by
  unfold State.loadField; dsimp only; (repeat' split) <;> simp

@[simp] theorem State.sweepUnit_frame (s : State) (u : SweepUnit) :
    (s.sweepUnit u).tick = s.tick ∧ (s.sweepUnit u).up = s.up ∧ (s.sweepUnit u).unit = s.unit ∧
    (s.sweepUnit u).panel = s.panel ∧ (s.sweepUnit u).ports = s.ports ∧ (s.sweepUnit u).doors = s.doors ∧
    (s.sweepUnit u).il = s.il ∧ (s.sweepUnit u).io = s.io ∧ (s.sweepUnit u).can = s.can ∧     (s.sweepUnit u).se = s.se ∧ (s.sweepUnit u).fw = s.fw ∧ (s.sweepUnit u).net = s.net ∧
    (s.sweepUnit u).lostNow = s.lostNow ∧ (s.sweepUnit u).shown = s.shown ∧ (s.sweepUnit u).taken = s.taken ∧ (s.sweepUnit u).free = s.free ∧
    (s.sweepUnit u).pending = s.pending := by unfold State.sweepUnit; (repeat' split) <;> simp

@[simp] theorem State.sweepUnit_scratch (s : State) (u : SweepUnit) : (s.sweepUnit u).mem.scratch = s.mem.scratch := by
  unfold State.sweepUnit; (repeat' split) <;> simp [foldl_keeps fun s : State => s.mem.scratch]

@[simp] theorem State.sweepUnits_frame (s : State) (n : Nat) :
    (s.sweepUnits n).tick = s.tick ∧ (s.sweepUnits n).up = s.up ∧ (s.sweepUnits n).unit = s.unit ∧
    (s.sweepUnits n).panel = s.panel ∧ (s.sweepUnits n).ports = s.ports ∧ (s.sweepUnits n).doors = s.doors ∧
    (s.sweepUnits n).il = s.il ∧ (s.sweepUnits n).io = s.io ∧ (s.sweepUnits n).can = s.can ∧     (s.sweepUnits n).se = s.se ∧ (s.sweepUnits n).fw = s.fw ∧ (s.sweepUnits n).net = s.net ∧
    (s.sweepUnits n).lostNow = s.lostNow ∧ (s.sweepUnits n).shown = s.shown ∧ (s.sweepUnits n).taken = s.taken ∧ (s.sweepUnits n).free = s.free ∧
    (s.sweepUnits n).pending = s.pending := by
  induction n generalizing s with
  | zero => simp [State.sweepUnits]
  | succ n ih => unfold State.sweepUnits; split <;> simp [ih]

@[simp] theorem State.sweepUnits_scratch (s : State) (n : Nat) : (s.sweepUnits n).mem.scratch = s.mem.scratch := by
  induction n generalizing s with
  | zero => simp [State.sweepUnits]
  | succ n ih => unfold State.sweepUnits; split <;> simp [ih]

@[simp] theorem State.sweepTake_frame (s : State) :
    s.sweepTake.tick = s.tick ∧ s.sweepTake.up = s.up ∧ s.sweepTake.unit = s.unit ∧ s.sweepTake.panel = s.panel ∧
    s.sweepTake.ports = s.ports ∧ s.sweepTake.doors = s.doors ∧ s.sweepTake.il = s.il ∧ s.sweepTake.io = s.io ∧
    s.sweepTake.can = s.can ∧ s.sweepTake.se = s.se ∧ s.sweepTake.fw = s.fw ∧
    s.sweepTake.net = s.net ∧ s.sweepTake.lostNow = s.lostNow ∧ s.sweepTake.shown = s.shown ∧ s.sweepTake.taken = s.taken ∧ s.sweepTake.free = s.free ∧
    s.sweepTake.pending = s.pending := by unfold State.sweepTake; split <;> simp

@[simp] theorem State.sweepTake_scratch (s : State) : s.sweepTake.mem.scratch = s.mem.scratch := by
  unfold State.sweepTake; split <;> simp

@[simp] theorem State.takeRecord_frame (s : State) (m : MirrorRec) :
    (s.takeRecord m).tick = s.tick ∧ (s.takeRecord m).up = s.up ∧ (s.takeRecord m).se = s.se ∧ (s.takeRecord m).fw = s.fw ∧
    (s.takeRecord m).lostNow = s.lostNow ∧ (s.takeRecord m).taken = s.taken ∧ (s.takeRecord m).free = s.free ∧ (s.takeRecord m).pending = s.pending ∧
    (s.takeRecord m).unit.running = s.unit.running := by
  cases m <;> simp [State.takeRecord]

@[simp] theorem State.takeRecord_wf (s : State) (m : MirrorRec) (h : memWf s.mem.scratch = true) :
    memWf (s.takeRecord m).mem.scratch = true := by
  cases m <;> simp [State.takeRecord, h]

@[simp] theorem State.takeHeartbeat_frame (s : State) :
    s.takeHeartbeat.tick = s.tick ∧ s.takeHeartbeat.up = s.up ∧ s.takeHeartbeat.se = s.se ∧ s.takeHeartbeat.fw = s.fw ∧
    s.takeHeartbeat.lostNow = s.lostNow ∧ s.takeHeartbeat.taken = s.taken ∧ s.takeHeartbeat.free = s.free ∧ s.takeHeartbeat.pending = s.pending ∧
    s.takeHeartbeat.unit.running = s.unit.running := by simp [State.takeHeartbeat]

@[simp] theorem State.takeHeartbeat_wf (s : State) (h : memWf s.mem.scratch = true) :
    memWf s.takeHeartbeat.mem.scratch = true := by simp +contextual [State.takeHeartbeat, h]

@[simp] theorem State.startAfresh_frame (s : State) :
    s.startAfresh.tick = s.tick ∧ s.startAfresh.up = s.up ∧ s.startAfresh.unit = s.unit ∧ s.startAfresh.panel = s.panel ∧
    s.startAfresh.cfg = s.cfg ∧ s.startAfresh.ports = s.ports ∧ s.startAfresh.il = s.il ∧ s.startAfresh.io = s.io ∧
    s.startAfresh.can = s.can ∧ s.startAfresh.hinge = s.hinge ∧ s.startAfresh.mem = s.mem ∧ s.startAfresh.se = s.se ∧
    s.startAfresh.fw = s.fw ∧ s.startAfresh.net = s.net ∧ s.startAfresh.lostNow = s.lostNow ∧ s.startAfresh.shown = s.shown ∧
    s.startAfresh.taken = s.taken ∧ s.startAfresh.free = s.free ∧ s.startAfresh.pending = s.pending := by simp [State.startAfresh, apply_ite]

@[simp] theorem State.becomeActive_frame (s : State) :
    s.becomeActive.tick = s.tick ∧ s.becomeActive.up = s.up ∧ s.becomeActive.unit = s.unit ∧ s.becomeActive.panel = s.panel ∧
    s.becomeActive.ports = s.ports ∧ s.becomeActive.axes = s.axes ∧ s.becomeActive.doors = s.doors ∧
    s.becomeActive.io = s.io ∧ s.becomeActive.can = s.can ∧ s.becomeActive.hinge = s.hinge ∧ s.becomeActive.mem = s.mem ∧
    s.becomeActive.se = s.se ∧ s.becomeActive.fw = s.fw ∧ s.becomeActive.net = s.net ∧ s.becomeActive.lostNow = s.lostNow ∧
    s.becomeActive.shown = s.shown ∧ s.becomeActive.taken = s.taken ∧ s.becomeActive.free = s.free ∧ s.becomeActive.pending = s.pending := by simp [State.becomeActive]

@[simp] theorem State.takeover_frame (s : State) :
    s.takeover.tick = s.tick ∧ s.takeover.up = s.up ∧ s.takeover.unit = s.unit ∧ s.takeover.panel = s.panel ∧
    s.takeover.ports = s.ports ∧ s.takeover.io = s.io ∧ s.takeover.can = s.can ∧ s.takeover.mem = s.mem ∧
    s.takeover.se = s.se ∧ s.takeover.fw = s.fw ∧ s.takeover.net = s.net ∧ s.takeover.lostNow = s.lostNow ∧
    s.takeover.shown = s.shown ∧ s.takeover.taken = s.taken ∧ s.takeover.free = s.free ∧ s.takeover.pending = s.pending := by unfold State.takeover; dsimp only; (repeat' split) <;> simp

@[simp] theorem State.noteObstacle_frame (s : State) (a : AxisId) :
    (s.noteObstacle a).tick = s.tick ∧ (s.noteObstacle a).up = s.up ∧ (s.noteObstacle a).unit = s.unit ∧
    (s.noteObstacle a).panel = s.panel ∧ (s.noteObstacle a).cfg = s.cfg ∧ (s.noteObstacle a).ports = s.ports ∧
    (s.noteObstacle a).axes = s.axes ∧ (s.noteObstacle a).trace = s.trace ∧ (s.noteObstacle a).doors = s.doors ∧
    (s.noteObstacle a).il = s.il ∧ (s.noteObstacle a).io = s.io ∧ (s.noteObstacle a).can = s.can ∧
    (s.noteObstacle a).hinge = s.hinge ∧ (s.noteObstacle a).mem = s.mem ∧ (s.noteObstacle a).kw = s.kw ∧
    (s.noteObstacle a).se = s.se ∧ (s.noteObstacle a).fw = s.fw ∧ (s.noteObstacle a).net = s.net ∧
    (s.noteObstacle a).lostNow = s.lostNow ∧ (s.noteObstacle a).shown = s.shown ∧ (s.noteObstacle a).setNow = s.setNow ∧
    (s.noteObstacle a).taken = s.taken ∧ (s.noteObstacle a).free = s.free ∧ (s.noteObstacle a).pending = s.pending := by unfold State.noteObstacle; split <;> simp

@[simp] theorem State.cycleRecords_frame (s : State) (d : DoorId) :
    (s.cycleRecords d).tick = s.tick ∧ (s.cycleRecords d).up = s.up ∧ (s.cycleRecords d).unit = s.unit ∧
    (s.cycleRecords d).panel = s.panel ∧ (s.cycleRecords d).cfg = s.cfg ∧ (s.cycleRecords d).ports = s.ports ∧
    (s.cycleRecords d).axes = s.axes ∧ (s.cycleRecords d).doors = s.doors ∧ (s.cycleRecords d).il = s.il ∧
    (s.cycleRecords d).io = s.io ∧ (s.cycleRecords d).can = s.can ∧ (s.cycleRecords d).hinge = s.hinge ∧
    (s.cycleRecords d).mem = s.mem ∧ (s.cycleRecords d).se = s.se ∧ (s.cycleRecords d).fw = s.fw ∧
    (s.cycleRecords d).net = s.net ∧ (s.cycleRecords d).lostNow = s.lostNow ∧ (s.cycleRecords d).shown = s.shown ∧
    (s.cycleRecords d).taken = s.taken ∧ (s.cycleRecords d).free = s.free ∧ (s.cycleRecords d).pending = s.pending := by simp [State.cycleRecords]

@[simp] theorem State.cycleTick_frame (s : State) (d : DoorId) :
    (s.cycleTick d).tick = s.tick ∧ (s.cycleTick d).up = s.up ∧ (s.cycleTick d).unit = s.unit ∧
    (s.cycleTick d).panel = s.panel ∧ (s.cycleTick d).cfg = s.cfg ∧ (s.cycleTick d).ports = s.ports ∧
    (s.cycleTick d).axes = s.axes ∧ (s.cycleTick d).doors = s.doors ∧ (s.cycleTick d).il = s.il ∧ (s.cycleTick d).io = s.io ∧
    (s.cycleTick d).can = s.can ∧ (s.cycleTick d).hinge = s.hinge ∧ (s.cycleTick d).mem = s.mem ∧ (s.cycleTick d).se = s.se ∧
    (s.cycleTick d).fw = s.fw ∧ (s.cycleTick d).net = s.net ∧ (s.cycleTick d).lostNow = s.lostNow ∧
    (s.cycleTick d).shown = s.shown ∧ (s.cycleTick d).taken = s.taken ∧ (s.cycleTick d).free = s.free ∧ (s.cycleTick d).pending = s.pending := by unfold State.cycleTick; dsimp only; (repeat' split) <;> simp

end Sys2Proof.Machine
end

