-- ==== Sys2Proof/Laws/Tick.lean ====
section
/-! SUPPORT. For every operation `X`, `X_frame` names the fields of State that it leaves as they are: the parts of a compute phase. -/

namespace Sys2Proof.Machine

@[simp] theorem State.checkDoors_frame (s : State) :
    s.checkDoors.tick = s.tick ∧ s.checkDoors.up = s.up ∧ s.checkDoors.unit = s.unit ∧ s.checkDoors.panel = s.panel ∧
    s.checkDoors.cfg = s.cfg ∧ s.checkDoors.ports = s.ports ∧ s.checkDoors.il = s.il ∧ s.checkDoors.io = s.io ∧
    s.checkDoors.can = s.can ∧ s.checkDoors.hinge = s.hinge ∧ s.checkDoors.mem = s.mem ∧ s.checkDoors.se = s.se ∧
    s.checkDoors.fw = s.fw ∧ s.checkDoors.net = s.net ∧ s.checkDoors.lostNow = s.lostNow ∧ s.checkDoors.shown = s.shown ∧
    s.checkDoors.taken = s.taken ∧ s.checkDoors.free = s.free ∧ s.checkDoors.pending = s.pending := by unfold State.checkDoors; simp [apply_ite]

@[simp] theorem State.discoverStart_frame (s : State) :
    s.discoverStart.tick = s.tick ∧ s.discoverStart.up = s.up ∧ s.discoverStart.unit = s.unit ∧
    s.discoverStart.panel = s.panel ∧ s.discoverStart.cfg = s.cfg ∧ s.discoverStart.il = s.il ∧ s.discoverStart.mem = s.mem ∧
    s.discoverStart.se = s.se ∧ s.discoverStart.fw = s.fw ∧ s.discoverStart.net = s.net ∧
    s.discoverStart.lostNow = s.lostNow ∧ s.discoverStart.shown = s.shown ∧ s.discoverStart.taken = s.taken ∧ s.discoverStart.free = s.free ∧
    s.discoverStart.pending = s.pending := by simp [State.discoverStart]

@[simp] theorem State.discoverTimeout_frame (s : State) :
    s.discoverTimeout.tick = s.tick ∧ s.discoverTimeout.up = s.up ∧ s.discoverTimeout.panel = s.panel ∧
    s.discoverTimeout.cfg = s.cfg ∧ s.discoverTimeout.doors = s.doors ∧ s.discoverTimeout.il = s.il ∧
    s.discoverTimeout.io = s.io ∧ s.discoverTimeout.can = s.can ∧ s.discoverTimeout.hinge = s.hinge ∧
    s.discoverTimeout.mem = s.mem ∧ s.discoverTimeout.se = s.se ∧ s.discoverTimeout.fw = s.fw ∧
    s.discoverTimeout.net = s.net ∧ s.discoverTimeout.shown = s.shown ∧ s.discoverTimeout.taken = s.taken ∧ s.discoverTimeout.free = s.free ∧
    s.discoverTimeout.pending = s.pending ∧ s.discoverTimeout.unit.running = s.unit.running := by unfold State.discoverTimeout; split <;> simp

@[simp] theorem State.discoverTick_frame (s : State) :
    s.discoverTick.tick = s.tick ∧ s.discoverTick.up = s.up ∧ s.discoverTick.panel = s.panel ∧ s.discoverTick.cfg = s.cfg ∧
    s.discoverTick.il = s.il ∧ s.discoverTick.mem = s.mem ∧ s.discoverTick.se = s.se ∧ s.discoverTick.fw = s.fw ∧
    s.discoverTick.net = s.net ∧ s.discoverTick.shown = s.shown ∧ s.discoverTick.taken = s.taken ∧ s.discoverTick.free = s.free ∧
    s.discoverTick.pending = s.pending ∧ s.discoverTick.unit.running = s.unit.running := by unfold State.discoverTick; (repeat' split) <;> simp

@[simp] theorem State.homingTick_frame (s : State) :
    s.homingTick.tick = s.tick ∧ s.homingTick.up = s.up ∧ s.homingTick.panel = s.panel ∧ s.homingTick.cfg = s.cfg ∧
    s.homingTick.ports = s.ports ∧ s.homingTick.axes = s.axes ∧ s.homingTick.doors = s.doors ∧ s.homingTick.il = s.il ∧
    s.homingTick.io = s.io ∧ s.homingTick.can = s.can ∧ s.homingTick.hinge = s.hinge ∧ s.homingTick.mem = s.mem ∧
    s.homingTick.se = s.se ∧ s.homingTick.fw = s.fw ∧ s.homingTick.net = s.net ∧ s.homingTick.lostNow = s.lostNow ∧
    s.homingTick.shown = s.shown ∧ s.homingTick.taken = s.taken ∧ s.homingTick.free = s.free ∧ s.homingTick.pending = s.pending ∧
    s.homingTick.unit.running = s.unit.running := by unfold State.homingTick; split <;> simp

@[simp] theorem State.stepOne_frame (s : State) :
    s.stepOne.tick = s.tick ∧ s.stepOne.up = s.up ∧ s.stepOne.se = s.se ∧ s.stepOne.fw = s.fw ∧
    s.stepOne.lostNow = s.lostNow ∧ s.stepOne.taken = s.taken ∧ s.stepOne.free = s.free ∧ s.stepOne.pending = s.pending ∧
    s.stepOne.unit.running = s.unit.running := by simp [State.stepOne]

@[simp] theorem State.stepOne_wf (s : State) (h : memWf s.mem.scratch = true) :
    memWf s.stepOne.mem.scratch = true := by simp [State.stepOne, h]

@[simp] theorem State.overrun_frame (s : State) :
    s.overrun.tick = s.tick ∧ s.overrun.up = s.up ∧ s.overrun.panel = s.panel ∧ s.overrun.cfg = s.cfg ∧
    s.overrun.ports = s.ports ∧ s.overrun.il = s.il ∧ s.overrun.io = s.io ∧
    s.overrun.can = s.can ∧ s.overrun.mem = s.mem ∧ s.overrun.se = s.se ∧ s.overrun.fw = s.fw ∧ s.overrun.net = s.net ∧
    s.overrun.lostNow = s.lostNow ∧ s.overrun.shown = s.shown ∧ s.overrun.taken = s.taken ∧ s.overrun.free = s.free ∧ s.overrun.pending = s.pending ∧
    s.overrun.unit.running = s.unit.running := by simp [State.overrun]

@[simp] theorem State.readSram_frame (s : State) (x : Nat × Reader) :
    (s.readSram x).tick = s.tick ∧ (s.readSram x).up = s.up ∧ (s.readSram x).panel = s.panel ∧ (s.readSram x).ports = s.ports ∧ (s.readSram x).il = s.il ∧ (s.readSram x).io = s.io ∧
    (s.readSram x).can = s.can ∧ (s.readSram x).se = s.se ∧ (s.readSram x).fw = s.fw ∧ (s.readSram x).net = s.net ∧
    (s.readSram x).lostNow = s.lostNow ∧ (s.readSram x).shown = s.shown ∧ (s.readSram x).taken = s.taken ∧ (s.readSram x).free = s.free ∧
    (s.readSram x).pending = s.pending ∧ (s.readSram x).unit.running = s.unit.running := by unfold State.readSram; dsimp only; (repeat' split) <;> simp

@[simp] theorem State.readSram_wf (s : State) (x : Nat × Reader) (h : memWf s.mem.scratch = true) :
    memWf (s.readSram x).mem.scratch = true := by
  unfold State.readSram
  (try dsimp only) <;> (repeat' split) <;> (try simp +contextual [h]) <;> (repeat' split) <;> (try simp +contextual [h])

@[simp] theorem State.writeSram_frame (s : State) (x : SramWrite) :
    (s.writeSram x).tick = s.tick ∧ (s.writeSram x).up = s.up ∧ (s.writeSram x).panel = s.panel ∧
    (s.writeSram x).cfg = s.cfg ∧ (s.writeSram x).ports = s.ports ∧ (s.writeSram x).il = s.il ∧ (s.writeSram x).io = s.io ∧ (s.writeSram x).can = s.can ∧ (s.writeSram x).se = s.se ∧
    (s.writeSram x).fw = s.fw ∧ (s.writeSram x).net = s.net ∧ (s.writeSram x).lostNow = s.lostNow ∧
    (s.writeSram x).shown = s.shown ∧ (s.writeSram x).taken = s.taken ∧ (s.writeSram x).free = s.free ∧ (s.writeSram x).pending = s.pending ∧
    (s.writeSram x).unit.running = s.unit.running := by unfold State.writeSram; dsimp only; split <;> simp

@[simp] theorem State.writeSram_wf (s : State) (x : SramWrite) (h : memWf s.mem.scratch = true) :
    memWf (s.writeSram x).mem.scratch = true := by unfold State.writeSram; dsimp only; split <;> simp [h]

@[simp] theorem State.parityErrors_frame (s : State) (places : List Nat) (bad : Nat → Bool) (src : Nat → Nat) :
    (s.parityErrors places bad src).tick = s.tick ∧ (s.parityErrors places bad src).up = s.up ∧
    (s.parityErrors places bad src).unit = s.unit ∧ (s.parityErrors places bad src).panel = s.panel ∧
    (s.parityErrors places bad src).cfg = s.cfg ∧ (s.parityErrors places bad src).ports = s.ports ∧
    (s.parityErrors places bad src).axes = s.axes ∧ (s.parityErrors places bad src).doors = s.doors ∧
    (s.parityErrors places bad src).il = s.il ∧ (s.parityErrors places bad src).io = s.io ∧
    (s.parityErrors places bad src).can = s.can ∧ (s.parityErrors places bad src).hinge = s.hinge ∧
    (s.parityErrors places bad src).se = s.se ∧ (s.parityErrors places bad src).fw = s.fw ∧
    (s.parityErrors places bad src).net = s.net ∧ (s.parityErrors places bad src).lostNow = s.lostNow ∧
    (s.parityErrors places bad src).shown = s.shown ∧ (s.parityErrors places bad src).taken = s.taken ∧ (s.parityErrors places bad src).free = s.free ∧
    (s.parityErrors places bad src).pending = s.pending := by
  induction places generalizing s with
  | nil => simp [State.parityErrors]
  | cons k l ih =>
    simp only [State.parityErrors, List.foldl_cons] at ih ⊢
    split <;> simp [ih]

@[simp] theorem State.parityErrors_wf (s : State) (places : List Nat) (bad : Nat → Bool) (src : Nat → Nat) (h : memWf s.mem.scratch = true) :
    memWf (s.parityErrors places bad src).mem.scratch = true := by
  induction places generalizing s with
  | nil => exact h
  | cons k l ih =>
    simp only [State.parityErrors, List.foldl_cons] at ih ⊢
    split
    · exact ih _ (by simp [h])
    · exact ih _ h

@[simp] theorem State.parityTick_frame (s : State) (x : Snapshot) :
    (s.parityTick x).tick = s.tick ∧ (s.parityTick x).up = s.up ∧ (s.parityTick x).unit = s.unit ∧
    (s.parityTick x).panel = s.panel ∧ (s.parityTick x).cfg = s.cfg ∧ (s.parityTick x).ports = s.ports ∧
    (s.parityTick x).axes = s.axes ∧ (s.parityTick x).doors = s.doors ∧ (s.parityTick x).io = s.io ∧
    (s.parityTick x).can = s.can ∧ (s.parityTick x).hinge = s.hinge ∧ (s.parityTick x).se = s.se ∧
    (s.parityTick x).fw = s.fw ∧ (s.parityTick x).net = s.net ∧ (s.parityTick x).lostNow = s.lostNow ∧
    (s.parityTick x).shown = s.shown ∧ (s.parityTick x).taken = s.taken ∧ (s.parityTick x).free = s.free ∧ (s.parityTick x).pending = s.pending := by unfold State.parityTick; split <;> simp

@[simp] theorem State.parityTick_wf (s : State) (x : Snapshot) (h : memWf s.mem.scratch = true) :
    memWf (s.parityTick x).mem.scratch = true := by
  have k := State.parityErrors_wf _ (List.range 82) (fun k => x.io.cmdBad.getLsbD k) (fun _ => 4)
    (State.parityErrors_wf _ (List.range 70) (fun k => x.io.bad.getLsbD k) (fun _ => 3)
      (State.parityErrors_wf _ (List.range 32) (fun k => x.txBad.getLsbD k) (fun _ => 1)
        (State.parityErrors_wf s [0, 2, 5, 6, 7] (fun k => x.parity.getLsbD k) (fun k => k) h)))
  unfold State.parityTick
  dsimp only
  split
  · simpa using k
  · exact k

@[simp] theorem State.sensePanel_frame (s : State) (x : Snapshot) :
    (s.sensePanel x).tick = s.tick ∧ (s.sensePanel x).up = s.up ∧ (s.sensePanel x).cfg = s.cfg ∧
    (s.sensePanel x).io = s.io ∧ (s.sensePanel x).mem = s.mem ∧
    (s.sensePanel x).fw = s.fw ∧ (s.sensePanel x).lostNow = s.lostNow ∧ (s.sensePanel x).shown = s.shown ∧
    (s.sensePanel x).taken = s.taken ∧ (s.sensePanel x).free = s.free ∧ (s.sensePanel x).pending = s.pending := by unfold State.sensePanel; dsimp only; split <;> simp

@[simp] theorem State.senseIo_frame (s : State) (x : Snapshot) :
    (s.senseIo x).1.tick = s.tick ∧ (s.senseIo x).1.up = s.up ∧ (s.senseIo x).1.unit = s.unit ∧
    (s.senseIo x).1.panel = s.panel ∧ (s.senseIo x).1.cfg = s.cfg ∧ (s.senseIo x).1.doors = s.doors ∧
    (s.senseIo x).1.il = s.il ∧ (s.senseIo x).1.can = s.can ∧ (s.senseIo x).1.hinge = s.hinge ∧ (s.senseIo x).1.mem = s.mem ∧
    (s.senseIo x).1.se = s.se ∧ (s.senseIo x).1.fw = s.fw ∧ (s.senseIo x).1.net = s.net ∧ (s.senseIo x).1.shown = s.shown ∧
    (s.senseIo x).1.taken = s.taken ∧ (s.senseIo x).1.free = s.free ∧ (s.senseIo x).1.pending = s.pending := by unfold State.senseIo; split <;> simp

@[simp] theorem State.sensePairs_frame (s : State) (x : Snapshot) :
    (s.sensePairs x).1.tick = s.tick ∧ (s.sensePairs x).1.up = s.up ∧ (s.sensePairs x).1.unit = s.unit ∧
    (s.sensePairs x).1.panel = s.panel ∧ (s.sensePairs x).1.cfg = s.cfg ∧ (s.sensePairs x).1.ports = s.ports ∧
    (s.sensePairs x).1.axes = s.axes ∧ (s.sensePairs x).1.doors = s.doors ∧ (s.sensePairs x).1.io = s.io ∧
    (s.sensePairs x).1.can = s.can ∧ (s.sensePairs x).1.hinge = s.hinge ∧ (s.sensePairs x).1.mem = s.mem ∧
    (s.sensePairs x).1.se = s.se ∧ (s.sensePairs x).1.fw = s.fw ∧ (s.sensePairs x).1.net = s.net ∧
    (s.sensePairs x).1.lostNow = s.lostNow ∧ (s.sensePairs x).1.shown = s.shown ∧ (s.sensePairs x).1.taken = s.taken ∧ (s.sensePairs x).1.free = s.free ∧
    (s.sensePairs x).1.pending = s.pending := by simp [State.sensePairs]

@[simp] theorem State.senseMem_frame (s : State) (x : Snapshot) :
    (s.senseMem x).tick = s.tick ∧ (s.senseMem x).up = s.up ∧ (s.senseMem x).panel = s.panel ∧ (s.senseMem x).ports = s.ports ∧ (s.senseMem x).io = s.io ∧ (s.senseMem x).can = s.can ∧
    (s.senseMem x).se = s.se ∧ (s.senseMem x).fw = s.fw ∧ (s.senseMem x).net = s.net ∧ (s.senseMem x).lostNow = s.lostNow ∧
    (s.senseMem x).shown = s.shown ∧ (s.senseMem x).taken = s.taken ∧ (s.senseMem x).free = s.free ∧ (s.senseMem x).pending = s.pending ∧
    (s.senseMem x).unit.running = s.unit.running := by simp [State.senseMem]

@[simp] theorem State.senseMem_wf (s : State) (x : Snapshot) (h : memWf s.mem.scratch = true) :
    memWf (s.senseMem x).mem.scratch = true := by
  have a := foldl_wf State.readSram x.reads s (fun t y w => State.readSram_wf t y w) h
  have b := foldl_wf State.writeSram x.writes _ (fun t y w => State.writeSram_wf t y w) a
  exact State.parityTick_wf _ x b

@[simp] theorem State.senseField_frame (s : State) (x : Snapshot) :
    (s.senseField x).1.tick = s.tick ∧ (s.senseField x).1.up = s.up ∧ (s.senseField x).1.panel = s.panel ∧
    (s.senseField x).1.can = s.can ∧
    (s.senseField x).1.se = s.se ∧ (s.senseField x).1.fw = s.fw ∧ (s.senseField x).1.net = s.net ∧
    (s.senseField x).1.shown = s.shown ∧ (s.senseField x).1.taken = s.taken ∧ (s.senseField x).1.free = s.free ∧ (s.senseField x).1.pending = s.pending ∧
    (s.senseField x).1.unit.running = s.unit.running := by simp [State.senseField]

@[simp] theorem State.senseField_wf (s : State) (x : Snapshot) (h : memWf s.mem.scratch = true) :
    memWf (s.senseField x).1.mem.scratch = true := by simp [State.senseField, h]

@[simp] theorem State.alignTick_frame (s : State) (x : Snapshot) :
    (s.alignTick x).1.tick = s.tick ∧ (s.alignTick x).1.up = s.up ∧ (s.alignTick x).1.unit = s.unit ∧
    (s.alignTick x).1.panel = s.panel ∧ (s.alignTick x).1.cfg = s.cfg ∧ (s.alignTick x).1.ports = s.ports ∧
    (s.alignTick x).1.axes = s.axes ∧ (s.alignTick x).1.doors = s.doors ∧ (s.alignTick x).1.il = s.il ∧
    (s.alignTick x).1.io = s.io ∧ (s.alignTick x).1.can = s.can ∧ (s.alignTick x).1.mem = s.mem ∧
    (s.alignTick x).1.se = s.se ∧ (s.alignTick x).1.fw = s.fw ∧ (s.alignTick x).1.net = s.net ∧
    (s.alignTick x).1.lostNow = s.lostNow ∧ (s.alignTick x).1.shown = s.shown ∧ (s.alignTick x).1.taken = s.taken ∧ (s.alignTick x).1.free = s.free ∧
    (s.alignTick x).1.pending = s.pending := by simp [State.alignTick]

@[simp] theorem State.yieldTick_frame (s : State) :
    s.yieldTick.tick = s.tick ∧ s.yieldTick.up = s.up ∧ s.yieldTick.unit = s.unit ∧ s.yieldTick.panel = s.panel ∧
    s.yieldTick.ports = s.ports ∧ s.yieldTick.axes = s.axes ∧ s.yieldTick.doors = s.doors ∧ s.yieldTick.il = s.il ∧
    s.yieldTick.io = s.io ∧ s.yieldTick.can = s.can ∧ s.yieldTick.mem = s.mem ∧ s.yieldTick.se = s.se ∧
    s.yieldTick.fw = s.fw ∧ s.yieldTick.net = s.net ∧ s.yieldTick.lostNow = s.lostNow ∧ s.yieldTick.shown = s.shown ∧
    s.yieldTick.taken = s.taken ∧ s.yieldTick.free = s.free ∧ s.yieldTick.pending = s.pending := by unfold State.yieldTick; split <;> simp

@[simp] theorem State.hingeTick_frame (s : State) (x : Snapshot) :
    (s.hingeTick x).1.tick = s.tick ∧ (s.hingeTick x).1.up = s.up ∧ (s.hingeTick x).1.unit = s.unit ∧
    (s.hingeTick x).1.panel = s.panel ∧ (s.hingeTick x).1.ports = s.ports ∧ (s.hingeTick x).1.io = s.io ∧
    (s.hingeTick x).1.can = s.can ∧ (s.hingeTick x).1.mem = s.mem ∧ (s.hingeTick x).1.se = s.se ∧
    (s.hingeTick x).1.fw = s.fw ∧ (s.hingeTick x).1.net = s.net ∧ (s.hingeTick x).1.lostNow = s.lostNow ∧
    (s.hingeTick x).1.shown = s.shown ∧ (s.hingeTick x).1.taken = s.taken ∧ (s.hingeTick x).1.free = s.free ∧ (s.hingeTick x).1.pending = s.pending := by unfold State.hingeTick; split <;> simp

@[simp] theorem State.axisTick_frame (was : State) (t : State × AxisNews) (a : AxisId) :
    (was.axisTick t a).1.tick = t.1.tick ∧ (was.axisTick t a).1.up = t.1.up ∧ (was.axisTick t a).1.unit = t.1.unit ∧
    (was.axisTick t a).1.panel = t.1.panel ∧ (was.axisTick t a).1.cfg = t.1.cfg ∧ (was.axisTick t a).1.ports = t.1.ports ∧
    (was.axisTick t a).1.doors = t.1.doors ∧ (was.axisTick t a).1.il = t.1.il ∧ (was.axisTick t a).1.io = t.1.io ∧
    (was.axisTick t a).1.can = t.1.can ∧ (was.axisTick t a).1.hinge = t.1.hinge ∧ (was.axisTick t a).1.mem = t.1.mem ∧
    (was.axisTick t a).1.se = t.1.se ∧ (was.axisTick t a).1.fw = t.1.fw ∧ (was.axisTick t a).1.net = t.1.net ∧
    (was.axisTick t a).1.lostNow = t.1.lostNow ∧ (was.axisTick t a).1.shown = t.1.shown ∧
    (was.axisTick t a).1.taken = t.1.taken ∧ (was.axisTick t a).1.free = t.1.free ∧ (was.axisTick t a).1.pending = t.1.pending := by simp [State.axisTick]

@[simp] theorem State.axesTick_frame (s : State) :
    s.axesTick.1.tick = s.tick ∧ s.axesTick.1.up = s.up ∧ s.axesTick.1.unit = s.unit ∧ s.axesTick.1.panel = s.panel ∧
    s.axesTick.1.cfg = s.cfg ∧ s.axesTick.1.ports = s.ports ∧ s.axesTick.1.doors = s.doors ∧ s.axesTick.1.il = s.il ∧
    s.axesTick.1.io = s.io ∧ s.axesTick.1.can = s.can ∧ s.axesTick.1.hinge = s.hinge ∧ s.axesTick.1.mem = s.mem ∧
    s.axesTick.1.se = s.se ∧ s.axesTick.1.fw = s.fw ∧ s.axesTick.1.net = s.net ∧ s.axesTick.1.lostNow = s.lostNow ∧
    s.axesTick.1.shown = s.shown ∧ s.axesTick.1.taken = s.taken ∧ s.axesTick.1.free = s.free ∧ s.axesTick.1.pending = s.pending := by
  have h : ∀ (l : List AxisId) (t : State × AxisNews), (l.foldl s.axisTick t).1.tick = t.1.tick ∧ (l.foldl s.axisTick t).1.up = t.1.up ∧ (l.foldl s.axisTick t).1.unit = t.1.unit ∧ (l.foldl s.axisTick t).1.panel = t.1.panel ∧ (l.foldl s.axisTick t).1.cfg = t.1.cfg ∧ (l.foldl s.axisTick t).1.ports = t.1.ports ∧ (l.foldl s.axisTick t).1.doors = t.1.doors ∧ (l.foldl s.axisTick t).1.il = t.1.il ∧ (l.foldl s.axisTick t).1.io = t.1.io ∧ (l.foldl s.axisTick t).1.can = t.1.can ∧ (l.foldl s.axisTick t).1.hinge = t.1.hinge ∧ (l.foldl s.axisTick t).1.mem = t.1.mem ∧ (l.foldl s.axisTick t).1.se = t.1.se ∧ (l.foldl s.axisTick t).1.fw = t.1.fw ∧ (l.foldl s.axisTick t).1.net = t.1.net ∧ (l.foldl s.axisTick t).1.lostNow = t.1.lostNow ∧ (l.foldl s.axisTick t).1.shown = t.1.shown ∧ (l.foldl s.axisTick t).1.taken = t.1.taken ∧ (l.foldl s.axisTick t).1.free = t.1.free ∧ (l.foldl s.axisTick t).1.pending = t.1.pending := by
    intro l
    induction l with
    | nil => simp
    | cons a l ih => intro t; simp [ih]
  unfold State.axesTick
  simp [h, apply_ite]

@[simp] theorem State.doorPass_frame (s : State) (news : AxisNews) (f : State → DoorId → DoorRun → DoorIn → DoorRun) :
    (s.doorPass news f).tick = s.tick ∧ (s.doorPass news f).up = s.up ∧ (s.doorPass news f).unit = s.unit ∧
    (s.doorPass news f).panel = s.panel ∧ (s.doorPass news f).cfg = s.cfg ∧ (s.doorPass news f).ports = s.ports ∧
    (s.doorPass news f).il = s.il ∧ (s.doorPass news f).io = s.io ∧ (s.doorPass news f).can = s.can ∧
    (s.doorPass news f).hinge = s.hinge ∧ (s.doorPass news f).mem = s.mem ∧ (s.doorPass news f).se = s.se ∧
    (s.doorPass news f).fw = s.fw ∧ (s.doorPass news f).net = s.net ∧ (s.doorPass news f).lostNow = s.lostNow ∧
    (s.doorPass news f).shown = s.shown ∧ (s.doorPass news f).taken = s.taken ∧ (s.doorPass news f).free = s.free ∧ (s.doorPass news f).pending = s.pending := by simp [State.doorPass, apply_ite]

@[simp] theorem State.doorOrder_frame (s : State) (news : AxisNews) (rose : BitVec 4) (k : Nat) :
    (s.doorOrder news rose k).tick = s.tick ∧ (s.doorOrder news rose k).up = s.up ∧ (s.doorOrder news rose k).unit = s.unit ∧
    (s.doorOrder news rose k).panel = s.panel ∧ (s.doorOrder news rose k).cfg = s.cfg ∧
    (s.doorOrder news rose k).ports = s.ports ∧ (s.doorOrder news rose k).il = s.il ∧ (s.doorOrder news rose k).io = s.io ∧
    (s.doorOrder news rose k).can = s.can ∧ (s.doorOrder news rose k).hinge = s.hinge ∧
    (s.doorOrder news rose k).mem = s.mem ∧ (s.doorOrder news rose k).se = s.se ∧ (s.doorOrder news rose k).fw = s.fw ∧
    (s.doorOrder news rose k).net = s.net ∧ (s.doorOrder news rose k).lostNow = s.lostNow ∧
    (s.doorOrder news rose k).shown = s.shown ∧ (s.doorOrder news rose k).taken = s.taken ∧ (s.doorOrder news rose k).free = s.free ∧
    (s.doorOrder news rose k).pending = s.pending := by simp [State.doorOrder]

@[simp] theorem State.signalsTick_frame (s : State) :
    s.signalsTick.1.tick = s.tick ∧ s.signalsTick.1.up = s.up ∧ s.signalsTick.1.unit = s.unit ∧
    s.signalsTick.1.panel = s.panel ∧ s.signalsTick.1.cfg = s.cfg ∧ s.signalsTick.1.ports = s.ports ∧
    s.signalsTick.1.axes = s.axes ∧ s.signalsTick.1.trace = s.trace ∧ s.signalsTick.1.doors = s.doors ∧
    s.signalsTick.1.io = s.io ∧ s.signalsTick.1.can = s.can ∧ s.signalsTick.1.hinge = s.hinge ∧
    s.signalsTick.1.recorder = s.recorder ∧ s.signalsTick.1.mem = s.mem ∧ s.signalsTick.1.kw = s.kw ∧
    s.signalsTick.1.se = s.se ∧ s.signalsTick.1.fw = s.fw ∧ s.signalsTick.1.net = s.net ∧
    s.signalsTick.1.lostNow = s.lostNow ∧ s.signalsTick.1.shown = s.shown ∧ s.signalsTick.1.setNow = s.setNow ∧
    s.signalsTick.1.taken = s.taken ∧ s.signalsTick.1.free = s.free ∧ s.signalsTick.1.pending = s.pending := by simp [State.signalsTick]

@[simp] theorem State.captureWindow_frame (s : State) :
    s.captureWindow.tick = s.tick ∧ s.captureWindow.up = s.up ∧ s.captureWindow.unit = s.unit ∧ s.captureWindow.panel = s.panel ∧
    s.captureWindow.cfg = s.cfg ∧ s.captureWindow.ports = s.ports ∧ s.captureWindow.trace = s.trace ∧
    s.captureWindow.doors = s.doors ∧ s.captureWindow.il = s.il ∧ s.captureWindow.io = s.io ∧ s.captureWindow.can = s.can ∧
    s.captureWindow.hinge = s.hinge ∧ s.captureWindow.recorder = s.recorder ∧ s.captureWindow.mem = s.mem ∧
    s.captureWindow.kw = s.kw ∧ s.captureWindow.se = s.se ∧ s.captureWindow.fw = s.fw ∧ s.captureWindow.net = s.net ∧
    s.captureWindow.lostNow = s.lostNow ∧ s.captureWindow.setNow = s.setNow ∧
    s.captureWindow.taken = s.taken ∧ s.captureWindow.free = s.free ∧ s.captureWindow.pending = s.pending := by
  simp [State.captureWindow]

@[simp] theorem State.heldLevels_frame (s : State) (late : List Raised) :
    (s.heldLevels late).tick = s.tick ∧ (s.heldLevels late).up = s.up ∧ (s.heldLevels late).unit = s.unit ∧
    (s.heldLevels late).panel = s.panel ∧ (s.heldLevels late).cfg = s.cfg ∧ (s.heldLevels late).ports = s.ports ∧
    (s.heldLevels late).io = s.io ∧ (s.heldLevels late).can = s.can ∧ (s.heldLevels late).hinge = s.hinge ∧
    (s.heldLevels late).mem = s.mem ∧ (s.heldLevels late).se = s.se ∧ (s.heldLevels late).fw = s.fw ∧
    (s.heldLevels late).net = s.net ∧ (s.heldLevels late).lostNow = s.lostNow ∧ (s.heldLevels late).taken = s.taken ∧ (s.heldLevels late).free = s.free ∧ (s.heldLevels late).pending = s.pending := by unfold State.heldLevels; dsimp only; split <;> simp

@[simp] theorem State.formWords_frame (s : State) :
    s.formWords.tick = s.tick ∧ s.formWords.up = s.up ∧ s.formWords.unit = s.unit ∧ s.formWords.panel = s.panel ∧
    s.formWords.cfg = s.cfg ∧ s.formWords.ports = s.ports ∧ s.formWords.axes = s.axes ∧ s.formWords.trace = s.trace ∧
    s.formWords.doors = s.doors ∧ s.formWords.io = s.io ∧ s.formWords.can = s.can ∧ s.formWords.hinge = s.hinge ∧
    s.formWords.recorder = s.recorder ∧ s.formWords.mem = s.mem ∧ s.formWords.kw = s.kw ∧ s.formWords.se = s.se ∧
    s.formWords.fw = s.fw ∧ s.formWords.net = s.net ∧ s.formWords.lostNow = s.lostNow ∧ s.formWords.shown = s.shown ∧
    s.formWords.setNow = s.setNow ∧ s.formWords.taken = s.taken ∧ s.formWords.free = s.free ∧ s.formWords.pending = s.pending := by simp [State.formWords]

@[simp] theorem State.urgentOrders_frame (s : State) (news : AxisNews) (rose : BitVec 4) (late : List Raised) :
    (s.urgentOrders news rose late).tick = s.tick ∧ (s.urgentOrders news rose late).up = s.up ∧
    (s.urgentOrders news rose late).panel = s.panel ∧ (s.urgentOrders news rose late).cfg = s.cfg ∧
    (s.urgentOrders news rose late).ports = s.ports ∧ (s.urgentOrders news rose late).io = s.io ∧
    (s.urgentOrders news rose late).can = s.can ∧ (s.urgentOrders news rose late).hinge = s.hinge ∧
    (s.urgentOrders news rose late).mem = s.mem ∧ (s.urgentOrders news rose late).se = s.se ∧
    (s.urgentOrders news rose late).fw = s.fw ∧ (s.urgentOrders news rose late).net = s.net ∧
    (s.urgentOrders news rose late).lostNow = s.lostNow ∧ (s.urgentOrders news rose late).shown = s.shown ∧
    (s.urgentOrders news rose late).taken = s.taken ∧ (s.urgentOrders news rose late).free = s.free ∧ (s.urgentOrders news rose late).pending = s.pending ∧
    (s.urgentOrders news rose late).unit.running = s.unit.running := by unfold State.urgentOrders; dsimp only; split <;> simp

@[simp] theorem State.doorsTick_frame (s : State) (news : AxisNews) (rose : BitVec 4) (home : Bool) (late : List Raised) :
    (s.doorsTick news rose home late).tick = s.tick ∧ (s.doorsTick news rose home late).up = s.up ∧
    (s.doorsTick news rose home late).panel = s.panel ∧ (s.doorsTick news rose home late).cfg = s.cfg ∧
    (s.doorsTick news rose home late).ports = s.ports ∧ (s.doorsTick news rose home late).io = s.io ∧
    (s.doorsTick news rose home late).can = s.can ∧ (s.doorsTick news rose home late).hinge = s.hinge ∧
    (s.doorsTick news rose home late).mem = s.mem ∧ (s.doorsTick news rose home late).se = s.se ∧
    (s.doorsTick news rose home late).fw = s.fw ∧ (s.doorsTick news rose home late).net = s.net ∧
    (s.doorsTick news rose home late).lostNow = s.lostNow ∧ (s.doorsTick news rose home late).shown = s.shown ∧
    (s.doorsTick news rose home late).taken = s.taken ∧ (s.doorsTick news rose home late).free = s.free ∧ (s.doorsTick news rose home late).pending = s.pending ∧
    (s.doorsTick news rose home late).unit.running = s.unit.running := by simp [State.doorsTick]

@[simp] theorem State.levels_frame (s : State) (side : BitVec 4) (late : List Raised) :
    (s.levels side late).tick = s.tick ∧ (s.levels side late).up = s.up ∧ (s.levels side late).panel = s.panel ∧
    (s.levels side late).cfg = s.cfg ∧ (s.levels side late).ports = s.ports ∧ (s.levels side late).io = s.io ∧
    (s.levels side late).can = s.can ∧ (s.levels side late).hinge = s.hinge ∧ (s.levels side late).mem = s.mem ∧
    (s.levels side late).se = s.se ∧ (s.levels side late).fw = s.fw ∧ (s.levels side late).net = s.net ∧
    (s.levels side late).lostNow = s.lostNow ∧ (s.levels side late).shown = s.shown ∧ (s.levels side late).taken = s.taken ∧ (s.levels side late).free = s.free ∧
    (s.levels side late).pending = s.pending ∧ (s.levels side late).unit.running = s.unit.running := by simp [State.levels]

@[simp] theorem State.boltTick_frame (s : State) (x : Snapshot) :
    (s.boltTick x).tick = s.tick ∧ (s.boltTick x).up = s.up ∧ (s.boltTick x).unit = s.unit ∧ (s.boltTick x).panel = s.panel ∧
    (s.boltTick x).cfg = s.cfg ∧ (s.boltTick x).ports = s.ports ∧ (s.boltTick x).axes = s.axes ∧
    (s.boltTick x).doors = s.doors ∧ (s.boltTick x).io = s.io ∧ (s.boltTick x).can = s.can ∧ (s.boltTick x).hinge = s.hinge ∧
    (s.boltTick x).mem = s.mem ∧ (s.boltTick x).se = s.se ∧ (s.boltTick x).fw = s.fw ∧ (s.boltTick x).net = s.net ∧
    (s.boltTick x).lostNow = s.lostNow ∧ (s.boltTick x).shown = s.shown ∧ (s.boltTick x).taken = s.taken ∧ (s.boltTick x).free = s.free ∧
    (s.boltTick x).pending = s.pending := by simp [State.boltTick]

@[simp] theorem State.doorStateSend_frame (s : State) :
    s.doorStateSend.tick = s.tick ∧ s.doorStateSend.up = s.up ∧ s.doorStateSend.unit = s.unit ∧
    s.doorStateSend.panel = s.panel ∧ s.doorStateSend.cfg = s.cfg ∧ s.doorStateSend.ports = s.ports ∧
    s.doorStateSend.axes = s.axes ∧ s.doorStateSend.doors = s.doors ∧ s.doorStateSend.io = s.io ∧
    s.doorStateSend.hinge = s.hinge ∧ s.doorStateSend.mem = s.mem ∧ s.doorStateSend.se = s.se ∧ s.doorStateSend.fw = s.fw ∧
    s.doorStateSend.net = s.net ∧ s.doorStateSend.lostNow = s.lostNow ∧ s.doorStateSend.shown = s.shown ∧
    s.doorStateSend.taken = s.taken ∧ s.doorStateSend.free = s.free ∧ s.doorStateSend.pending = s.pending := by simp [State.doorStateSend, apply_ite]

@[simp] theorem State.canStart_frame (s : State) (parity : BitVec 8) (b : BusId) :
    (s.canStart parity b).tick = s.tick ∧ (s.canStart parity b).up = s.up ∧ (s.canStart parity b).unit = s.unit ∧
    (s.canStart parity b).panel = s.panel ∧ (s.canStart parity b).cfg = s.cfg ∧ (s.canStart parity b).ports = s.ports ∧
    (s.canStart parity b).axes = s.axes ∧ (s.canStart parity b).doors = s.doors ∧ (s.canStart parity b).il = s.il ∧
    (s.canStart parity b).io = s.io ∧ (s.canStart parity b).hinge = s.hinge ∧ (s.canStart parity b).mem = s.mem ∧
    (s.canStart parity b).se = s.se ∧ (s.canStart parity b).fw = s.fw ∧ (s.canStart parity b).net = s.net ∧
    (s.canStart parity b).lostNow = s.lostNow ∧ (s.canStart parity b).shown = s.shown ∧
    (s.canStart parity b).pending = s.pending := by unfold State.canStart; dsimp only; (repeat' split) <;> simp

@[simp] theorem State.heldCan_frame (s : State) (b : BusId) :
    (s.heldCan b).tick = s.tick ∧ (s.heldCan b).up = s.up ∧ (s.heldCan b).unit = s.unit ∧ (s.heldCan b).panel = s.panel ∧
    (s.heldCan b).cfg = s.cfg ∧ (s.heldCan b).ports = s.ports ∧ (s.heldCan b).axes = s.axes ∧ (s.heldCan b).doors = s.doors ∧
    (s.heldCan b).il = s.il ∧ (s.heldCan b).io = s.io ∧ (s.heldCan b).hinge = s.hinge ∧ (s.heldCan b).mem = s.mem ∧
    (s.heldCan b).se = s.se ∧ (s.heldCan b).fw = s.fw ∧ (s.heldCan b).net = s.net ∧ (s.heldCan b).lostNow = s.lostNow ∧
    (s.heldCan b).shown = s.shown ∧ (s.heldCan b).taken = s.taken ∧ (s.heldCan b).pending = s.pending := by
  unfold State.heldCan; dsimp only; (repeat' split) <;> simp

@[simp] theorem State.canTick_frame (s : State) (parity : BitVec 8) :
    (s.canTick parity).tick = s.tick ∧ (s.canTick parity).up = s.up ∧ (s.canTick parity).unit = s.unit ∧
    (s.canTick parity).panel = s.panel ∧ (s.canTick parity).cfg = s.cfg ∧ (s.canTick parity).ports = s.ports ∧
    (s.canTick parity).axes = s.axes ∧ (s.canTick parity).doors = s.doors ∧ (s.canTick parity).io = s.io ∧
    (s.canTick parity).hinge = s.hinge ∧ (s.canTick parity).mem = s.mem ∧ (s.canTick parity).se = s.se ∧
    (s.canTick parity).fw = s.fw ∧ (s.canTick parity).net = s.net ∧ (s.canTick parity).lostNow = s.lostNow ∧
    (s.canTick parity).shown = s.shown ∧ (s.canTick parity).pending = s.pending := by simp [State.canTick, apply_ite]

@[simp] theorem State.outputsTick_frame (s : State) (x : Snapshot) :
    (s.outputsTick x).tick = s.tick ∧ (s.outputsTick x).up = s.up ∧ (s.outputsTick x).unit = s.unit ∧
    (s.outputsTick x).panel = s.panel ∧ (s.outputsTick x).cfg = s.cfg ∧ (s.outputsTick x).ports = s.ports ∧
    (s.outputsTick x).axes = s.axes ∧ (s.outputsTick x).doors = s.doors ∧ (s.outputsTick x).il = s.il ∧
    (s.outputsTick x).can = s.can ∧ (s.outputsTick x).hinge = s.hinge ∧ (s.outputsTick x).mem = s.mem ∧
    (s.outputsTick x).se = s.se ∧ (s.outputsTick x).fw = s.fw ∧ (s.outputsTick x).net = s.net ∧
    (s.outputsTick x).lostNow = s.lostNow ∧ (s.outputsTick x).shown = s.shown ∧ (s.outputsTick x).taken = s.taken ∧ (s.outputsTick x).free = s.free ∧
    (s.outputsTick x).pending = s.pending := by simp [State.outputsTick]

@[simp] theorem State.sendFrames_frame (s : State) (bad : BitVec 32) :
    (s.sendFrames bad).tick = s.tick ∧ (s.sendFrames bad).up = s.up ∧ (s.sendFrames bad).unit = s.unit ∧
    (s.sendFrames bad).panel = s.panel ∧ (s.sendFrames bad).cfg = s.cfg ∧ (s.sendFrames bad).doors = s.doors ∧
    (s.sendFrames bad).il = s.il ∧ (s.sendFrames bad).io = s.io ∧ (s.sendFrames bad).can = s.can ∧
    (s.sendFrames bad).hinge = s.hinge ∧ (s.sendFrames bad).mem = s.mem ∧ (s.sendFrames bad).se = s.se ∧
    (s.sendFrames bad).fw = s.fw ∧ (s.sendFrames bad).net = s.net ∧ (s.sendFrames bad).shown = s.shown ∧
    (s.sendFrames bad).taken = s.taken ∧ (s.sendFrames bad).free = s.free ∧ (s.sendFrames bad).pending = s.pending := by simp [State.sendFrames]

@[simp] theorem State.sendBeat_frame (s : State) (halted : Bool) :
    (s.sendBeat halted).tick = s.tick ∧ (s.sendBeat halted).up = s.up ∧ (s.sendBeat halted).unit = s.unit ∧
    (s.sendBeat halted).panel = s.panel ∧ (s.sendBeat halted).cfg = s.cfg ∧ (s.sendBeat halted).ports = s.ports ∧
    (s.sendBeat halted).axes = s.axes ∧ (s.sendBeat halted).doors = s.doors ∧ (s.sendBeat halted).il = s.il ∧
    (s.sendBeat halted).io = s.io ∧ (s.sendBeat halted).can = s.can ∧ (s.sendBeat halted).mem = s.mem ∧
    (s.sendBeat halted).se = s.se ∧ (s.sendBeat halted).fw = s.fw ∧ (s.sendBeat halted).net = s.net ∧
    (s.sendBeat halted).lostNow = s.lostNow ∧ (s.sendBeat halted).shown = s.shown ∧ (s.sendBeat halted).taken = s.taken ∧ (s.sendBeat halted).free = s.free ∧
    (s.sendBeat halted).pending = s.pending := by unfold State.sendBeat; split <;> simp

@[simp] theorem State.sendPair_frame (s : State) :
    s.sendPair.tick = s.tick ∧ s.sendPair.up = s.up ∧ s.sendPair.unit = s.unit ∧ s.sendPair.panel = s.panel ∧
    s.sendPair.cfg = s.cfg ∧ s.sendPair.ports = s.ports ∧ s.sendPair.axes = s.axes ∧ s.sendPair.doors = s.doors ∧
    s.sendPair.il = s.il ∧ s.sendPair.io = s.io ∧ s.sendPair.can = s.can ∧ s.sendPair.mem = s.mem ∧ s.sendPair.se = s.se ∧
    s.sendPair.fw = s.fw ∧ s.sendPair.net = s.net ∧ s.sendPair.lostNow = s.lostNow ∧ s.sendPair.shown = s.shown ∧
    s.sendPair.taken = s.taken ∧ s.sendPair.free = s.free ∧ s.sendPair.pending = s.pending := by unfold State.sendPair; split <;> simp

@[simp] theorem State.noteLearnt_frame (s : State) (was : Vector Axis 64) :
    (s.noteLearnt was).tick = s.tick ∧ (s.noteLearnt was).up = s.up ∧ (s.noteLearnt was).unit = s.unit ∧
    (s.noteLearnt was).panel = s.panel ∧ (s.noteLearnt was).cfg = s.cfg ∧ (s.noteLearnt was).ports = s.ports ∧
    (s.noteLearnt was).axes = s.axes ∧ (s.noteLearnt was).trace = s.trace ∧ (s.noteLearnt was).doors = s.doors ∧
    (s.noteLearnt was).il = s.il ∧ (s.noteLearnt was).io = s.io ∧ (s.noteLearnt was).can = s.can ∧
    (s.noteLearnt was).recorder = s.recorder ∧ (s.noteLearnt was).mem = s.mem ∧ (s.noteLearnt was).kw = s.kw ∧
    (s.noteLearnt was).se = s.se ∧ (s.noteLearnt was).fw = s.fw ∧ (s.noteLearnt was).net = s.net ∧
    (s.noteLearnt was).lostNow = s.lostNow ∧ (s.noteLearnt was).shown = s.shown ∧ (s.noteLearnt was).setNow = s.setNow ∧
    (s.noteLearnt was).taken = s.taken ∧ (s.noteLearnt was).free = s.free ∧ (s.noteLearnt was).pending = s.pending := by simp [State.noteLearnt]

@[simp] theorem State.capture_frame (s : State) :
    s.capture.tick = s.tick ∧ s.capture.up = s.up ∧ s.capture.unit = s.unit ∧ s.capture.panel = s.panel ∧
    s.capture.cfg = s.cfg ∧ s.capture.ports = s.ports ∧ s.capture.doors = s.doors ∧ s.capture.il = s.il ∧
    s.capture.io = s.io ∧ s.capture.can = s.can ∧ s.capture.hinge = s.hinge ∧ s.capture.mem = s.mem ∧ s.capture.se = s.se ∧
    s.capture.fw = s.fw ∧ s.capture.net = s.net ∧ s.capture.lostNow = s.lostNow ∧ s.capture.taken = s.taken ∧ s.capture.free = s.free ∧ s.capture.pending = s.pending := by simp [State.capture]

@[simp] theorem State.raiseRollback_frame (s : State) :
    s.raiseRollback.tick = s.tick ∧ s.raiseRollback.up = s.up ∧ s.raiseRollback.unit = s.unit ∧
    s.raiseRollback.panel = s.panel ∧ s.raiseRollback.cfg = s.cfg ∧ s.raiseRollback.ports = s.ports ∧
    s.raiseRollback.axes = s.axes ∧ s.raiseRollback.doors = s.doors ∧ s.raiseRollback.il = s.il ∧ s.raiseRollback.io = s.io ∧
    s.raiseRollback.can = s.can ∧ s.raiseRollback.hinge = s.hinge ∧ s.raiseRollback.mem = s.mem ∧ s.raiseRollback.fw = s.fw ∧
    s.raiseRollback.net = s.net ∧ s.raiseRollback.lostNow = s.lostNow ∧ s.raiseRollback.shown = s.shown ∧
    s.raiseRollback.taken = s.taken ∧ s.raiseRollback.free = s.free ∧ s.raiseRollback.pending = s.pending := by unfold State.raiseRollback; split <;> simp

@[simp] theorem State.doRestart_frame (s : State) (i : SessId) (x : Session) :
    (s.doRestart i x).1.tick = s.tick ∧ (s.doRestart i x).1.up = s.up ∧ (s.doRestart i x).1.panel = s.panel ∧
    (s.doRestart i x).1.cfg = s.cfg ∧ (s.doRestart i x).1.axes = s.axes ∧ (s.doRestart i x).1.trace = s.trace ∧
    (s.doRestart i x).1.doors = s.doors ∧ (s.doRestart i x).1.io = s.io ∧ (s.doRestart i x).1.recorder = s.recorder ∧
    (s.doRestart i x).1.kw = s.kw ∧ (s.doRestart i x).1.lostNow = s.lostNow ∧ (s.doRestart i x).1.shown = s.shown ∧
    (s.doRestart i x).1.setNow = s.setNow ∧ (s.doRestart i x).1.taken = s.taken ∧ (s.doRestart i x).1.mem = s.mem ∧ (s.doRestart i x).1.se = s.se ∧ (s.doRestart i x).1.fw = s.fw ∧
    (s.doRestart i x).1.free = s.free ∧ (s.doRestart i x).1.pending = s.pending := by unfold State.doRestart; split <;> simp

@[simp] theorem State.doForm_frame (s : State) (r : Req) (x : Session) (q : Form) :
    (s.doForm r x q).1.fw = s.fw ∧ (s.doForm r x q).1.free = s.free ∧ (s.doForm r x q).1.pending = s.pending := by
  cases q <;> simp [State.doForm, State.doAck]

@[simp] theorem State.doForm_wf (s : State) (r : Req) (x : Session) (q : Form) (h : memWf s.mem.scratch = true) :
    memWf (s.doForm r x q).1.mem.scratch = true := by
  cases q <;> simp [State.doForm, State.doAck, h]

@[simp] theorem State.serveOne_frame (s : State) (q : Later) :
    (s.serveOne q).fw = s.fw ∧ (s.serveOne q).free = s.free ∧ (s.serveOne q).pending = s.pending := by
  unfold State.serveOne
  split
  · simp
  split
  · simp
  split
  · simp
  exact ⟨State.take_keeps State.fw (fun _ _ => rfl) _ _ _ _ _ (by simp), State.take_keeps State.free (fun _ _ => rfl) _ _ _ _ _ (by simp),
    State.take_keeps State.pending (fun _ _ => rfl) _ _ _ _ _ (by simp)⟩

@[simp] theorem State.serveOne_wf (s : State) (q : Later) (h : memWf s.mem.scratch = true) :
    memWf (s.serveOne q).mem.scratch = true := by
  unfold State.serveOne
  split
  · exact h
  split
  · exact h
  split
  · exact h
  exact State.take_wf _ _ _ _ _ (fun _ _ h => State.doForm_wf _ _ _ _ h) h

@[simp] theorem State.serveLater_frame (s : State) :
    s.serveLater.fw = s.fw ∧ s.serveLater.free = s.free ∧ s.serveLater.pending = s.pending := by simp [State.serveLater]

@[simp] theorem State.serveLater_wf (s : State) (h : memWf s.mem.scratch = true) : memWf s.serveLater.mem.scratch = true := by
  unfold State.serveLater
  exact foldl_wf _ _ _ (fun s q h => State.serveOne_wf s q h) h

@[simp] theorem State.nextTick_frame (s : State) (retick : Option Tick) :
    (s.nextTick retick).fw = s.fw ∧ (s.nextTick retick).free = s.free ∧ (s.nextTick retick).pending = s.pending := by simp [State.nextTick]

@[simp] theorem State.nextTick_wf (s : State) (retick : Option Tick) (h : memWf s.mem.scratch = true) :
    memWf (s.nextTick retick).mem.scratch = true := by simp [State.nextTick, h]

@[simp] theorem State.act_frame (s : State) (x : Snapshot) :
    (s.act x).tick = s.tick ∧ (s.act x).up = s.up ∧ (s.act x).unit = s.unit ∧ (s.act x).panel = s.panel ∧
    (s.act x).cfg = s.cfg ∧ (s.act x).doors = s.doors ∧ (s.act x).mem = s.mem ∧ (s.act x).fw = s.fw ∧
    (s.act x).pending = s.pending := by unfold State.act; dsimp only; split <;> simp

@[simp] theorem State.compute_frame (s : State) (x : Snapshot) :
    (s.compute x).fw = s.fw ∧ (s.compute x).pending = s.pending := by unfold State.compute; dsimp only; (repeat' split) <;> simp

@[simp] theorem State.compute_wf (s : State) (x : Snapshot) (h : memWf s.mem.scratch = true) :
    memWf (s.compute x).mem.scratch = true := by
  have a := State.stepOne_wf s h
  have b : memWf (s.stepOne.sensePanel x).mem.scratch = true := by simpa using a
  have c := State.senseField_wf _ x b
  unfold State.compute
  dsimp only
  split
  · exact h
  split
  · exact b
  · exact State.nextTick_wf _ _ (by split <;> simpa using c)

end Sys2Proof.Machine
end

