-- ==== Sys2Proof/Laws/Commands.lean ====
section
/-! SUPPORT. For every operation `X`, `X_frame` names the fields of State that it leaves as they are: the operations of the command families. `X_stopped` says that a module that does not run is left as it is. -/

namespace Sys2Proof.Machine

@[simp] theorem State.lineFall_frame (s : State) (late : Bool) :
    (s.lineFall late).up = s.up ∧ (s.lineFall late).unit = s.unit ∧ (s.lineFall late).panel = s.panel ∧
    (s.lineFall late).cfg = s.cfg ∧ (s.lineFall late).ports = s.ports ∧ (s.lineFall late).axes = s.axes ∧
    (s.lineFall late).doors = s.doors ∧ (s.lineFall late).can = s.can ∧ (s.lineFall late).hinge = s.hinge ∧
    (s.lineFall late).mem = s.mem ∧ (s.lineFall late).se = s.se ∧ (s.lineFall late).fw = s.fw ∧
    (s.lineFall late).net = s.net ∧ (s.lineFall late).lostNow = s.lostNow ∧ (s.lineFall late).shown = s.shown ∧
    (s.lineFall late).taken = s.taken ∧ (s.lineFall late).free = s.free ∧ (s.lineFall late).pending = s.pending := by unfold State.lineFall; split <;> simp

@[simp] theorem State.lineFall_tick (s : State) (late : Bool) : (s.lineFall late).tick = s.tick := by
  unfold State.lineFall; split <;> simp

@[simp] theorem State.clockFault_frame (s : State) (kind : ClockFaultKind) (late : Bool) :
    (s.clockFault kind late).tick = s.tick ∧ (s.clockFault kind late).up = s.up ∧ (s.clockFault kind late).panel = s.panel ∧
    (s.clockFault kind late).cfg = s.cfg ∧ (s.clockFault kind late).ports = s.ports ∧
    (s.clockFault kind late).il = s.il ∧ (s.clockFault kind late).io = s.io ∧
    (s.clockFault kind late).can = s.can ∧ (s.clockFault kind late).mem = s.mem ∧ (s.clockFault kind late).se = s.se ∧
    (s.clockFault kind late).fw = s.fw ∧ (s.clockFault kind late).net = s.net ∧ (s.clockFault kind late).lostNow = s.lostNow ∧
    (s.clockFault kind late).shown = s.shown ∧ (s.clockFault kind late).taken = s.taken ∧ (s.clockFault kind late).free = s.free ∧
    (s.clockFault kind late).pending = s.pending ∧ (s.clockFault kind late).unit.running = s.unit.running := by unfold State.clockFault; split <;> simp

@[simp] theorem State.coreTrap_tick (s : State) (cause : TrapCause) (late : Bool) : (s.coreTrap cause late).tick = s.tick := by
  unfold State.coreTrap
  cases cause <;> (dsimp only; split <;> simp)

@[simp] theorem State.coreTrap_frame (s : State) (cause : TrapCause) (late : Bool) :
    (s.coreTrap cause late).up = s.up ∧ (s.coreTrap cause late).panel = s.panel ∧ (s.coreTrap cause late).cfg = s.cfg ∧
    (s.coreTrap cause late).ports = s.ports ∧ (s.coreTrap cause late).can = s.can ∧
    (s.coreTrap cause late).se = s.se ∧ (s.coreTrap cause late).fw = s.fw ∧ (s.coreTrap cause late).net = s.net ∧
    (s.coreTrap cause late).lostNow = s.lostNow ∧ (s.coreTrap cause late).shown = s.shown ∧
    (s.coreTrap cause late).taken = s.taken ∧ (s.coreTrap cause late).free = s.free ∧ (s.coreTrap cause late).pending = s.pending ∧
    (s.coreTrap cause late).unit.running = s.unit.running := by
  unfold State.coreTrap
  cases cause <;> (dsimp only; split <;> simp)

@[simp] theorem State.coreTrap_wf (s : State) (cause : TrapCause) (late : Bool) (h : memWf s.mem.scratch = true) :
    memWf (s.coreTrap cause late).mem.scratch = true := by
  unfold State.coreTrap
  cases cause with
  | memory w =>
    have := State.onMem_wf s _ (fun r => MemRun.read_wf r w .cores) h
    dsimp only
    split <;> simpa using this
  | _ => dsimp only; split <;> simpa using h

@[simp] theorem State.onLink_frame (s : State) (k : PortId) (f : LinkRun → LinkIn → LinkRun) :
    (s.onLink k f).tick = s.tick ∧ (s.onLink k f).up = s.up ∧ (s.onLink k f).unit = s.unit ∧ (s.onLink k f).panel = s.panel ∧
    (s.onLink k f).cfg = s.cfg ∧ (s.onLink k f).il = s.il ∧ (s.onLink k f).io = s.io ∧ (s.onLink k f).can = s.can ∧
    (s.onLink k f).hinge = s.hinge ∧ (s.onLink k f).mem = s.mem ∧ (s.onLink k f).se = s.se ∧ (s.onLink k f).fw = s.fw ∧
    (s.onLink k f).net = s.net ∧ (s.onLink k f).shown = s.shown ∧ (s.onLink k f).taken = s.taken ∧ (s.onLink k f).free = s.free ∧
    (s.onLink k f).pending = s.pending := by simp [State.onLink]

@[simp] theorem State.bulkEvent_frame (s : State) (k : PortId) (f : LinkRun → LinkIn → LinkRun) :
    (s.bulkEvent k f).tick = s.tick ∧ (s.bulkEvent k f).up = s.up ∧ (s.bulkEvent k f).unit = s.unit ∧
    (s.bulkEvent k f).panel = s.panel ∧ (s.bulkEvent k f).cfg = s.cfg ∧ (s.bulkEvent k f).il = s.il ∧
    (s.bulkEvent k f).io = s.io ∧ (s.bulkEvent k f).can = s.can ∧ (s.bulkEvent k f).hinge = s.hinge ∧
    (s.bulkEvent k f).mem = s.mem ∧ (s.bulkEvent k f).se = s.se ∧ (s.bulkEvent k f).fw = s.fw ∧
    (s.bulkEvent k f).net = s.net ∧ (s.bulkEvent k f).shown = s.shown ∧ (s.bulkEvent k f).taken = s.taken ∧ (s.bulkEvent k f).free = s.free ∧
    (s.bulkEvent k f).pending = s.pending := by simp [State.bulkEvent]

@[simp] theorem State.frameParity_frame (s : State) (f : WireFrame) :
    (s.frameParity f).tick = s.tick ∧ (s.frameParity f).up = s.up ∧ (s.frameParity f).unit = s.unit ∧
    (s.frameParity f).panel = s.panel ∧ (s.frameParity f).cfg = s.cfg ∧ (s.frameParity f).ports = s.ports ∧
    (s.frameParity f).axes = s.axes ∧ (s.frameParity f).doors = s.doors ∧ (s.frameParity f).il = s.il ∧
    (s.frameParity f).io = s.io ∧ (s.frameParity f).can = s.can ∧ (s.frameParity f).hinge = s.hinge ∧
    (s.frameParity f).se = s.se ∧ (s.frameParity f).fw = s.fw ∧ (s.frameParity f).net = s.net ∧
    (s.frameParity f).lostNow = s.lostNow ∧ (s.frameParity f).shown = s.shown ∧ (s.frameParity f).taken = s.taken ∧ (s.frameParity f).free = s.free ∧
    (s.frameParity f).pending = s.pending := by unfold State.frameParity; split <;> simp

@[simp] theorem State.frameParity_wf (s : State) (f : WireFrame) (h : memWf s.mem.scratch = true) :
    memWf (s.frameParity f).mem.scratch = true := by unfold State.frameParity; split <;> simp [h]

@[simp] theorem State.standbyEcho_frame (s : State) (k : PortId) (was : Bool) :
    (s.standbyEcho k was).tick = s.tick ∧ (s.standbyEcho k was).up = s.up ∧ (s.standbyEcho k was).unit = s.unit ∧
    (s.standbyEcho k was).panel = s.panel ∧ (s.standbyEcho k was).cfg = s.cfg ∧ (s.standbyEcho k was).ports = s.ports ∧
    (s.standbyEcho k was).axes = s.axes ∧ (s.standbyEcho k was).doors = s.doors ∧ (s.standbyEcho k was).il = s.il ∧
    (s.standbyEcho k was).io = s.io ∧ (s.standbyEcho k was).can = s.can ∧ (s.standbyEcho k was).mem = s.mem ∧
    (s.standbyEcho k was).se = s.se ∧ (s.standbyEcho k was).fw = s.fw ∧ (s.standbyEcho k was).net = s.net ∧
    (s.standbyEcho k was).lostNow = s.lostNow ∧ (s.standbyEcho k was).shown = s.shown ∧ (s.standbyEcho k was).taken = s.taken ∧ (s.standbyEcho k was).free = s.free ∧
    (s.standbyEcho k was).pending = s.pending := by unfold State.standbyEcho; split <;> simp

@[simp] theorem State.upstreamFrame_frame (s : State) (k : PortId) (f : WireFrame) :
    (s.upstreamFrame k f).tick = s.tick ∧ (s.upstreamFrame k f).up = s.up ∧ (s.upstreamFrame k f).unit = s.unit ∧
    (s.upstreamFrame k f).panel = s.panel ∧ (s.upstreamFrame k f).cfg = s.cfg ∧ (s.upstreamFrame k f).il = s.il ∧
    (s.upstreamFrame k f).io = s.io ∧ (s.upstreamFrame k f).can = s.can ∧ (s.upstreamFrame k f).se = s.se ∧
    (s.upstreamFrame k f).fw = s.fw ∧ (s.upstreamFrame k f).net = s.net ∧ (s.upstreamFrame k f).shown = s.shown ∧
    (s.upstreamFrame k f).taken = s.taken ∧ (s.upstreamFrame k f).free = s.free ∧ (s.upstreamFrame k f).pending = s.pending := by simp [State.upstreamFrame]

@[simp] theorem State.upstreamFrame_wf (s : State) (k : PortId) (f : WireFrame) (h : memWf s.mem.scratch = true) :
    memWf (s.upstreamFrame k f).mem.scratch = true := by simp [State.upstreamFrame, h]

@[simp] theorem State.linkSync_frame (s : State) (k : LinkId) (on : Bool) :
    (s.linkSync k on).tick = s.tick ∧ (s.linkSync k on).up = s.up ∧ (s.linkSync k on).unit = s.unit ∧
    (s.linkSync k on).panel = s.panel ∧ (s.linkSync k on).cfg = s.cfg ∧ (s.linkSync k on).axes = s.axes ∧
    (s.linkSync k on).trace = s.trace ∧ (s.linkSync k on).doors = s.doors ∧ (s.linkSync k on).il = s.il ∧
    (s.linkSync k on).io = s.io ∧ (s.linkSync k on).can = s.can ∧ (s.linkSync k on).recorder = s.recorder ∧
    (s.linkSync k on).mem = s.mem ∧ (s.linkSync k on).kw = s.kw ∧ (s.linkSync k on).se = s.se ∧ (s.linkSync k on).fw = s.fw ∧
    (s.linkSync k on).net = s.net ∧ (s.linkSync k on).lostNow = s.lostNow ∧ (s.linkSync k on).shown = s.shown ∧
    (s.linkSync k on).setNow = s.setNow ∧ (s.linkSync k on).taken = s.taken ∧ (s.linkSync k on).free = s.free ∧ (s.linkSync k on).pending = s.pending := by unfold State.linkSync; split <;> simp

@[simp] theorem State.onLevel_frame (s : State) (a : AxisId) (f : AxRun → AxIn → AxRun) :
    (s.onLevel a f).tick = s.tick ∧ (s.onLevel a f).up = s.up ∧ (s.onLevel a f).unit = s.unit ∧
    (s.onLevel a f).panel = s.panel ∧ (s.onLevel a f).cfg = s.cfg ∧ (s.onLevel a f).ports = s.ports ∧
    (s.onLevel a f).doors = s.doors ∧ (s.onLevel a f).il = s.il ∧ (s.onLevel a f).io = s.io ∧ (s.onLevel a f).can = s.can ∧
    (s.onLevel a f).hinge = s.hinge ∧ (s.onLevel a f).mem = s.mem ∧ (s.onLevel a f).se = s.se ∧ (s.onLevel a f).fw = s.fw ∧
    (s.onLevel a f).net = s.net ∧ (s.onLevel a f).lostNow = s.lostNow ∧ (s.onLevel a f).shown = s.shown ∧
    (s.onLevel a f).taken = s.taken ∧ (s.onLevel a f).free = s.free ∧ (s.onLevel a f).pending = s.pending := by simp [State.onLevel]

@[simp] theorem State.doorOf'_frame (s : State) (a : AxisId) (f : Nat → DoorRun → DoorIn → DoorRun) :
    (s.doorOf' a f).tick = s.tick ∧ (s.doorOf' a f).up = s.up ∧ (s.doorOf' a f).unit = s.unit ∧
    (s.doorOf' a f).panel = s.panel ∧ (s.doorOf' a f).cfg = s.cfg ∧ (s.doorOf' a f).ports = s.ports ∧
    (s.doorOf' a f).il = s.il ∧ (s.doorOf' a f).io = s.io ∧ (s.doorOf' a f).can = s.can ∧ (s.doorOf' a f).hinge = s.hinge ∧
    (s.doorOf' a f).mem = s.mem ∧ (s.doorOf' a f).se = s.se ∧ (s.doorOf' a f).fw = s.fw ∧ (s.doorOf' a f).net = s.net ∧
    (s.doorOf' a f).lostNow = s.lostNow ∧ (s.doorOf' a f).shown = s.shown ∧ (s.doorOf' a f).taken = s.taken ∧ (s.doorOf' a f).free = s.free ∧
    (s.doorOf' a f).pending = s.pending := by unfold State.doorOf'; (repeat' split) <;> simp

@[simp] theorem State.stallEvent_frame (s : State) (a : AxisId) :
    (s.stallEvent a).tick = s.tick ∧ (s.stallEvent a).up = s.up ∧ (s.stallEvent a).unit = s.unit ∧
    (s.stallEvent a).panel = s.panel ∧ (s.stallEvent a).cfg = s.cfg ∧ (s.stallEvent a).ports = s.ports ∧
    (s.stallEvent a).il = s.il ∧ (s.stallEvent a).io = s.io ∧ (s.stallEvent a).can = s.can ∧
    (s.stallEvent a).hinge = s.hinge ∧ (s.stallEvent a).mem = s.mem ∧ (s.stallEvent a).se = s.se ∧
    (s.stallEvent a).fw = s.fw ∧ (s.stallEvent a).net = s.net ∧ (s.stallEvent a).lostNow = s.lostNow ∧
    (s.stallEvent a).shown = s.shown ∧ (s.stallEvent a).taken = s.taken ∧ (s.stallEvent a).free = s.free ∧ (s.stallEvent a).pending = s.pending := by unfold State.stallEvent; dsimp only; split <;> simp

@[simp] theorem State.obstacleEvent_frame (s : State) (a : AxisId) :
    (s.obstacleEvent a).tick = s.tick ∧ (s.obstacleEvent a).up = s.up ∧ (s.obstacleEvent a).unit = s.unit ∧
    (s.obstacleEvent a).panel = s.panel ∧ (s.obstacleEvent a).cfg = s.cfg ∧ (s.obstacleEvent a).ports = s.ports ∧
    (s.obstacleEvent a).il = s.il ∧ (s.obstacleEvent a).io = s.io ∧ (s.obstacleEvent a).can = s.can ∧
    (s.obstacleEvent a).hinge = s.hinge ∧ (s.obstacleEvent a).mem = s.mem ∧ (s.obstacleEvent a).se = s.se ∧
    (s.obstacleEvent a).fw = s.fw ∧ (s.obstacleEvent a).net = s.net ∧ (s.obstacleEvent a).lostNow = s.lostNow ∧
    (s.obstacleEvent a).shown = s.shown ∧ (s.obstacleEvent a).taken = s.taken ∧ (s.obstacleEvent a).free = s.free ∧ (s.obstacleEvent a).pending = s.pending := by unfold State.obstacleEvent; dsimp only; split <;> simp

@[simp] theorem State.leafEvaluation_frame (s : State) (a : AxisId) (x : Int) :
    (s.leafEvaluation a x).tick = s.tick ∧ (s.leafEvaluation a x).up = s.up ∧ (s.leafEvaluation a x).unit = s.unit ∧
    (s.leafEvaluation a x).panel = s.panel ∧ (s.leafEvaluation a x).cfg = s.cfg ∧ (s.leafEvaluation a x).ports = s.ports ∧
    (s.leafEvaluation a x).il = s.il ∧ (s.leafEvaluation a x).io = s.io ∧ (s.leafEvaluation a x).can = s.can ∧
    (s.leafEvaluation a x).hinge = s.hinge ∧ (s.leafEvaluation a x).mem = s.mem ∧ (s.leafEvaluation a x).se = s.se ∧
    (s.leafEvaluation a x).fw = s.fw ∧ (s.leafEvaluation a x).net = s.net ∧ (s.leafEvaluation a x).lostNow = s.lostNow ∧
    (s.leafEvaluation a x).shown = s.shown ∧ (s.leafEvaluation a x).taken = s.taken ∧ (s.leafEvaluation a x).free = s.free ∧ (s.leafEvaluation a x).pending = s.pending := by unfold State.leafEvaluation; split <;> simp

@[simp] theorem State.onDoorway_frame (s : State) (d : DoorId) (f : DoorRun → DoorIn → DoorRun) :
    (s.onDoorway d f).tick = s.tick ∧ (s.onDoorway d f).up = s.up ∧ (s.onDoorway d f).unit = s.unit ∧
    (s.onDoorway d f).panel = s.panel ∧ (s.onDoorway d f).cfg = s.cfg ∧ (s.onDoorway d f).ports = s.ports ∧
    (s.onDoorway d f).il = s.il ∧ (s.onDoorway d f).io = s.io ∧ (s.onDoorway d f).can = s.can ∧
    (s.onDoorway d f).hinge = s.hinge ∧ (s.onDoorway d f).mem = s.mem ∧ (s.onDoorway d f).se = s.se ∧
    (s.onDoorway d f).fw = s.fw ∧ (s.onDoorway d f).net = s.net ∧ (s.onDoorway d f).lostNow = s.lostNow ∧
    (s.onDoorway d f).shown = s.shown ∧ (s.onDoorway d f).taken = s.taken ∧ (s.onDoorway d f).free = s.free ∧ (s.onDoorway d f).pending = s.pending := by simp [State.onDoorway]

@[simp] theorem State.sideInput_frame (s : State) (right opening : Bool) :
    (s.sideInput right opening).tick = s.tick ∧ (s.sideInput right opening).up = s.up ∧
    (s.sideInput right opening).unit = s.unit ∧ (s.sideInput right opening).panel = s.panel ∧
    (s.sideInput right opening).cfg = s.cfg ∧ (s.sideInput right opening).ports = s.ports ∧
    (s.sideInput right opening).il = s.il ∧ (s.sideInput right opening).io = s.io ∧ (s.sideInput right opening).can = s.can ∧
    (s.sideInput right opening).hinge = s.hinge ∧ (s.sideInput right opening).mem = s.mem ∧
    (s.sideInput right opening).se = s.se ∧ (s.sideInput right opening).fw = s.fw ∧ (s.sideInput right opening).net = s.net ∧
    (s.sideInput right opening).lostNow = s.lostNow ∧ (s.sideInput right opening).shown = s.shown ∧
    (s.sideInput right opening).taken = s.taken ∧ (s.sideInput right opening).free = s.free ∧ (s.sideInput right opening).pending = s.pending := by simp [State.sideInput]

@[simp] theorem State.releaseLost_frame (s : State) (gone : BitVec 3) :
    (s.releaseLost gone).tick = s.tick ∧ (s.releaseLost gone).up = s.up ∧ (s.releaseLost gone).panel = s.panel ∧
    (s.releaseLost gone).cfg = s.cfg ∧ (s.releaseLost gone).ports = s.ports ∧ (s.releaseLost gone).io = s.io ∧
    (s.releaseLost gone).can = s.can ∧ (s.releaseLost gone).hinge = s.hinge ∧ (s.releaseLost gone).mem = s.mem ∧
    (s.releaseLost gone).se = s.se ∧ (s.releaseLost gone).fw = s.fw ∧ (s.releaseLost gone).net = s.net ∧
    (s.releaseLost gone).lostNow = s.lostNow ∧ (s.releaseLost gone).shown = s.shown ∧ (s.releaseLost gone).taken = s.taken ∧ (s.releaseLost gone).free = s.free ∧
    (s.releaseLost gone).pending = s.pending ∧ (s.releaseLost gone).unit.running = s.unit.running := by unfold State.releaseLost; dsimp only; split <;> simp

@[simp] theorem State.zeroSpeedPresent_frame (s : State) :
    s.zeroSpeedPresent.tick = s.tick ∧ s.zeroSpeedPresent.up = s.up ∧ s.zeroSpeedPresent.unit = s.unit ∧
    s.zeroSpeedPresent.panel = s.panel ∧ s.zeroSpeedPresent.cfg = s.cfg ∧ s.zeroSpeedPresent.ports = s.ports ∧
    s.zeroSpeedPresent.io = s.io ∧ s.zeroSpeedPresent.can = s.can ∧ s.zeroSpeedPresent.hinge = s.hinge ∧
    s.zeroSpeedPresent.mem = s.mem ∧ s.zeroSpeedPresent.se = s.se ∧ s.zeroSpeedPresent.fw = s.fw ∧
    s.zeroSpeedPresent.net = s.net ∧ s.zeroSpeedPresent.lostNow = s.lostNow ∧ s.zeroSpeedPresent.shown = s.shown ∧
    s.zeroSpeedPresent.taken = s.taken ∧ s.zeroSpeedPresent.free = s.free ∧ s.zeroSpeedPresent.pending = s.pending := by simp [State.zeroSpeedPresent]

@[simp] theorem State.onInterlock_frame (s : State) (admits : Bool) (f : LockRun → LockRun) :
    (s.onInterlock admits f).tick = s.tick ∧ (s.onInterlock admits f).up = s.up ∧ (s.onInterlock admits f).unit = s.unit ∧
    (s.onInterlock admits f).panel = s.panel ∧ (s.onInterlock admits f).cfg = s.cfg ∧
    (s.onInterlock admits f).ports = s.ports ∧ (s.onInterlock admits f).axes = s.axes ∧
    (s.onInterlock admits f).doors = s.doors ∧ (s.onInterlock admits f).io = s.io ∧ (s.onInterlock admits f).can = s.can ∧
    (s.onInterlock admits f).hinge = s.hinge ∧ (s.onInterlock admits f).mem = s.mem ∧ (s.onInterlock admits f).se = s.se ∧
    (s.onInterlock admits f).fw = s.fw ∧ (s.onInterlock admits f).net = s.net ∧ (s.onInterlock admits f).lostNow = s.lostNow ∧
    (s.onInterlock admits f).shown = s.shown ∧ (s.onInterlock admits f).taken = s.taken ∧ (s.onInterlock admits f).free = s.free ∧
    (s.onInterlock admits f).pending = s.pending := by simp [State.onInterlock]

@[simp] theorem State.releaseCopy_frame (s : State) (bus : BusId) (format : Bool) (bytes : List Byte) :
    (s.releaseCopy bus format bytes).tick = s.tick ∧ (s.releaseCopy bus format bytes).up = s.up ∧
    (s.releaseCopy bus format bytes).unit = s.unit ∧ (s.releaseCopy bus format bytes).panel = s.panel ∧
    (s.releaseCopy bus format bytes).cfg = s.cfg ∧ (s.releaseCopy bus format bytes).ports = s.ports ∧
    (s.releaseCopy bus format bytes).axes = s.axes ∧ (s.releaseCopy bus format bytes).doors = s.doors ∧
    (s.releaseCopy bus format bytes).io = s.io ∧ (s.releaseCopy bus format bytes).can = s.can ∧
    (s.releaseCopy bus format bytes).hinge = s.hinge ∧ (s.releaseCopy bus format bytes).mem = s.mem ∧
    (s.releaseCopy bus format bytes).se = s.se ∧ (s.releaseCopy bus format bytes).fw = s.fw ∧
    (s.releaseCopy bus format bytes).net = s.net ∧ (s.releaseCopy bus format bytes).lostNow = s.lostNow ∧
    (s.releaseCopy bus format bytes).shown = s.shown ∧ (s.releaseCopy bus format bytes).taken = s.taken ∧ (s.releaseCopy bus format bytes).free = s.free ∧
    (s.releaseCopy bus format bytes).pending = s.pending := by simp [State.releaseCopy]

@[simp] theorem State.foreignDoorState_frame (s : State) :
    s.foreignDoorState.tick = s.tick ∧ s.foreignDoorState.up = s.up ∧ s.foreignDoorState.unit = s.unit ∧
    s.foreignDoorState.panel = s.panel ∧ s.foreignDoorState.ports = s.ports ∧ s.foreignDoorState.axes = s.axes ∧
    s.foreignDoorState.doors = s.doors ∧ s.foreignDoorState.il = s.il ∧ s.foreignDoorState.io = s.io ∧
    s.foreignDoorState.can = s.can ∧ s.foreignDoorState.mem = s.mem ∧ s.foreignDoorState.se = s.se ∧
    s.foreignDoorState.fw = s.fw ∧ s.foreignDoorState.net = s.net ∧ s.foreignDoorState.lostNow = s.lostNow ∧
    s.foreignDoorState.shown = s.shown ∧ s.foreignDoorState.taken = s.taken ∧ s.foreignDoorState.free = s.free ∧ s.foreignDoorState.pending = s.pending := by unfold State.foreignDoorState; dsimp only; (repeat' split) <;> simp

@[simp] theorem State.doorStateCopy_frame (s : State) (format : Bool) (bytes : List Byte) :
    (s.doorStateCopy format bytes).tick = s.tick ∧ (s.doorStateCopy format bytes).up = s.up ∧
    (s.doorStateCopy format bytes).unit = s.unit ∧ (s.doorStateCopy format bytes).panel = s.panel ∧
    (s.doorStateCopy format bytes).ports = s.ports ∧ (s.doorStateCopy format bytes).axes = s.axes ∧
    (s.doorStateCopy format bytes).doors = s.doors ∧ (s.doorStateCopy format bytes).io = s.io ∧
    (s.doorStateCopy format bytes).can = s.can ∧ (s.doorStateCopy format bytes).mem = s.mem ∧
    (s.doorStateCopy format bytes).se = s.se ∧ (s.doorStateCopy format bytes).fw = s.fw ∧
    (s.doorStateCopy format bytes).net = s.net ∧ (s.doorStateCopy format bytes).lostNow = s.lostNow ∧
    (s.doorStateCopy format bytes).shown = s.shown ∧ (s.doorStateCopy format bytes).taken = s.taken ∧ (s.doorStateCopy format bytes).free = s.free ∧
    (s.doorStateCopy format bytes).pending = s.pending := by unfold State.doorStateCopy; dsimp only; (repeat' split) <;> simp

@[simp] theorem State.onField_frame (s : State) (admits : FieldIo → Bool) (f : IoRun → IoRun) :
    (s.onField admits f).tick = s.tick ∧ (s.onField admits f).up = s.up ∧ (s.onField admits f).unit = s.unit ∧
    (s.onField admits f).panel = s.panel ∧ (s.onField admits f).cfg = s.cfg ∧ (s.onField admits f).ports = s.ports ∧
    (s.onField admits f).axes = s.axes ∧ (s.onField admits f).doors = s.doors ∧ (s.onField admits f).il = s.il ∧
    (s.onField admits f).can = s.can ∧ (s.onField admits f).hinge = s.hinge ∧ (s.onField admits f).mem = s.mem ∧
    (s.onField admits f).se = s.se ∧ (s.onField admits f).fw = s.fw ∧ (s.onField admits f).net = s.net ∧
    (s.onField admits f).lostNow = s.lostNow ∧ (s.onField admits f).shown = s.shown ∧ (s.onField admits f).taken = s.taken ∧ (s.onField admits f).free = s.free ∧
    (s.onField admits f).pending = s.pending := by simp [State.onField]

@[simp] theorem State.onBus_frame (s : State) (b : BusId) (f : CanRun → CanRun) :
    (s.onBus b f).tick = s.tick ∧ (s.onBus b f).up = s.up ∧ (s.onBus b f).unit = s.unit ∧ (s.onBus b f).panel = s.panel ∧
    (s.onBus b f).cfg = s.cfg ∧ (s.onBus b f).ports = s.ports ∧ (s.onBus b f).axes = s.axes ∧ (s.onBus b f).doors = s.doors ∧
    (s.onBus b f).il = s.il ∧ (s.onBus b f).io = s.io ∧ (s.onBus b f).hinge = s.hinge ∧ (s.onBus b f).mem = s.mem ∧
    (s.onBus b f).se = s.se ∧ (s.onBus b f).fw = s.fw ∧ (s.onBus b f).net = s.net ∧ (s.onBus b f).lostNow = s.lostNow ∧
    (s.onBus b f).shown = s.shown ∧ (s.onBus b f).taken = s.taken ∧ (s.onBus b f).free = s.free ∧ (s.onBus b f).pending = s.pending := by simp [State.onBus]

@[simp] theorem State.routeFrame_frame (s : State) (bus : BusId) (f : CanFrame) (parity : Bool) (ts : Word) :
    (s.routeFrame bus f parity ts).tick = s.tick ∧ (s.routeFrame bus f parity ts).up = s.up ∧
    (s.routeFrame bus f parity ts).unit = s.unit ∧ (s.routeFrame bus f parity ts).panel = s.panel ∧
    (s.routeFrame bus f parity ts).ports = s.ports ∧ (s.routeFrame bus f parity ts).axes = s.axes ∧
    (s.routeFrame bus f parity ts).doors = s.doors ∧ (s.routeFrame bus f parity ts).io = s.io ∧
    (s.routeFrame bus f parity ts).mem = s.mem ∧ (s.routeFrame bus f parity ts).se = s.se ∧
    (s.routeFrame bus f parity ts).fw = s.fw ∧ (s.routeFrame bus f parity ts).net = s.net ∧
    (s.routeFrame bus f parity ts).lostNow = s.lostNow ∧ (s.routeFrame bus f parity ts).shown = s.shown ∧
    (s.routeFrame bus f parity ts).taken = s.taken ∧ (s.routeFrame bus f parity ts).free = s.free ∧ (s.routeFrame bus f parity ts).pending = s.pending := by unfold State.routeFrame; (repeat' split) <;> simp

@[simp] theorem State.frameIn_frame (s : State) (bus : BusId) (f : CanFrame) (parity : Bool) (ts : Word) :
    (s.frameIn bus f parity ts).tick = s.tick ∧ (s.frameIn bus f parity ts).up = s.up ∧
    (s.frameIn bus f parity ts).unit = s.unit ∧ (s.frameIn bus f parity ts).panel = s.panel ∧
    (s.frameIn bus f parity ts).ports = s.ports ∧ (s.frameIn bus f parity ts).axes = s.axes ∧
    (s.frameIn bus f parity ts).doors = s.doors ∧ (s.frameIn bus f parity ts).io = s.io ∧
    (s.frameIn bus f parity ts).se = s.se ∧ (s.frameIn bus f parity ts).fw = s.fw ∧ (s.frameIn bus f parity ts).net = s.net ∧
    (s.frameIn bus f parity ts).lostNow = s.lostNow ∧ (s.frameIn bus f parity ts).shown = s.shown ∧
    (s.frameIn bus f parity ts).pending = s.pending := by unfold State.frameIn; split <;> simp

@[simp] theorem State.frameIn_wf (s : State) (bus : BusId) (f : CanFrame) (parity : Bool) (ts : Word) (h : memWf s.mem.scratch = true) :
    memWf (s.frameIn bus f parity ts).mem.scratch = true := by unfold State.frameIn; split <;> simp [h]

@[simp] theorem State.attemptEnd_frame (s : State) (bus : BusId) (b : Option (Fin 3)) (sent : Bool) :
    (s.attemptEnd bus b sent).tick = s.tick ∧ (s.attemptEnd bus b sent).up = s.up ∧ (s.attemptEnd bus b sent).unit = s.unit ∧
    (s.attemptEnd bus b sent).panel = s.panel ∧ (s.attemptEnd bus b sent).cfg = s.cfg ∧
    (s.attemptEnd bus b sent).ports = s.ports ∧ (s.attemptEnd bus b sent).axes = s.axes ∧
    (s.attemptEnd bus b sent).doors = s.doors ∧ (s.attemptEnd bus b sent).io = s.io ∧
    (s.attemptEnd bus b sent).hinge = s.hinge ∧ (s.attemptEnd bus b sent).mem = s.mem ∧ (s.attemptEnd bus b sent).se = s.se ∧
    (s.attemptEnd bus b sent).fw = s.fw ∧ (s.attemptEnd bus b sent).net = s.net ∧
    (s.attemptEnd bus b sent).lostNow = s.lostNow ∧ (s.attemptEnd bus b sent).shown = s.shown ∧
    (s.attemptEnd bus b sent).taken = s.taken ∧ (s.attemptEnd bus b sent).free = s.free ∧ (s.attemptEnd bus b sent).pending = s.pending := by simp [State.attemptEnd, apply_ite]

@[simp] theorem State.frameOver_frame (s : State) (bus : BusId) :
    (s.frameOver bus).tick = s.tick ∧ (s.frameOver bus).up = s.up ∧ (s.frameOver bus).unit = s.unit ∧
    (s.frameOver bus).panel = s.panel ∧ (s.frameOver bus).cfg = s.cfg ∧
    (s.frameOver bus).ports = s.ports ∧ (s.frameOver bus).axes = s.axes ∧
    (s.frameOver bus).doors = s.doors ∧ (s.frameOver bus).io = s.io ∧
    (s.frameOver bus).hinge = s.hinge ∧ (s.frameOver bus).mem = s.mem ∧ (s.frameOver bus).se = s.se ∧
    (s.frameOver bus).fw = s.fw ∧ (s.frameOver bus).net = s.net ∧
    (s.frameOver bus).lostNow = s.lostNow ∧ (s.frameOver bus).shown = s.shown ∧
    (s.frameOver bus).taken = s.taken ∧ (s.frameOver bus).free = s.free ∧ (s.frameOver bus).pending = s.pending := by unfold State.frameOver; split <;> simp

@[simp] theorem State.attempting_frame (s : State) (bus : BusId) :
    (s.attempting bus).tick = s.tick ∧ (s.attempting bus).up = s.up ∧ (s.attempting bus).unit = s.unit ∧
    (s.attempting bus).panel = s.panel ∧ (s.attempting bus).cfg = s.cfg ∧ (s.attempting bus).ports = s.ports ∧
    (s.attempting bus).axes = s.axes ∧ (s.attempting bus).doors = s.doors ∧ (s.attempting bus).il = s.il ∧
    (s.attempting bus).io = s.io ∧ (s.attempting bus).hinge = s.hinge ∧ (s.attempting bus).mem = s.mem ∧
    (s.attempting bus).se = s.se ∧ (s.attempting bus).fw = s.fw ∧ (s.attempting bus).net = s.net ∧
    (s.attempting bus).lostNow = s.lostNow ∧ (s.attempting bus).shown = s.shown ∧ (s.attempting bus).taken = s.taken ∧ (s.attempting bus).free = s.free ∧
    (s.attempting bus).pending = s.pending := by unfold State.attempting; split <;> simp

@[simp] theorem State.attempt_frame (s : State) (bus : BusId) (b : Fin 3) (sent ends : Bool) (f : CanRun → CanRun) :
    (s.attempt bus b sent ends f).tick = s.tick ∧ (s.attempt bus b sent ends f).up = s.up ∧ (s.attempt bus b sent ends f).unit = s.unit ∧
    (s.attempt bus b sent ends f).panel = s.panel ∧ (s.attempt bus b sent ends f).cfg = s.cfg ∧
    (s.attempt bus b sent ends f).ports = s.ports ∧ (s.attempt bus b sent ends f).axes = s.axes ∧
    (s.attempt bus b sent ends f).doors = s.doors ∧ (s.attempt bus b sent ends f).io = s.io ∧ (s.attempt bus b sent ends f).hinge = s.hinge ∧
    (s.attempt bus b sent ends f).mem = s.mem ∧ (s.attempt bus b sent ends f).se = s.se ∧ (s.attempt bus b sent ends f).fw = s.fw ∧
    (s.attempt bus b sent ends f).net = s.net ∧ (s.attempt bus b sent ends f).lostNow = s.lostNow ∧
    (s.attempt bus b sent ends f).shown = s.shown ∧ (s.attempt bus b sent ends f).taken = s.taken ∧ (s.attempt bus b sent ends f).free = s.free ∧
    (s.attempt bus b sent ends f).pending = s.pending := by
  unfold State.attempt State.live
  split
  · dsimp only
    (repeat' split) <;> simp
  · simp

@[simp] theorem State.loopDelay_frame (s : State) (bus : BusId) (b : Fin 3) :
    (s.loopDelay bus b).tick = s.tick ∧ (s.loopDelay bus b).up = s.up ∧ (s.loopDelay bus b).unit = s.unit ∧
    (s.loopDelay bus b).panel = s.panel ∧ (s.loopDelay bus b).cfg = s.cfg ∧ (s.loopDelay bus b).ports = s.ports ∧
    (s.loopDelay bus b).axes = s.axes ∧ (s.loopDelay bus b).doors = s.doors ∧ (s.loopDelay bus b).il = s.il ∧
    (s.loopDelay bus b).io = s.io ∧ (s.loopDelay bus b).hinge = s.hinge ∧ (s.loopDelay bus b).mem = s.mem ∧
    (s.loopDelay bus b).se = s.se ∧ (s.loopDelay bus b).fw = s.fw ∧ (s.loopDelay bus b).net = s.net ∧
    (s.loopDelay bus b).lostNow = s.lostNow ∧ (s.loopDelay bus b).shown = s.shown ∧ (s.loopDelay bus b).pending = s.pending := by
  unfold State.loopDelay State.draw
  (try dsimp only) <;> (repeat' split) <;> simp

@[simp] theorem State.measured_frame (s : State) (bus : BusId) (b : Fin 3) :
    (s.measured bus b).tick = s.tick ∧ (s.measured bus b).up = s.up ∧ (s.measured bus b).unit = s.unit ∧
    (s.measured bus b).panel = s.panel ∧ (s.measured bus b).cfg = s.cfg ∧ (s.measured bus b).ports = s.ports ∧
    (s.measured bus b).axes = s.axes ∧ (s.measured bus b).doors = s.doors ∧ (s.measured bus b).il = s.il ∧
    (s.measured bus b).io = s.io ∧ (s.measured bus b).hinge = s.hinge ∧ (s.measured bus b).mem = s.mem ∧
    (s.measured bus b).se = s.se ∧ (s.measured bus b).fw = s.fw ∧ (s.measured bus b).net = s.net ∧
    (s.measured bus b).lostNow = s.lostNow ∧ (s.measured bus b).shown = s.shown ∧ (s.measured bus b).pending = s.pending := by simp [State.measured]

@[simp] theorem State.onPair_frame (s : State) (f : HingeRun → HingeIn → HingeRun) :
    (s.onPair f).tick = s.tick ∧ (s.onPair f).up = s.up ∧ (s.onPair f).unit = s.unit ∧ (s.onPair f).panel = s.panel ∧
    (s.onPair f).cfg = s.cfg ∧ (s.onPair f).ports = s.ports ∧ (s.onPair f).axes = s.axes ∧ (s.onPair f).doors = s.doors ∧
    (s.onPair f).il = s.il ∧ (s.onPair f).io = s.io ∧ (s.onPair f).can = s.can ∧ (s.onPair f).mem = s.mem ∧
    (s.onPair f).se = s.se ∧ (s.onPair f).fw = s.fw ∧ (s.onPair f).net = s.net ∧ (s.onPair f).lostNow = s.lostNow ∧
    (s.onPair f).shown = s.shown ∧ (s.onPair f).taken = s.taken ∧ (s.onPair f).free = s.free ∧ (s.onPair f).pending = s.pending := by simp [State.onPair]

@[simp] theorem State.heartbeatIn_frame (s : State) (f : WireFrame) :
    (s.heartbeatIn f).tick = s.tick ∧ (s.heartbeatIn f).up = s.up ∧ (s.heartbeatIn f).unit = s.unit ∧
    (s.heartbeatIn f).panel = s.panel ∧ (s.heartbeatIn f).cfg = s.cfg ∧ (s.heartbeatIn f).ports = s.ports ∧
    (s.heartbeatIn f).axes = s.axes ∧ (s.heartbeatIn f).doors = s.doors ∧ (s.heartbeatIn f).il = s.il ∧
    (s.heartbeatIn f).io = s.io ∧ (s.heartbeatIn f).can = s.can ∧ (s.heartbeatIn f).se = s.se ∧ (s.heartbeatIn f).fw = s.fw ∧
    (s.heartbeatIn f).net = s.net ∧ (s.heartbeatIn f).lostNow = s.lostNow ∧ (s.heartbeatIn f).shown = s.shown ∧
    (s.heartbeatIn f).taken = s.taken ∧ (s.heartbeatIn f).free = s.free ∧ (s.heartbeatIn f).pending = s.pending := by unfold State.heartbeatIn; split <;> simp

@[simp] theorem State.heartbeatIn_wf (s : State) (f : WireFrame) (h : memWf s.mem.scratch = true) :
    memWf (s.heartbeatIn f).mem.scratch = true := by unfold State.heartbeatIn; split <;> simp [h]

@[simp] theorem State.pageCommit_frame (s : State) (ok : Bool) (parity : Option (List Byte)) :
    (s.pageCommit ok parity).tick = s.tick ∧ (s.pageCommit ok parity).up = s.up ∧ (s.pageCommit ok parity).unit = s.unit ∧
    (s.pageCommit ok parity).panel = s.panel ∧ (s.pageCommit ok parity).cfg = s.cfg ∧
    (s.pageCommit ok parity).ports = s.ports ∧ (s.pageCommit ok parity).axes = s.axes ∧
    (s.pageCommit ok parity).doors = s.doors ∧ (s.pageCommit ok parity).il = s.il ∧ (s.pageCommit ok parity).io = s.io ∧
    (s.pageCommit ok parity).can = s.can ∧ (s.pageCommit ok parity).hinge = s.hinge ∧ (s.pageCommit ok parity).fw = s.fw ∧
    (s.pageCommit ok parity).net = s.net ∧ (s.pageCommit ok parity).lostNow = s.lostNow ∧
    (s.pageCommit ok parity).shown = s.shown ∧ (s.pageCommit ok parity).taken = s.taken ∧ (s.pageCommit ok parity).free = s.free ∧
    (s.pageCommit ok parity).pending = s.pending := by simp [State.pageCommit, apply_ite]

@[simp] theorem State.pageCommit_wf (s : State) (ok : Bool) (parity : Option (List Byte)) (h : memWf s.mem.scratch = true) :
    memWf (s.pageCommit ok parity).mem.scratch = true := by unfold State.pageCommit; dsimp only; (repeat' split) <;> simp [h]

/-- The next state of a meaning is the one it names. -/
theorem next_inj {a b : State} (h : (Host.Outcome.next a : Host.Outcome State Fault Refusal) = .next b) : b = a := by cases h; rfl

@[simp] theorem State.live_stopped (s : State) (b : Bool) (f : State → State) (h : s.unit.running = false) : s.live b f = s := by simp [State.live, h]
@[simp] theorem State.serve_stopped (s : State) (r : Req) (k : Ask) (q : Form) (f : Session → State → State × Reply) (h : s.unit.running = false) : s.serve r k q f = s := by
  unfold State.serve; split <;> simp [h]
@[simp] theorem State.hostWrite_stopped (s : State) (r : Req) (a : Nat) (w : Word) (h : s.unit.running = false) : s.hostWrite r a w = s := by simp [State.hostWrite, h]
@[simp] theorem State.onLink_stopped (s : State) (k : PortId) (f : LinkRun → LinkIn → LinkRun) (h : s.unit.running = false) : s.onLink k f = s := by simp [State.onLink, h]
@[simp] theorem State.bulkEvent_stopped (s : State) (k : PortId) (f : LinkRun → LinkIn → LinkRun) (h : s.unit.running = false) : s.bulkEvent k f = s := by simp [State.bulkEvent, h]
@[simp] theorem State.onLevel_stopped (s : State) (a : AxisId) (f : AxRun → AxIn → AxRun) (h : s.unit.running = false) : s.onLevel a f = s := by simp [State.onLevel, h]
@[simp] theorem State.onDoorway_stopped (s : State) (d : DoorId) (f : DoorRun → DoorIn → DoorRun) (h : s.unit.running = false) : s.onDoorway d f = s := by simp [State.onDoorway, h]
@[simp] theorem State.sideInput_stopped (s : State) (a b : Bool) (h : s.unit.running = false) : s.sideInput a b = s := by simp [State.sideInput, h]
@[simp] theorem State.onInterlock_stopped (s : State) (b : Bool) (f : LockRun → LockRun) (h : s.unit.running = false) : s.onInterlock b f = s := by simp [State.onInterlock, h]
@[simp] theorem State.onField_stopped (s : State) (b : FieldIo → Bool) (f : IoRun → IoRun) (h : s.unit.running = false) : s.onField b f = s := by simp [State.onField, h]
@[simp] theorem State.onBus_stopped (s : State) (b : BusId) (f : CanRun → CanRun) (h : s.unit.running = false) : s.onBus b f = s := by simp [State.onBus, h]
@[simp] theorem State.onPair_stopped (s : State) (f : HingeRun → HingeIn → HingeRun) (h : s.unit.running = false) : s.onPair f = s := by simp [State.onPair, h]
@[simp] theorem State.measured_stopped (s : State) (b : BusId) (k : Fin 3) (h : s.unit.running = false) : s.measured b k = s := by simp [State.measured, h]
@[simp] theorem State.asksLease_stopped (s : State) (h : s.unit.running = false) : s.asksLease = false := by simp [State.asksLease, State.reachable, h]
@[simp] theorem State.attempt_stopped (s : State) (b : BusId) (k : Fin 3) (t e : Bool) (f : CanRun → CanRun) (h : s.unit.running = false) : s.attempt b k t e f = s := by simp [State.attempt, h]

end Sys2Proof.Machine
end

