-- ==== Sys2Proof/Laws/Raise.lean ====
section
/-! SUPPORT. Elements of vectors; what raising a code reaches, and that it reaches the queues that want it. -/

namespace Sys2Proof.Machine

@[simp] theorem vmod_get {α : Type} {n : Nat} (v : Vector α n) (i : Fin n) (f : α → α) : (vmod v i f)[i] = f v[i] := by
  simp [vmod]
theorem vmod_get_ne {α : Type} {n : Nat} (v : Vector α n) (i j : Fin n) (f : α → α) (h : j ≠ i) : (vmod v i f)[j] = v[j] := by
  simp [vmod]
  rw [Vector.getElem_set_ne]
  exact fun e => h (Fin.ext e.symm)
theorem set_get_ne {α : Type} {n : Nat} (v : Vector α n) (i j : Fin n) (x : α) (h : j ≠ i) : (v.set i x)[j] = v[j] := by
  simp
  rw [Vector.getElem_set_ne]
  exact fun e => h (Fin.ext e.symm)

end Sys2Proof.Machine

namespace Sys2Proof.Safety
open Machine

/-- A vanishing change is quiet, and changes follow each other. -/
theorem Quiet.rfl' {s t : State} (k : t.kw = s.kw) (r : t.trace = s.trace) (l : stored t.recorder = stored s.recorder)
    (n : t.setNow = s.setNow) : Quiet s t :=
  ⟨by rw [k], fun _ => by rw [k], by rw [r], l, by rw [n]⟩
theorem Quiet.trans {s t u : State} (h : Quiet s t) (g : Quiet t u) : Quiet s u :=
  ⟨by rw [g.kw, h.kw], fun i => (g.sess i).trans (h.sess i), by rw [g.trace, h.trace], g.log.trans h.log, h.sets.trans g.sets⟩
theorem Quiet.foldl {α : Type} {f : State → α → State} (h : ∀ s a, Quiet s (f s a)) (l : List α) (s : State) :
    Quiet s (l.foldl f s) := by
  induction l generalizing s with
  | nil => exact .rfl' rfl rfl rfl rfl
  | cons a l ih => exact (h s a).trans (ih _)
/-- Queues only grow at the end. -/
def Grows (s t : State) : Prop :=
  ∀ (i : SessId) (x : Session), s.kw.sess[i] = some x → ∃ y, t.kw.sess[i] = some y ∧ x.queue <+: y.queue
theorem Grows.rfl' {s t : State} (k : t.kw = s.kw) : Grows s t := fun _ x h => ⟨x, by rw [k]; exact h, List.prefix_refl _⟩
theorem Grows.trans {s t u : State} (h : Grows s t) (g : Grows t u) : Grows s u := fun i x hx => by
  obtain ⟨y, hy, p⟩ := h i x hx
  obtain ⟨z, hz, q⟩ := g i y hy
  exact ⟨z, hz, p.trans q⟩
theorem Grows.foldl {α : Type} {f : State → α → State} (h : ∀ s a, Grows s (f s a)) (l : List α) (s : State) : Grows s (l.foldl f s) := by
  induction l generalizing s with
  | nil => exact .rfl' rfl
  | cons a l ih => exact (h s a).trans (ih _)
theorem Tells.grow {s t u : State} {c : Code} {n : Nat} {d : Word} (h : Tells s t c n d) (g : Grows t u) : Tells s u c n d :=
  fun i x hx w q => by
    obtain ⟨y, hy, e, he, r⟩ := h i x hx w q
    obtain ⟨z, hz, p⟩ := g i y hy
    exact ⟨z, hz, e, p.subset he, r⟩
/-- Telling looks at the sessions and the tick alone. -/
theorem Tells.of {s s' t : State} {c : Code} {n : Nat} {d : Word} (h : Tells s' t c n d) (k : s'.kw = s.kw) (e : s'.tick = s.tick) :
    Tells s t c n d := fun i x hx w q => by
  have := h i x (by rw [k]; exact hx) w q
  rw [e] at this; exact this
/-- A change touches the pieces listed at most. -/
theorem Only.mono {ps qs : List Piece} {s t : State} (h : Only ps s t) (m : ∀ p ∈ ps, p ∈ qs) : Only qs s t :=
  fun p hp => h p fun q => hp (m p q)
theorem Only.trans {ps : List Piece} {s t u : State} (h : Only ps s t) (g : Only ps t u) : Only ps s u := fun p hp => by
  have a := h p hp
  have b := g p hp
  cases p <;> exact Eq.trans b a

end Sys2Proof.Safety

namespace Sys2Proof.Machine
open Safety

/-! ## What raising a code reaches -/

theorem Rec.seal_stored (rc : Rec) (f : Bool) : stored (rc.seal f) = stored rc := by unfold Rec.seal; split; rfl; split <;> rfl
theorem Rec.place_stored (rc : Rec) (b : RecBody) (n u k : Nat) (h : Bool) (bs : List Byte) :
    stored (rc.place b n u k h bs) = stored rc := by
  induction k generalizing rc h bs with
  | zero => rfl
  | succ k ih =>
    unfold Rec.place
    dsimp only
    repeat' split
    all_goals first | rfl | (rw [ih]) | skip
    all_goals first | rfl | (rw [Rec.seal_stored]; rfl)
theorem RecRun.enter_stored (r : RecRun) (i : RecIn) (b : RecBody) : stored (r.enter i b).rc = stored r.rc := by
  unfold RecRun.enter
  dsimp only
  split
  · exact (Rec.seal_stored _ _).trans rfl
  · split
    · rfl
    · exact Rec.place_stored ..
/-- A record touches the staging buffer alone. -/
theorem RecRun.add_stored (r : RecRun) (i : RecIn) (b : RecBody) : stored (r.add i b).rc = stored r.rc := by
  unfold RecRun.add
  split
  · rfl
  · rfl
  · split
    · exact RecRun.enter_stored ..
    · dsimp only; repeat' split
      all_goals rfl
theorem RecRun.addEvent_stored (r : RecRun) (i : RecIn) (e : Raised) : stored (r.addEvent i e).rc = stored r.rc := by
  unfold RecRun.addEvent
  split
  · rfl
  · exact RecRun.add_stored ..
theorem Rec.seal_st (rc : Rec) (f : Bool) : (rc.seal f).st = rc.st := by unfold Rec.seal; split; rfl; split <;> rfl
theorem Rec.place_st (rc : Rec) (b : RecBody) (n u k : Nat) (h : Bool) (bs : List Byte) :
    (rc.place b n u k h bs).st = rc.st := by
  induction k generalizing rc h bs with
  | zero => rfl
  | succ k ih =>
    unfold Rec.place
    dsimp only
    repeat' split
    all_goals first | rfl | (rw [ih]) | skip
    all_goals first | rfl | (rw [Rec.seal_st])
/-- A record keeps the recorder's state, or finds the log full (R425). -/
theorem RecRun.add_st (r : RecRun) (i : RecIn) (b : RecBody) : (r.add i b).rc.st = r.rc.st ∨ (r.add i b).rc.st = .full := by
  unfold RecRun.add
  split
  · exact .inl rfl
  · exact .inl rfl
  · split
    · unfold RecRun.enter
      dsimp only
      split
      · exact .inr rfl
      · split
        · exact .inl rfl
        · exact .inl (Rec.place_st ..)
    · dsimp only; repeat' split
      all_goals exact .inl rfl
/-- What every record keeps of the recorder, raising codes keeps. -/
theorem State.raiseAll_recorder {P : Rec → Prop} (h : ∀ r i b, P r.rc → P (RecRun.add r i b).rc) (s : State) (n : Nat) (es : List Raised)
    (p : P s.recorder) : P (s.raiseAll n es).recorder := by
  induction n generalizing s es with
  | zero => exact p
  | succ n ih =>
    rw [State.raiseAll]
    induction es generalizing s with
    | nil => exact p
    | cons e es ih' =>
      rw [List.foldl_cons]
      refine ih' _ (ih _ _ ?_)
      have : (s.raiseOne e).1.recorder = (s.runRec fun r => r.addEvent s.recIn e).1.recorder := by
        unfold State.raiseOne; simp
      rw [this]
      show P (RecRun.addEvent ⟨s.recorder, []⟩ s.recIn e).rc
      unfold RecRun.addEvent
      split
      · exact p
      · exact h ⟨s.recorder, []⟩ _ _ p
theorem State.runRec_stored (s : State) (f : RecRun → RecRun) (h : ∀ r, stored (f r).rc = stored r.rc) :
    stored (s.runRec f).1.recorder = stored s.recorder := h ⟨s.recorder, []⟩

@[simp] theorem Session.push_core (x : Session) (t : Tick) (e : Raised) : Session.core (x.push t e) = Session.core x := by
  unfold Session.push; split <;> rfl


theorem State.queueEvent_quiet (s : State) (e : Raised) : Quiet s (s.queueEvent e) := by
  refine ⟨rfl, fun i => ?_, rfl, rfl, List.suffix_refl _⟩
  have : (s.queueEvent e).kw.sess[i] = (s.kw.sess[i]).map fun x => if e.code != 0x4804 && x.wants e.code e.inst then x.push s.tick e else x := by
    simp [State.queueEvent, vmap_get]
  rw [this]
  cases s.kw.sess[i] with
  | none => rfl
  | some x => simp only [Option.map_some]; split <;> simp
theorem State.traceSee_quiet (s : State) (e : Raised) : Quiet s (s.traceSee e) := by
  unfold State.traceSee; dsimp only; split <;> exact ⟨rfl, fun _ => rfl, rfl, rfl, List.suffix_refl _⟩
theorem State.noteSet_quiet (s : State) (e : Raised) : Quiet s (s.noteSet e) :=
  ⟨rfl, fun _ => rfl, rfl, rfl, List.suffix_append _ _⟩
theorem State.raiseOne_quiet (s : State) (e : Raised) : Quiet s (s.raiseOne e).1 := by
  unfold State.raiseOne
  exact (((Quiet.rfl' (by simp) (by simp) (State.runRec_stored _ _ (RecRun.addEvent_stored · _ _)) (by simp)).trans
    (State.queueEvent_quiet _ _)).trans (State.traceSee_quiet _ _)).trans (State.noteSet_quiet _ _)
theorem State.raiseAll_quiet (s : State) (n : Nat) (es : List Raised) : Quiet s (s.raiseAll n es) := by
  induction n generalizing s es with
  | zero => exact .rfl' rfl rfl rfl rfl
  | succ n ih => exact Quiet.foldl (fun s e => (State.raiseOne_quiet s e).trans (ih _ _)) es s
theorem State.deliver_quiet (s : State) (ev : List Raised) : Quiet s (s.deliver ev) := by unfold State.deliver; exact State.raiseAll_quiet ..
theorem State.raise_quiet (s : State) (c : Code) (i : Nat) (d : Word) : Quiet s (s.raise c i d) := by unfold State.raise; exact State.raiseAll_quiet ..
theorem State.onRec_quiet (s : State) (f : RecRun → RecIn → RecRun) (h : ∀ r, stored (f r s.recIn).rc = stored r.rc) : Quiet s (s.onRec f) :=
  (Quiet.rfl' (by simp) (by simp) (State.runRec_stored _ _ h) (by simp)).trans (State.deliver_quiet _ _)
theorem State.security_quiet (s : State) (c : Code) (d : Nat) (bs : List Byte) : Quiet s (s.security c d bs) :=
  State.onRec_quiet _ _ (RecRun.add_stored · _ _)
theorem State.onPort_quiet (s : State) (k : PortId) (f : LinkRun → LinkIn → LinkRun) : Quiet s (s.onPort k f) :=
  (Quiet.rfl' (by rfl) (by rfl) (by rfl) (by rfl)).trans (State.deliver_quiet _ _)
theorem State.onHinge_quiet (s : State) (f : HingeRun → HingeIn → HingeRun) : Quiet s (s.onHinge f) :=
  (Quiet.rfl' (by rfl) (by rfl) (by rfl) (by rfl)).trans (State.deliver_quiet _ _)
theorem State.onIo_quiet (s : State) (f : IoRun → IoRun) : Quiet s (s.onIo f) :=
  (Quiet.rfl' (by rfl) (by rfl) (by rfl) (by rfl)).trans (State.deliver_quiet _ _)
theorem State.onLock_quiet (s : State) (f : LockRun → LockRun) : Quiet s (s.onLock f) :=
  (Quiet.rfl' (by rfl) (by rfl) (by rfl) (by rfl)).trans (State.deliver_quiet _ _)
theorem State.onCan_quiet (s : State) (b : BusId) (f : CanRun → CanRun) : Quiet s (s.onCan b f) :=
  (Quiet.rfl' (by rfl) (by rfl) (by rfl) (by rfl)).trans (State.deliver_quiet _ _)
theorem State.onMem_quiet (s : State) (f : MemRun → MemRun) : Quiet s (s.onMem f) :=
  (Quiet.rfl' (by rfl) (by rfl) (by rfl) (by rfl)).trans (State.deliver_quiet _ _)
theorem State.onAxis_quiet (s : State) (a : AxisId) (f : AxRun → AxIn → AxRun) : Quiet s (s.onAxis a f) :=
  (Quiet.rfl' (by rfl) (by rfl) (by rfl) (by rfl)).trans (State.deliver_quiet _ _)
theorem State.runDoor_quiet (s : State) (d : DoorId) (i : DoorIn) (f : DoorRun → DoorIn → DoorRun) : Quiet s (s.runDoor d i f) :=
  (Quiet.rfl' (by rfl) (by rfl) (by rfl) (by rfl)).trans (State.deliver_quiet _ _)
theorem State.onDoor_quiet (s : State) (d : DoorId) (f : DoorRun → DoorIn → DoorRun) : Quiet s (s.onDoor d f) := by
  unfold State.onDoor; split
  · exact State.runDoor_quiet ..
  · exact .rfl' rfl rfl rfl rfl
theorem State.onDoorCmd_quiet (s : State) (d : DoorId) (f : DoorRun → DoorIn → DoorRun) : Quiet s (s.onDoorCmd d f) := by
  unfold State.onDoorCmd; split
  · exact State.runDoor_quiet ..
  · exact .rfl' rfl rfl rfl rfl
theorem State.onDoors_quiet (s : State) (p : DoorId → Bool) (f : DoorRun → DoorIn → DoorRun) : Quiet s (s.onDoors p f) := by
  refine Quiet.foldl (fun s d => ?_) _ _
  split
  · exact State.onDoor_quiet ..
  · exact .rfl' rfl rfl rfl rfl
theorem State.portEvent_quiet (s : State) (k : PortId) (f : LinkRun → LinkIn → LinkRun) : Quiet s (s.portEvent k f) := by
  unfold State.portEvent; dsimp only; split
  · exact (State.onPort_quiet ..).trans (State.onDoors_quiet ..)
  · exact State.onPort_quiet ..

/-! ## A code that is raised reaches the queues that want it -/



theorem State.queueEvent_get {s : State} {e : Raised} {i : SessId} {x : Session} (h : s.kw.sess[i] = some x) :
    (s.queueEvent e).kw.sess[i] = some (if e.code != 0x4804 && x.wants e.code e.inst then x.push s.tick e else x) := by
  have : (s.queueEvent e).kw.sess[i] = (s.kw.sess[i]).map fun x => if e.code != 0x4804 && x.wants e.code e.inst then x.push s.tick e else x := by
    simp [State.queueEvent, vmap_get]
  rw [this, h]; rfl
theorem State.queueEvent_grows (s : State) (e : Raised) : Grows s (s.queueEvent e) := fun i x h => by
  refine ⟨_, State.queueEvent_get h, ?_⟩
  split
  · unfold Session.push; split
    · exact List.prefix_refl _
    · exact List.prefix_append _ _
  · exact List.prefix_refl _
theorem State.traceSee_kw (s : State) (e : Raised) : (s.traceSee e).kw = s.kw := by simp
theorem State.raiseOne_grows (s : State) (e : Raised) : Grows s (s.raiseOne e).1 := by
  exact ((Grows.rfl' (t := (s.runRec fun r => r.addEvent s.recIn e).1) (by simp)).trans (State.queueEvent_grows _ e)).trans
    (Grows.rfl' (t := (State.noteSet (State.traceSee _ e) e)) (by simp))
theorem State.raiseAll_grows (s : State) (n : Nat) (es : List Raised) : Grows s (s.raiseAll n es) := by
  induction n generalizing s es with
  | zero => exact .rfl' rfl
  | succ n ih => exact Grows.foldl (fun s e => (State.raiseOne_grows s e).trans (ih _ _)) es s

theorem State.raiseOne_tells (s : State) (e : Raised) (h : e.code ≠ 0x4804) : Tells s (s.raiseOne e).1 e.code e.inst e.detail := by
  intro i x hx w q
  have h1 : (s.runRec fun r => r.addEvent s.recIn e).1.kw.sess[i] = some x := by
    have : (s.runRec fun r => r.addEvent s.recIn e).1.kw = s.kw := by simp
    rw [this]; exact hx
  have h2 := State.queueEvent_get (e := e) h1
  have h3 : (s.raiseOne e).1.kw = ((s.runRec fun r => r.addEvent s.recIn e).1.queueEvent e).kw := State.traceSee_kw _ e
  refine ⟨_, by rw [h3]; exact h2, ?_⟩
  have c : (e.code != 0x4804 && x.wants e.code e.inst) = true := by simp only [w, Bool.and_true, bne_iff_ne]; exact h
  rw [if_pos c]
  unfold Session.push
  rw [if_neg (by omega)]
  exact ⟨_, List.mem_append_right _ (List.mem_singleton.2 rfl), rfl, rfl, rfl, by simp⟩

/-- The first of the codes raised is told. -/
theorem State.raiseAll_tells (s : State) (n : Nat) (e : Raised) (es : List Raised) (h : e.code ≠ 0x4804) :
    Tells s (s.raiseAll (n + 1) (e :: es)) e.code e.inst e.detail := by
  rw [State.raiseAll, List.foldl_cons]
  refine ((State.raiseOne_tells s e h).grow (State.raiseAll_grows _ _ _)).grow (Grows.foldl (fun s e => ?_) _ _)
  exact (State.raiseOne_grows s e).trans (State.raiseAll_grows _ _ _)
theorem State.raise_tells (s : State) (c : Code) (i : Nat) (d : Word) (h : c ≠ 0x4804) : Tells s (s.raise c i d) c i d := by
  unfold State.raise
  exact State.raiseAll_tells s 3 ⟨c, i, d⟩ [] h
theorem State.deliver_grows (s : State) (ev : List Raised) : Grows s (s.deliver ev) := by unfold State.deliver; exact State.raiseAll_grows _ _ _
theorem State.raise_grows (s : State) (c : Code) (i : Nat) (d : Word) : Grows s (s.raise c i d) := by unfold State.raise; exact State.raiseAll_grows _ _ _
theorem State.onRec_grows (s : State) (f : RecRun → RecIn → RecRun) : Grows s (s.onRec f) :=
  (Grows.rfl' (by simp)).trans (State.deliver_grows _ _)
theorem State.security_grows (s : State) (c : Code) (d : Nat) (bs : List Byte) : Grows s (s.security c d bs) := State.onRec_grows _ _
theorem State.onPort_grows (s : State) (k : PortId) (f : LinkRun → LinkIn → LinkRun) : Grows s (s.onPort k f) :=
  (Grows.rfl' (by rfl)).trans (State.deliver_grows _ _)
theorem State.onHinge_grows (s : State) (f : HingeRun → HingeIn → HingeRun) : Grows s (s.onHinge f) :=
  (Grows.rfl' (by rfl)).trans (State.deliver_grows _ _)
theorem State.onIo_grows (s : State) (f : IoRun → IoRun) : Grows s (s.onIo f) :=
  (Grows.rfl' (by rfl)).trans (State.deliver_grows _ _)
theorem State.onLock_grows (s : State) (f : LockRun → LockRun) : Grows s (s.onLock f) :=
  (Grows.rfl' (by rfl)).trans (State.deliver_grows _ _)
theorem State.onCan_grows (s : State) (b : BusId) (f : CanRun → CanRun) : Grows s (s.onCan b f) :=
  (Grows.rfl' (by rfl)).trans (State.deliver_grows _ _)
theorem State.onMem_grows (s : State) (f : MemRun → MemRun) : Grows s (s.onMem f) :=
  (Grows.rfl' (by rfl)).trans (State.deliver_grows _ _)
theorem State.onAxis_grows (s : State) (a : AxisId) (f : AxRun → AxIn → AxRun) : Grows s (s.onAxis a f) :=
  (Grows.rfl' (by rfl)).trans (State.deliver_grows _ _)
theorem State.runDoor_grows (s : State) (d : DoorId) (i : DoorIn) (f : DoorRun → DoorIn → DoorRun) : Grows s (s.runDoor d i f) :=
  (Grows.rfl' (by rfl)).trans (State.deliver_grows _ _)
theorem State.onDoor_grows (s : State) (d : DoorId) (f : DoorRun → DoorIn → DoorRun) : Grows s (s.onDoor d f) := by
  unfold State.onDoor; split
  · exact State.runDoor_grows _ _ _ _
  · exact .rfl' rfl
theorem State.onDoorCmd_grows (s : State) (d : DoorId) (f : DoorRun → DoorIn → DoorRun) : Grows s (s.onDoorCmd d f) := by
  unfold State.onDoorCmd; split
  · exact State.runDoor_grows _ _ _ _
  · exact .rfl' rfl
theorem State.onDoors_grows (s : State) (p : DoorId → Bool) (f : DoorRun → DoorIn → DoorRun) : Grows s (s.onDoors p f) := by
  refine Grows.foldl (fun s d => ?_) _ _
  split
  · exact State.onDoor_grows _ _ _
  · exact .rfl' rfl
theorem State.portEvent_grows (s : State) (k : PortId) (f : LinkRun → LinkIn → LinkRun) : Grows s (s.portEvent k f) := by
  unfold State.portEvent; dsimp only; split
  · exact (State.onPort_grows _ _ _).trans (State.onDoors_grows _ _ _)
  · exact State.onPort_grows _ _ _
/-- A delivery of one code tells it. -/
theorem State.deliver_tells (s : State) (e : Raised) (h : e.code ≠ 0x4804) : Tells s (s.deliver [e]) e.code e.inst e.detail := by
  unfold State.deliver
  exact State.raiseAll_tells s 3 e [] h
end Sys2Proof.Machine
end

