-- ==== Sys2Proof/Laws/Host.lean ====
section
/-! SUPPORT. One register write of a host: what the request comes to where nothing bars it. -/

namespace Sys2Proof.Machine
open Safety

/-! ## One register write -/

@[simp] theorem State.heard_session (s : State) (r : Req) (x : Session) :
    (s.heard r x).kw.sess[r.sess] = some { x with lastMsg := s.up } := by simp [State.heard]
@[simp] theorem State.heard_holder (s : State) (r : Req) (x : Session) (b : Block) : (s.heard r x).kw.holder b = s.kw.holder b := by
  cases b <;> rfl

/-- A module that takes writes shuts none out for its state or role (R81, R369). -/
theorem State.open_writeShut {s : State} (o : s.writesOpen = true) (b : Block) (r : RegRow) : s.writeShut b r = false := by
  simp [State.writeShut, o]

/-- In a module that takes writes, a session holds the block it has claimed (R460). -/
theorem State.open_holds {s : State} (o : s.writesOpen = true) (i : SessId) (b : Block) : s.holds i b = (s.kw.holder b == some i) := by
  simp only [State.writesOpen, Bool.and_eq_true, Bool.not_eq_true', Bool.or_eq_true, beq_iff_eq] at o
  have p : s.passive = false := by
    unfold State.passive State.standby
    rcases o.2 with e | e <;> rw [e] <;> simp
  simp [State.holds, o.1, p]

/-- A response is the session's answer. -/
theorem answered (t : State) (r : Req) (bs : List Byte) : Answered (t.answer r.sess r.tag.toNat (.data bs)) r bs := by
  simp [Answered, State.answer]
/-- An ERROR is the session's answer. -/
theorem refused (t : State) (r : Req) (c : Code) (a : Nat) (d : Word) : Refused (t.answer r.sess r.tag.toNat (.error c a d)) r c :=
  ⟨BitVec.ofNat 32 a, d, by simp [State.answer]⟩

/-- A message leaves which sessions are the ones that they were. -/
theorem State.isSame_touch {s : State} {i : SessId} {x : Session} (h : s.kw.sess[i] = some x) (up : Nat) (j : SessId) (n : Nat) :
    State.isSame { s with kw := { s.kw with sess := s.kw.sess.set i (some { x with lastMsg := up }) } } j n = s.isSame j n := by
  unfold State.isSame
  by_cases e : j = i
  · subst e
    rw [h]
    simp
  · simp only [set_get_ne _ _ _ _ e]

/-- What a request comes to, where nothing bars it. -/
theorem State.serve_open {s : State} {r : Req} {k : Ask} {q : Form} {f : Session → State → State × Reply} {x : Session}
    (h : s.kw.sess[r.sess] = some x) (run : s.unit.running = true) (tag : r.tag ≠ 0) (head : r.head.closes = false ∧ r.head.bad = false)
    (few : s.outstanding r.sess < 32) (turn : s.mustWait r.sess = false)
    (b : (s.heard r x).bars { x with lastMsg := s.up } k = none) :
    s.serve r k q f = (f { x with lastMsg := s.up } (s.heard r x)).1.answer r.sess r.tag.toNat (f { x with lastMsg := s.up } (s.heard r x)).2 := by
  have tag' : (r.tag == 0) = false := by simpa using tag
  unfold State.serve
  rw [h]
  simp only [run, head.1, head.2, tag', Bool.not_true, Bool.or_false, Bool.false_eq_true, if_false, State.outstanding, State.mustWait,
    State.isSame_touch h]
  have few' : ¬ (decide (32 ≤ s.outstanding r.sess)) = true := by simpa using few
  rw [State.outstanding] at few'
  rw [if_neg few']
  rw [State.mustWait] at turn
  rw [if_neg (by rw [turn]; simp)]
  change (match (s.heard r x).bars { x with lastMsg := s.up } k with
    | some c => (s.heard r x, Reply.refuse c)
    | none => f { x with lastMsg := s.up } (s.heard r x)).1.answer r.sess r.tag.toNat (match (s.heard r x).bars { x with lastMsg := s.up } k with
    | some c => (s.heard r x, Reply.refuse c)
    | none => f { x with lastMsg := s.up } (s.heard r x)).2 = _
  simp only [b]

end Sys2Proof.Machine

namespace Sys2Proof.Safety
open Machine

/-- A privileged session may write outside the held states. -/
theorem Writer.bars {s : State} {r : Req} {x : Session} (w : Writer s r x) (k : Ask) :
    (s.heard r x).bars { x with lastMsg := s.up } k = none := by
  have h1 := w.role
  have h2 : s.held = false := by
    have := w.takes
    simp [State.writesOpen] at this
    exact this.1
  have h3 : (s.heard r x).held = false := h2
  have h4 : (s.heard r x).recovery = false := by
    simp [State.held] at h2
    simp [State.recovery, State.heard, h2.1]
  unfold State.bars
  simp [h3, h4, h1]

/-- Where the tick snapshot takes a request, few stand unanswered. -/
theorem Writer.few {s : State} {r : Req} {x : Session} (w : Writer s r x) : s.outstanding r.sess < 32 := by
  have one : ∀ o : Option Staging, o.toList.length ≤ 1 := fun o => by cases o <;> simp
  have a := one (s.kw.image.filter fun g => g.sess == r.sess && g.writing.isSome && s.isSame r.sess g.num)
  have b := one (s.kw.fw.filter fun g => g.sess == r.sess && g.writing.isSome && s.isSame r.sess g.num)
  have l : (s.kw.later.filter fun q => q.req.sess == r.sess) = [] := by
    have := w.turn
    simp only [State.mustWait, Bool.or_eq_false_iff] at this
    rw [List.filter_eq_nil_iff]
    intro q hq e
    have n := this.1.2
    rw [List.any_eq_false] at n
    exact n q hq e
  simp only [State.outstanding, w.first, List.filter_nil, List.length_nil, l]
  omega

/-- A write to a register whose only fields are WO (R15, R455, R482): its action, its record for the partner, its response. -/
theorem Writer.hostWrite {s t : State} {r : Req} {x : Session} (h : Writer s r x) {addr : Nat} {w m : Word} {v : Bool} {g : Region}
    {f : Sender → Word → State → WriteResult} (ha : wordAddr addr = some g) (hs : isScratch addr = false) (hm : m ≠ 0)
    (hc : uWritable addr = true ∨ Holds s r x g.block) (hr : (s.heard r x).row (some r.sess) addr = some (woRow v m f))
    (hf : f (some r.sess) w (s.heard r x) = .ok t) :
    s.hostWrite r addr w = (t.mirror (.write addr w)).answer r.sess r.tag.toNat (.data (wrote (t.mirror (.write addr w)) addr (w &&& m))) := by
  unfold State.hostWrite
  rw [State.serve_open h.session h.running h.tag h.head h.few h.turn (h.bars .write)]
  have hroom : (s.heard r x).hasRoom (some addr) = true := by
    have := h.room
    by_cases e : s.hinge.role = .active
    · simp [State.hasRoom, State.heard, this e]
    · simp [State.hasRoom, State.heard, e]
  have hrow : (s.heard r x).writeRow (some r.sess) addr (woRow v m f) w = .ok (t, w &&& m) := by
    unfold State.writeRow
    have e1 : (woRow v m f).parts = [] := rfl
    have e2 : (woRow v m f).mask = m := rfl
    have e3 : (woRow v m f).act = some f := rfl
    have e4 : (woRow v m f).clear = none := rfl
    have e5 : (woRow v m f).reg.u = 0 := by unfold woRow; cases v <;> rfl
    have e6 : (woRow v m f).reg.p = 0 := by unfold woRow; cases v <;> rfl
    have hm' : ¬ m = 0#32 := hm
    simp [e1, e2, e3, e4, e5, e6, hm', State.writePlaces, hf]
  have hreg : (s.heard r x).writeReg r.sess x.role g.block addr w = .ok (t, w &&& m) := by
    unfold State.writeReg
    rw [hr]
    have o : (s.heard r x).writesOpen = true := h.takes
    have e4 : (woRow v m f).clear = none := rfl
    have c : uWritable addr = false → x.role.privileged = true ∧ (s.heard r x).kw.holder g.block = some r.sess := by
      intro n
      rcases hc with hc | hc
      · rw [hc] at n; cases n
      · simpa [Holds] using hc
    simp only [hrow, State.open_writeShut o, State.open_holds o]
    by_cases u : uWritable addr = true
    · simp [u]
    · simp [u, (c (by simpa using u)).1, (c (by simpa using u)).2]
  have hword : (s.heard r x).writeWord r.sess x.role addr w = (t.mirror (.write addr w), .ok (w &&& m)) := by
    unfold State.writeWord
    rw [ha]
    simp [hs, hreg]
  have hwait : (s.heard r x).hinge.waiting.isEmpty = true := by simp [State.heard, h.first]
  simp only [State.doWrites, hwait, State.writeRequest, State.writeSome, hroom, hword, State.writeReply]
  rfl

/-- A write of a command register leads to what its action makes of the state (R15, R384, R455). -/
theorem Writer.command {s t : State} {r : Req} {x : Session} (h : Writer s r x) {addr : Nat} {w m : Word} {v : Bool} {b : Block}
    {f : Sender → Word → State → WriteResult} (ha : (wordAddr addr).map Region.block = some b) (hs : isScratch addr = false) (hm : m ≠ 0)
    (hc : uWritable addr = true ∨ Holds s r x b) (hr : ∀ u me, State.row u me addr = some (woRow v m f))
    (hf : f (some r.sess) w (s.heard r x) = .ok t) (qk : t.kw = { (s.heard r x).kw with sess := t.kw.sess })
    (qs : ∀ i : SessId, (t.kw.sess[i]).map Session.core = ((s.heard r x).kw.sess[i]).map Session.core) (hh : t.hinge = s.hinge) (ht : t.tick = s.tick) :
    Written s (s.hostWrite r addr w) r addr w (w &&& m) ∧ ∀ p : Piece, p ≠ .kw → p ≠ .hinge → p.Same t (s.hostWrite r addr w) := by
  obtain ⟨g, hg, rfl⟩ := Option.map_eq_some_iff.1 ha
  have e := h.hostWrite hg hs hm hc (hr _ _) hf
  have mk : ∀ rec, (t.mirror rec).kw = t.kw := fun rec => by unfold State.mirror; split <;> rfl
  have mt : ∀ rec, (t.mirror rec).tick = s.tick := fun rec => by rw [← ht]; unfold State.mirror; split <;> rfl
  rw [e]
  refine ⟨⟨?_, ?_, ?_, fun i hi => ?_⟩, fun p hk hh => ?_⟩
  · have := answered (t.mirror (.write addr w)) r (wrote (t.mirror (.write addr w)) addr (w &&& m))
    rw [show wrote s addr (w &&& m) = wrote (t.mirror (.write addr w)) addr (w &&& m) by simp only [wrote, mt]]
    exact this
  · have a : ∀ u : State, ∀ bs, (u.answer r.sess r.tag.toNat (.data bs)).hinge = u.hinge := fun u bs => rfl
    rw [a]
    unfold State.mirror
    by_cases c : s.hinge.role = .active
    · rw [if_pos c, if_pos (by rw [hh]; simp [c])]
      simp only [hh]
    · rw [if_neg c, if_neg (by rw [hh]; simpa using c)]
      exact hh
  · simp only [State.answer, mk]
    rw [qk]
    rfl
  · simp only [State.answer, mk]
    rw [qs i, set_get_ne _ _ _ _ hi, qk]
    exact ⟨congrArg (Option.map Session.core) (set_get_ne _ _ _ _ hi), rfl⟩
  · have a : ∀ u : State, ∀ bs, p.Same u (u.answer r.sess r.tag.toNat (.data bs)) := fun u bs => by cases p <;> first | exact absurd rfl hk | rfl
    have b : p.Same t (t.mirror (.write addr w)) := by
      unfold State.mirror
      split <;> cases p <;> first | exact absurd rfl hh | rfl
    have c := a (t.mirror (.write addr w)) (wrote (t.mirror (.write addr w)) addr (w &&& m))
    cases p <;> exact Eq.trans c b

/-- A request whose kind is served comes to its own rule. -/
theorem Asks.serve {s : State} {r : Req} {x : Session} {k : Ask} (h : Asks s r x k) (q : Form) (f : Session → State → State × Reply) :
    s.serve r k q f =
      (f { x with lastMsg := s.up } (s.heard r x)).1.answer r.sess r.tag.toNat (f { x with lastMsg := s.up } (s.heard r x)).2 :=
  State.serve_open h.session h.running h.tag h.head h.few h.turn h.served

/-- A write that is taken is one that is served. -/
theorem Writer.asks {s : State} {r : Req} {x : Session} (w : Writer s r x) (k : Ask) : Asks s r x k :=
  ⟨w.session, w.running, w.tag, w.head, w.few, w.turn, w.bars k⟩

/-- An answer changes nothing but the sessions. -/
theorem answer_same (u : State) (i : SessId) (n : Nat) (a : Reply) (p : Piece) (h : p ≠ .kw) : p.Same u (u.answer i n a) := by
  unfold State.answer; cases a <;> cases p <;> first | exact absurd rfl h | rfl

end Sys2Proof.Safety
end

