-- ==== Sys2Proof/Laws/CommandRows.lean ====
section
/-! SUPPORT. The rows of the command registers. -/

namespace Sys2Proof.Machine

set_option maxRecDepth 4000

/-! The rows of the command registers, and the blocks that they belong to (R461). -/

theorem row_trace (s : State) (me : Sender) : s.row me 0x400000 = some (woRow false 7 fun _ w s => .ok (s.traceCtrl w)) := by rfl
theorem block_trace : (wordAddr 0x400000).map Region.block = some Block.unit := by decide +kernel
theorem row_side (s : State) (me : Sender) : s.row me 0x200 = some (woRow false 0xF fun _ w s => .ok (s.sideWrite w)) := by rfl
theorem block_side : (wordAddr 0x200).map Region.block = some Block.unit := by decide +kernel
theorem row_seal (s : State) (me : Sender) : s.row me 0x70050 =
    some (woRow false 1 fun _ w s => .ok (if bit w 0 then { s with recorder := s.recorder.seal s.panel.holdup } else s)) := by rfl
theorem block_seal : (wordAddr 0x70050).map Region.block = some Block.unit := by decide +kernel
theorem row_scratchClear (s : State) (me : Sender) : s.row me 0x80044 =
    some (woRow false 0x13F fun _ w s => .ok (if bit w 8 then { s with mem := s.mem.clearPage (fld w 5 0) } else s)) := by rfl
theorem block_scratchClear : (wordAddr 0x80044).map Region.block = some Block.unit := by decide +kernel
theorem row_eventAck (s : State) (me : Sender) : s.row me 0x90300 =
    some (woRow true 0xFFFFFFFF fun i w s => .ok (match i with | some i => s.ackEvents i w | none => s)) := by rfl
theorem block_eventAck : (wordAddr 0x90300).map Region.block = some Block.unit := by decide +kernel
theorem row_port (s : State) (me : Sender) (k : PortId) : s.row me (0x300048 + 0x100 * k.val) =
    some (woRow false 1 fun _ w s => .ok (if bit w 0 then s.portOf k fun p => p.rediscover s.tick else s)) := by fin_cases k <;> rfl
theorem block_port (k : PortId) : (wordAddr (0x300048 + 0x100 * k.val)).map Region.block = some Block.unit := by revert k; decide +kernel
theorem row_learn (s : State) (me : Sender) (d : DoorId) : s.row me (0x3C01C + 0x20 * d.val) =
    some (woRow false 1 fun i w s => s.learnResetWrite d i w) := by fin_cases d <;> rfl
theorem block_learn (d : DoorId) : (wordAddr (0x3C01C + 0x20 * d.val)).map Region.block = some Block.unit := by revert d; decide +kernel
theorem row_door (s : State) (me : Sender) (d : DoorId) : s.row me (doorBase d + 0x40) =
    some (woRow false 0xF fun _ x s => .ok (s.doorCommand d x)) := by fin_cases d <;> rfl
theorem block_door (d : DoorId) : (wordAddr (doorBase d + 0x40)).map Region.block = some (Block.door d) := by revert d; decide +kernel
theorem row_hold (s : State) (me : Sender) (d : DoorId) : s.row me (doorBase d + 0x44) =
    some (woRow true 0xFFFF fun _ x s => .ok (s.onDoor d fun r i => r.hold i (fld x 15 0))) := by fin_cases d <;> rfl
theorem block_hold (d : DoorId) : (wordAddr (doorBase d + 0x44)).map Region.block = some (Block.door d) := by revert d; decide +kernel
theorem row_chime (s : State) (me : Sender) (d : DoorId) : s.row me (doorBase d + 0x48) =
    some (woRow true 1 fun _ x s => .ok (if bit x 0 then s.onDoor d fun r i => r.chime i else s)) := by fin_cases d <;> rfl
theorem block_chime (d : DoorId) : (wordAddr (doorBase d + 0x48)).map Region.block = some (Block.door d) := by revert d; decide +kernel
theorem row_jog (s : State) (me : Sender) (d : DoorId) : s.row me (doorBase d + 0x50) =
    some (woRow false 0x33 fun i x s => s.jogWrite d i x) := by fin_cases d <;> rfl
theorem block_jog (d : DoorId) : (wordAddr (doorBase d + 0x50)).map Region.block = some (Block.door d) := by revert d; decide +kernel
theorem row_load (s : State) (me : Sender) (l : LoadId) : s.row me (0x6001C + 0x20 * l.val) =
    some (woRow false 1 fun _ w s => .ok (if bit w 0 then s.loadOf l LoadSwitch.clearLockout else s)) := by fin_cases l <;> rfl
theorem block_load (l : LoadId) : (wordAddr (0x6001C + 0x20 * l.val)).map Region.block = some Block.unit := by revert l; decide +kernel
theorem row_tx (s : State) (me : Sender) (b : BusId) (k : Fin 3) : s.row me (busBase b + 0x200 + 0x80 * k.val) =
    some (woRow false 3 fun _ w s => s.txCtrl b k w) := by fin_cases b <;> fin_cases k <;> rfl
theorem block_tx (b : BusId) (k : Fin 3) : (wordAddr (busBase b + 0x200 + 0x80 * k.val)).map Region.block = some Block.unit := by
  revert b k; decide +kernel
theorem row_can (s : State) (me : Sender) (b : BusId) : s.row me (busBase b + 8) =
    some (woRow false 7 fun _ w s => s.canCtrl b w) := by fin_cases b <;> rfl
theorem block_can (b : BusId) : (wordAddr (busBase b + 8)).map Region.block = some Block.unit := by revert b; decide +kernel
theorem row_rxAck (s : State) (me : Sender) (b : BusId) : s.row me (busBase b + 0x44) =
    some (woRow false 0x7F fun _ w s => s.rxAckWrite b w) := by fin_cases b <;> rfl
theorem block_rxAck (b : BusId) : (wordAddr (busBase b + 0x44)).map Region.block = some Block.unit := by revert b; decide +kernel
theorem row_apply (s : State) (me : Sender) (b : Block) : s.row me b.applyAddr = some (s.applyRow b) := by
  rcases b with _ | d | a
  · rfl
  · fin_cases d <;> rfl
  · fin_cases a <;> rfl

end Sys2Proof.Machine
end

