-- ==== Sys2Proof/WellFormed.lean ====
section
/-! DEFINITION. Well-formed commands: operands inside what their fields can carry on the wire, in the request or in the sampled
word. A host may ask for what a rule refuses (a COUNT of 0, an address outside the map): that is well formed, and its meaning
answers with the ERROR. Meanings are total; none looks at this. -/

namespace Sys2Proof.Machine

/-- A trap on an SRAM word names one of the scrubbed words (R439). -/
def TrapCause.WellFormed : TrapCause → Prop
  | .memory w => w < passWords
  | .bus => True

/-- The same as a check. -/
def TrapCause.wellFormed : TrapCause → Bool
  | .memory w => decide (w < passWords)
  | .bus => true

/-- A frame's identifier fits its format (11 or 29 bits), DLC has 4 bits, and the data has at most 64 bytes (R345). -/
def CanFrame.WellFormed (f : CanFrame) : Prop :=
  f.id < (if f.ide then 2 ^ 29 else 2 ^ 11) ∧ f.dlc < 16 ∧ f.data.length ≤ 64 ∧ ¬(f.fdf = true ∧ f.rtr = true)

/-- The same as a check. -/
def CanFrame.wellFormed (f : CanFrame) : Bool :=
  decide (f.id < (if f.ide then 2 ^ 29 else 2 ^ 11)) && decide (f.dlc < 16) && decide (f.data.length ≤ 64) && !(f.fdf && f.rtr)

/-- The samples of a tick fit their words: 16-bit voltages, currents and analogue codes, SRAM words that exist (R431, R439). -/
def Snapshot.WellFormed (x : Snapshot) : Prop :=
  (∀ v ∈ x.boltNode.toList, v < 65536) ∧ (∀ v ∈ x.boltTerm.toList, v < 65536) ∧ (∀ v ∈ x.boltAmps.toList, v < 65536) ∧
    (∀ v ∈ x.io.an.toList, v < 65536) ∧ x.io.v < 65536 ∧ x.io.vB < 65536 ∧ (∀ r ∈ x.reads, r.1 < passWords) ∧
    (∀ w ∈ x.writes, w.word < sramWords)

/-- The same as a check. -/
def Snapshot.wellFormed (x : Snapshot) : Bool :=
  x.boltNode.toList.all (fun v => decide (v < 65536)) && x.boltTerm.toList.all (fun v => decide (v < 65536)) &&
    x.boltAmps.toList.all (fun v => decide (v < 65536)) && x.io.an.toList.all (fun v => decide (v < 65536)) &&
    decide (x.io.v < 65536) && decide (x.io.vB < 65536) && x.reads.all (fun r => decide (r.1 < passWords)) &&
    x.writes.all (fun w => decide (w.word < sramWords))

end Sys2Proof.Machine

namespace Sys2Proof

open Machine

/-- A command whose operands fit their fields. -/
def Instr.WellFormed : Instr → Prop
  | .powerOn p => p.readings.length = 16 ∧ p.holdupMs < 65536 ∧ ∀ x ∈ p.copyWrong, x.1 < 8 * codeWords
  | .bootWaitExpiry => True
  | .mountComplete _ => True
  | .supplyLoss => True
  | .supplyReturn => True
  | .holdupEnd => True
  | .supplyHigh => True
  | .housingHot => True
  | .addrChanged _ => True
  | .resetPressAccepted => True
  | .resetReleaseAccepted => True
  | .resetStuck => True
  | .resetArmed => True
  | .wardSwitchChange _ _ => True
  | .coverOpen => True
  | .computePhase x => x.WellFormed
  | .phaseOverrun => True
  | .queueFull _ => True
  | .clockFault _ _ => True
  | .lockstepMismatch _ => True
  | .coreTrap c _ => c.WellFormed
  | .upstreamFrame _ f => f.payload.length ≤ 64
  | .resendRequest _ => True
  | .upstreamResendFrame _ f => f.payload.length ≤ 32
  | .missedTick _ => True
  | .nakReceived _ => True
  | .downstreamResend _ _ => True
  | .linkLost _ => True
  | .linkRestored _ => True
  | .stageUnexpected _ => True
  | .identPage _ p d => p < 4 ∧ d.length = 9
  | .paramValue _ k _ => k < 65536
  | .paramRefused _ k c => k < 65536 ∧ c < 256
  | .faultReport _ d => d.length ≤ 10
  | .paramWriteTimeout _ => True
  | .discoverTimeout => True
  | .rediscover _ _ => True
  | .tableEntryWrite _ _ _ e _ => e < 256
  | .traceArm _ => True
  | .traceStop _ => True
  | .traceForce _ => True
  | .traceDone => True
  | .read _ _ => True
  | .readBlock _ _ n => n < 2 ^ 32
  | .write _ _ _ => True
  | .writeBlock _ _ n ws => n < 2 ^ 32 ∧ ws.length ≤ 16382
  | .apply _ _ => True
  | .cfgApply _ _ => True
  | .deferredEffect => True
  | .bittingsRecomputed => True
  | .imageStageBegin _ _ n => n < 2 ^ 32
  | .imageStageData _ o d => o < 2 ^ 32 ∧ d.length ≤ 65520
  | .imageStageEnd _ => True
  | .imageStageCancel _ => True
  | .dryRunComplete => True
  | .fwStageBegin _ n => n < 2 ^ 32
  | .fwStageData _ o d => o < 2 ^ 32 ∧ d.length ≤ 65520
  | .fwStageEnd _ => True
  | .fwStageCancel _ => True
  | .fwStageCheckComplete => True
  | .claim _ _ => True
  | .forceClaim _ _ => True
  | .release _ _ => True
  | .moveLanded _ => True
  | .quickStopComplete _ => True
  | .homePositionFound _ x => -2 ^ 31 ≤ x ∧ x < 2 ^ 31
  | .homeChatter _ => True
  | .homeTimeout _ => True
  | .travelLimit _ _ => True
  | .stall _ => True
  | .stepperHold _ => True
  | .obstConfirmed _ => True
  | .siblingReversal _ => True
  | .reactionBrakingEnd _ => True
  | .leafEvaluation _ x => -2 ^ 31 ≤ x ∧ x < 2 ^ 31
  | .closureLost _ => True
  | .learnReset _ _ => True
  | .doorwayOpen _ _ => True
  | .doorwayClose _ _ => True
  | .doorwayHome _ _ => True
  | .doorReset _ _ => True
  | .openLeft _ => True
  | .openRight _ => True
  | .closeLeft _ => True
  | .closeRight _ => True
  | .sideOpenInput _ => True
  | .sideCloseInput _ => True
  | .buttonPress _ _ => True
  | .isolationOn _ => True
  | .isolationOff _ => True
  | .doorEgress _ => True
  | .egressCleared _ => True
  | .releaseLost _ => True
  | .zeroSpeedPresent => True
  | .autoCloseExpiry _ => True
  | .warningEnd _ => True
  | .reopenPauseExpiry _ => True
  | .stepRetryExpiry _ => True
  | .lockConfirmExpiry _ => True
  | .announceHold _ _ _ => True
  | .chime _ _ _ => True
  | .chimeEnd _ => True
  | .jogGo _ _ _ => True
  | .jogStop _ _ => True
  | .jogTimeout _ => True
  | .boltTestCycle => True
  | .boltTestFail => True
  | .boltOverload => True
  | .boltExtDriven => True
  | .boltChannelDiffer => True
  | .pairDiscrepancy _ => True
  | .pairRestored _ => True
  | .safeTelegramCopy _ _ bs => bs.length ≤ 64
  | .pairWaitDeadline => True
  | .safeTgTimeout => True
  | .doorStateSend => True
  | .doorStateReceived _ bs => bs.length ≤ 64
  | .quadError _ => True
  | .short _ => True
  | .readback _ => True
  | .stuckOn _ => True
  | .extDriven _ => True
  | .overload _ => True
  | .lsThermalWarn _ => True
  | .lsThermalShutdown _ => True
  | .retrySlot _ => True
  | .retriesCleared _ => True
  | .fieldOutputRetry _ => True
  | .clearLockout _ _ => True
  | .lsGroupShed => True
  | .lsBlankingEnd _ => True
  | .limitRecompute => True
  | .fieldLow => True
  | .fieldLowClear => True
  | .fieldInvalid => True
  | .fieldRestored => True
  | .outputsDropped => True
  | .restoreSequenceStart => True
  | .restoreTurn => True
  | .fieldHigh => True
  | .fieldHighClear => True
  | .sensorSupplyTrip _ => True
  | .sensorSupplyRetry _ => True
  | .anShuntOff _ => True
  | .anShuntRetry _ => True
  | .anSupplyTrip => True
  | .anSupplyRetry => True
  | .canFrameReceived _ f _ _ => f.WellFormed
  | .canPex _ => True
  | .txSuccess _ _ _ => True
  | .txLostArbitration _ _ => True
  | .txError _ _ k _ => 1 ≤ k ∧ k ≤ 6
  | .canBusOff _ => True
  | .txSend _ _ _ => True
  | .txAbort _ _ _ => True
  | .canRecover _ _ => True
  | .canRecovered _ => True
  | .restrictOn _ _ => True
  | .restrictOff _ _ => True
  | .canModeChange _ => True
  | .rxAck _ _ _ => True
  | .heartbeatReceived f => f.payload.length ≤ 96
  | .heartbeatNak => True
  | .heartbeatResend => True
  | .copyFrame p _ _ => p.length ≤ 120
  | .pinlinkLost => True
  | .pinlinkRestored => True
  | .pairWaitExpiry _ => True
  | .claimRound _ => True
  | .claimCheck => True
  | .takeover => True
  | .leaseYielded => True
  | .logSealExpiry => True
  | .sealPage _ => True
  | .pageCommit _ _ => True
  | .logRead _ f n ps => f < 2 ^ 32 ∧ n < 256 ∧ ps.length ≤ 15
  | .logErase _ q c => q < 2 ^ 32 ∧ c.length = 32
  | .eraseComplete => True
  | .anchor _ _ _ => True
  | .opTimeSave => True
  | .scrubStep => True
  | .dmaResume _ => True
  | .scratchClear _ _ => True
  | .sessionOpen h => h.chain.length < 256 ∧ h.units.length < 256
  | .authBlockExpiry _ => True
  | .sessionIdleTimeout _ => True
  | .sessionEnd _ => True
  | .subscribeSet _ es => es.length ≤ 16380
  | .subscribeAdd _ es => es.length ≤ 16380
  | .subscribeClear _ => True
  | .subscribeAck _ _ => True
  | .kwEventAck _ _ => True
  | .restart _ => True
  | .enterMaintenance _ => True
  | .exitMaintenance _ => True
  | .enrol _ _ c s => c.length ≤ 65535 ∧ s.length ≤ 65535
  | .unenrol _ _ => True
  | .dhcpLease _ n => n.toNat ≤ 32
  | .dhcpTimeout _ => True
  | .censusSend => True
  | .censusReceive bs => bs.length ≤ 1472
  | .censusEntryExpiry _ => True
  | .codeGroupSyncGained _ => True
  | .codeGroupSyncLost _ => True
  | .coverClosed => True
  | .fieldCountEdge _ _ _ _ _ _ => True
  | .canReceiveError _ k _ => 1 ≤ k ∧ k ≤ 6
  | .canIntegrated _ => True
  | .logBlockErased b r => b < 65536 ∧ ∀ k ∈ r, 1 ≤ k ∧ k ≤ 2
  | .stageWriteComplete _ => True
  | .ethLinkChange _ _ => True
  | .sramBitFlip w m => w < passWords + 16 ∧ m ≠ 0

/-- The same as a check that evaluates. -/
def Instr.wellFormed : Instr → Bool
  | .powerOn p => decide (p.readings.length = 16) && decide (p.holdupMs < 65536) && p.copyWrong.all fun x => decide (x.1 < 8 * codeWords)
  | .bootWaitExpiry => true
  | .mountComplete _ => true
  | .supplyLoss => true
  | .supplyReturn => true
  | .holdupEnd => true
  | .supplyHigh => true
  | .housingHot => true
  | .addrChanged _ => true
  | .resetPressAccepted => true
  | .resetReleaseAccepted => true
  | .resetStuck => true
  | .resetArmed => true
  | .wardSwitchChange _ _ => true
  | .coverOpen => true
  | .computePhase x => x.wellFormed
  | .phaseOverrun => true
  | .queueFull _ => true
  | .clockFault _ _ => true
  | .lockstepMismatch _ => true
  | .coreTrap c _ => c.wellFormed
  | .upstreamFrame _ f => decide (f.payload.length ≤ 64)
  | .resendRequest _ => true
  | .upstreamResendFrame _ f => decide (f.payload.length ≤ 32)
  | .missedTick _ => true
  | .nakReceived _ => true
  | .downstreamResend _ _ => true
  | .linkLost _ => true
  | .linkRestored _ => true
  | .stageUnexpected _ => true
  | .identPage _ p d => decide (p < 4) && decide (d.length = 9)
  | .paramValue _ k _ => decide (k < 65536)
  | .paramRefused _ k c => decide (k < 65536) && decide (c < 256)
  | .faultReport _ d => decide (d.length ≤ 10)
  | .paramWriteTimeout _ => true
  | .discoverTimeout => true
  | .rediscover _ _ => true
  | .tableEntryWrite _ _ _ e _ => decide (e < 256)
  | .traceArm _ => true
  | .traceStop _ => true
  | .traceForce _ => true
  | .traceDone => true
  | .read _ _ => true
  | .readBlock _ _ n => decide (n < 2 ^ 32)
  | .write _ _ _ => true
  | .writeBlock _ _ n ws => decide (n < 2 ^ 32) && decide (ws.length ≤ 16382)
  | .apply _ _ => true
  | .cfgApply _ _ => true
  | .deferredEffect => true
  | .bittingsRecomputed => true
  | .imageStageBegin _ _ n => decide (n < 2 ^ 32)
  | .imageStageData _ o d => decide (o < 2 ^ 32) && decide (d.length ≤ 65520)
  | .imageStageEnd _ => true
  | .imageStageCancel _ => true
  | .dryRunComplete => true
  | .fwStageBegin _ n => decide (n < 2 ^ 32)
  | .fwStageData _ o d => decide (o < 2 ^ 32) && decide (d.length ≤ 65520)
  | .fwStageEnd _ => true
  | .fwStageCancel _ => true
  | .fwStageCheckComplete => true
  | .claim _ _ => true
  | .forceClaim _ _ => true
  | .release _ _ => true
  | .moveLanded _ => true
  | .quickStopComplete _ => true
  | .homePositionFound _ x => decide (-2 ^ 31 ≤ x) && decide (x < 2 ^ 31)
  | .homeChatter _ => true
  | .homeTimeout _ => true
  | .travelLimit _ _ => true
  | .stall _ => true
  | .stepperHold _ => true
  | .obstConfirmed _ => true
  | .siblingReversal _ => true
  | .reactionBrakingEnd _ => true
  | .leafEvaluation _ x => decide (-2 ^ 31 ≤ x) && decide (x < 2 ^ 31)
  | .closureLost _ => true
  | .learnReset _ _ => true
  | .doorwayOpen _ _ => true
  | .doorwayClose _ _ => true
  | .doorwayHome _ _ => true
  | .doorReset _ _ => true
  | .openLeft _ => true
  | .openRight _ => true
  | .closeLeft _ => true
  | .closeRight _ => true
  | .sideOpenInput _ => true
  | .sideCloseInput _ => true
  | .buttonPress _ _ => true
  | .isolationOn _ => true
  | .isolationOff _ => true
  | .doorEgress _ => true
  | .egressCleared _ => true
  | .releaseLost _ => true
  | .zeroSpeedPresent => true
  | .autoCloseExpiry _ => true
  | .warningEnd _ => true
  | .reopenPauseExpiry _ => true
  | .stepRetryExpiry _ => true
  | .lockConfirmExpiry _ => true
  | .announceHold _ _ _ => true
  | .chime _ _ _ => true
  | .chimeEnd _ => true
  | .jogGo _ _ _ => true
  | .jogStop _ _ => true
  | .jogTimeout _ => true
  | .boltTestCycle => true
  | .boltTestFail => true
  | .boltOverload => true
  | .boltExtDriven => true
  | .boltChannelDiffer => true
  | .pairDiscrepancy _ => true
  | .pairRestored _ => true
  | .safeTelegramCopy _ _ bs => decide (bs.length ≤ 64)
  | .pairWaitDeadline => true
  | .safeTgTimeout => true
  | .doorStateSend => true
  | .doorStateReceived _ bs => decide (bs.length ≤ 64)
  | .quadError _ => true
  | .short _ => true
  | .readback _ => true
  | .stuckOn _ => true
  | .extDriven _ => true
  | .overload _ => true
  | .lsThermalWarn _ => true
  | .lsThermalShutdown _ => true
  | .retrySlot _ => true
  | .retriesCleared _ => true
  | .fieldOutputRetry _ => true
  | .clearLockout _ _ => true
  | .lsGroupShed => true
  | .lsBlankingEnd _ => true
  | .limitRecompute => true
  | .fieldLow => true
  | .fieldLowClear => true
  | .fieldInvalid => true
  | .fieldRestored => true
  | .outputsDropped => true
  | .restoreSequenceStart => true
  | .restoreTurn => true
  | .fieldHigh => true
  | .fieldHighClear => true
  | .sensorSupplyTrip _ => true
  | .sensorSupplyRetry _ => true
  | .anShuntOff _ => true
  | .anShuntRetry _ => true
  | .anSupplyTrip => true
  | .anSupplyRetry => true
  | .canFrameReceived _ f _ _ => f.wellFormed
  | .canPex _ => true
  | .txSuccess _ _ _ => true
  | .txLostArbitration _ _ => true
  | .txError _ _ k _ => decide (1 ≤ k) && decide (k ≤ 6)
  | .canBusOff _ => true
  | .txSend _ _ _ => true
  | .txAbort _ _ _ => true
  | .canRecover _ _ => true
  | .canRecovered _ => true
  | .restrictOn _ _ => true
  | .restrictOff _ _ => true
  | .canModeChange _ => true
  | .rxAck _ _ _ => true
  | .heartbeatReceived f => decide (f.payload.length ≤ 96)
  | .heartbeatNak => true
  | .heartbeatResend => true
  | .copyFrame p _ _ => decide (p.length ≤ 120)
  | .pinlinkLost => true
  | .pinlinkRestored => true
  | .pairWaitExpiry _ => true
  | .claimRound _ => true
  | .claimCheck => true
  | .takeover => true
  | .leaseYielded => true
  | .logSealExpiry => true
  | .sealPage _ => true
  | .pageCommit _ _ => true
  | .logRead _ f n ps => decide (f < 2 ^ 32) && decide (n < 256) && decide (ps.length ≤ 15)
  | .logErase _ q c => decide (q < 2 ^ 32) && decide (c.length = 32)
  | .eraseComplete => true
  | .anchor _ _ _ => true
  | .opTimeSave => true
  | .scrubStep => true
  | .dmaResume _ => true
  | .scratchClear _ _ => true
  | .sessionOpen h => decide (h.chain.length < 256) && decide (h.units.length < 256)
  | .authBlockExpiry _ => true
  | .sessionIdleTimeout _ => true
  | .sessionEnd _ => true
  | .subscribeSet _ es => decide (es.length ≤ 16380)
  | .subscribeAdd _ es => decide (es.length ≤ 16380)
  | .subscribeClear _ => true
  | .subscribeAck _ _ => true
  | .kwEventAck _ _ => true
  | .restart _ => true
  | .enterMaintenance _ => true
  | .exitMaintenance _ => true
  | .enrol _ _ c s => decide (c.length ≤ 65535) && decide (s.length ≤ 65535)
  | .unenrol _ _ => true
  | .dhcpLease _ n => decide (n.toNat ≤ 32)
  | .dhcpTimeout _ => true
  | .censusSend => true
  | .censusReceive bs => decide (bs.length ≤ 1472)
  | .censusEntryExpiry _ => true
  | .codeGroupSyncGained _ => true
  | .codeGroupSyncLost _ => true
  | .coverClosed => true
  | .fieldCountEdge _ _ _ _ _ _ => true
  | .canReceiveError _ k _ => decide (1 ≤ k) && decide (k ≤ 6)
  | .canIntegrated _ => true
  | .logBlockErased b r => decide (b < 65536) && decide (∀ k ∈ r, 1 ≤ k ∧ k ≤ 2)
  | .stageWriteComplete _ => true
  | .ethLinkChange _ _ => true
  | .sramBitFlip w m => decide (w < passWords + 16) && decide (m ≠ 0)

end Sys2Proof
end

