-- ==== Sys2Proof/Laws/PerInstr.lean ====
section
/-! SUPPORT. One lemma per command: the check of well-formedness decides it. -/

namespace Sys2Proof.Laws.WellFormed

open Machine

/-- The check of a command says exactly that its operands fit. -/
def Statement (i : Instr) : Prop := i.wellFormed = true ↔ i.WellFormed

/-- Two checks. -/
theorem both {p q : Prop} [Decidable p] [Decidable q] : (decide p && decide q) = true ↔ p ∧ q := by simp

/-- Three checks. -/
theorem all3 {p q r : Prop} [Decidable p] [Decidable q] [Decidable r] :
    (decide p && decide q && decide r) = true ↔ p ∧ q ∧ r := by simp [and_assoc]

/-- The check of a snapshot. -/
theorem snapshot_iff (x : Snapshot) : x.wellFormed = true ↔ x.WellFormed := by
  simp only [Snapshot.wellFormed, Snapshot.WellFormed, Bool.and_eq_true, List.all_eq_true, decide_eq_true_eq, and_assoc]

/-- The check of a CAN frame. -/
theorem frame_iff (f : CanFrame) : f.wellFormed = true ↔ f.WellFormed := by
  cases h : f.fdf <;> simp [CanFrame.wellFormed, CanFrame.WellFormed, and_assoc, h]

theorem powerOn (p : PowerUp) : Statement (.powerOn p) := by
  simp [Statement, Instr.wellFormed, Instr.WellFormed, and_assoc]
theorem bootWaitExpiry : Statement (.bootWaitExpiry) := iff_of_true rfl trivial
theorem mountComplete (reads : Option (List (Nat × List Byte))) : Statement (.mountComplete reads) := iff_of_true rfl trivial
theorem supplyLoss : Statement (.supplyLoss) := iff_of_true rfl trivial
theorem supplyReturn : Statement (.supplyReturn) := iff_of_true rfl trivial
theorem holdupEnd : Statement (.holdupEnd) := iff_of_true rfl trivial
theorem supplyHigh : Statement (.supplyHigh) := iff_of_true rfl trivial
theorem housingHot : Statement (.housingHot) := iff_of_true rfl trivial
theorem addrChanged (reading : BitVec 10) : Statement (.addrChanged reading) := iff_of_true rfl trivial
theorem resetPressAccepted : Statement (.resetPressAccepted) := iff_of_true rfl trivial
theorem resetReleaseAccepted : Statement (.resetReleaseAccepted) := iff_of_true rfl trivial
theorem resetStuck : Statement (.resetStuck) := iff_of_true rfl trivial
theorem resetArmed : Statement (.resetArmed) := iff_of_true rfl trivial
theorem wardSwitchChange (k : Fin 12) (on : Bool) : Statement (.wardSwitchChange k on) := iff_of_true rfl trivial
theorem coverOpen : Statement (.coverOpen) := iff_of_true rfl trivial
theorem computePhase (snap : Snapshot) : Statement (.computePhase snap) := snapshot_iff snap
theorem phaseOverrun : Statement (.phaseOverrun) := iff_of_true rfl trivial
theorem queueFull (q : QueueId) : Statement (.queueFull q) := iff_of_true rfl trivial
theorem clockFault (kind : ClockFaultKind) (late : Bool) : Statement (.clockFault kind late) := iff_of_true rfl trivial
theorem lockstepMismatch (late : Bool) : Statement (.lockstepMismatch late) := iff_of_true rfl trivial
theorem coreTrap (cause : TrapCause) (late : Bool) : Statement (.coreTrap cause late) := match cause with | .memory _ => decide_eq_true_iff | .bus => iff_of_true rfl trivial
theorem upstreamFrame (k : PortId) (f : WireFrame) : Statement (.upstreamFrame k f) := decide_eq_true_iff
theorem resendRequest (k : PortId) : Statement (.resendRequest k) := iff_of_true rfl trivial
theorem upstreamResendFrame (k : PortId) (f : WireFrame) : Statement (.upstreamResendFrame k f) := decide_eq_true_iff
theorem missedTick (k : PortId) : Statement (.missedTick k) := iff_of_true rfl trivial
theorem nakReceived (k : PortId) : Statement (.nakReceived k) := iff_of_true rfl trivial
theorem downstreamResend (k : PortId) (copyGood : Bool) : Statement (.downstreamResend k copyGood) := iff_of_true rfl trivial
theorem linkLost (k : PortId) : Statement (.linkLost k) := iff_of_true rfl trivial
theorem linkRestored (k : PortId) : Statement (.linkRestored k) := iff_of_true rfl trivial
theorem stageUnexpected (k : PortId) : Statement (.stageUnexpected k) := iff_of_true rfl trivial
theorem identPage (k : PortId) (page : Nat) (data : List Byte) : Statement (.identPage k page data) := both
theorem paramValue (k : PortId) (index : Nat) (value : BitVec 64) : Statement (.paramValue k index value) := decide_eq_true_iff
theorem paramRefused (k : PortId) (index : Nat) (reason : Nat) : Statement (.paramRefused k index reason) := both
theorem faultReport (k : PortId) (data : List Byte) : Statement (.faultReport k data) := decide_eq_true_iff
theorem paramWriteTimeout (k : PortId) : Statement (.paramWriteTimeout k) := iff_of_true rfl trivial
theorem discoverTimeout : Statement (.discoverTimeout) := iff_of_true rfl trivial
theorem rediscover (r : Req) (k : PortId) : Statement (.rediscover r k) := iff_of_true rfl trivial
theorem tableEntryWrite (r : Req) (a : AxisId) (cogging : Bool) (entry : Nat) (value : Word) : Statement (.tableEntryWrite r a cogging entry value) := decide_eq_true_iff
theorem traceArm (r : Req) : Statement (.traceArm r) := iff_of_true rfl trivial
theorem traceStop (r : Req) : Statement (.traceStop r) := iff_of_true rfl trivial
theorem traceForce (r : Req) : Statement (.traceForce r) := iff_of_true rfl trivial
theorem traceDone : Statement (.traceDone) := iff_of_true rfl trivial
theorem read (r : Req) (addr : Word) : Statement (.read r addr) := iff_of_true rfl trivial
theorem readBlock (r : Req) (addr : Word) (count : Nat) : Statement (.readBlock r addr count) := decide_eq_true_iff
theorem write (r : Req) (addr : Word) (value : Word) : Statement (.write r addr value) := iff_of_true rfl trivial
theorem writeBlock (r : Req) (addr : Word) (count : Nat) (values : List Word) : Statement (.writeBlock r addr count values) := both
theorem apply (r : Req) (b : BlockReq) : Statement (.apply r b) := iff_of_true rfl trivial
theorem cfgApply (r : Req) (b : BlockReq) : Statement (.cfgApply r b) := iff_of_true rfl trivial
theorem deferredEffect : Statement (.deferredEffect) := iff_of_true rfl trivial
theorem bittingsRecomputed : Statement (.bittingsRecomputed) := iff_of_true rfl trivial
theorem imageStageBegin (r : Req) (slot : BitVec 8) (len : Nat) : Statement (.imageStageBegin r slot len) := decide_eq_true_iff
theorem imageStageData (r : Req) (offset : Nat) (data : List Byte) : Statement (.imageStageData r offset data) := both
theorem imageStageEnd (r : Req) : Statement (.imageStageEnd r) := iff_of_true rfl trivial
theorem imageStageCancel (r : Req) : Statement (.imageStageCancel r) := iff_of_true rfl trivial
theorem dryRunComplete : Statement (.dryRunComplete) := iff_of_true rfl trivial
theorem fwStageBegin (r : Req) (len : Nat) : Statement (.fwStageBegin r len) := decide_eq_true_iff
theorem fwStageData (r : Req) (offset : Nat) (data : List Byte) : Statement (.fwStageData r offset data) := both
theorem fwStageEnd (r : Req) : Statement (.fwStageEnd r) := iff_of_true rfl trivial
theorem fwStageCancel (r : Req) : Statement (.fwStageCancel r) := iff_of_true rfl trivial
theorem fwStageCheckComplete : Statement (.fwStageCheckComplete) := iff_of_true rfl trivial
theorem claim (r : Req) (b : BlockReq) : Statement (.claim r b) := iff_of_true rfl trivial
theorem forceClaim (r : Req) (b : BlockReq) : Statement (.forceClaim r b) := iff_of_true rfl trivial
theorem release (r : Req) (b : BlockReq) : Statement (.release r b) := iff_of_true rfl trivial
theorem moveLanded (a : AxisId) : Statement (.moveLanded a) := iff_of_true rfl trivial
theorem quickStopComplete (a : AxisId) : Statement (.quickStopComplete a) := iff_of_true rfl trivial
theorem homePositionFound (a : AxisId) (position : Int) : Statement (.homePositionFound a position) := both
theorem homeChatter (a : AxisId) : Statement (.homeChatter a) := iff_of_true rfl trivial
theorem homeTimeout (a : AxisId) : Statement (.homeTimeout a) := iff_of_true rfl trivial
theorem travelLimit (a : AxisId) (positive : Bool) : Statement (.travelLimit a positive) := iff_of_true rfl trivial
theorem stall (a : AxisId) : Statement (.stall a) := iff_of_true rfl trivial
theorem stepperHold (a : AxisId) : Statement (.stepperHold a) := iff_of_true rfl trivial
theorem obstConfirmed (a : AxisId) : Statement (.obstConfirmed a) := iff_of_true rfl trivial
theorem siblingReversal (d : DoorId) : Statement (.siblingReversal d) := iff_of_true rfl trivial
theorem reactionBrakingEnd (a : AxisId) : Statement (.reactionBrakingEnd a) := iff_of_true rfl trivial
theorem leafEvaluation (a : AxisId) (x : Int) : Statement (.leafEvaluation a x) := both
theorem closureLost (d : DoorId) : Statement (.closureLost d) := iff_of_true rfl trivial
theorem learnReset (r : Req) (d : DoorId) : Statement (.learnReset r d) := iff_of_true rfl trivial
theorem doorwayOpen (r : Req) (d : DoorId) : Statement (.doorwayOpen r d) := iff_of_true rfl trivial
theorem doorwayClose (r : Req) (d : DoorId) : Statement (.doorwayClose r d) := iff_of_true rfl trivial
theorem doorwayHome (r : Req) (d : DoorId) : Statement (.doorwayHome r d) := iff_of_true rfl trivial
theorem doorReset (r : Req) (d : DoorId) : Statement (.doorReset r d) := iff_of_true rfl trivial
theorem openLeft (r : Req) : Statement (.openLeft r) := iff_of_true rfl trivial
theorem openRight (r : Req) : Statement (.openRight r) := iff_of_true rfl trivial
theorem closeLeft (r : Req) : Statement (.closeLeft r) := iff_of_true rfl trivial
theorem closeRight (r : Req) : Statement (.closeRight r) := iff_of_true rfl trivial
theorem sideOpenInput (right : Bool) : Statement (.sideOpenInput right) := iff_of_true rfl trivial
theorem sideCloseInput (right : Bool) : Statement (.sideCloseInput right) := iff_of_true rfl trivial
theorem buttonPress (d : DoorId) (outside : Bool) : Statement (.buttonPress d outside) := iff_of_true rfl trivial
theorem isolationOn (d : DoorId) : Statement (.isolationOn d) := iff_of_true rfl trivial
theorem isolationOff (d : DoorId) : Statement (.isolationOff d) := iff_of_true rfl trivial
theorem doorEgress (d : DoorId) : Statement (.doorEgress d) := iff_of_true rfl trivial
theorem egressCleared (d : DoorId) : Statement (.egressCleared d) := iff_of_true rfl trivial
theorem releaseLost (gone : BitVec 3) : Statement (.releaseLost gone) := iff_of_true rfl trivial
theorem zeroSpeedPresent : Statement (.zeroSpeedPresent) := iff_of_true rfl trivial
theorem autoCloseExpiry (d : DoorId) : Statement (.autoCloseExpiry d) := iff_of_true rfl trivial
theorem warningEnd (d : DoorId) : Statement (.warningEnd d) := iff_of_true rfl trivial
theorem reopenPauseExpiry (d : DoorId) : Statement (.reopenPauseExpiry d) := iff_of_true rfl trivial
theorem stepRetryExpiry (d : DoorId) : Statement (.stepRetryExpiry d) := iff_of_true rfl trivial
theorem lockConfirmExpiry (d : DoorId) : Statement (.lockConfirmExpiry d) := iff_of_true rfl trivial
theorem announceHold (r : Req) (d : DoorId) (ms : Word) : Statement (.announceHold r d ms) := iff_of_true rfl trivial
theorem chime (r : Req) (d : DoorId) (value : Word) : Statement (.chime r d value) := iff_of_true rfl trivial
theorem chimeEnd (d : DoorId) : Statement (.chimeEnd d) := iff_of_true rfl trivial
theorem jogGo (r : Req) (d : DoorId) (value : Word) : Statement (.jogGo r d value) := iff_of_true rfl trivial
theorem jogStop (r : Req) (d : DoorId) : Statement (.jogStop r d) := iff_of_true rfl trivial
theorem jogTimeout (d : DoorId) : Statement (.jogTimeout d) := iff_of_true rfl trivial
theorem boltTestCycle : Statement (.boltTestCycle) := iff_of_true rfl trivial
theorem boltTestFail : Statement (.boltTestFail) := iff_of_true rfl trivial
theorem boltOverload : Statement (.boltOverload) := iff_of_true rfl trivial
theorem boltExtDriven : Statement (.boltExtDriven) := iff_of_true rfl trivial
theorem boltChannelDiffer : Statement (.boltChannelDiffer) := iff_of_true rfl trivial
theorem pairDiscrepancy (p : PairId) : Statement (.pairDiscrepancy p) := iff_of_true rfl trivial
theorem pairRestored (p : PairId) : Statement (.pairRestored p) := iff_of_true rfl trivial
theorem safeTelegramCopy (bus : BusId) (fdf : Bool) (bytes : List Byte) : Statement (.safeTelegramCopy bus fdf bytes) := decide_eq_true_iff
theorem pairWaitDeadline : Statement (.pairWaitDeadline) := iff_of_true rfl trivial
theorem safeTgTimeout : Statement (.safeTgTimeout) := iff_of_true rfl trivial
theorem doorStateSend : Statement (.doorStateSend) := iff_of_true rfl trivial
theorem doorStateReceived (fdf : Bool) (bytes : List Byte) : Statement (.doorStateReceived fdf bytes) := decide_eq_true_iff
theorem quadError (c : ChanId) : Statement (.quadError c) := iff_of_true rfl trivial
theorem short (out : Fin 80) : Statement (.short out) := iff_of_true rfl trivial
theorem readback (out : Fin 80) : Statement (.readback out) := iff_of_true rfl trivial
theorem stuckOn (out : Fin 80) : Statement (.stuckOn out) := iff_of_true rfl trivial
theorem extDriven (out : Fin 80) : Statement (.extDriven out) := iff_of_true rfl trivial
theorem overload (l : LoadId) : Statement (.overload l) := iff_of_true rfl trivial
theorem lsThermalWarn (l : LoadId) : Statement (.lsThermalWarn l) := iff_of_true rfl trivial
theorem lsThermalShutdown (l : LoadId) : Statement (.lsThermalShutdown l) := iff_of_true rfl trivial
theorem retrySlot (l : LoadId) : Statement (.retrySlot l) := iff_of_true rfl trivial
theorem retriesCleared (l : LoadId) : Statement (.retriesCleared l) := iff_of_true rfl trivial
theorem fieldOutputRetry (c : ChanId) : Statement (.fieldOutputRetry c) := iff_of_true rfl trivial
theorem clearLockout (r : Req) (l : LoadId) : Statement (.clearLockout r l) := iff_of_true rfl trivial
theorem lsGroupShed : Statement (.lsGroupShed) := iff_of_true rfl trivial
theorem lsBlankingEnd (l : LoadId) : Statement (.lsBlankingEnd l) := iff_of_true rfl trivial
theorem limitRecompute : Statement (.limitRecompute) := iff_of_true rfl trivial
theorem fieldLow : Statement (.fieldLow) := iff_of_true rfl trivial
theorem fieldLowClear : Statement (.fieldLowClear) := iff_of_true rfl trivial
theorem fieldInvalid : Statement (.fieldInvalid) := iff_of_true rfl trivial
theorem fieldRestored : Statement (.fieldRestored) := iff_of_true rfl trivial
theorem outputsDropped : Statement (.outputsDropped) := iff_of_true rfl trivial
theorem restoreSequenceStart : Statement (.restoreSequenceStart) := iff_of_true rfl trivial
theorem restoreTurn : Statement (.restoreTurn) := iff_of_true rfl trivial
theorem fieldHigh : Statement (.fieldHigh) := iff_of_true rfl trivial
theorem fieldHighClear : Statement (.fieldHighClear) := iff_of_true rfl trivial
theorem sensorSupplyTrip (k : Fin 2) : Statement (.sensorSupplyTrip k) := iff_of_true rfl trivial
theorem sensorSupplyRetry (k : Fin 2) : Statement (.sensorSupplyRetry k) := iff_of_true rfl trivial
theorem anShuntOff (n : AnId) : Statement (.anShuntOff n) := iff_of_true rfl trivial
theorem anShuntRetry (n : AnId) : Statement (.anShuntRetry n) := iff_of_true rfl trivial
theorem anSupplyTrip : Statement (.anSupplyTrip) := iff_of_true rfl trivial
theorem anSupplyRetry : Statement (.anSupplyRetry) := iff_of_true rfl trivial
theorem canFrameReceived (bus : BusId) (f : CanFrame) (parity : Bool) (ts : Word) : Statement (.canFrameReceived bus f parity ts) := frame_iff f
theorem canPex (bus : BusId) : Statement (.canPex bus) := iff_of_true rfl trivial
theorem txSuccess (bus : BusId) (b : Fin 3) (ts : Word) : Statement (.txSuccess bus b ts) := iff_of_true rfl trivial
theorem txLostArbitration (bus : BusId) (b : Fin 3) : Statement (.txLostArbitration bus b) := iff_of_true rfl trivial
theorem txError (bus : BusId) (b : Fin 3) (kind : Nat) (unchanged : Bool) : Statement (.txError bus b kind unchanged) := both
theorem canBusOff (bus : BusId) : Statement (.canBusOff bus) := iff_of_true rfl trivial
theorem txSend (r : Req) (bus : BusId) (b : Fin 3) : Statement (.txSend r bus b) := iff_of_true rfl trivial
theorem txAbort (r : Req) (bus : BusId) (b : Fin 3) : Statement (.txAbort r bus b) := iff_of_true rfl trivial
theorem canRecover (r : Req) (bus : BusId) : Statement (.canRecover r bus) := iff_of_true rfl trivial
theorem canRecovered (bus : BusId) : Statement (.canRecovered bus) := iff_of_true rfl trivial
theorem restrictOn (r : Req) (bus : BusId) : Statement (.restrictOn r bus) := iff_of_true rfl trivial
theorem restrictOff (r : Req) (bus : BusId) : Statement (.restrictOff r bus) := iff_of_true rfl trivial
theorem canModeChange (bus : BusId) : Statement (.canModeChange bus) := iff_of_true rfl trivial
theorem rxAck (r : Req) (bus : BusId) (n : Word) : Statement (.rxAck r bus n) := iff_of_true rfl trivial
theorem heartbeatReceived (f : WireFrame) : Statement (.heartbeatReceived f) := decide_eq_true_iff
theorem heartbeatNak : Statement (.heartbeatNak) := iff_of_true rfl trivial
theorem heartbeatResend : Statement (.heartbeatResend) := iff_of_true rfl trivial
theorem copyFrame (payload : List Byte) (fin : FrameEnd) (state : CopyState) : Statement (.copyFrame payload fin state) := decide_eq_true_iff
theorem pinlinkLost : Statement (.pinlinkLost) := iff_of_true rfl trivial
theorem pinlinkRestored : Statement (.pinlinkRestored) := iff_of_true rfl trivial
theorem pairWaitExpiry (answered : Bool) : Statement (.pairWaitExpiry answered) := iff_of_true rfl trivial
theorem claimRound (last : Bool) : Statement (.claimRound last) := iff_of_true rfl trivial
theorem claimCheck : Statement (.claimCheck) := iff_of_true rfl trivial
theorem takeover : Statement (.takeover) := iff_of_true rfl trivial
theorem leaseYielded : Statement (.leaseYielded) := iff_of_true rfl trivial
theorem logSealExpiry : Statement (.logSealExpiry) := iff_of_true rfl trivial
theorem sealPage (r : Req) : Statement (.sealPage r) := iff_of_true rfl trivial
theorem pageCommit (ok : Bool) (parity : Option (List Byte)) : Statement (.pageCommit ok parity) := iff_of_true rfl trivial
theorem logRead (r : Req) (first : Nat) (count : Nat) (pages : List PageRead) : Statement (.logRead r first count pages) := all3
theorem logErase (r : Req) (seq : Nat) (chain : List Byte) : Statement (.logErase r seq chain) := both
theorem eraseComplete : Statement (.eraseComplete) := iff_of_true rfl trivial
theorem anchor (r : Req) (utc : BitVec 64) (uncertainty : Word) : Statement (.anchor r utc uncertainty) := iff_of_true rfl trivial
theorem opTimeSave : Statement (.opTimeSave) := iff_of_true rfl trivial
theorem scrubStep : Statement (.scrubStep) := iff_of_true rfl trivial
theorem dmaResume (c : Fin 4) : Statement (.dmaResume c) := iff_of_true rfl trivial
theorem scratchClear (r : Req) (page : Word) : Statement (.scratchClear r page) := iff_of_true rfl trivial
theorem sessionOpen (h : Handshake) : Statement (.sessionOpen h) := both
theorem authBlockExpiry (peer : Word) : Statement (.authBlockExpiry peer) := iff_of_true rfl trivial
theorem sessionIdleTimeout (i : SessId) : Statement (.sessionIdleTimeout i) := iff_of_true rfl trivial
theorem sessionEnd (i : SessId) : Statement (.sessionEnd i) := iff_of_true rfl trivial
theorem subscribeSet (r : Req) (entries : List (Code × BitVec 8)) : Statement (.subscribeSet r entries) := decide_eq_true_iff
theorem subscribeAdd (r : Req) (entries : List (Code × BitVec 8)) : Statement (.subscribeAdd r entries) := decide_eq_true_iff
theorem subscribeClear (r : Req) : Statement (.subscribeClear r) := iff_of_true rfl trivial
theorem subscribeAck (r : Req) (seq : Word) : Statement (.subscribeAck r seq) := iff_of_true rfl trivial
theorem kwEventAck (r : Req) (seq : Word) : Statement (.kwEventAck r seq) := iff_of_true rfl trivial
theorem restart (r : Req) : Statement (.restart r) := iff_of_true rfl trivial
theorem enterMaintenance (r : Req) : Statement (.enterMaintenance r) := iff_of_true rfl trivial
theorem exitMaintenance (r : Req) : Statement (.exitMaintenance r) := iff_of_true rfl trivial
theorem enrol (r : Req) (index : BitVec 8) (cert : List Byte) (sig : List Byte) : Statement (.enrol r index cert sig) := both
theorem unenrol (r : Req) (index : BitVec 8) : Statement (.unenrol r index) := iff_of_true rfl trivial
theorem dhcpLease (ip : Word) (prefixLen : BitVec 8) : Statement (.dhcpLease ip prefixLen) := decide_eq_true_iff
theorem dhcpTimeout (ip : Word) : Statement (.dhcpTimeout ip) := iff_of_true rfl trivial
theorem censusSend : Statement (.censusSend) := iff_of_true rfl trivial
theorem censusReceive (bytes : List Byte) : Statement (.censusReceive bytes) := decide_eq_true_iff
theorem censusEntryExpiry (serial : Word) : Statement (.censusEntryExpiry serial) := iff_of_true rfl trivial
theorem codeGroupSyncGained (k : LinkId) : Statement (.codeGroupSyncGained k) := iff_of_true rfl trivial
theorem codeGroupSyncLost (k : LinkId) : Statement (.codeGroupSyncLost k) := iff_of_true rfl trivial
theorem coverClosed : Statement (.coverClosed) := iff_of_true rfl trivial
theorem fieldCountEdge (c : ChanId) (onTrackC : Bool) (rise : Bool) (second : Bool) (lead : Bool) (time : Nat) : Statement (.fieldCountEdge c onTrackC rise second lead time) := iff_of_true rfl trivial
theorem canReceiveError (bus : BusId) (kind : Nat) (plus8 : Bool) : Statement (.canReceiveError bus kind plus8) := both
theorem canIntegrated (bus : BusId) : Statement (.canIntegrated bus) := iff_of_true rfl trivial
theorem logBlockErased (b : Nat) (bad : Option Nat) : Statement (.logBlockErased b bad) := by rw [Statement, show (Instr.logBlockErased b bad).wellFormed = (decide _ && decide _) from rfl]; exact (Bool.and_eq_true _ _).to_iff.trans (and_congr decide_eq_true_iff decide_eq_true_iff)
theorem stageWriteComplete (fw : Bool) : Statement (.stageWriteComplete fw) := iff_of_true rfl trivial
theorem ethLinkChange (e2 : Bool) (up : Bool) : Statement (.ethLinkChange e2 up) := iff_of_true rfl trivial
theorem sramBitFlip (word : Nat) (mask : BitVec 72) : Statement (.sramBitFlip word mask) := both

end Sys2Proof.Laws.WellFormed
end

