-- ==== Sys2Proof/Laws/Queues.lean ====
section
/-! SUPPORT. How far queues grow when codes are raised, so that each of several codes is told; an operation of field I/O with what
it tells. -/

open Sys2Proof Sys2Proof.Machine Sys2Proof.Safety

namespace Sys2Proof.Safety
/-- Queues grow at the end by `n` events at most; lists, sessions and the tick stay. -/
def GrowsBy (n : Nat) (s t : State) : Prop :=
  t.tick = s.tick ∧ ∀ (i : SessId) (x : Session), s.kw.sess[i] = some x → ∃ y, t.kw.sess[i] = some y ∧ y.subs = x.subs ∧ y.queue.length ≤ x.queue.length + n
theorem GrowsBy.rfl' {s t : State} (k : t.kw = s.kw) (e : t.tick = s.tick) : GrowsBy 0 s t := ⟨e, fun i x h => ⟨x, by rw [k]; exact h, rfl, by omega⟩⟩
theorem GrowsBy.trans {m n : Nat} {s t u : State} (h : GrowsBy m s t) (g : GrowsBy n t u) : GrowsBy (m + n) s u := ⟨g.1.trans h.1, fun i x hx => by
  obtain ⟨y, hy, p, a⟩ := h.2 i x hx
  obtain ⟨z, hz, q, b⟩ := g.2 i y hy
  exact ⟨z, hz, q.trans p, by omega⟩⟩
theorem GrowsBy.mono {m n : Nat} {s t : State} (h : GrowsBy m s t) (l : m ≤ n) : GrowsBy n s t := ⟨h.1, fun i x hx => by
  obtain ⟨y, hy, p, a⟩ := h.2 i x hx
  exact ⟨y, hy, p, by omega⟩⟩
theorem GrowsBy.tells {n : Nat} {s t u : State} {c : Code} {k : Nat} {d : Word} (h : GrowsBy n s t) (l : n ≤ 63) (g : Tells t u c k d) : TellsAfter s u c k d := by
  intro i x hx w q
  obtain ⟨y, hy, p, a⟩ := h.2 i x hx
  have wy : y.wants c k = true := by unfold Session.wants at *; rw [p]; exact w
  have := g i y hy wy (by omega)
  rw [h.1] at this; exact this
theorem TellsAfter.grow {s t u : State} {c : Code} {n : Nat} {d : Word} (h : TellsAfter s t c n d) (g : Grows t u) : TellsAfter s u c n d :=
  fun i x hx w q => by
    obtain ⟨y, hy, e, he, r⟩ := h i x hx w q
    obtain ⟨z, hz, p⟩ := g i y hy
    exact ⟨z, hz, e, p.subset he, r⟩
theorem Tells.after {s t : State} {c : Code} {n : Nat} {d : Word} (h : Tells s t c n d) : TellsAfter s t c n d := fun i x hx w q => h i x hx w (by omega)
end Sys2Proof.Safety
namespace Sys2Proof.Machine
theorem RecRun.add_ev (r : RecRun) (i : RecIn) (b : RecBody) (h : r.ev = []) : (r.add i b).ev.length ≤ 1 := by
  unfold RecRun.add RecRun.enter RecRun.becomeFull RecRun.upd RecRun.event
  dsimp only
  repeat' split
  all_goals simp [h]
theorem RecRun.addEvent_ev (r : RecRun) (i : RecIn) (e : Raised) (h : r.ev = []) : (r.addEvent i e).ev.length ≤ 1 := by
  unfold RecRun.addEvent
  split
  · simp [h]
  · exact RecRun.add_ev r i _ h
theorem State.raiseOne_growsBy (s : State) (e : Raised) : GrowsBy 1 s (s.raiseOne e).1 := by
  refine ⟨by simp, fun i x h => ?_⟩
  have h1 : (s.runRec fun r => r.addEvent s.recIn e).1.kw.sess[i] = some x := by
    have : (s.runRec fun r => r.addEvent s.recIn e).1.kw = s.kw := by simp
    rw [this]; exact h
  have h2 := State.queueEvent_get (e := e) h1
  have h3 : (s.raiseOne e).1.kw = ((s.runRec fun r => r.addEvent s.recIn e).1.queueEvent e).kw := State.traceSee_kw _ e
  refine ⟨_, by rw [h3]; exact h2, ?_⟩
  split
  · unfold Session.push; split <;> simp
  · simp
theorem State.raiseOne_more (s : State) (e : Raised) : (s.raiseOne e).2.length ≤ 1 := by
  unfold State.raiseOne State.runRec
  simpa using RecRun.addEvent_ev ⟨s.recorder, []⟩ s.recIn e rfl
theorem State.raiseAll_growsBy (n : Nat) (s : State) (es : List Raised) : GrowsBy (n * es.length) s (s.raiseAll n es) := by
  induction n generalizing s es with
  | zero => exact GrowsBy.mono (.rfl' rfl rfl) (by omega)
  | succ n ih =>
    rw [State.raiseAll]
    induction es generalizing s with
    | nil => exact GrowsBy.mono (.rfl' rfl rfl) (by omega)
    | cons e es ih' =>
      rw [List.foldl_cons]
      refine GrowsBy.mono (((State.raiseOne_growsBy s e).trans (ih _ _)).trans (ih' _)) ?_
      have := State.raiseOne_more s e
      simp only [List.length_cons]
      have : n * (s.raiseOne e).2.length ≤ n * 1 := Nat.mul_le_mul_left _ this
      rw [Nat.mul_add]
      omega
theorem State.deliver_growsBy (s : State) (ev : List Raised) : GrowsBy (4 * ev.length) s (s.deliver ev) := by
  unfold State.deliver
  simpa using State.raiseAll_growsBy 4 s ev.reverse
theorem State.raise_growsBy (s : State) (c : Code) (i : Nat) (d : Word) : GrowsBy 4 s (s.raise c i d) := by
  unfold State.raise
  exact State.raiseAll_growsBy 4 s _
theorem State.raiseAll_tellsAfter (s : State) (n : Nat) (es : List Raised) (e : Raised) (m : e ∈ es) (h : e.code ≠ 0x4804) (l : (n + 1) * (es.length - 1) ≤ 63) :
    TellsAfter s (s.raiseAll (n + 1) es) e.code e.inst e.detail := by
  obtain ⟨a, b, rfl⟩ := List.append_of_mem m
  have : s.raiseAll (n + 1) (a ++ e :: b) = (s.raiseAll (n + 1) a).raiseAll (n + 1) (e :: b) := by
    rw [State.raiseAll, List.foldl_append]
    rw [State.raiseAll, State.raiseAll]
  rw [this]
  have g := State.raiseAll_growsBy (n + 1) s a
  have := Nat.mul_le_mul_left (n + 1) (show a.length ≤ (a ++ e :: b).length - 1 by simp)
  exact (g.mono (by omega)).tells (n := 63) (by omega) (State.raiseAll_tells _ n e b h)
/-- Of up to sixteen codes each is told. -/
theorem State.deliver_tellsAfter (s : State) (ev : List Raised) (e : Raised) (m : e ∈ ev) (h : e.code ≠ 0x4804) (l : ev.length ≤ 16) :
    TellsAfter s (s.deliver ev) e.code e.inst e.detail := by
  unfold State.deliver
  exact State.raiseAll_tellsAfter s 3 _ e (by simpa using m) h (by simp; omega)
/-- The oldest code is told. -/
theorem State.deliver_tells_first (s : State) (ev : List Raised) (e : Raised) (m : ev.getLast? = some e) (h : e.code ≠ 0x4804) :
    Tells s (s.deliver ev) e.code e.inst e.detail := by
  unfold State.deliver
  obtain ⟨ys, rfl⟩ := List.getLast?_eq_some_iff.1 m
  rw [List.reverse_append]
  exact State.raiseAll_tells s 3 e _ h
end Sys2Proof.Machine

namespace Sys2Proof.Machine
theorem State.deliver_nil (s : State) : s.deliver [] = s := by unfold State.deliver; rfl
theorem State.onIo_changes (s : State) (f : IoRun → IoRun) : Changes [.io] s (s.onIo f) :=
  ⟨by unfold State.onIo; intro p hp; cases p <;> first | (simp [codes] at hp; done) | simp [Piece.Same], State.onIo_quiet ..⟩
theorem State.onIo_silent (s : State) (f : IoRun → IoRun) (h : (f ⟨s.io, []⟩).ev = []) : s.onIo f = { s with io := (f ⟨s.io, []⟩).io } := by
  unfold State.onIo; dsimp only; rw [h]; exact State.deliver_nil _
theorem State.onIo_only (s : State) (f : IoRun → IoRun) (h : (f ⟨s.io, []⟩).ev = []) : Only [.io] s (s.onIo f) := by
  rw [State.onIo_silent s f h]; intro p hp; cases p <;> first | (simp at hp; done) | rfl
theorem State.onIo_tells (s : State) (f : IoRun → IoRun) (c : Code) (n : Nat) (d : Word) (h : (f ⟨s.io, []⟩).ev.getLast? = some ⟨c, n, d⟩) (g : c ≠ 0x4804) :
    Tells s (s.onIo f) c n d :=
  (State.deliver_tells_first { s with io := (f ⟨s.io, []⟩).io } _ ⟨c, n, d⟩ h g).of rfl rfl
theorem State.onIo_tellsAfter (s : State) (f : IoRun → IoRun) (c : Code) (n : Nat) (d : Word) (h : ⟨c, n, d⟩ ∈ (f ⟨s.io, []⟩).ev) (g : c ≠ 0x4804)
    (l : (f ⟨s.io, []⟩).ev.length ≤ 16) : TellsAfter s (s.onIo f) c n d := by
  have := (State.deliver_tellsAfter { s with io := (f ⟨s.io, []⟩).io } _ ⟨c, n, d⟩ h g l)
  exact this
theorem State.onField_pos (s : State) (a : FieldIo → Bool) (f : IoRun → IoRun) (r : s.unit.running = true) (h : a s.io = true) : s.onField a f = s.onIo f := by
  simp [State.onField, State.live, r, h]
end Sys2Proof.Machine
end

