-- ==== Sys2Proof/Tests/Slice0.lean ====
section
/-! SUPPORT. Tests: what WellFormed refuses, one step of a few commands with results worked out by hand from the rules, and for each
statement with hypotheses a state and operands that meet them. -/

namespace Sys2Proof.Tests

open Sys2Proof Sys2Proof.Machine Sys2Proof.Safety

set_option maxRecDepth 100000
set_option Elab.async false

/-! ## Ill-formed commands -/

/-- A module's pins as they may be at a start. -/
def pins : PowerUp := ⟨List.replicate 16 0x200, false, 0, false, 1100, 40, 250, false, []⟩

/-- A frame with a payload of `n` zero bytes. -/
def frame (n : Nat) : WireFrame := ⟨List.replicate n 0, 0, true, false, false⟩

/-- A classic CAN data frame without data. -/
def canFrame : CanFrame := ⟨0, false, false, false, false, false, 0, []⟩

/-- Session 0 with tag 1. -/
def req : Req := ⟨0, 1, .asRow⟩

/-- Well-formed counterparts of the commands below. -/
theorem test_wf_takes : [Instr.powerOn pins, .computePhase .quiet, .coreTrap (.memory 0) false, .upstreamFrame 0 (frame 64), .upstreamResendFrame 0 (frame 32),
    .identPage 0 3 (List.replicate 9 0), .paramValue 0 65535 0, .paramRefused 0 65535 255, .faultReport 0 (List.replicate 10 0), .tableEntryWrite req 0 false 255 0,
    .readBlock req 0 (2 ^ 32 - 1), .imageStageBegin req 0 (2 ^ 32 - 1), .homePositionFound 0 (-2 ^ 31), .leafEvaluation 0 (2 ^ 31 - 1),
    .canFrameReceived 0 canFrame false 0, .txError 0 0 6 false, .canReceiveError 0 1 false, .logBlockErased 65535 (some 2), .dhcpLease 0 32,
    .sramBitFlip 0 1].all Instr.wellFormed = true := by decide +kernel
/-- POWER_ON takes sixteen readings. -/
theorem test_wf_readings : (Instr.powerOn { pins with readings := [] }).wellFormed = false := by decide +kernel
/-- HOLDUP_MS has 16 bits. -/
theorem test_wf_holdup : (Instr.powerOn { pins with holdupMs := 65536 }).wellFormed = false := by decide +kernel
/-- A measured voltage has 16 bits. -/
theorem test_wf_node : (Instr.computePhase { Snapshot.quiet with boltNode := Vector.replicate 4 65536 }).wellFormed = false := by decide +kernel
theorem test_wf_term : (Instr.computePhase { Snapshot.quiet with boltTerm := Vector.replicate 2 65536 }).wellFormed = false := by decide +kernel
theorem test_wf_amps : (Instr.computePhase { Snapshot.quiet with boltAmps := Vector.replicate 2 65536 }).wellFormed = false := by decide +kernel
theorem test_wf_analogue : (Instr.computePhase { Snapshot.quiet with io := { Snapshot.quiet.io with an := Vector.replicate 4 65536 } }).wellFormed = false := by
  decide +kernel
theorem test_wf_supply : (Instr.computePhase { Snapshot.quiet with io := { Snapshot.quiet.io with v := 65536 } }).wellFormed = false := by decide +kernel
theorem test_wf_supplyB : (Instr.computePhase { Snapshot.quiet with io := { Snapshot.quiet.io with vB := 65536 } }).wellFormed = false := by decide +kernel
/-- A word read, a word trapped on and a word flipped exist (R439). -/
theorem test_wf_reads : (Instr.computePhase { Snapshot.quiet with reads := [(passWords, .scrubber)] }).wellFormed = false := by decide +kernel
theorem test_wf_writes : (Instr.computePhase { Snapshot.quiet with writes := [⟨sramWords, true, none⟩] }).wellFormed = false := by decide +kernel
/-- A byte that came out wrong is a byte of the copy in pages 0 to 255 (R432). -/
theorem test_wf_copy : (Instr.powerOn { pins with copyWrong := [(8 * codeWords, 0)] }).wellFormed = false := by decide +kernel
theorem test_wf_trap : (Instr.coreTrap (.memory passWords) false).wellFormed = false := by decide +kernel
theorem test_wf_flip : (Instr.sramBitFlip (passWords + 16) 1).wellFormed = false ∧ (Instr.sramBitFlip 0 0).wellFormed = false := by decide +kernel
/-- Frames of 64, 32, 96 and 120 bytes (R131, R372, R375). -/
theorem test_wf_frames : (Instr.upstreamFrame 0 (frame 65)).wellFormed = false ∧ (Instr.upstreamResendFrame 0 (frame 33)).wellFormed = false ∧
    (Instr.heartbeatReceived (frame 97)).wellFormed = false ∧ (Instr.copyFrame (List.replicate 121 0) ⟨0, true, false⟩ (.unit ⟨.run, 0⟩)).wellFormed = false := by decide +kernel
/-- Four identity pages of nine bytes (R146). -/
theorem test_wf_page : (Instr.identPage 0 4 (List.replicate 9 0)).wellFormed = false ∧ (Instr.identPage 0 0 (List.replicate 8 0)).wellFormed = false := by
  decide +kernel
theorem test_wf_param : (Instr.paramValue 0 65536 0).wellFormed = false ∧ (Instr.paramRefused 0 65536 0).wellFormed = false ∧
    (Instr.paramRefused 0 0 256).wellFormed = false ∧ (Instr.faultReport 0 (List.replicate 11 0)).wellFormed = false := by decide +kernel
theorem test_wf_table : (Instr.tableEntryWrite req 0 false 256 0).wellFormed = false := by decide +kernel
theorem test_wf_blocks : (Instr.readBlock req 0 (2 ^ 32)).wellFormed = false ∧ (Instr.writeBlock req 0 (2 ^ 32) []).wellFormed = false ∧
    (Instr.writeBlock req 0 1 (List.replicate 16383 0)).wellFormed = false := by decide +kernel
theorem test_wf_image : (Instr.imageStageBegin req 0 (2 ^ 32)).wellFormed = false ∧ (Instr.imageStageData req (2 ^ 32) []).wellFormed = false ∧
    (Instr.fwStageBegin req (2 ^ 32)).wellFormed = false ∧ (Instr.fwStageData req (2 ^ 32) []).wellFormed = false := by decide +kernel
theorem test_wf_data (d : List Byte) (h : d.length = 65521) : (Instr.imageStageData req 0 d).wellFormed = false ∧
    (Instr.fwStageData req 0 d).wellFormed = false := by simp [Instr.wellFormed, h]
theorem test_wf_positions : (Instr.homePositionFound 0 (2 ^ 31)).wellFormed = false ∧ (Instr.homePositionFound 0 (-2 ^ 31 - 1)).wellFormed = false ∧
    (Instr.leafEvaluation 0 (2 ^ 31)).wellFormed = false ∧ (Instr.leafEvaluation 0 (-2 ^ 31 - 1)).wellFormed = false := by decide +kernel
/-- A telegram has at most 64 bytes. -/
theorem test_wf_telegrams : (Instr.safeTelegramCopy 0 true (List.replicate 65 0)).wellFormed = false ∧
    (Instr.doorStateReceived true (List.replicate 65 0)).wellFormed = false := by decide +kernel
/-- Identifiers, DLC, data, and no remote FD frame (R345, R347). -/
theorem test_wf_can : ({ canFrame with id := 2048 } : CanFrame).wellFormed = false ∧ ({ canFrame with ide := true, id := 2 ^ 29 } : CanFrame).wellFormed = false ∧
    ({ canFrame with dlc := 16 } : CanFrame).wellFormed = false ∧ ({ canFrame with data := List.replicate 65 0 } : CanFrame).wellFormed = false ∧
    ({ canFrame with fdf := true, rtr := true } : CanFrame).wellFormed = false := by decide +kernel
/-- Error kinds are 1 to 6 (R365). -/
theorem test_wf_errors : (Instr.txError 0 0 0 false).wellFormed = false ∧ (Instr.txError 0 0 7 false).wellFormed = false ∧
    (Instr.canReceiveError 0 0 false).wellFormed = false ∧ (Instr.canReceiveError 0 7 false).wellFormed = false := by decide +kernel
theorem test_wf_log : (Instr.logRead req (2 ^ 32) 1 []).wellFormed = false ∧ (Instr.logRead req 0 256 []).wellFormed = false ∧
    (Instr.logRead req 0 1 (List.replicate 16 ⟨0, none⟩)).wellFormed = false ∧ (Instr.logErase req (2 ^ 32) (List.replicate 32 0)).wellFormed = false ∧
    (Instr.logErase req 0 []).wellFormed = false := by decide +kernel
theorem test_wf_erased : (Instr.logBlockErased 65536 none).wellFormed = false ∧ (Instr.logBlockErased 0 (some 0)).wellFormed = false ∧
    (Instr.logBlockErased 0 (some 3)).wellFormed = false := by decide +kernel
theorem test_wf_handshake : (Instr.sessionOpen ⟨none, 0, true, [.aes256], true, true, false, true, List.replicate 256 ⟨true, true, true, true, none⟩, [], [], []⟩).wellFormed = false ∧
    (Instr.sessionOpen ⟨none, 0, true, [.aes256], true, true, false, true, [], List.replicate 256 .observer, [], []⟩).wellFormed = false := by decide +kernel
theorem test_wf_subscribe : (Instr.subscribeSet req (List.replicate 16381 (0, 0))).wellFormed = false ∧
    (Instr.subscribeAdd req (List.replicate 16381 (0, 0))).wellFormed = false := by decide +kernel
theorem test_wf_enrol (d : List Byte) (h : d.length = 65536) : (Instr.enrol req 0 d []).wellFormed = false ∧ (Instr.enrol req 0 [] d).wellFormed = false := by
  simp [Instr.wellFormed, h]
theorem test_wf_network : (Instr.dhcpLease 0 33).wellFormed = false ∧ (Instr.censusReceive (List.replicate 1473 0)).wellFormed = false := by decide +kernel

/-! ## A module that runs -/

/-- Port 31, doorway 15 with axis 63 as its leaf, axis 62 a stepper with an encoder, a hinge pair, and every input of doorway 15 and
of the left side wired. -/
def settings : List (Nat × Nat × Int) :=
  [(F.portMode, 31, 1), (F.doorUsed, 15, 1), (F.doorAxis, 60, 63), (F.doorAxis, 61, 255), (F.doorAxis, 62, 255), (F.doorAxis, 63, 255),
   (F.axisKind, 63, 1), (F.axisKind, 62, 2), (F.stepEncoder, 62, 1),
   (F.hingeMode, 0, 1), (F.buttonIn, 15, 0), (F.buttonOut, 15, 1), (F.buttonEnable, 15, 1), (F.isolatedInput, 15, 2),
   (F.egressPair, 15, 159), (F.pairChA, 31, 60), (F.pairChB, 31, 62), (F.autoCloseMs, 15, 1000), (F.sideOpenInput, 0, 3),
   (F.sideCloseInput, 1, 4), (F.fcMode, 63, 1), (F.fcMode, 60, 2), (F.fcMode, 56, 3), (F.fcMode, 58, 4), (F.anMode, 3, 1), (F.censusEnable, 0, 1),
   (F.sessionIdleS, 0, 60)]

/-- The configuration with these items set and all others at default. -/
def cfg : Cfg :=
  ⟨((List.range 230).map fun f => (settings.filter fun x => x.1 == f).foldl (fun a x =>
      (if a.size = 0 then defaultItems (fieldDef f) else a).setIfInBounds x.2.1 x.2.2) #[]).toArray, [], []⟩

/-- Session 0, a MAINTAINER. -/
def maintainer : Session := Session.fresh .maintainer 0 0 [] (some 0) 0 .aes256 [] 0

/-- A module of a hinge pair in RUN, ALONE, with the session of a MAINTAINER that holds the unit, doorway 15 and axis 63, and both
sides released at zero speed. -/
def run : State :=
  { State.reset with
    tick := 100, up := 100
    unit := { UnitSt.reset with st := .run }
    cfg := { CfgSt.reset with eff := cfg, loaded := true }
    hinge := { Hinge.reset with role := .alone }
    il := { Interlock.reset with release := 7 }
    io := { FieldIo.reset with sup := { FieldSupply.reset with invalid := false, dropped := false } }
    kw := { Keyway.reset with
      sess := Keyway.reset.sess.set 0 (some maintainer)
      unitClaim := some 0
      doorClaim := Keyway.reset.doorClaim.set 15 (some 0)
      axisClaim := Keyway.reset.axisClaim.set 63 (some 0) } }

theorem asks_run (k : Ask) : Asks run req maintainer k :=
  ⟨rfl, rfl, by decide, ⟨rfl, rfl⟩, by decide +kernel, by decide +kernel, by cases k <;> decide +kernel⟩
theorem writer_run : Writer run req maintainer := ⟨rfl, rfl, by decide, ⟨rfl, rfl⟩, by decide +kernel, by decide, by decide +kernel, rfl, by decide +kernel⟩
theorem holds_unit : Holds run req maintainer .unit := ⟨rfl, rfl⟩
theorem holds_door : Holds run req maintainer (.door 15) := ⟨rfl, rfl⟩
theorem holds_axis : Holds run req maintainer (.axis 63) := ⟨rfl, rfl⟩
theorem stagePort_run : StagePort run 31 := ⟨rfl, rfl, by decide +kernel⟩
theorem doorRuns_run : DoorRuns run 15 := ⟨rfl, rfl, by decide +kernel⟩
theorem pairRuns_run : PairRuns run := ⟨rfl, by decide +kernel, by decide, by decide⟩
theorem writer_of {s : State} (k : s.kw = run.kw) (u : s.unit = run.unit) (h : s.hinge = run.hinge) : Writer s req maintainer :=
  ⟨by rw [k]; rfl, by rw [u]; rfl, by decide, ⟨rfl, rfl⟩, by unfold State.mustWait; rw [k, h]; rfl, by decide, by unfold State.writesOpen State.held; rw [u, h]; decide +kernel, by rw [h]; rfl, by rw [h]; decide +kernel⟩
theorem asks_of {s : State} {q : Ask} (k : s.kw = run.kw) (u : s.unit = run.unit) (h : s.hinge.waiting = []) : Asks s req maintainer q :=
  ⟨by rw [k]; rfl, by rw [u]; rfl, by decide, ⟨rfl, rfl⟩, by unfold State.outstanding; rw [h, k]; exact (by decide : 0 < 32), by unfold State.mustWait; rw [k, h]; rfl, by unfold State.bars State.held State.recovery; rw [u]; cases q <;> decide +kernel⟩
/-! ## States and operands that meet the hypotheses of the statements -/

/-- `run` with its port 31, axis 63, doorway 15, load switch 15, channel 63, CAN B replaced. -/
def port (p : Port) : State := { run with ports := run.ports.set 31 p }
def unit (u : UnitSt) : State := { run with unit := u }
def panel (p : Panel) : State := { run with panel := p }

theorem witness_StepRunsFront : (∃ (s : State) (c : Instr) (rest : List Instr), s.pending = c :: rest) ∧ ∃ s : State, s.pending = [] :=
  ⟨⟨{ run with pending := [.coverOpen] }, .coverOpen, [], rfl⟩, run, rfl⟩
theorem witness_StepKeepsScratch : ∃ s t : State, ScratchWf s ∧ step s = .next t := ⟨run, run, by unfold ScratchWf; decide +kernel, rfl⟩
theorem witness_StepKeepsBoltOff : ∃ s t : State, StoppedBoltOff s ∧ LatchedBoltOff s ∧ step s = .next t :=
  ⟨run, run, fun _ => rfl, fun _ => rfl, rfl⟩
theorem witness_LatchedBoltFaultLasts : ∃ (c : Instr) (s t : State), LatchedBoltOff s ∧ (∀ p, c ≠ .powerOn p) ∧ exec c s = .next t ∧
    s.il.bolt.latched.getLsbD 3 = true :=
  ⟨.coverClosed, { run with il := { run.il with bolt := { run.il.bolt with latched := 8 } } }, _, fun _ => rfl, fun _ => nofun, rfl, by decide +kernel⟩
theorem witness_WhatEveryCommandKeeps : ∃ (c : Instr) (s : State), (∀ p, c ≠ .powerOn p) ∧ (∀ x, c ≠ .computePhase x) ∧
    (∀ fw, c ≠ .stageWriteComplete fw) ∧ (∀ ok parity, c ≠ .pageCommit ok parity) ∧ s.unit.running = false :=
  ⟨.coverOpen, unit { run.unit with running := false }, fun _ => nofun, fun _ => nofun, fun _ => nofun, fun _ _ => nofun, rfl⟩

/-- A firmware slot of one byte, its hash in place and its signature zero. -/
def firmware : List Byte :=
  [0x5A, 0x46, 0x57, 0x52] ++ leBytes 2 1 ++ leBytes 2 0x6432 ++ leBytes 4 1 ++ leBytes 4 0 ++ leBytes 4 1 ++ leBytes 4 0 ++ sha256 [0] ++
    List.replicate 72 0 ++ List.replicate 64 0 ++ List.replicate 64 0 ++ [0]
theorem firmware_header : slice firmware 0 4 = [0x5A, 0x46, 0x57, 0x52] ∧ fwHeaderOk firmware = true ∧
    sha256 (slice firmware 256 (leAt firmware 16 4)) = slice firmware 24 32 ∧ leAt firmware 12 4 = 0 := by decide +kernel
/-- The signature of `firmware` passes. What ECDSA answers is an open value of the model, so it is a hypothesis. -/
def FirmwareSigned : Prop :=
  Config.ecdsaVerify Config.firmwareKey (firmware.take 128) (leAt firmware 128 32) (leAt firmware 160 32) = true
theorem firmware_boots (h : FirmwareSigned) : fwCheck firmware 0 = .wouldBoot := by
  obtain ⟨a, b, c, d⟩ := firmware_header
  unfold fwCheck; simp only [a, b, c, d]; unfold FirmwareSigned at h; simp [h]
theorem copy_right : sha256 (copyOf [0] []) = sha256 [0] ∧ sha256 (copyOf [0] [(0, 1)]) ≠ sha256 [0] := by decide +kernel
theorem witness_PowerOnStartsBoot : (∃ s : State, s.fw.choose s.se.rollback = none) ∧ pins.addressOk = true ∧
    ({ pins with readings := [] } : PowerUp).addressOk = false ∧
    (FirmwareSigned → ∃ (s : State) (k : Bool), s.fw.choose s.se.rollback = some k) :=
  ⟨⟨run, by decide +kernel⟩, by decide +kernel, by decide +kernel, fun h =>
    ⟨{ run with fw := { run.fw with fw := #v[firmware, firmware] } }, false, by
      have e : run.se.rollback = 0 := rfl
      unfold Firmware.choose; simp [e, firmware_boots h]⟩⟩
/-- A recorder to mount, with one valid page of the log at the end of block 4. -/
def oneLogPage : Rec :=
  { run.recorder with nand := { run.recorder.nand with pages := [⟨319, List.replicate 4064 0, [], 0⟩] } }
/-- Writing resumes after the page, or on page 256 of an empty log. -/
theorem witness_ConfigTriesBothSlots : (∃ s : State, s.unit.running = true ∧ s.unit.st = .boot) ∧
    (∃ s : State, s.unit.running = true ∧ s.unit.st ≠ .boot ∧ s.recorder.st = .mounting ∧
      (s.recorder.nand.asRead []).pages.filter (fun p => p.valid s.se.eraseCount && decide (256 ≤ p.phys)) = [] ∧
      ∀ p ∈ (s.recorder.nand.asRead []).pages, leAt p.bytes 16 4 = s.se.eraseCount → p.phys < 256) ∧
    ∃ s : State, s.unit.running = true ∧ s.unit.st ≠ .boot ∧ s.recorder.st = .mounting ∧
      (∃ p ∈ (s.recorder.nand.asRead []).pages.filter (fun p => p.valid s.se.eraseCount && decide (256 ≤ p.phys)), p.phys + 1 = 320) ∧
      ∀ p ∈ (s.recorder.nand.asRead []).pages, leAt p.bytes 16 4 = s.se.eraseCount → p.phys < 320 :=
  ⟨⟨State.reset, rfl, rfl⟩, ⟨run, rfl, by decide, rfl, by decide +kernel, by decide +kernel⟩,
    { run with recorder := oneLogPage }, rfl, by decide, rfl, by decide +kernel, by decide +kernel⟩
theorem witness_SupplyAndWarnings : (∃ s : State, s.unit.running = true ∧ s.panel.holdup = false) ∧
    ∃ s : State, s.unit.running = true ∧ s.panel.holdup = true := ⟨⟨run, rfl, rfl⟩, panel { run.panel with holdup := true }, rfl, rfl⟩
theorem witness_SupplyAndWarnings_warnings : (∃ s : State, s.unit.running = true ∧ s.panel.supplyHigh = false ∧ s.panel.housingHot = false) ∧
    ∃ (s : State) (reading : BitVec 10), s.unit.running = true ∧ s.unit.st ≠ .boot ∧ s.panel.addrValid = true ∧ s.panel.addrDiff ≠ 3 ∧
      reading ≠ s.panel.pinsUsed :=
  ⟨⟨run, rfl, rfl, rfl⟩, panel { run.panel with addrValid := true, addrDiff := 2 }, 0x3FF, rfl, by decide, rfl, by decide, by decide⟩
/-- Axis 63 with its soft limits at -10 and 10. -/
def limited : AxIn := { run.axIn 63 with cfg := (cfg.set F.softMin 63 (-10)).set F.softMax 63 10 }
/-- An axis, homed or not. -/
def axisRun (homed : Bool) : AxRun :=
  ⟨{ Axis.reset with mot := { MotionSt.reset with home := { MotionSt.reset.home with homed := homed } } }, []⟩
/-- Targets beyond either limit and on it, and one of an axis that is not homed. -/
theorem witness_TargetsAreClamped : ∀ t ∈ [-11, -10, 10, 11], ∃ (r : AxRun) (i : AxIn),
    i.cfg.v F.softMin i.a = -10 ∧ i.cfg.v F.softMax i.a = 10 ∧ -(2 ^ 31) ≤ t ∧ t < 2 ^ 31 ∧ r.ax.mot.limNeg.active = false ∧
      r.ax.mot.limPos.active = false ∧ r.ax.mot.home.homed = true ∧ (axisRun false).ax.mot.home.homed = false ∧
      (r.take i t .planner true).ax.mot.target = max (-10) (min 10 t) := by
  intro t ht
  refine ⟨axisRun true, limited, by decide +kernel, by decide +kernel, ?_⟩
  simp only [List.mem_cons, List.not_mem_nil, or_false] at ht
  rcases ht with rfl | rfl | rfl | rfl <;> decide +kernel
/-- `run` at tick `up` since the start with the press of RESET accepted at tick 5. -/
def pressedAt (up : Nat) : State := { panel { run.panel with rst := { run.panel.rst with pressed := true, live := true, since := 5 } } with up := up }
/-- H is 1,000 and 160,000 ticks at the ends of the range that resets (R53). -/
theorem witness_ResetInput : (∃ s : State, s.unit.running = true ∧ s.panel.rst.pressed = false ∧ s.panel.rst.armed = false) ∧
    (∃ s : State, s.unit.running = true ∧ s.panel.rst.pressed = true ∧ s.panel.rst.live = true ∧ min 160001 (s.up - s.panel.rst.since) = 1000) ∧
    (∃ s : State, s.unit.running = true ∧ s.panel.rst.pressed = true ∧ s.panel.rst.live = true ∧ min 160001 (s.up - s.panel.rst.since) = 160000) ∧
    ∃ s : State, s.unit.running = true ∧ s.panel.rst.pressed = true ∧ ¬(s.panel.rst.live = true ∧ 1000 ≤ min 160001 (s.up - s.panel.rst.since) ∧
      min 160001 (s.up - s.panel.rst.since) ≤ 160000) :=
  ⟨⟨run, rfl, rfl, rfl⟩, ⟨pressedAt 1005, rfl, rfl, rfl, by decide +kernel⟩, ⟨pressedAt 160005, rfl, rfl, rfl, by decide +kernel⟩,
    pressedAt 1004, rfl, rfl, by decide +kernel⟩
theorem witness_WardSwitchesAndCover : (∃ (s : State) (k : Fin 12) (on : Bool), s.unit.running = true ∧ s.panel.ward.getLsbD k.val ≠ on ∧ k.val < 9 ∧
      s.unit.st ≠ .boot ∧ s.unit.st ≠ .config) ∧
    (∃ (s : State) (k : Fin 12) (on : Bool), s.unit.running = true ∧ s.panel.ward.getLsbD k.val ≠ on ∧ k.val = 11 ∧ on = true) ∧
    (∃ (s : State) (k : Fin 12) (on : Bool), s.unit.running = true ∧ s.panel.ward.getLsbD k.val ≠ on ∧ k.val = 9 ∧ on = true ∧ s.unit.st = .run ∧
      s.panel.ward.getLsbD 8 = false ∧ s.panel.ward.getLsbD 9 = false) ∧
    (∃ s : State, s.unit.running = true ∧ s.panel.coverOpen = false ∧ s.unit.st = .boot) ∧
    ∃ s : State, s.unit.running = true ∧ s.panel.coverOpen = false ∧ s.unit.st ≠ .boot :=
  ⟨⟨run, 8, true, rfl, by decide, by decide, by decide, by decide⟩, ⟨run, 11, true, rfl, by decide, rfl, rfl⟩,
    ⟨run, 9, true, rfl, by decide, rfl, rfl, rfl, by decide, by decide⟩, ⟨State.reset, rfl, rfl, rfl⟩, run, rfl, rfl, by decide⟩
theorem witness_HoldCauses : ∃ (s : State) (k : Fin 8), s.unit.running = true ∧ s.unit.st ≠ .boot ∧ s.unit.st ≠ .faultHeld ∧ s.unit.st ≠ .unconfigured ∧
    fixedDomains.getLsbD k.val = true ∧ (s.axes[(63 : AxisId)]).mot.home.phase ≠ .none :=
  ⟨{ run with axes := run.axes.set 63 { Axis.reset with mot := { MotionSt.reset with home := { MotionSt.reset.home with phase := .toward } } } }, 1, rfl,
    by decide, by decide, by decide, by decide, by decide +kernel⟩
/-- `run` without a hinge pair. -/
def single : State := { run with cfg := { run.cfg with eff := cfg.set F.hingeMode 0 0 } }
theorem witness_ComputePhaseEndsTick : (∃ s : State, s.unit.running = true ∧ (s.unit.st = .boot ∨ s.unit.st = .config) ∧ s.hinge.nextTick = none ∧
      s.panel.rst.pressed = false ∧ s.kw.later = []) ∧
    (∃ s : State, s.unit.running = true ∧ s.held = true ∧ s.hinge.waiting = [] ∧ s.kw.later = [] ∧
      ∃ b : BusId, (s.can[b]).sending = none ∧ (s.can[b]).onBus = false) ∧
    ∃ (s : State) (x : Snapshot), s.unit.running = true ∧ s.unit.st = .run ∧ s.hinge.role = .alone ∧ s.cfg.eff.n F.hingeMode 0 ≠ 1 ∧ s.hinge.rounds = none ∧
      s.hinge.nextTick = none ∧ s.hinge.waiting = [] ∧ s.kw.later = [] ∧ s.cfg.writes = [] ∧ s.panel.rst.pressed = false ∧ x.locks = 0xFF ∧ x.reads = [] ∧ x.writes = [] ∧
      s.cfg.eff.n F.portMode 31 = 1 ∧ s.cfg.eff.n F.portMode 0 ≠ 1 :=
  ⟨⟨State.reset, rfl, .inl rfl, rfl, rfl, rfl⟩,
    ⟨unit { run.unit with st := .faultHeld }, rfl, by decide +kernel, rfl, rfl, 0, by decide +kernel, by decide +kernel⟩,
    single, .quiet, rfl, rfl, rfl, by decide +kernel, rfl, rfl, rfl, rfl, rfl, rfl, rfl, rfl, rfl, by decide +kernel, by decide +kernel⟩
/-- Loops V and F with outputs, E at 0, and the loop selected before. -/
def loops (v f : Int) (p : Option Loop) : LoopSt :=
  { LoopSt.reset with lv := { LoopSt.reset.lv with out := v }, lf := { LoopSt.reset.lf with out := f }, sel := p }
/-- Equals go to the loop before, then to the order V, F, E; a braking output wins. -/
theorem witness_LowestLoopWins : selectLoop (loops 0 0 (some .e)) = .e ∧ selectLoop (loops 0 0 none) = .v ∧
    selectLoop (loops 1 0 (some .v)) = .f ∧ selectLoop (loops 1 1 (some .f)) = .e ∧ selectLoop (loops 0 (-1) (some .v)) = .f := by decide +kernel
theorem witness_BoltOnlyInRun : ∃ (s t : State) (x : Snapshot), s.unit.running = true ∧ s.hinge.waiting = [] ∧ s.kw.later = [] ∧
    exec (.computePhase x) s = .next t ∧ t.unit.st ≠ .run := by
  refine ⟨State.reset, _, .quiet, rfl, rfl, rfl, rfl, ?_⟩
  decide +kernel
/-- Channel inputs of a module in RUN with one doorway, CLOSED_LOCKED in both channels or without a closure word. -/
def boltOf (w : Option ClosureWord) (inB : BitVec 4) : BoltIn :=
  { run.boltIn .quiet with fieldA := true, fieldB := true, coreLine := true, doors := [⟨true, true, false, true, true, 3, inB, w, false, false, false⟩] }
/-- Both channels true drive all four switches; without a word and without the isolating inputs channel B alone is false, and differs. -/
theorem witness_BoltOnlyInRun_decision :
    (((⟨run.il, []⟩ : LockRun).decide40 (boltOf (some ⟨100, .closedLocked, true, true, 0⟩) 3)).il.bolt.switches = 15) ∧
    (((⟨run.il, []⟩ : LockRun).decide40 (boltOf none 3)).il.bolt.switches = 3) ∧
    (((⟨run.il, []⟩ : LockRun).decide40 (boltOf none 3)).il.bolt.differed = true) ∧ (boltOf none 3).run = true := by decide +kernel

/-! ### Stage ports -/

/-- An upstream payload of channel number `k` and tick 100. -/
def upstream (k : Byte) : List Byte := ((List.replicate 64 0).set 39 k).set 4 100
/-- A frame with its CRC. -/
def whole (p : List Byte) : WireFrame := ⟨p, crc32 p, true, false, false⟩
theorem witness_UpstreamFrame : (∃ (s : State) (f : WireFrame), StagePort s 31 ∧ f.parity = false ∧ f.late = true) ∧
    (∃ (s : State) (f : WireFrame), StagePort s 31 ∧ f.parity = false ∧ f.late = false ∧ frameGood 64 f.payload f.crc f.lineOk = false) ∧
    (∃ (s : State) (f : WireFrame), StagePort s 31 ∧ f.parity = false ∧ f.late = false ∧ frameGood 64 f.payload f.crc f.lineOk = true ∧
      leAt f.payload 39 1 = 31 ∧ BitVec.ofNat 32 (leAt f.payload 4 4) = s.tick) ∧
    ∃ (s : State) (f : WireFrame), StagePort s 31 ∧ f.parity = false ∧ f.late = false ∧ frameGood 64 f.payload f.crc f.lineOk = true ∧
      ¬(leAt f.payload 39 1 = 31 ∧ BitVec.ofNat 32 (leAt f.payload 4 4) = s.tick) :=
  ⟨⟨run, { frame 64 with late := true }, stagePort_run, rfl, rfl⟩, ⟨run, { frame 64 with lineOk := false }, stagePort_run, rfl, rfl, rfl⟩,
    ⟨run, whole (upstream 31), stagePort_run, rfl, rfl, by decide +kernel, by decide +kernel, by decide +kernel⟩,
    run, whole (upstream 30), stagePort_run, rfl, rfl, by decide +kernel, by decide +kernel⟩
theorem witness_UpstreamRecovery : (∃ s : State, StagePort s 31 ∧ (s.ports[31]).whole = false ∧ (s.ports[31]).rq = false) ∧
    ∃ (s : State) (f : WireFrame), StagePort s 31 ∧ (s.ports[31]).rq = true ∧ f.parity = false ∧ f.late = false ∧
      frameGood 32 f.payload f.crc f.lineOk = true ∧ BitVec.ofNat 32 (leAt f.payload 4 4) = s.tick :=
  ⟨⟨run, stagePort_run, by decide +kernel, by decide +kernel⟩, port { Port.reset with rq := true }, whole ((List.replicate 32 0).set 4 100), stagePort_run,
    by decide +kernel, rfl, rfl, by decide +kernel, by decide +kernel⟩
theorem witness_ThirdMissedTickLosesLink :
    (∃ s : State, StagePort s 31 ∧ (s.ports[31]).good = false ∧ (s.ports[31]).missedNow = false ∧ ((s.ports[31]).st ≠ .ready ∨ (s.ports[31]).missRun < 2)) ∧
    (∃ s : State, StagePort s 31 ∧ (s.ports[31]).good = false ∧ (s.ports[31]).missedNow = false ∧ (s.ports[31]).st = .ready ∧ 2 ≤ (s.ports[31]).missRun) ∧
    ∃ s : State, s.unit.running = true ∧ s.sending = true ∧ (s.ports[31]).st = .ready :=
  ⟨⟨port { Port.reset with st := .ready, missRun := 1 }, stagePort_run, by decide +kernel, by decide +kernel, by decide +kernel⟩,
    ⟨port { Port.reset with st := .ready, missRun := 2 }, stagePort_run, by decide +kernel, by decide +kernel, by decide +kernel, by decide +kernel⟩,
    port { Port.reset with st := .ready }, rfl, by decide +kernel, by decide +kernel⟩
theorem witness_DownstreamRecovery : (∃ s : State, s.unit.running = true ∧ (s.ports[31]).sent.isSome = true ∧ (s.ports[31]).nak = false) ∧
    (∃ (s : State) (bs : List Byte), s.unit.running = true ∧ (s.ports[31]).sent = some bs ∧ (bs.getD 0 0).getLsbD 0 = true ∧ (s.ports[31]).nak = true ∧
      (s.ports[31]).resent = false) ∧
    (∃ s : State, s.unit.running = true ∧ s.cfg.loaded = true) ∧
    ∃ s : State, s.unit.running = true ∧ s.sending = true ∧ (s.ports[31]).st = .lost ∧ (s.ports[31]).restoring = false :=
  ⟨⟨port { Port.reset with sent := some [1] }, rfl, by decide +kernel, by decide +kernel⟩,
    ⟨port { Port.reset with sent := some [1], nak := true }, [1], rfl, by decide +kernel, by decide +kernel, by decide +kernel, by decide +kernel⟩, ⟨run, rfl, rfl⟩,
    port { Port.reset with st := .lost }, rfl, by decide +kernel, by decide +kernel, by decide +kernel⟩

/-- `run` with a stage parameter for port 31. -/
def parametrised (p : Port) : State :=
  { port p with cfg := { run.cfg with eff := { cfg with params := [⟨0, 31, 65535, 7⟩] } } }
theorem stagePort_parametrised (p : Port) : StagePort (parametrised p) 31 := ⟨rfl, rfl, show ({ cfg with params := [⟨0, 31, 65535, 7⟩] } : Cfg).n F.portMode 31 = 1 by decide +kernel⟩
/-- The identity of a stage for port 31 with a stepper on channel 0 and a BLDC motor on channel 1. -/
def identity : List Byte := [0, 0, 0, 0, 1, 0, 31, 6] ++ List.replicate 28 0
/-- Port 31 with all pages but the last. -/
def asked (bs : List Byte) : Port := { Port.reset with disc := .pages, pages := 7, ident := bs }
theorem witness_StageDiscovery :
    (∃ s : State, StagePort s 31 ∧ (s.ports[31]).disc = .pages ∧ (s.ports[31]).pages ||| BitVec.ofNat 4 (2 ^ 3) ≠ 15) ∧
    (∃ (s : State) (data : List Byte), StagePort s 31 ∧ (s.ports[31]).disc = .pages ∧ (s.ports[31]).pages ||| BitVec.ofNat 4 (2 ^ 3) = 15 ∧
      identReason s.cfg.eff 31 { s.ports[31] with
        ident := (s.ports[31]).ident.take 27 ++ (data ++ List.replicate 9 0).take 9 ++ (s.ports[31]).ident.drop 36 } ≠ 0) ∧
    (∃ (s : State) (data : List Byte), StagePort s 31 ∧ (s.ports[31]).disc = .pages ∧ (s.ports[31]).pages ||| BitVec.ofNat 4 (2 ^ 3) = 15 ∧
      portParams s.cfg.eff 31 = [] ∧ identReason s.cfg.eff 31 { s.ports[31] with
        ident := (s.ports[31]).ident.take 27 ++ (data ++ List.replicate 9 0).take 9 ++ (s.ports[31]).ident.drop 36 } = 0) ∧
    (∃ (s : State) (data : List Byte), StagePort s 31 ∧ (s.ports[31]).disc = .pages ∧ (s.ports[31]).pages ||| BitVec.ofNat 4 (2 ^ 3) = 15 ∧
      portParams s.cfg.eff 31 ≠ [] ∧ identReason s.cfg.eff 31 { s.ports[31] with
        ident := (s.ports[31]).ident.take 27 ++ (data ++ List.replicate 9 0).take 9 ++ (s.ports[31]).ident.drop 36 } = 0) ∧
    (∃ (s : State) (q : StageParam) (value : BitVec 64), StagePort s 31 ∧ (s.ports[31]).disc = .params 0 ∧ (portParams s.cfg.eff 31)[0]? = some q ∧
      (portParams s.cfg.eff 31)[1]? = none ∧ value ≠ q.value) ∧
    ∃ (s : State) (q q' : StageParam), StagePort s 31 ∧ (s.ports[31]).disc = .params 0 ∧ (portParams s.cfg.eff 31)[0]? = some q ∧
      (portParams s.cfg.eff 31)[1]? = some q' :=
  ⟨⟨port { Port.reset with disc := .pages }, stagePort_run, by decide +kernel, by decide +kernel⟩,
    ⟨port (asked (List.replicate 36 0)), [], stagePort_run, by decide +kernel, by decide +kernel, by decide +kernel⟩,
    ⟨port (asked identity), [], stagePort_run, by decide +kernel, by decide +kernel, by decide +kernel, by decide +kernel⟩,
    ⟨parametrised (asked identity), [], stagePort_parametrised _, by decide +kernel, by decide +kernel, by decide +kernel, by decide +kernel⟩,
    ⟨parametrised { Port.reset with disc := .params 0 }, ⟨0, 31, 65535, 7⟩, 8, stagePort_parametrised _, by decide +kernel, by decide +kernel,
      by decide +kernel, by decide⟩,
    { parametrised { Port.reset with disc := .params 0 } with
      cfg := { run.cfg with eff := { cfg with params := [⟨0, 31, 0, 7⟩, ⟨1, 31, 65535, 0⟩] } } }, ⟨0, 31, 0, 7⟩, ⟨1, 31, 65535, 0⟩,
      ⟨rfl, rfl, by show _ = _; decide +kernel⟩, by decide +kernel, by decide +kernel, by decide +kernel⟩
theorem witness_PortsWithoutStage :
    (∃ s : State, s.unit.running = true ∧ s.cfg.loaded = true ∧ s.cfg.eff.n F.portMode 0 ≠ 1 ∧ (s.ports[0]).st = .unused) ∧
    (∃ s : State, s.unit.running = true ∧ s.unit.st = .discover ∧ s.cfg.eff.n F.portMode 31 = 1 ∧ (s.ports[31]).st = .discovering ∧ (s.ports[31]).pages ≠ 15) :=
  ⟨⟨run, rfl, rfl, by decide +kernel, by decide +kernel⟩,
    { port { Port.reset with st := .discovering } with unit := { run.unit with st := .discover } }, rfl, rfl, by decide +kernel, by decide +kernel,
      by decide +kernel⟩

/-! ### Requests of hosts -/

/-- `run` with session 0 as another role. -/
def sender (x : Session) : State := { run with kw := { run.kw with sess := run.kw.sess.set 0 (some x) } }
def trace (t : TraceSt) : State := { run with trace := t }
theorem witness_TraceCommands :
    (∃ s : State, Writer s req maintainer ∧ Holds s req maintainer .unit ∧ s.trace.active = false ∧ s.trace.armReq = none ∧ s.trace.stopReq = none) ∧
    (∃ s : State, Writer s req maintainer ∧ Holds s req maintainer .unit ∧ s.trace.active = true ∧ s.trace.st = .armed ∧ s.trace.armReq = none) ∧
    ∃ s : State, Writer s req maintainer ∧ Holds s req maintainer .unit ∧ s.trace.st = .triggered ∧ operating s.unit.st = true :=
  ⟨⟨run, writer_run, holds_unit, by decide +kernel, rfl, rfl⟩,
    ⟨trace { run.trace with st := .armed }, writer_of rfl rfl rfl, holds_unit, by decide +kernel, rfl, rfl⟩,
    trace { run.trace with st := .triggered }, writer_of rfl rfl rfl, holds_unit, rfl, rfl⟩
/-- Load switch 15 and the recorder of `run` replaced. -/
def loadSw (x : LoadSwitch) : State := { run with io := { run.io with ls := run.io.ls.set 15 x } }
def recorder (rc : Rec) : State := { run with recorder := rc }
theorem witness_UnitCommands :
    (∃ s : State, Writer s req maintainer ∧ Holds s req maintainer .unit ∧ (s.ports[31]).st ≠ .mismatch ∧ (s.ports[31]).st ≠ .absent) ∧
    (∃ s : State, Writer s req maintainer ∧ Holds s req maintainer .unit ∧ (s.ports[31]).st = .absent) ∧
    (∃ s : State, Writer s req maintainer ∧ Holds s req maintainer .unit ∧ s.unit.st = .maintenance ∧ maintainer.role = .maintainer) ∧
    (∃ s : State, Writer s req maintainer ∧ Holds s req maintainer .unit ∧ (s.io.ls[15]).st = .lockout ∧ (s.io.ls[15]).latch = true) ∧
    (∃ s : State, Writer s req maintainer ∧ Holds s req maintainer .unit ∧ s.recorder.opened.data ≠ [] ∧ s.recorder.sealedPages.length < 3) ∧
    ∃ s : State, Writer s req maintainer ∧ Holds s req maintainer .unit ∧ s.recorder.opened.data = [] ∧ (63 : Word).toNat < 64 :=
  ⟨⟨run, writer_run, holds_unit, by decide +kernel, by decide +kernel⟩,
    ⟨port { Port.reset with st := .absent }, writer_of rfl rfl rfl, holds_unit, by decide +kernel⟩,
    ⟨unit { run.unit with st := .maintenance }, ⟨rfl, rfl, by decide, ⟨rfl, rfl⟩, by decide +kernel, by decide, by decide +kernel, rfl, by decide +kernel⟩, holds_unit, rfl, rfl⟩,
    ⟨loadSw { run.io.ls[15] with st := .lockout, latch := true }, writer_of rfl rfl rfl, holds_unit, by decide +kernel, by decide +kernel⟩,
    ⟨recorder { run.recorder with opened := { RecPage.empty with data := [0] } }, writer_of rfl rfl rfl, holds_unit, by decide +kernel, by decide +kernel⟩,
    run, writer_run, holds_unit, rfl, by decide⟩

/-- What a Bool finds of a result is so of one. -/
theorem ok_of {ε α : Type} {e : Except ε α} (h : (match e with | .ok _ => true | .error _ => false) = true) : ∃ a, e = .ok a := by
  cases e with
  | error c => cases h
  | ok a => exact ⟨a, rfl⟩
theorem error_of {ε α : Type} {e : Except ε α} (h : (match e with | .ok _ => false | .error _ => true) = true) : ∃ c, e = .error c := by
  cases e with
  | error c => exact ⟨c, rfl⟩
  | ok a => cases h
/-- A session of an OBSERVER. -/
def observer : Session := Session.fresh .observer 0 0 [] (some 0) 0 .aes256 [] 0
theorem asks_observer (k : Ask) : Asks (sender observer) req observer k := ⟨rfl, rfl, by decide, ⟨rfl, rfl⟩, by decide +kernel, by decide +kernel, by cases k <;> decide +kernel⟩
/-- `run` with a word in every page of host scratch. -/
def scratched : State := { run with mem := { run.mem with written := BitVec.allOnes 65536 } }
/-- `run` without the claim of the unit block. -/
def unclaimed : State := { run with kw := { run.kw with unitClaim := none } }
/-- `run` with the first word of the trace window poisoned, and a record that is done. -/
def windowLost : State := { run with mem := { run.mem with poisoned := [0x60000] } }
theorem asks_windowLost (k : Ask) : Asks windowLost req maintainer k := asks_of rfl rfl rfl
/-- RC registers with and without the claim; a word of the trace window that its SRAM word has lost. -/
theorem witness_ReadsAnswer_clears :
    (Asks run req maintainer .read ∧ maintainer.role.privileged = true ∧ run.holds req.sess .unit = true) ∧
    (Asks unclaimed req maintainer .read ∧ unclaimed.holds req.sess .unit = false) ∧
    (∃ w, Asks windowLost req maintainer .read ∧ (wordAddr 0x480000).isSome = true ∧ isScratch 0x480000 = false ∧
      (windowLost.heard req maintainer).peek req.sess maintainer.role.privileged 0x480000 = .ok w ∧ windowWord 0x480000 = some 0x60000 ∧
      windowLost.mem.poisoned.contains 0x60000 = true) ∧
    WindowsReadable run [0] ∧ WindowsReadable run [0x480000] := by
  refine ⟨⟨asks_run _, rfl, by decide +kernel⟩, ⟨⟨rfl, rfl, by decide, ⟨rfl, rfl⟩, by decide +kernel, by decide +kernel, by decide +kernel⟩, by decide +kernel⟩, ?_,
    fun _ _ _ _ => ⟨rfl, rfl⟩, fun _ _ _ _ => ⟨rfl, rfl⟩⟩
  obtain ⟨w, h⟩ := ok_of (e := (windowLost.heard req maintainer).peek req.sess maintainer.role.privileged 0x480000) (by decide +kernel)
  exact ⟨w, asks_windowLost _, by decide +kernel, by decide, h, by decide +kernel, by decide +kernel⟩
theorem witness_ReadsAnswer :
    (∃ w, Asks run req maintainer .read ∧ (wordAddr 0).isSome = true ∧ isScratch 0 = false ∧
      (run.heard req maintainer).peek req.sess maintainer.role.privileged 0 = .ok w) ∧
    (∃ c, Asks (sender observer) req observer .read ∧ (wordAddr 0x400004).isSome = true ∧ isScratch 0x400004 = false ∧
      ((sender observer).heard req observer).peek req.sess observer.role.privileged 0x400004 = .error c) ∧
    (Asks run req maintainer .read ∧ wordAddr 2 = none) ∧
    (Asks (sender observer) req observer .read ∧ (0x0103FFFC : Nat) % 4 = 0 ∧ isScratch 0x0103FFFC = true ∧ observer.role.privileged = false) ∧
    (Asks run req maintainer .read ∧ maintainer.role.privileged = true ∧ run.mem.written.getLsbD (scratchIndex 0x0103FFFC) = false) ∧
    (Asks run req maintainer .read ∧ maintainer.role.privileged = true ∧ run.trace.active = false ∧ (wordAddr 0x400004).isSome = true ∧
      isScratch 0x400004 = false) ∧
    (Asks scratched req maintainer .read ∧ maintainer.role.privileged = true ∧ (0x0103FFFC : Nat) % 4 = 0 ∧ isScratch 0x0103FFFC = true ∧
      scratched.mem.written.getLsbD (scratchIndex 0x0103FFFC) = true ∧ scratched.mem.poisoned.contains (scratchWord 0x0103FFFC) = false ∧
      scratched.mem.flip (scratchWord 0x0103FFFC) = 0) ∧
    ∃ ws, Asks run req maintainer .read ∧ spanError 0 2 = none ∧ (wordAddrs 0 2).all isScratch = false ∧
      (run.heard req maintainer).peekAll req.sess maintainer.role.privileged (wordAddrs 0 2) = .ok ws := by
  refine ⟨?_, ?_, ⟨asks_run _, by decide +kernel⟩, ⟨asks_observer _, by decide, by decide, by decide⟩, ⟨asks_run _, by decide, by decide +kernel⟩,
    ⟨asks_run _, by decide, rfl, by decide +kernel, by decide⟩,
    ⟨asks_of rfl rfl rfl, by decide, by decide, by decide, by decide +kernel, by decide +kernel, by decide +kernel⟩, ?_⟩
  · obtain ⟨w, h⟩ := ok_of (e := (run.heard req maintainer).peek req.sess maintainer.role.privileged 0) (by decide +kernel)
    exact ⟨w, asks_run _, by decide +kernel, by decide, h⟩
  · obtain ⟨c, h⟩ := error_of (e := ((sender observer).heard req observer).peek req.sess observer.role.privileged 0x400004) (by decide +kernel)
    exact ⟨c, asks_observer _, by decide +kernel, by decide, h⟩
  · obtain ⟨w, h⟩ := ok_of (e := (run.heard req maintainer).peekAll req.sess maintainer.role.privileged (wordAddrs 0 2)) (by decide +kernel)
    exact ⟨w, asks_run _, by decide +kernel, by decide +kernel, h⟩
/-- A register that takes a word. -/
def takes (addr : Nat) (w : Word) : Bool :=
  match (run.heard req maintainer).row (some req.sess) addr with
  | none => false
  | some row => match (run.heard req maintainer).writeRow (some req.sess) addr row w with
    | .ok _ => true
    | .error _ => false
theorem takes_of {addr : Nat} {w : Word} (h : takes addr w = true) : ∃ row u used, (run.heard req maintainer).row (some req.sess) addr = some row ∧
    (run.heard req maintainer).writeRow (some req.sess) addr row w = .ok (u, used) := by
  unfold takes at h
  split at h
  · cases h
  · rename_i row e
    cases g : (run.heard req maintainer).writeRow (some req.sess) addr row w with
    | error c => rw [g] at h; cases h
    | ok a => exact ⟨row, a.1, a.2, e, g⟩
/-- What two words written to the first registers of the address map come to. -/
def written (ws : List (Nat × Word)) : State × WriteRun := (run.heard req maintainer).writeSome req.sess maintainer.role ws ⟨0, 0, none, []⟩
theorem witness_WritesAnswer :
    (∃ g row u used, Writer run req maintainer ∧ wordAddr 0x400000 = some g ∧ isScratch 0x400000 = false ∧ Holds run req maintainer g.block ∧
      (run.heard req maintainer).row (some req.sess) 0x400000 = some row ∧
      (run.heard req maintainer).writeRow (some req.sess) 0x400000 row 1 = .ok (u, used)) ∧
    (∃ u w, Writer run req maintainer ∧ spanError 0x30004C 1 = none ∧ written ((wordAddrs 0x300048 1).zip [1]) = (u, w) ∧ w.rest = [] ∧ w.stop = none) ∧
    (∃ u w c a, Writer run req maintainer ∧ spanError 0 1 = none ∧ written ((wordAddrs 0 1).zip [1]) = (u, w) ∧ w.rest = [] ∧ w.stop = some (c, a)) ∧
    (Writer run req maintainer ∧ Holds run req maintainer (.axis 63) ∧ run.runs = true ∧
      sat (-(run.cfg.eff.v F.tableLimit 63)) (run.cfg.eff.v F.tableLimit 63) ((0 : Word).setWidth 16).toInt = ((0 : Word).setWidth 16).toInt ∧
      sat (-(run.cfg.eff.v F.tableLimit 63)) (run.cfg.eff.v F.tableLimit 63) ((0x7FFF : Word).setWidth 16).toInt ≠ ((0x7FFF : Word).setWidth 16).toInt) ∧
    (∃ (b : BlockReq) (k : Block), Writer run req maintainer ∧ b.block? = some k ∧ Holds run req maintainer k ∧ run.runs = true) ∧
    (∃ (g : Region) (y : ImgReg) (p : Part), Writer run req maintainer ∧ run.runs = true ∧ wordAddr 0x23F050 = some g ∧ isScratch 0x23F050 = false ∧
      Holds run req maintainer g.block ∧ imgAt 0x23F050 = some y ∧ y.parts.filter Part.rw = [p] ∧ p.f ≠ F.frictionTable ∧ p.f ≠ F.coggingTable ∧
      applyBlock 0x23F050 = none ∧ liveOf 0x23F050 = none ∧ traceConfig 0x23F050 = false ∧
      (run.heard req maintainer).ownRow (some req.sess) 0x23F050 = none) ∧
    (Writer run req maintainer ∧ Holds run req maintainer .unit ∧ ScratchWf run ∧ (0x0103FFFC : Nat) % 4 = 0 ∧ isScratch 0x0103FFFC = true ∧
      run.mem.poisoned = [] ∧ run.mem.flips = [] ∧ spanError 0x0103FFFC 1 = none) ∧
    (Writer run req maintainer ∧ wordAddr 2 = none) := by
  refine ⟨?_, ⟨_, _, writer_run, by decide +kernel, rfl, by decide +kernel, by decide +kernel⟩, ?_,
    ⟨writer_run, holds_axis, by decide +kernel, by decide +kernel, by decide +kernel⟩, ⟨⟨2, 63⟩, .axis 63, writer_run, by decide +kernel, holds_axis, by decide +kernel⟩,
    ⟨⟨0x23F000, 0x23FFFF, .axis 63⟩, ⟨false, [⟨0, 32, 80, 63, 0⟩]⟩, ⟨0, 32, 80, 63, 0⟩, writer_run, by decide +kernel, by decide +kernel, by decide, holds_axis,
      by decide +kernel, by decide +kernel, by decide, by decide, by decide +kernel, by decide +kernel, by decide +kernel, by decide +kernel⟩,
    ⟨writer_run, holds_unit, by unfold ScratchWf; decide +kernel, by decide, by decide, rfl, rfl, by decide +kernel⟩, ⟨writer_run, by decide +kernel⟩⟩
  · obtain ⟨row, u, used, h, g⟩ := takes_of (addr := 0x400000) (w := 1) (by decide +kernel)
    exact ⟨⟨0x400000, 0x67FFFF, .unit⟩, row, u, used, writer_run, by decide +kernel, by decide, holds_unit, h, g⟩
  · have h : ((written ((wordAddrs 0 1).zip [1])).2.stop).isSome = true := by decide +kernel
    obtain ⟨x, hx⟩ := Option.isSome_iff_exists.1 h
    exact ⟨_, _, x.1, x.2, writer_run, by decide +kernel, rfl, by decide +kernel, hx⟩
theorem witness_WritesTakeEffect : (∃ s : State, s.unit.running = true ∧ s.cfg.writes = [.field (s.tick - 1) F.vMax 63 0 5] ∧ s.tick - 1 ≠ s.tick) ∧
    (∃ s : State, s.unit.running = true ∧ s.cfg.writes = []) ∧
    (∃ s : State, s.unit.running = true ∧ s.cfg.loaded = true ∧ s.cfg.bitsDue = none) ∧
    (∃ s : State, s.unit.running = true ∧ s.cfg.loaded = true ∧ s.mem.dma.getLsbD 3 = true) ∧
    ∃ s : State, s.unit.running = true ∧ s.cfg.loaded = true ∧ s.cfg.bitsDue ≠ none ∧ s.mem.dma.getLsbD 3 = false :=
  ⟨⟨{ run with cfg := { run.cfg with writes := [.field 99 F.vMax 63 0 5] } }, rfl, rfl, by decide⟩, ⟨run, rfl, rfl⟩, ⟨run, rfl, rfl, rfl⟩,
    ⟨{ run with mem := { run.mem with dma := 8 } }, rfl, rfl, by decide⟩, { run with cfg := { run.cfg with bitsDue := some 100 } }, rfl, rfl, by decide, by decide⟩
/-- `run` with an APPLY of axis 63 made in the tick before, and pending shadows. -/
def applying (shadows : List (Nat × Word)) : State :=
  { run with cfg := { run.cfg with writes := [.apply 99 0x23F000], shadows := shadows } }
theorem witness_WritesTakeEffect_apply :
    (∃ s : State, s.unit.running = true ∧ s.cfg.writes = [.apply 99 0x23F000] ∧ (99 : Tick) ≠ s.tick ∧ blockOf 0x23F000 = some (.axis 63) ∧
      s.pendingPlaces (.axis 63) = []) ∧
    (∃ (s : State) (p : Part), s.unit.running = true ∧ s.cfg.writes = [.apply 99 0x23F000] ∧ s.pendingPlaces (.axis 63) = [(p, 5)]) ∧
    ∃ s : State, s.unit.running = true ∧ s.cfg.writes = [.field 99 F.bankAtStart 63 0 1] ∧ (99 : Tick) ≠ s.tick :=
  ⟨⟨applying [], rfl, rfl, by decide, by decide +kernel, by decide +kernel⟩,
    ⟨applying [(0x23F050, 5)], ⟨0, 32, 80, 63, 0⟩, rfl, rfl, by decide +kernel⟩,
    { run with cfg := { run.cfg with writes := [.field 99 F.bankAtStart 63 0 1] } }, rfl, rfl, by decide⟩


/-! ### Staging, sessions, claims, commands, the log -/

theorem asks_sess {s : State} {q : Ask} (k : s.kw.sess = run.kw.sess) (u : s.unit = run.unit) (o : s.outstanding req.sess < 32)
    (m : s.mustWait req.sess = false) : Asks s req maintainer q :=
  ⟨by rw [k]; rfl, by rw [u]; rfl, by decide, ⟨rfl, rfl⟩, o, m, by unfold State.bars State.held State.recovery; rw [u]; cases q <;> decide +kernel⟩
/-- `run` with a staging of either kind. -/
def stages (g : Staging) : State := { run with kw := { run.kw with image := some g, fw := some g } }
theorem witness_Staging :
    (∃ (s : State) (slot : BitVec 8) (len : Nat), Asks s req maintainer .image ∧ maintainer.role = .maintainer ∧ Holds s req maintainer .unit ∧
      slot.toNat ≤ 1 ∧ s.cfg.loaded = true ∧ s.unit.slotB ≠ (slot == 1) ∧ s.kw.image = none ∧ len = 0x100000) ∧
    (∃ (s : State) (len : Nat), Asks s req maintainer .firmware ∧ Holds s req maintainer .unit ∧ s.kw.fw = none ∧ len = 0x200000) ∧
    (∃ (s : State) (g : Staging), Asks s req maintainer .image ∧ Holds s req maintainer .unit ∧ s.kw.image = some g ∧ g.sess = req.sess ∧
      g.writing = none ∧ g.data.length + [0].length ≤ g.len) ∧
    (∃ (s : State) (g : Staging), Asks s req maintainer .image ∧ Holds s req maintainer .unit ∧ s.kw.image = some g ∧ g.sess = req.sess ∧
      g.writing = none ∧ g.data.length = g.len ∧ 2 ≠ g.data.length) ∧
    (∃ (s : State) (g : Staging), Asks s req maintainer .firmware ∧ Holds s req maintainer .unit ∧ s.kw.fw = some g ∧ g.sess = req.sess ∧
      g.writing = none ∧ g.data.length + [0].length ≤ g.len) ∧
    ∃ (s : State) (g : Staging), Asks s req maintainer .firmware ∧ Holds s req maintainer .unit ∧ s.kw.fw = some g ∧ g.sess = req.sess ∧
      g.writing = none ∧ g.data.length = g.len ∧ g.len < 1 + [0].length :=
  ⟨⟨run, 1, _, asks_run _, rfl, holds_unit, by decide, rfl, by decide, rfl, rfl⟩, ⟨run, _, asks_run _, holds_unit, rfl, rfl⟩,
    ⟨stages ⟨0, true, 1, [], none, 0⟩, _, asks_sess rfl rfl (by decide +kernel) (by decide +kernel), holds_unit, rfl, rfl, rfl, by decide⟩,
    ⟨stages ⟨0, true, 1, [0], none, 0⟩, _, asks_sess rfl rfl (by decide +kernel) (by decide +kernel), holds_unit, rfl, rfl, rfl, rfl, by decide⟩,
    ⟨stages ⟨0, true, 1, [], none, 0⟩, _, asks_sess rfl rfl (by decide +kernel) (by decide +kernel), holds_unit, rfl, rfl, rfl, by decide⟩,
    stages ⟨0, true, 1, [0], none, 0⟩, _, asks_sess rfl rfl (by decide +kernel) (by decide +kernel), holds_unit, rfl, rfl, rfl, rfl, by decide⟩
theorem witness_StagingCompletes :
    (∃ (s : State) (g : Staging) (tag : Nat), s.unit.running = true ∧ s.kw.image = some g ∧ s.kw.fw = some g ∧ g.writing = some tag ∧
      s.isSame g.sess g.num = true) ∧
    (∃ (s : State) (g : Staging) (tag : Nat), s.unit.running = true ∧ s.kw.image = some g ∧ s.kw.fw = some g ∧ g.writing = some tag ∧
      s.isSame g.sess g.num = false) ∧
    (∃ (s : State) (slotB : Bool), s.unit.running = true ∧ s.cfg.dryRun = some slotB ∧ (s.trySlot slotB).result ≠ .accepted) ∧
    ∃ s : State, s.unit.running = true ∧ s.fw.busy = true ∧ slice (if s.fw.booted then s.fw.fw[0] else s.fw.fw[1]) 0 4 ≠ [0x5A, 0x46, 0x57, 0x52] :=
  ⟨⟨stages ⟨0, true, 1, [0], some 1, 0⟩, _, 1, rfl, rfl, rfl, rfl, by decide +kernel⟩,
    ⟨stages ⟨0, true, 1, [0], some 1, 7⟩, _, 1, rfl, rfl, rfl, rfl, by decide +kernel⟩,
    ⟨{ run with cfg := { run.cfg with dryRun := some true } }, true, rfl, rfl, by decide +kernel⟩,
    { run with fw := { run.fw with busy := true } }, rfl, rfl, by decide +kernel⟩

/-- A certificate that passes each check of its own. -/
def certificate : CertInfo := ⟨true, true, true, true, none⟩
/-- A handshake of a chain of `n` certificates that ends at the anchor [1]. -/
def handshake (n : Nat) : Handshake := ⟨none, 7, true, [.other, .aes128, .aes256], true, true, false, true, List.replicate n certificate, [.operator], [5], [1]⟩
/-- `run` with an anchor enrolled at index 1, and both ward switches of R40 that concern it off. -/
def enrolled : State := { run with se := { run.se with anchors := run.se.anchors.set 1 (some [1]) } }
theorem witness_Sessions :
    (∃ (s : State) (h : Handshake) (v : TlsSuite) (role : KwRole) (j : Fin 2) (i : SessId), s.unit.running = true ∧ s.unit.st ≠ .boot ∧ s.unit.st ≠ .config ∧
      s.peerBlocked h.peer = false ∧ h.suite = some v ∧ h.chainOk s.cfg.eff.revoked = true ∧ h.units = [role] ∧ role ≠ .enrolment ∧
      s.se.anchorOf h.root = some j ∧ s.admits role = true ∧ s.kw.freeIndex h.index = some i) ∧
    (∃ (s : State) (h : Handshake), s.unit.running = true ∧ s.unit.st ≠ .boot ∧ s.unit.st ≠ .config ∧ s.peerBlocked h.peer = false ∧
      h.chainOk s.cfg.eff.revoked = false ∧ s.cfg.eff.n F.authFailLimit 0 = 1) ∧
    (∃ (s : State) (h : Handshake), s.unit.running = true ∧ s.unit.st ≠ .boot ∧ s.unit.st ≠ .config ∧ s.peerBlocked h.peer = false ∧
      h.suite = none ∧ s.cfg.eff.n F.authFailLimit 0 = 0) ∧
    (∃ (s : State) (i : SessId) (x : Session) (g : Staging), s.unit.running = true ∧ s.kw.sess[i] = some x ∧ s.kw.image = some g ∧ g.sess = i ∧
      g.writing = none ∧ s.unit.maintSess ≠ some i ∧ 0 < s.cfg.eff.n F.sessionIdleS 0) ∧
    (∃ (s : State) (i : SessId) (x : Session), s.unit.running = true ∧ s.kw.sess[i] = some x ∧ s.unit.maintSess = some i ∧ s.unit.st = .maintenance) ∧
    (∃ (s : State) (i : SessId) (x : Session), s.unit.running = true ∧ s.kw.sess[i] = some x ∧ s.cfg.eff.n F.sessionIdleS 0 = 0) ∧
    ∃ (s : State) (peer : Word), s.unit.running = true ∧ s.peerBlocked peer = true :=
  ⟨⟨enrolled, handshake 4, .aes128, .operator, 1, 1, rfl, by decide, by decide, by decide +kernel, rfl, by decide +kernel, rfl, by decide, by decide +kernel,
      by decide +kernel, by decide +kernel⟩,
    ⟨{ run with cfg := { run.cfg with eff := cfg.set F.authFailLimit 0 1 } }, handshake 5, rfl, by decide, by decide, by decide +kernel,
      by decide +kernel, by decide +kernel⟩,
    ⟨{ run with cfg := { run.cfg with eff := cfg.set F.authFailLimit 0 0 } }, { handshake 1 with psk := true }, rfl, by decide, by decide,
      by decide +kernel, rfl, by decide +kernel⟩,
    ⟨stages ⟨0, true, 1, [0], none, 0⟩, 0, maintainer, ⟨0, true, 1, [0], none, 0⟩, rfl, rfl, rfl, rfl, rfl, by decide, by decide +kernel⟩,
    ⟨unit { run.unit with st := .maintenance, maintSess := some 0 }, 0, maintainer, rfl, rfl, rfl, rfl⟩,
    ⟨{ run with cfg := { run.cfg with eff := cfg.set F.sessionIdleS 0 0 } }, 0, maintainer, rfl, rfl, by decide +kernel⟩,
    { run with kw := { run.kw with blocked := [(7, 101)] } }, 7, rfl, by decide +kernel⟩

/-- `run` with session 1 as well, an OPERATOR that holds axis 62. -/
def rival (x : Session) : State :=
  { run with kw := { run.kw with sess := run.kw.sess.set 1 (some x), axisClaim := run.kw.axisClaim.set 62 (some 1) } }
theorem asks_rival (x : Session) (k : Ask) : Asks (rival x) req maintainer k :=
  ⟨rfl, rfl, by decide, ⟨rfl, rfl⟩, by unfold State.outstanding; rw [show (rival x).hinge = run.hinge from rfl, show (rival x).kw.image = none from rfl, show (rival x).kw.fw = none from rfl]; exact (by decide : 0 < 32), by unfold State.mustWait; rw [show (rival x).hinge = run.hinge from rfl]; rfl, by unfold State.bars State.held State.recovery; rw [show (rival x).unit = run.unit from rfl]; cases k <;> decide +kernel⟩
/-- A session of an OPERATOR whose queue holds `n` events. -/
def operator (n : Nat) : Session := { Session.fresh .operator 0 0 [] (some 0) 0 .aes256 [] 0 with queue := List.replicate n ⟨1, 0, 0, false, 0, 0, 0⟩ }
/-- `run` in FAULT_HELD. -/
def stopped : State := unit { run.unit with st := .faultHeld }
theorem asks_stopped : Asks stopped req maintainer .claim := ⟨rfl, rfl, by decide, ⟨rfl, rfl⟩, by decide +kernel, by decide +kernel, by decide +kernel⟩
theorem witness_Claims :
    (∃ (s : State) (b : BlockReq) (k : Block), Asks s req maintainer .claim ∧ maintainer.role.privileged = true ∧ b.block? = some k ∧
      s.claimable k = true ∧ s.kw.holder k = none) ∧
    (∃ (s : State) (b : BlockReq) (k : Block), Asks s req maintainer .claim ∧ b.block? = some k ∧ s.claimable k = true ∧
      s.kw.holder k = some req.sess) ∧
    (∃ (s : State) (b : BlockReq) (k : Block) (j : SessId) (y : Session), Asks s req maintainer .claim ∧ maintainer.role = .maintainer ∧
      b.block? = some k ∧ s.claimable k = true ∧ s.kw.holder k = some j ∧ j ≠ req.sess ∧ s.kw.sess[j] = some y ∧ y.queue.length = 240) ∧
    (∃ (s : State) (x : Session) (b : BlockReq) (k : Block), Asks s req x .claim ∧ x.role.privileged = true ∧ b.block? = some k ∧
      s.claimable k = true ∧ x.role ≠ .maintainer ∧ s.kw.holder k = some req.sess) ∧
    (∃ (s : State) (b : BlockReq) (k : Block), Asks s req maintainer .claim ∧ b.block? = some k ∧ s.held = true ∧ k ≠ .unit) ∧
    (∃ (s : State) (b : BlockReq) (k : Block), Asks s req maintainer .claim ∧ b.block? = some k ∧ s.held = true ∧ k = .unit ∧
      s.kw.holder k = some req.sess) ∧
    ∃ (s : State) (x : Session) (b : BlockReq) (k : Block), Asks s req x .claim ∧ b.block? = some k ∧ s.held = false ∧ s.kw.holder k ≠ some req.sess :=
  ⟨⟨run, ⟨1, 0⟩, .door 0, asks_run _, rfl, by decide +kernel, by decide +kernel, by decide +kernel⟩,
    ⟨run, ⟨2, 63⟩, .axis 63, asks_run _, by decide +kernel, by decide +kernel, by decide +kernel⟩,
    ⟨rival (operator 240), ⟨2, 62⟩, .axis 62, 1, operator 240, asks_rival _ _, rfl, by decide +kernel, by decide +kernel, by decide +kernel, by decide, rfl,
      by decide +kernel⟩,
    ⟨sender (operator 0), operator 0, ⟨0, 0⟩, .unit, ⟨rfl, rfl, by decide, ⟨rfl, rfl⟩, by decide +kernel, by decide +kernel, by decide +kernel⟩, rfl, by decide +kernel, by decide +kernel, by decide, rfl⟩,
    ⟨stopped, ⟨2, 63⟩, .axis 63, asks_stopped, by decide +kernel, by decide +kernel, by decide⟩,
    ⟨stopped, ⟨0, 0⟩, .unit, asks_stopped, by decide +kernel, by decide +kernel, rfl, rfl⟩,
    run, maintainer, ⟨1, 0⟩, .door 0, asks_run _, by decide +kernel, by decide +kernel, by decide +kernel⟩
/-- A subscription list of `n` entries. -/
def entries (n : Nat) : List (Code × BitVec 8) := List.replicate n (0x4801, 0xFF)
theorem witness_Subscriptions : Asks run req maintainer .other ∧ (entries 32).length ≤ 32 ∧ 32 < (entries 33).length ∧ maintainer.subs.length + (entries 32).length ≤ 32 ∧
    32 < maintainer.subs.length + (entries 33).length := ⟨asks_run _, by decide +kernel, by decide +kernel, by decide +kernel, by decide +kernel⟩
theorem witness_HostCommands :
    (∃ s : State, Asks s req maintainer .restart ∧ maintainer.role = .maintainer ∧ Holds s req maintainer .unit) ∧
    (∃ s : State, Asks s req maintainer .other ∧ Holds s req maintainer .unit ∧ s.passive = false ∧ s.hinge.waiting = [] ∧
      (s.hinge.role = .active → s.hinge.records.length < 4) ∧ s.unit.st = .run ∧ s.zeroSpeed = true) ∧
    (∃ s : State, Asks s req maintainer .other ∧ Holds s req maintainer .unit ∧ s.passive = false ∧ s.hinge.waiting = [] ∧
      (s.hinge.role = .active → s.hinge.records.length < 4) ∧ s.unit.st = .run ∧ s.zeroSpeed = false) ∧
    (∃ s : State, Asks s req maintainer .other ∧ Holds s req maintainer .unit ∧ s.passive = false ∧ s.hinge.waiting = [] ∧
      s.hinge.role = .active ∧ s.hinge.records.length = 3 ∧ s.unit.st = .maintenance) ∧
    (∃ s : State, Asks s req maintainer .other ∧ maintainer.role.privileged = true ∧ s.passive = false ∧
      s.recorder.anchorAt = some 0 ∧ 0 + 200000 ≤ s.up) ∧
    ∃ s : State, Asks s req maintainer .other ∧ maintainer.role.privileged = true ∧ s.passive = false ∧
      s.recorder.anchorAt = some 0 ∧ s.up < 0 + 200000 :=
  ⟨⟨run, asks_run _, rfl, holds_unit⟩, ⟨run, asks_run _, holds_unit, by decide +kernel, rfl, nofun, rfl, by decide +kernel⟩,
    ⟨{ run with il := { run.il with release := 3 } }, asks_of rfl rfl rfl, holds_unit, by decide +kernel, rfl, nofun, rfl, by decide +kernel⟩,
    ⟨{ unit { run.unit with st := .maintenance } with hinge := { run.hinge with role := .active, records := List.replicate 3 (.request 1 0) } },
      ⟨rfl, rfl, by decide, ⟨rfl, rfl⟩, by decide +kernel, by decide +kernel, by decide +kernel⟩, holds_unit, by decide +kernel, rfl, rfl, rfl, rfl⟩,
    ⟨{ recorder { run.recorder with anchorAt := some 0 } with up := 200000 }, asks_of rfl rfl rfl, rfl, by decide +kernel, rfl, by decide⟩,
    { recorder { run.recorder with anchorAt := some 0 } with up := 199999 }, asks_of rfl rfl rfl, rfl, by decide +kernel, rfl, by decide⟩

/-- A state with ward switch 10 as given, and index 1 enrolled or not. -/
def keyed (on : Bool) (s : State) : State := { s with panel := { s.panel with ward := if on then 0x200 else 0 } }
/-- A session that enrols. -/
def enroller : Session := Session.fresh .enrolment 0 0 [] none 0 .aes256 [] 0
theorem asks_keyed (on : Bool) (k : Ask) : Asks (keyed on enrolled) req maintainer k := asks_of rfl rfl rfl
/-- `run` with index 0 enrolled as [1], the anchor of its MAINTAINER, and index 1 free. -/
def half : State := { run with se := { run.se with anchors := run.se.anchors.set 0 (some [1]) } }
theorem asks_half (k : Ask) : Asks (keyed false half) req maintainer k := asks_of rfl rfl rfl
theorem asks_enroller (k : Ask) (h : k = .enrol) : Asks (keyed true (sender enroller)) req enroller k := by
  subst h; exact ⟨rfl, rfl, by decide, ⟨rfl, rfl⟩, by decide +kernel, by decide +kernel, by decide +kernel⟩
/-- By switch 10, with no anchor and with one; by the signature of the other anchor, or without it. Whether a certificate is fit for an
anchor and whether a signature verifies are open values of the model, so that they are is a hypothesis. -/
theorem witness_Enrolment :
    (Asks (keyed true (sender enroller)) req enroller .enrol ∧ (keyed true (sender enroller)).passive = false ∧ (keyed true (sender enroller)).ward 10 = true ∧
      (keyed true (sender enroller)).se.anchorCount = 0 ∧ enroller.role = .enrolment) ∧
    (Asks (keyed true enrolled) req maintainer .enrol ∧ (keyed true enrolled).passive = false ∧ (keyed true enrolled).ward 10 = true ∧
      (keyed true enrolled).se.anchorCount ≠ 0 ∧ maintainer.role = .maintainer ∧ Holds (keyed true enrolled) req maintainer .unit) ∧
    (Asks (keyed false half) req maintainer .enrol ∧ (keyed false half).passive = false ∧ (keyed false half).ward 10 = false ∧
      (keyed false half).se.anchorCount ≠ 0 ∧ Holds (keyed false half) req maintainer .unit ∧ (keyed false half).se.anchors[(1 : Fin 2)] = none ∧
      maintainer.anchor = some 0 ∧ (keyed false half).se.anchors[(0 : Fin 2)] = some [1]) ∧
    (List.replicate 64 (0 : Byte)).length = 64 ∧
    (Asks (keyed false enrolled) req maintainer .enrol ∧ (keyed false enrolled).passive = false ∧ (keyed false enrolled).ward 10 = false ∧
      (keyed false enrolled).se.anchorCount ≠ 0 ∧ Holds (keyed false enrolled) req maintainer .unit ∧
      ((keyed false enrolled).se.anchors[(1 : Fin 2)]).isSome = true) ∧
    (Asks (sender observer) req observer .enrol ∧ (sender observer).passive = false ∧ observer.role ≠ .enrolment ∧ observer.role ≠ .maintainer) ∧
    (∃ (s : State) (j : Fin 2) (der : List Byte), Asks s req maintainer .unenrol ∧ s.passive = false ∧ Holds s req maintainer .unit ∧
      s.se.anchors[j] = some der ∧ s.ward 10 = true ∧ maintainer.anchor ≠ some j) ∧
    ∃ (s : State) (j : Fin 2) (der : List Byte), Asks s req maintainer .unenrol ∧ s.passive = false ∧ Holds s req maintainer .unit ∧
      s.se.anchors[j] = some der ∧ s.ward 10 = false :=
  ⟨⟨asks_enroller _ rfl, by decide +kernel, by decide +kernel, by decide +kernel, rfl⟩,
    ⟨asks_keyed _ _, by decide +kernel, by decide +kernel, by decide +kernel, rfl, holds_unit⟩,
    ⟨asks_half _, by decide +kernel, by decide +kernel, by decide +kernel, holds_unit, by decide +kernel, rfl, by decide +kernel⟩, by decide,
    ⟨asks_keyed _ _, by decide +kernel, by decide +kernel, by decide +kernel, holds_unit, by decide +kernel⟩,
    ⟨asks_observer _, by decide +kernel, by decide, by decide⟩,
    ⟨keyed true enrolled, 1, [1], asks_keyed _ _, by decide +kernel, holds_unit, by decide +kernel, by decide +kernel, by decide⟩,
    keyed false enrolled, 1, [1], asks_keyed _ _, by decide +kernel, holds_unit, by decide +kernel, by decide +kernel⟩

/-- A page that holds one byte. -/
def page : RecPage := { RecPage.empty with data := [0] }
/-- A recorder that records, with `n` sealed pages. -/
def recording (n : Nat) : Rec := { run.recorder with st := .recording, opened := page, since := some 0, sealedPages := List.replicate n page }
/-- A state with a recorder, `up` ticks after the start. -/
def logAt (rc : Rec) (up : Nat) : State := { recorder rc with up := up }
/-- A recorder with one sealed page and an erase at block `next`. -/
def erasingAt (next : Nat) : Rec := { recording 1 with nextPhys := 256, erase := some ⟨[], none, next, true, false⟩ }
/-- The page is due at LOG_SEAL_MS and not before; a block that is erased, or still to be erased; the LOG_FULL page due. -/
theorem witness_LogPages :
    (∃ s : State, s.unit.running = true ∧ s.sealDue = false ∧ s.recorder.opened.data ≠ []) ∧
    (∃ s : State, s.unit.running = true ∧ s.sealDue = true ∧ s.recorder.opened.data ≠ [] ∧ s.recorder.sealedPages.length = 2) ∧
    (∃ s : State, s.unit.running = true ∧ s.sealDue = true ∧ s.recorder.opened.data ≠ [] ∧ s.recorder.sealedPages.length = 3) ∧
    (∃ (s : State) (p : RecPage) (ps : List RecPage), s.commits = true ∧ s.recorder.sealedPages = p :: ps ∧ s.recorder.nextPhys < 4194304 ∧
      s.recorder.unerased (s.recorder.nextPhys / 64) = false ∧ s.panel.holdup = false) ∧
    (∃ (s : State) (p : RecPage) (ps : List RecPage), s.commits = true ∧ s.recorder.sealedPages = p :: ps ∧ s.recorder.nextPhys < 4194304 ∧
      s.recorder.unerased (s.recorder.nextPhys / 64) = true) ∧
    ∃ s : State, s.commits = true ∧ s.recorder.sealedPages = [] ∧ s.recorder.opened.data = [] ∧ s.recorder.fullDue = true ∧ s.recorder.erase = none ∧
      s.recorder.nand.nextBlock 0 < 4 :=
  ⟨⟨logAt (recording 0) 0, rfl, by decide +kernel, by decide⟩, ⟨logAt (recording 2) 100000000, rfl, by decide +kernel, by decide, rfl⟩,
    ⟨logAt (recording 3) 100000000, rfl, by decide +kernel, by decide, rfl⟩,
    ⟨recorder { recording 1 with nextPhys := 256 }, page, [], by decide +kernel, rfl, by decide +kernel, by decide +kernel, rfl⟩,
    ⟨recorder (erasingAt 4), page, [], by decide +kernel, rfl, by decide +kernel, by decide +kernel⟩,
    recorder { recording 0 with opened := .empty, fullDue := true }, by decide +kernel, rfl, rfl, rfl, rfl, by decide +kernel⟩
theorem witness_LogOffloadAndErase :
    (∃ (s : State) (x : Session) (count : Nat), Asks s req x .logRead ∧ count = 15 ∧ x.role.privileged = false) ∧
    (∃ (s : State) (x : Session) (count : Nat), Asks s req x .logRead ∧ count = 15 ∧ x.role.privileged = true) ∧
    (∃ (s : State) (seq : Nat), Asks s req maintainer .other ∧ maintainer.role = .maintainer ∧ Holds s req maintainer .unit ∧
      s.runs = true ∧ s.recorder.st = .recording ∧ s.recorder.pageSeq ≠ some seq) ∧
    (∃ s : State, Asks s req maintainer .other ∧ Holds s req maintainer .unit ∧ s.runs = true ∧ s.recorder.st ≠ .recording ∧ s.recorder.st ≠ .full) ∧
    (∃ (s : State) (seq : Nat) (chain : List Byte), Asks s req maintainer .other ∧ Holds s req maintainer .unit ∧ s.runs = true ∧
      s.recorder.st = .full ∧ s.recorder.pageSeq = some seq ∧ s.recorder.chain = chain ∧ s.recorder.fullDue = false) ∧
    (∃ (s : State) (e : EraseSt), s.unit.running = true ∧ s.recorder.erase = some e ∧ e.counted = true ∧ e.next = 65535 ∧ s.recorder.st = .erasing ∧
      65536 ≤ s.recorder.nand.nextBlock (e.next + 1)) ∧
    (∃ (s : State) (e : EraseSt), s.unit.running = true ∧ s.recorder.erase = some e ∧ e.counted = true ∧ e.next = 4 ∧ e.begun = false ∧
      e.cert.isSome = true ∧ s.recorder.nand.nextBlock (e.next + 1) < 65536 ∧ s.recorder.nand.retired.contains e.next = false) ∧
    ∃ s : State, s.unit.running = true ∧ s.recorder.erase = none :=
  ⟨⟨sender observer, observer, 15, asks_observer _, rfl, rfl⟩, ⟨run, maintainer, 15, asks_run _, rfl, rfl⟩,
    ⟨recorder { recording 0 with pageSeq := none }, 0, asks_of rfl rfl rfl, rfl, holds_unit, by decide +kernel, rfl, by decide⟩,
    ⟨run, asks_run _, holds_unit, by decide +kernel, by decide +kernel, by decide +kernel⟩,
    ⟨recorder { recording 0 with st := .full, pageSeq := some 0, chain := [] }, 0, [], asks_of rfl rfl rfl, holds_unit, by decide +kernel, rfl, rfl, rfl, rfl⟩,
    ⟨recorder { recording 0 with st := .erasing, erase := some ⟨[], none, 65535, true, true⟩ }, _, rfl, rfl, rfl, rfl, rfl, by decide +kernel⟩,
    ⟨recorder { recording 0 with st := .erasing, erase := some ⟨[], some [1], 4, true, false⟩ }, _, rfl, rfl, rfl, rfl, rfl, rfl, by decide +kernel, by decide +kernel⟩, run, rfl, rfl⟩

/-! ### Axes and doorways -/

/-- Axis 63, axis 62 and doorway 15 of `run` replaced. -/
def motor (m : MotionSt) (o : ObstSt) : State := { run with axes := run.axes.set 63 { Axis.reset with mot := m, obst := o } }
def stepper (m : MotionSt) : State := { run with axes := run.axes.set 62 { Axis.reset with mot := m } }
def door (d : Door) : State := { run with doors := run.doors.set 15 d }
/-- A motor under way to 5 µm at speed `v`. -/
def moving (v : Int) : MotionSt := { MotionSt.reset with driven := true, source := .planner, phase := .accel1, target := 5, vp := v }
/-- A motor that homes. -/
def homes (p : HomePhase) : MotionSt := { moving 1 with home := { HomeSt.reset with phase := p } }
theorem witness_MovesEnd :
    (∃ (s : State) (a : AxisId), s.unit.running = true ∧ s.computes = true ∧ (s.axes[a]).mot.planned = true ∧
      (s.axes[a]).mot.home.phase = .none ∧ (s.axes[a]).mot.reaction = .none ∧ (s.axes[a]).obst.closing = true ∧ s.isLeaf a.val = true ∧
      s.cfg.eff.kind a.val = 1) ∧
    (∃ (s : State) (a : AxisId), s.unit.running = true ∧ s.computes = true ∧ (s.axes[a]).mot.qstop = true) ∧
    (∃ (s : State) (a : AxisId), s.unit.running = true ∧ s.computes = true ∧ (s.axes[a]).mot.limPos.active = false ∧ (s.axes[a]).mot.travel ≠ 1) ∧
    (∃ (s : State) (a : AxisId), s.unit.running = true ∧ s.computes = true ∧ (s.axes[a]).mot.limPos.active = false ∧ (s.axes[a]).mot.travel = 1 ∧
      (s.axes[a]).mot.home.phase = .none ∧ (s.axes[a]).mot.driven = true ∧ (s.axes[a]).obst.confirmed = false) ∧
    (∃ (s : State) (a : AxisId), s.unit.running = true ∧ s.computes = true ∧ (s.axes[a]).mot.limPos.active = false ∧ (s.axes[a]).mot.travel = 1 ∧
      (s.axes[a]).mot.home.phase ≠ .none) ∧
    (∃ (s : State) (a : AxisId), s.unit.running = true ∧ s.computes = true ∧ (s.axes[a]).mot.limNeg.active = false ∧ (s.axes[a]).mot.travel = -1 ∧
      (s.axes[a]).mot.home.phase = .none ∧ (s.axes[a]).mot.driven = true ∧ (s.axes[a]).obst.confirmed = false) ∧
    (∃ (s : State) (a : AxisId), s.unit.running = true ∧ s.computes = true ∧ s.cfg.eff.kind a.val = 2 ∧ (s.axes[a]).mot.driven = true ∧
      (s.axes[a]).mot.rests = true) ∧
    ∃ (s : State) (a : AxisId), s.unit.running = true ∧ s.computes = true ∧ (s.axes[a]).mot.still = true ∧ (s.axes[a]).mot.rests = false :=
  ⟨⟨motor (moving 1) { ObstSt.reset with closing := true }, 63, rfl, rfl, by decide +kernel, by decide +kernel, by decide +kernel, by decide +kernel,
      by decide +kernel, by decide +kernel⟩,
    ⟨motor { MotionSt.reset with qstop := true } .reset, 63, rfl, rfl, by decide +kernel⟩,
    ⟨run, 0, rfl, rfl, by decide +kernel, by decide +kernel⟩,
    ⟨motor (moving 1) .reset, 63, rfl, rfl, by decide +kernel, by decide +kernel, by decide +kernel, by decide +kernel, by decide +kernel⟩,
    ⟨motor (homes .toward) .reset, 63, rfl, rfl, by decide +kernel, by decide +kernel, by decide +kernel⟩,
    ⟨motor (moving (-1)) .reset, 63, rfl, rfl, by decide +kernel, by decide +kernel, by decide +kernel, by decide +kernel, by decide +kernel⟩,
    ⟨stepper { MotionSt.reset with driven := true }, 62, rfl, rfl, by decide +kernel, by decide +kernel, by decide +kernel⟩,
    stepper { MotionSt.reset with driven := true, target := 1 }, 62, rfl, rfl, by decide +kernel, by decide +kernel⟩
/-- Axis 63 homes by a method. -/
def homesBy (p : HomePhase) (method : Int) : State :=
  { motor (homes p) .reset with cfg := { run.cfg with eff := cfg.set F.homeMethod 63 method } }
/-- At the switch by a method with an index and by one without; in an absolute reading; where the position counts for nothing. -/
theorem witness_HomingEvents_methods :
    (∃ (s : State) (a : AxisId), s.unit.running = true ∧ s.computes = true ∧ (s.axes[a]).mot.home.first = false ∧ (s.axes[a]).mot.home.phase = .toward ∧
      s.cfg.eff.n F.homeMethod a.val = 4) ∧
    (∃ (s : State) (a : AxisId), s.unit.running = true ∧ s.computes = true ∧ (s.axes[a]).mot.home.first = false ∧ (s.axes[a]).mot.home.phase = .toward ∧
      s.cfg.eff.n F.homeMethod a.val ≠ 4) ∧
    (∃ (s : State) (a : AxisId), s.unit.running = true ∧ s.computes = true ∧ (s.axes[a]).mot.home.first = false ∧ (s.axes[a]).mot.home.phase = .absolute ∧
      s.cfg.eff.kind a.val ≠ 2) ∧
    (∃ (s : State) (a : AxisId), s.unit.running = true ∧ s.computes = true ∧ (s.axes[a]).mot.home.first = false ∧ (s.axes[a]).mot.home.phase = .away) ∧
    ∃ (s : State) (a : AxisId), s.unit.running = true ∧ s.computes = true ∧ (s.axes[a]).mot.home.first = false ∧ (s.axes[a]).mot.home.phase = .index ∧
      (s.axes[a]).mot.home.switchTick = some s.tick :=
  ⟨⟨homesBy .toward 4, 63, rfl, rfl, by decide +kernel, by decide +kernel, by decide +kernel⟩,
    ⟨homesBy .toward 1, 63, rfl, rfl, by decide +kernel, by decide +kernel, by decide +kernel⟩,
    ⟨homesBy .absolute 5, 63, rfl, rfl, by decide +kernel, by decide +kernel, by decide +kernel⟩,
    ⟨homesBy .away 1, 63, rfl, rfl, by decide +kernel, by decide +kernel⟩,
    motor { moving 1 with home := { HomeSt.reset with phase := .index, switchTick := some 100 } } .reset, 63, rfl, rfl, by decide +kernel, by decide +kernel,
      by decide +kernel⟩
theorem witness_HomingEvents :
    (∃ (s : State) (a : AxisId), s.unit.running = true ∧ s.computes = true ∧ (s.axes[a]).mot.home.first = false ∧
      (s.axes[a]).mot.home.phase = .toward) ∧
    (∃ (s : State) (a : AxisId), s.unit.running = true ∧ s.computes = true ∧ (s.axes[a]).mot.home.first = false ∧
      (s.axes[a]).mot.home.phase = .index ∧ (s.axes[a]).mot.home.switchTick ≠ some s.tick) ∧
    (∃ (s : State) (a : AxisId), s.unit.running = true ∧ s.computes = true ∧ (s.axes[a]).mot.home.first = false ∧
      (s.axes[a]).mot.home.phase = .push) ∧
    (∃ (s : State) (a : AxisId), s.unit.running = true ∧ s.computes = true ∧ (s.axes[a]).mot.home.phase ≠ .none) ∧
    ∃ (s : State) (a : AxisId), s.unit.running = true ∧ s.computes = true ∧ (s.axes[a]).mot.home.phase = .none :=
  ⟨⟨motor (homes .toward) .reset, 63, rfl, rfl, by decide +kernel, by decide +kernel⟩,
    ⟨motor (homes .index) .reset, 63, rfl, rfl, by decide +kernel, by decide +kernel, by decide +kernel⟩,
    ⟨motor (homes .push) .reset, 63, rfl, rfl, by decide +kernel, by decide +kernel⟩,
    ⟨motor (homes .backoff) .reset, 63, rfl, rfl, by decide +kernel⟩, run, 63, rfl, rfl, by decide +kernel⟩
theorem witness_Obstacles :
    (∃ (s : State) (a : AxisId), s.unit.running = true ∧ s.computes = true ∧ s.cfg.eff.kind a.val = 1 ∧ (s.axes[a]).mot.driven = true ∧
      (s.axes[a]).mot.reaction = .none ∧ (s.axes[a]).obst.marked = false) ∧
    (∃ (s : State) (d : DoorId), s.unit.running = true ∧ s.computes = true ∧ ∃ a ∈ leavesOf s.cfg.eff d.val,
      (s.axes[a]).obst.marked = true ∧ (s.axes[a]).mot.driven = true ∧ (s.axes[a]).mot.reaction = .none) ∧
    ∃ (s : State) (a : AxisId), s.unit.running = true ∧ s.computes = true ∧ s.cfg.eff.kind a.val = 2 ∧ s.cfg.eff.v F.stepEncoder a.val = 1 ∧
      (s.axes[a]).mot.driven = true ∧ (s.axes[a]).mot.home.phase = .none :=
  ⟨⟨motor (moving 1) .reset, 63, rfl, rfl, by decide +kernel, by decide +kernel, by decide +kernel, by decide +kernel⟩,
    ⟨motor (moving 1) { ObstSt.reset with marked := true }, 15, rfl, rfl, 63, by decide +kernel, by decide +kernel, by decide +kernel, by decide +kernel⟩,
    stepper (moving 1), 62, rfl, rfl, by decide +kernel, by decide +kernel, by decide +kernel, by decide +kernel⟩
theorem witness_ClosureEvents :
    (∃ (s : State) (a : AxisId) (d : DoorId) (k : Nat), s.unit.running = true ∧ s.computes = true ∧ (s.axes[a]).obst.eval ≠ .idle ∧
      doorOfAxis s.cfg.eff a.val = some (d.val, k) ∧ k < 2 ∧ (s.axes[a]).obst.sig ≠ .pass) ∧
    ∃ (s : State) (d : DoorId), s.unit.running = true ∧ s.computes = true ∧ s.cfg.eff.n F.doorUsed d.val = 1 ∧
      (s.doors[d]).clo.monitor = true ∧ (s.doors[d]).clo.lost = false :=
  ⟨⟨motor .reset { ObstSt.reset with eval := .settle 0 }, 63, 15, 0, rfl, rfl, by decide +kernel, by decide +kernel, by decide, by decide +kernel⟩,
    door { Door.reset with clo := { Closure.start with monitor := true } }, 15, rfl, rfl, by decide +kernel, by decide +kernel, by decide +kernel⟩

/-- Doorway 15 in a state. -/
def at' (st : DoorState) : State := door { Door.reset with st := st }
theorem doorRuns_door (d : Door) : DoorRuns (door d) 15 := ⟨rfl, rfl, doorRuns_run.2.2⟩
theorem writer_door (d : Door) : Writer (door d) req maintainer := writer_of rfl rfl rfl
theorem holds_door' (d : Door) : Holds (door d) req maintainer (.door 15) := ⟨rfl, rfl⟩
theorem door_get (d : Door) : (door d).doors[(15 : DoorId)] = d := by
  show (run.doors.set 15 d)[15] = d
  exact Vector.getElem_set_self (by decide)
/-- A host may open or close the doorway in each of its 16 states, with the signals of the release as given. -/
theorem witness_OpenAndClose :
    (∀ st : DoorState, ∃ (s : State) (d : DoorId), Writer s req maintainer ∧ Holds s req maintainer (.door d) ∧ DoorRuns s d ∧
      (s.doors[d]).given.getLsbD 1 = false ∧ (s.doors[d]).given.getLsbD 0 = false ∧ (s.doors[d]).st = st ∧
      s.il.release.getLsbD (s.cfg.eff.n F.doorSide d.val) = true ∧ s.il.release.getLsbD 2 = true) ∧
    (∃ (s : State) (d : DoorId), Writer s req maintainer ∧ Holds s req maintainer (.door d) ∧ DoorRuns s d ∧ (s.doors[d]).given.getLsbD 1 = false ∧
      s.il.release.getLsbD (s.cfg.eff.n F.doorSide d.val) = false) ∧
    (∃ (s : State) (d : DoorId), Writer s req maintainer ∧ Holds s req maintainer (.door d) ∧ DoorRuns s d ∧ (s.doors[d]).given.getLsbD 1 = false ∧
      (s.doors[d]).given.getLsbD 0 = false ∧ s.il.release.getLsbD (s.cfg.eff.n F.doorSide d.val) = true ∧ s.il.release.getLsbD 2 = true ∧
      (s.doors[d]).st = .egress ∧ (s.doors[d]).active.getLsbD 4 = true) ∧
    (∃ (s : State) (d : DoorId), Writer s req maintainer ∧ Holds s req maintainer (.door d) ∧ DoorRuns s d ∧ (s.doors[d]).given.getLsbD 1 = false ∧
      (s.doors[d]).given.getLsbD 0 = false ∧ s.il.release.getLsbD (s.cfg.eff.n F.doorSide d.val) = true ∧ s.il.release.getLsbD 2 = true ∧
      (s.doors[d]).st = .egress ∧ (s.doors[d]).active.getLsbD 4 = false) ∧
    ∃ (s : State) (d : DoorId), Writer s req maintainer ∧ Holds s req maintainer (.door d) ∧ DoorRuns s d ∧ (s.doors[d]).given.getLsbD 1 = false ∧
      s.il.release.getLsbD (s.cfg.eff.n F.doorSide d.val) = true ∧ s.il.release.getLsbD 2 = false :=
  ⟨fun st => ⟨at' st, 15, writer_door _, holds_door' _, doorRuns_door _, by unfold at'; rw [door_get]; show Door.reset.given.getLsbD 1 = false; decide,
      by unfold at'; rw [door_get]; show Door.reset.given.getLsbD 0 = false; decide,
      by unfold at'; rw [door_get], by show run.il.release.getLsbD (run.cfg.eff.n F.doorSide 15) = true; decide +kernel,
      by show run.il.release.getLsbD 2 = true; decide +kernel⟩,
    ⟨{ run with il := { run.il with release := 0 } }, 15, writer_of rfl rfl rfl, holds_door, doorRuns_run, by decide +kernel, by decide +kernel⟩,
    ⟨door { Door.reset with st := .egress, active := 0x10 }, 15, writer_door _, holds_door' _, doorRuns_door _, by decide +kernel, by decide +kernel,
      by decide +kernel, by decide +kernel, by decide +kernel, by decide +kernel⟩,
    ⟨at' .egress, 15, writer_door _, holds_door' _, doorRuns_door _, by decide +kernel, by decide +kernel, by decide +kernel, by decide +kernel,
      by decide +kernel, by decide +kernel⟩,
    { run with il := { run.il with release := 3 } }, 15, writer_of rfl rfl rfl, holds_door, doorRuns_run, by decide +kernel, by decide +kernel,
      by decide +kernel⟩
/-- A side command finds a doorway of its side in each of its 16 states, with both signals there. -/
theorem witness_SideCommands_states : ∀ st : DoorState, ∃ (s : State) (d : DoorId), DoorRuns s d ∧ s.cfg.eff.n F.doorSide d.val = 0 ∧
    s.il.release.getLsbD 0 = true ∧ s.il.release.getLsbD 2 = true ∧ (s.doors[d]).given.getLsbD 1 = false ∧ (s.doors[d]).given.getLsbD 0 = false ∧
    (s.doors[d]).st = st :=
  fun st => ⟨at' st, 15, doorRuns_door _, show run.cfg.eff.n F.doorSide 15 = 0 by decide +kernel, show run.il.release.getLsbD 0 = true by decide +kernel,
    show run.il.release.getLsbD 2 = true by decide +kernel, by unfold at'; rw [door_get]; show Door.reset.given.getLsbD 1 = false; decide,
    by unfold at'; rw [door_get]; show Door.reset.given.getLsbD 0 = false; decide, by unfold at'; rw [door_get]⟩
theorem witness_SideCommands :
    (∃ s : State, Writer s req maintainer ∧ Holds s req maintainer .unit) ∧
    (∃ s : State, s.unit.running = true ∧ s.cfg.eff.n F.sideOpenInput 0 ≠ 0xFF ∧ s.cfg.eff.n F.sideCloseInput 1 ≠ 0xFF ∧
      s.cfg.eff.n F.sideOpenInput 1 = 0xFF ∧ s.cfg.eff.n F.sideCloseInput 0 = 0xFF) ∧
    (∃ (s : State) (d : DoorId), s.cfg.eff.n F.doorUsed d.val ≠ 1) ∧
    (∃ (s : State) (d : DoorId), DoorRuns s d ∧ s.cfg.eff.n F.doorSide d.val = 0 ∧ s.il.release.getLsbD (s.cfg.eff.n F.doorSide d.val) = true ∧
      s.il.release.getLsbD 2 = true ∧ (s.doors[d]).given.getLsbD 1 = false ∧ (s.doors[d]).st = .closedLocked) ∧
    ∃ (s : State) (d : DoorId), DoorRuns s d ∧ s.cfg.eff.n F.doorSide d.val = 0 ∧ (s.doors[d]).given.getLsbD 0 = false ∧ (s.doors[d]).st = .opened :=
  ⟨⟨run, writer_run, holds_unit⟩, ⟨run, rfl, by decide +kernel, by decide +kernel, by decide +kernel, by decide +kernel⟩, ⟨run, 0, by decide +kernel⟩,
    ⟨at' .closedLocked, 15, doorRuns_door _, by decide +kernel, by decide +kernel, by decide +kernel, by decide +kernel, by decide +kernel⟩,
    at' .opened, 15, doorRuns_door _, by decide +kernel, by decide +kernel, by decide +kernel⟩

/-- `run` in MAINTENANCE with switch 11 on, its ports READY and doorway 15 OPEN with a jog or none. -/
def jogging (k : Option (Fin 4)) : State :=
  { door { Door.reset with st := .opened, jog := k } with
    unit := { run.unit with st := .maintenance }
    panel := { run.panel with ward := 0x400 }
    ports := Vector.replicate 32 { Port.reset with st := .ready } }
theorem writer_jogging (k : Option (Fin 4)) : Writer (jogging k) req maintainer :=
  ⟨rfl, rfl, by decide, ⟨rfl, rfl⟩, by show run.mustWait req.sess = false; decide +kernel, by decide, by
    show ({ run with unit := { run.unit with st := .maintenance } } : State).writesOpen = true; decide +kernel, rfl, by
    show run.hinge.role = .active → run.hinge.records.length < 4; decide +kernel⟩
theorem doorRuns_jogging (k : Option (Fin 4)) : DoorRuns (jogging k) 15 := ⟨rfl, rfl, doorRuns_run.2.2⟩
theorem witness_DoorService :
    (∃ (s : State) (d : DoorId), Writer s req maintainer ∧ Holds s req maintainer (.door d) ∧ DoorRuns s d ∧ s.runs = true ∧
      (s.doors[d]).st = .unhomed ∧ (s.doors[d]).homing = .none) ∧
    (∃ (s : State) (d : DoorId), Writer s req maintainer ∧ Holds s req maintainer (.door d) ∧ DoorRuns s d ∧ (s.doors[d]).homing ≠ .none) ∧
    (∃ (s : State) (d : DoorId), Writer s req maintainer ∧ Holds s req maintainer (.door d) ∧ DoorRuns s d ∧ (s.doors[d]).st = .fault ∧
      (s.doors[d]).cause ≠ 0x3021 ∧ ∀ a ∈ axesOf s.cfg.eff d.val, ∃ k : PortId, s.cfg.eff.portOf a.val = some k.val ∧ (s.ports[k]).st = .ready) ∧
    (∃ (s : State) (d : DoorId), Writer s req maintainer ∧ Holds s req maintainer (.door d) ∧ DoorRuns s d ∧ (s.doors[d]).st = .fault ∧
      (s.doors[d]).cause ≠ 0x3021 ∧ ¬ ∀ a ∈ axesOf s.cfg.eff d.val, ∃ k : PortId, s.cfg.eff.portOf a.val = some k.val ∧ (s.ports[k]).st = .ready) ∧
    (∃ (s : State) (d : DoorId), Writer s req maintainer ∧ Holds s req maintainer (.door d) ∧ DoorRuns s d ∧ (s.doors[d]).cause = 0x3021) ∧
    (∃ (s : State) (d : DoorId), Writer s req maintainer ∧ DoorRuns s d ∧ (s.doors[d]).st ≠ .warning) ∧
    (∃ (s : State) (d : DoorId) (ms : Word), Writer s req maintainer ∧ DoorRuns s d ∧ (s.doors[d]).st = .warning ∧
      ¬ 0 < (after s.tick (msTicks (min (ms.toNat % 65536) 3000)) - (s.doors[d]).warnEnd).toInt) ∧
    (∃ (s : State) (d : DoorId) (ms : Word), Writer s req maintainer ∧ DoorRuns s d ∧ (s.doors[d]).st = .warning ∧
      0 < (after s.tick (msTicks (min (ms.toNat % 65536) 3000)) - (s.doors[d]).warnEnd).toInt ∧
      after s.tick (msTicks (min (ms.toNat % 65536) 3000)) - (s.doors[d]).ceiling = 0) ∧
    (∃ (s : State) (d : DoorId) (ms : Word), Writer s req maintainer ∧ DoorRuns s d ∧ (s.doors[d]).st = .warning ∧
      0 < (after s.tick (msTicks (min (ms.toNat % 65536) 3000)) - (s.doors[d]).warnEnd).toInt ∧
      0 < (after s.tick (msTicks (min (ms.toNat % 65536) 3000)) - (s.doors[d]).ceiling).toInt) ∧
    (∃ (s : State) (d : DoorId) (k : Fin 4) (a : AxisId) (p : PortId), Writer s req maintainer ∧ Holds s req maintainer (.door d) ∧ DoorRuns s d ∧
      slotAxis s.cfg.eff d.val k.val = some a ∧ maintainer.role = .maintainer ∧ s.unit.st = .maintenance ∧ s.ward 11 = true ∧
      (s.doors[d]).st.jogs = true ∧ s.cfg.eff.portOf a.val = some p.val ∧ (s.ports[p]).st = .ready ∧ (s.doors[d]).jog = none) ∧
    ∃ (s : State) (d : DoorId) (k : Fin 4) (a : AxisId) (p : PortId), Writer s req maintainer ∧ Holds s req maintainer (.door d) ∧ DoorRuns s d ∧
      slotAxis s.cfg.eff d.val k.val = some a ∧ maintainer.role = .maintainer ∧ s.unit.st = .maintenance ∧ s.ward 11 = true ∧
      (s.doors[d]).st.jogs = true ∧ s.cfg.eff.portOf a.val = some p.val ∧ (s.ports[p]).st = .ready ∧ (s.doors[d]).jog = some k :=
  ⟨⟨run, 15, writer_run, holds_door, doorRuns_run, by decide +kernel, by decide +kernel, by decide +kernel⟩,
    ⟨door { Door.reset with homing := .moves }, 15, writer_door _, holds_door' _, doorRuns_door _, by decide +kernel⟩,
    ⟨{ at' .fault with ports := run.ports.set 31 { Port.reset with st := .ready } }, 15, writer_of rfl rfl rfl, holds_door, doorRuns_run, by decide +kernel,
      by decide +kernel, by decide +kernel⟩,
    ⟨at' .fault, 15, writer_door _, holds_door' _, doorRuns_door _, by decide +kernel, by decide +kernel, by decide +kernel⟩,
    ⟨door { Door.reset with st := .fault, cause := 0x3021 }, 15, writer_door _, holds_door' _, doorRuns_door _, by decide +kernel⟩,
    ⟨run, 15, writer_run, doorRuns_run, by decide +kernel⟩,
    ⟨door { Door.reset with st := .warning, warnEnd := 60100 }, 15, 0xFFFF, writer_door _, doorRuns_door _, by decide +kernel, by decide +kernel⟩,
    ⟨door { Door.reset with st := .warning, warnEnd := 60099, ceiling := 60100 }, 15, 0xFFFF, writer_door _, doorRuns_door _, by decide +kernel,
      by decide +kernel, by decide +kernel⟩,
    ⟨door { Door.reset with st := .warning, warnEnd := 60099, ceiling := 60099 }, 15, 0xFFFF, writer_door _, doorRuns_door _, by decide +kernel,
      by decide +kernel, by decide +kernel⟩,
    ⟨jogging none, 15, 0, 63, 31, writer_jogging _, holds_door, doorRuns_jogging _, by decide +kernel, rfl, rfl, by decide +kernel, by decide +kernel,
      by decide +kernel, by decide +kernel, by decide +kernel⟩,
    jogging (some 0), 15, 0, 63, 31, writer_jogging _, holds_door, doorRuns_jogging _, by decide +kernel, rfl, rfl, by decide +kernel, by decide +kernel,
      by decide +kernel, by decide +kernel, by decide +kernel⟩
theorem witness_DoorInputs :
    (∃ (s : State) (d : DoorId), DoorRuns s d ∧ s.cfg.eff.n F.buttonIn d.val ≠ 0xFF ∧ s.cfg.eff.n F.buttonOut d.val ≠ 0xFF ∧
      (s.doors[d]).active.getLsbD 5 = false ∧ (s.doors[d]).active.getLsbD 6 = false ∧ (s.doors[d]).blocked = true) ∧
    (∃ (s : State) (d : DoorId), DoorRuns s d ∧ s.cfg.eff.n F.buttonIn d.val ≠ 0xFF ∧ (s.doors[d]).active.getLsbD 5 = false ∧
      s.cfg.eff.n F.buttonEnable d.val = 1 ∧ (s.doors[d]).blocked = false ∧ (s.doors[d]).st = .opened) ∧
    (∃ (s : State) (d : DoorId), DoorRuns s d ∧ s.cfg.eff.n F.buttonIn d.val ≠ 0xFF ∧ (s.doors[d]).active.getLsbD 5 = false ∧
      s.cfg.eff.n F.buttonEnable d.val = 1 ∧ (s.doors[d]).blocked = false ∧ s.il.release.getLsbD (s.cfg.eff.n F.doorSide d.val) = true ∧
      s.il.release.getLsbD 2 = true ∧ (s.doors[d]).st = .closedLocked) ∧
    (∃ (s : State) (d : DoorId), DoorRuns s d ∧ s.cfg.eff.n F.isolatedInput d.val ≠ 0xFF ∧ (s.doors[d]).moved = false ∧ (s.doors[d]).st ≠ .isolated ∧ (s.doors[d]).stuck = false ∧
      s.cfg.eff.n F.egressPair d.val ≠ 0xFF ∧ (s.doors[d]).active.getLsbD 4 = false ∧ (s.doors[d]).st ≠ .fault ∧ (s.doors[d]).st ≠ .egress) ∧
    (∃ (s : State) (d : DoorId), DoorRuns s d ∧ s.cfg.eff.n F.isolatedInput d.val ≠ 0xFF ∧ (s.doors[d]).moved = false ∧ (s.doors[d]).st = .isolated ∧
      s.cfg.eff.n F.egressPair d.val ≠ 0xFF ∧ (s.doors[d]).active.getLsbD 4 = false) ∧
    (∃ (s : State) (d : DoorId), DoorRuns s d ∧ s.cfg.eff.n F.egressPair d.val ≠ 0xFF ∧ (s.doors[d]).active.getLsbD 4 = true) ∧
    (∃ (s : State) (gone : BitVec 3) (d : DoorId), DoorRuns s d ∧
      (let left := s.il.release &&& ~~~gone; (left.getLsbD (s.cfg.eff.n F.doorSide d.val) && left.getLsbD 2) = false) ∧ (s.doors[d]).st = .opened ∧
      s.unit.st ≠ .maintenance) ∧
    (∃ (s : State) (gone : BitVec 3), s.unit.running = true ∧ (s.il.release &&& ~~~gone).getLsbD 2 = false ∧
      s.unit.st = .maintenance) ∧
    ∃ (s : State) (d : DoorId), DoorRuns s d ∧ (s.doors[d]).st = .egress ∧
      (s.doors[d]).egress = .wait ∧ (s.doors[d]).moved = false ∧ (s.doors[d]).jog = none :=
  ⟨⟨door { Door.reset with blocked := true }, 15, doorRuns_door _, by decide +kernel, by decide +kernel, by decide +kernel, by decide +kernel, by decide +kernel⟩,
    ⟨at' .opened, 15, doorRuns_door _, by decide +kernel, by decide +kernel, by decide +kernel, by decide +kernel, by decide +kernel⟩,
    ⟨at' .closedLocked, 15, doorRuns_door _, by decide +kernel, by decide +kernel, by decide +kernel, by decide +kernel, by decide +kernel, by decide +kernel,
      by decide +kernel⟩,
    ⟨run, 15, doorRuns_run, by decide +kernel, by decide +kernel, by decide +kernel, by decide +kernel, by decide +kernel, by decide +kernel, by decide +kernel,
      by decide +kernel⟩,
    ⟨at' .isolated, 15, doorRuns_door _, by decide +kernel, by decide +kernel, by decide +kernel, by decide +kernel, by decide +kernel⟩,
    ⟨door { Door.reset with active := 0x10 }, 15, doorRuns_door _, by decide +kernel, by decide +kernel⟩,
    ⟨at' .opened, 4, 15, doorRuns_door _, by decide +kernel, by decide +kernel, by decide⟩,
    ⟨jogging none, 7, rfl, by decide +kernel, rfl⟩,
    door { Door.reset with st := .egress, egress := .wait }, 15, doorRuns_door _, by decide +kernel, by decide +kernel, by decide +kernel, by decide +kernel⟩
/-- A doorway whose jog is 200 ms old, or whose ward switch 11 is off. -/
theorem witness_DoorTimers_jog : ∃ (r : DoorRun) (i : DoorIn) (a : AxisId), reached i.now (after r.door.jogTick 4000) = true ∧ r.door.jog = some 0 ∧
    slotAxis i.cfg i.d 0 = some a :=
  ⟨⟨{ Door.reset with jog := some 0, jogTick := 0 - 3900 }, run.axes, []⟩, run.doorIn 15, 63, by decide +kernel, rfl, by decide +kernel⟩
theorem witness_DoorTimers :
    (∃ (s : State) (d : DoorId), DoorRuns s d ∧ (s.doors[d]).moved = false ∧ (s.doors[d]).jog = none ∧ (s.doors[d]).st = .opened ∧
      s.cfg.eff.n F.autoCloseMs d.val ≠ 0) ∧
    (∃ (s : State) (d : DoorId), DoorRuns s d ∧ (s.doors[d]).moved = false ∧ (s.doors[d]).jog = none ∧ (s.doors[d]).st = .warning) ∧
    (∃ (s : State) (d : DoorId), DoorRuns s d ∧ (s.doors[d]).moved = false ∧ (s.doors[d]).jog = none ∧ (s.doors[d]).st = .reopening ∧
      (s.doors[d]).timer.isSome = true ∧ s.cfg.eff.n F.reopenAttempts d.val < (s.doors[d]).attempts) ∧
    (∃ (s : State) (d : DoorId), DoorRuns s d ∧ (s.doors[d]).moved = false ∧ (s.doors[d]).jog = none ∧ (s.doors[d]).st = .reopening ∧
      (s.doors[d]).timer.isSome = true ∧ s.cfg.eff.n F.reopenAttempts d.val = (s.doors[d]).attempts) ∧
    (∃ (s : State) (d : DoorId), DoorRuns s d ∧ (s.doors[d]).moved = false ∧ (s.doors[d]).jog = none ∧ (s.doors[d]).st = .stepIn ∧
      (s.doors[d]).retry = true ∧ (s.doors[d]).timer.isSome = true ∧ s.cfg.eff.n F.reopenAttempts d.val < (s.doors[d]).attempts) ∧
    (∃ (s : State) (d : DoorId), DoorRuns s d ∧ (s.doors[d]).moved = false ∧ (s.doors[d]).jog = none ∧ (s.doors[d]).st = .stepIn ∧
      (s.doors[d]).retry = true ∧ (s.doors[d]).timer.isSome = true ∧ ¬ s.cfg.eff.n F.reopenAttempts d.val < (s.doors[d]).attempts) ∧
    (∃ (s : State) (d : DoorId), DoorRuns s d ∧ (s.doors[d]).moved = false ∧ (s.doors[d]).jog = none ∧ (s.doors[d]).st = .locking ∧
      (s.doors[d]).timer.isSome = true ∧ (s.doors[d]).clo.locked = false) ∧
    ∃ (s : State) (d : DoorId) (k : Fin 4) (a : AxisId), DoorRuns s d ∧ (s.doors[d]).jog = some k ∧ slotAxis s.cfg.eff d.val k.val = some a :=
  ⟨⟨at' .opened, 15, doorRuns_door _, by decide +kernel, by decide +kernel, by decide +kernel, by decide +kernel⟩,
    ⟨at' .warning, 15, doorRuns_door _, by decide +kernel, by decide +kernel, by decide +kernel⟩,
    ⟨door { Door.reset with st := .reopening, timer := some 0, attempts := 255 }, 15, doorRuns_door _, by decide +kernel, by decide +kernel, by decide +kernel,
      by decide +kernel, by decide +kernel⟩,
    ⟨door { Door.reset with st := .reopening, timer := some 0, attempts := run.cfg.eff.n F.reopenAttempts 15 }, 15, doorRuns_door _, by decide +kernel,
      by decide +kernel, by decide +kernel, by decide +kernel, by decide +kernel⟩,
    ⟨door { Door.reset with st := .stepIn, retry := true, timer := some 0, attempts := 255 }, 15, doorRuns_door _, by decide +kernel, by decide +kernel,
      by decide +kernel, by decide +kernel, by decide +kernel, by decide +kernel⟩,
    ⟨door { Door.reset with st := .stepIn, retry := true, timer := some 0 }, 15, doorRuns_door _, by decide +kernel, by decide +kernel, by decide +kernel,
      by decide +kernel, by decide +kernel, by decide +kernel⟩,
    ⟨door { Door.reset with st := .locking, timer := some 0 }, 15, doorRuns_door _, by decide +kernel, by decide +kernel, by decide +kernel, by decide +kernel,
      by decide +kernel⟩,
    jogging (some 0), 15, 0, 63, doorRuns_jogging _, by decide +kernel, by decide +kernel⟩

/-! ### Interlock, telegrams, field I/O -/

/-- `run` with another interlock or another BOLT. -/
def lock (il : Interlock) : State := { run with il := il }
def bolt (b : BoltSt) : State := lock { run.il with bolt := b }
theorem witness_BoltAndPairFaults :
    (∃ s : State, s.unit.running = true ∧ s.il.bolt.combined = true ∧ s.il.bolt.test = none) ∧
    (∃ s : State, s.unit.running = true ∧ s.io.sup.invalid = false ∧ s.il.bolt.latched.getLsbD 0 = false ∧ s.il.bolt.latched.getLsbD 1 = false ∧
      s.il.bolt.latched.getLsbD 2 = false ∧ s.hingeIn.pair = false) ∧
    (∃ s : State, s.unit.running = true ∧ s.io.sup.invalid = false ∧ s.hingeIn.pair = true) ∧
    ∃ s : State, s.unit.running = true ∧ s.unit.st = .run ∧ s.unit.coreLine = true ∧ s.il.bolt.latched.getLsbD 3 = false :=
  ⟨⟨bolt { run.il.bolt with combined := true }, by decide +kernel⟩, ⟨single, by decide +kernel⟩, ⟨run, by decide +kernel⟩,
    { run with unit := { run.unit with coreLine := true } }, by decide +kernel⟩
theorem witness_BoltAndPairFaults_pairs :
    (∃ (s : State) (p : PairId), s.unit.running = true ∧ s.io.sup.invalid = false ∧ s.cfg.eff.pairUsed p.val = true ∧ (s.il.pairs[p]).a.disc = false) ∧
    ∃ (s : State) (p : PairId), s.unit.running = true ∧ s.io.sup.invalid = false ∧ (s.il.pairs[p]).a.disc = true :=
  ⟨⟨run, 31, by decide +kernel⟩,
    lock { run.il with pairs := run.il.pairs.set 31 { run.il.pairs[31] with a := { (run.il.pairs[31]).a with disc := true } } }, 31, by decide +kernel⟩

/-- An axis on the way to a target, at a position and speed of the planner. -/
def onWay (target xp vp : Int) : AxRun :=
  ⟨{ Axis.reset with mot := { MotionSt.reset with target := target, xp := xp, vp := vp } }, []⟩
/-- The parameters of axis 63 of `run`. -/
def par63 : LoopPar := loopPar run.cfg.eff false 0 63
/-- An axis at 0 with both its limits tripped. -/
def limits : MotionSt := { MotionSt.reset with limNeg := { MotionSt.reset.limNeg with active := true }, limPos := { MotionSt.reset.limPos with active := true } }
/-- The direction turns and stays; an inner run hands over from F to V at output 0 and re-seeds, one from V does not; the planner rests,
brakes away, lands, and is on its way. -/
theorem witness_LoopAndPlanner :
    (∃ (l : LoopSt) (v t x : Int), l.dir = 1 ∧ (l.direction v t x).dir ≠ l.dir) ∧
    (∃ (l : LoopSt) (v t x : Int), l.dir = -1 ∧ v = 0 ∧ t = x ∧ (l.direction v t x).dir = l.dir) ∧
    (∃ p : LoopPar, 0 ≤ p.b 1 ∧ 0 < p.b 1) ∧
    (∃ (l : LoopSt) (p : LoopPar) (fLim : Int), -p.brakeMax ≤ min p.driveMax fLim ∧ l.sel = some .f ∧
      (let m := l.inner p true 0 0 fLim 0
       m.sel = some .v ∧ m.reseeded = true ∧ -p.brakeMax ≤ l.uPrev ∧ l.uPrev ≤ min p.driveMax fLim ∧
         -p.brakeMax ≤ l.uPrev - ((m.ch .v).ff + (m.ch .v).p + (m.ch .v).d) ∧
         l.uPrev - ((m.ch .v).ff + (m.ch .v).p + (m.ch .v).d) ≤ min p.driveMax fLim)) ∧
    (∃ (l : LoopSt) (p : LoopPar) (fLim : Int), -p.brakeMax ≤ min p.driveMax fLim ∧ l.stale = true ∧ l.sel = some .v ∧
      (l.inner p true 0 0 fLim 0).reseeded = false) ∧
    (∃ r : AxRun, r.ax.mot.target * 65536 = r.ax.mot.xp ∧ r.ax.mot.vp = 0) ∧
    (∃ r : AxRun, r.ax.mot.target * 65536 ≠ r.ax.mot.xp ∧ r.ax.mot.vp * sgn (r.ax.mot.target * 65536 - r.ax.mot.xp) < 0) ∧
    (∃ (r : AxRun) (i : AxIn), r.ax.mot.landed = false ∧ (r.profileStep i).ax.mot.landed = true) ∧
    (∃ (r : AxRun) (i : AxIn), r.ax.mot.landed = false ∧ (r.profileStep i).ax.mot.landed = false ∧ r.ax.mot.target * 65536 ≠ r.ax.mot.xp ∧
      0 ≤ r.ax.mot.vp * sgn (r.ax.mot.target * 65536 - r.ax.mot.xp)) ∧
    ∃ m : MotionSt, m.limNeg.active = true ∧ m.limPos.active = true :=
  ⟨⟨.reset, -1, 0, 0, by decide +kernel⟩, ⟨{ LoopSt.reset with dir := -1 }, 0, 0, 0, by decide +kernel⟩, ⟨par63, by decide +kernel⟩,
    ⟨{ LoopSt.reset with sel := some .f }, par63, par63.driveMax, by decide +kernel⟩,
    ⟨{ LoopSt.reset with sel := some .v, stale := true }, par63, 0, by decide +kernel⟩,
    ⟨onWay 0 0 0, rfl, rfl⟩, ⟨onWay 10 0 (-1), by decide +kernel⟩, ⟨onWay 0 (-10) 0, run.axIn 63, by decide +kernel⟩,
    ⟨onWay 0 (-100) 0, run.axIn 63, by decide +kernel⟩, limits, rfl, rfl⟩

/-- `run` that receives the RELEASE telegrams of source 511, in a state of their reception. -/
def receiver (f : SafeSt) : State :=
  { lock { run.il with safe := f } with cfg := { run.cfg with eff := (cfg.set F.safeRxSrc 0 511).set F.safeSingleMaxMs 0 5 } }
/-- A RELEASE telegram with a sequence number and flags. -/
def release (seq : BitVec 32) (flags : Byte) : List Byte :=
  telegram (BitVec.ofNat 32 ((receiver .reset).cfg.eff.n F.safeConnId 0)) 1 511 seq 0 ([flags] ++ List.replicate 15 0)
/-- A telegram is valid for `s`. -/
def takesRelease (s : State) (bytes : List Byte) : Bool :=
  telegramValid (BitVec.ofNat 32 (s.cfg.eff.n F.safeConnId 0)) true 1 (s.cfg.eff.n F.safeRxSrc 0) bytes
/-- The state of a RELEASE reception whose last accepted telegram had SEQ 7, received at `tick`. -/
def accepted (tick : Tick) : SafeSt := { SafeSt.reset with known := true, fresh := true, seq := 7, tick := tick }
/-- The SEQ of a copy lies 1 to 64 after the accepted one (R312). -/
def isNear (s : State) (bytes : List Byte) : Bool :=
  1 ≤ (BitVec.ofNat 32 (leAt bytes 4 4) - s.il.safe.seq).toNat && (BitVec.ofNat 32 (leAt bytes 4 4) - s.il.safe.seq).toNat ≤ 64
/-- A copy came in its time (R312). -/
def isTimely (s : State) (bytes : List Byte) : Bool :=
  ((s.tick - s.il.safe.tick) - (BitVec.ofNat 32 (leAt bytes 8 4) - s.il.safe.stamp)).toInt.natAbs ≤ msTicks (s.cfg.eff.n F.safeMaxDelayMs 0)
/-- What every case below asks of the state and the copy. -/
def mayTake (s : State) (bytes : List Byte) : Bool :=
  s.unit.running && operating s.unit.st && s.cfg.eff.n F.safeRxSrc 0 < 512 && takesRelease s bytes
/-- The case of a new copy with an open wait `w`. -/
def waits (w : TgWait) (f : SafeSt) : State := receiver { f with wait := some w }
/-- `waits`, as a single connection since tick 1. -/
def waitsSingle (w : TgWait) : State := waits w { SafeSt.reset with single := true, singleStart := 1 }
/-- `receiver`, single, with CAN A off the bus. -/
def alone : State :=
  { receiver { SafeSt.reset with single := true, singleStart := 1 } with can := Vector.replicate 2 { Can.reset with bus := .busOff } }
/-- A sequence number 0 or 65 ahead is stale, 1 or 64 ahead is new if it comes in time (R312). -/
theorem witness_ReleaseTelegrams :
    (∃ (s : State) (bytes : List Byte), s.unit.running = true ∧ operating s.unit.st = true ∧ s.cfg.eff.n F.safeRxSrc 0 = 511 ∧ takesRelease s bytes = false) ∧
    (∀ n ∈ [(0 : BitVec 32), 65], ∃ (s : State) (bytes : List Byte), mayTake s bytes = true ∧ s.il.safe.known = true ∧ isNear s bytes = false ∧
      BitVec.ofNat 32 (leAt bytes 4 4) - s.il.safe.seq = n) ∧
    (∀ n ∈ [(1 : BitVec 32), 64], ∃ (s : State) (bytes : List Byte), mayTake s bytes = true ∧ s.il.safe.known = true ∧ isNear s bytes = true ∧
      isTimely s bytes = true ∧ s.il.safe.wait = none ∧ s.busOffs.getLsbD 1 = false ∧ BitVec.ofNat 32 (leAt bytes 4 4) - s.il.safe.seq = n) ∧
    (∃ (s : State) (bytes : List Byte), mayTake s bytes = true ∧ s.il.safe.known = true ∧ isNear s bytes = true ∧ isTimely s bytes = false) ∧
    (∃ (s : State) (bytes : List Byte), mayTake s bytes = true ∧ s.il.safe.known = false ∧ s.il.safe.wait = none ∧ s.busOffs.getLsbD 1 = false) ∧
    (∃ (s : State) (bytes : List Byte), mayTake s bytes = true ∧ s.il.safe.known = false ∧ s.il.safe.wait = none ∧ s.busOffs.getLsbD 1 = true ∧
      s.il.safe.single = true ∧ since s.tick s.il.safe.singleStart < msTicks (s.cfg.eff.n F.safeSingleMaxMs 0)) ∧
    (∃ (s : State) (bytes : List Byte) (w : TgWait), mayTake s bytes = true ∧ s.il.safe.known = false ∧ s.il.safe.wait = some w ∧
      w.seq = BitVec.ofNat 32 (leAt bytes 4 4) ∧ w.bus ≠ 0 ∧ w.bytes = bytes) ∧
    (∃ (s : State) (bytes : List Byte) (w : TgWait), mayTake s bytes = true ∧ s.il.safe.known = false ∧ s.il.safe.wait = some w ∧
      w.seq = BitVec.ofNat 32 (leAt bytes 4 4) ∧ w.bus ≠ 0 ∧ w.bytes ≠ bytes) ∧
    (∃ (s : State) (bytes : List Byte) (w : TgWait), mayTake s bytes = true ∧ s.il.safe.known = false ∧ s.il.safe.wait = some w ∧
      w.seq = BitVec.ofNat 32 (leAt bytes 4 4) ∧ w.bus = 0) ∧
    (∃ (s : State) (bytes : List Byte) (w : TgWait), mayTake s bytes = true ∧ s.il.safe.known = false ∧ s.il.safe.wait = some w ∧
      w.seq ≠ BitVec.ofNat 32 (leAt bytes 4 4) ∧ ¬ 0 < (BitVec.ofNat 32 (leAt bytes 4 4) - w.seq).toInt) ∧
    (∃ (s : State) (bytes : List Byte) (w : TgWait), mayTake s bytes = true ∧ s.il.safe.known = false ∧ s.il.safe.wait = some w ∧
      w.seq ≠ BitVec.ofNat 32 (leAt bytes 4 4) ∧ 0 < (BitVec.ofNat 32 (leAt bytes 4 4) - w.seq).toInt ∧ s.busOffs.getLsbD 1 = false ∧
      s.il.safe.single = true ∧ since s.tick s.il.safe.singleStart < msTicks (s.cfg.eff.n F.safeSingleMaxMs 0)) ∧
    (∃ (s : State) (w : TgWait), s.unit.running = true ∧ s.il.safe.wait = some w ∧ s.il.safe.single = false ∧ 0 < s.cfg.eff.n F.safeSingleMaxMs 0) ∧
    (∃ (s : State) (w : TgWait), s.unit.running = true ∧ s.il.safe.wait = some w ∧ s.il.safe.single = true ∧ s.il.safe.expired = false ∧
      msTicks (s.cfg.eff.n F.safeSingleMaxMs 0) = since s.tick s.il.safe.singleStart) ∧
    ∃ s : State, s.unit.running = true ∧ s.il.safe.fresh = true :=
  ⟨⟨receiver .reset, [], by decide +kernel⟩,
    fun n h => by
      rcases List.mem_cons.1 h with h | h
      · exact ⟨receiver (accepted 100), release 7 0, by subst h; decide +kernel⟩
      · exact ⟨receiver (accepted 100), release 72 0, by rw [List.mem_singleton.1 h]; decide +kernel⟩,
    fun n h => by
      rcases List.mem_cons.1 h with h | h
      · exact ⟨receiver (accepted 100), release 8 0, by subst h; decide +kernel⟩
      · exact ⟨receiver (accepted 100), release 71 0, by rw [List.mem_singleton.1 h]; decide +kernel⟩,
    ⟨receiver (accepted 1000000), release 8 0, by decide +kernel⟩,
    ⟨receiver .reset, release 7 0, by decide +kernel⟩,
    ⟨alone, release 7 0, by decide +kernel⟩,
    ⟨waits ⟨7, 1, 90, release 7 0⟩ .reset, release 7 0, ⟨7, 1, 90, release 7 0⟩, by decide +kernel⟩,
    ⟨waits ⟨7, 1, 90, release 7 1⟩ .reset, release 7 0, ⟨7, 1, 90, release 7 1⟩, by decide +kernel⟩,
    ⟨waits ⟨7, 0, 90, release 7 0⟩ .reset, release 7 0, ⟨7, 0, 90, release 7 0⟩, by decide +kernel⟩,
    ⟨waits ⟨8, 1, 90, release 8 0⟩ .reset, release 7 0, ⟨8, 1, 90, release 8 0⟩, by decide +kernel⟩,
    ⟨waitsSingle ⟨6, 1, 90, release 6 0⟩, release 7 0, ⟨6, 1, 90, release 6 0⟩, by decide +kernel⟩,
    ⟨waits ⟨7, 1, 90, []⟩ .reset, ⟨7, 1, 90, []⟩, by decide +kernel⟩,
    ⟨waits ⟨7, 1, 90, []⟩ { SafeSt.reset with single := true, singleStart := 0 }, ⟨7, 1, 90, []⟩, by decide +kernel⟩,
    receiver (accepted 100), by decide +kernel⟩

/-- A DOOR_STATE telegram of the module's own address with a ROLE. -/
def doorState (role : Byte) : List Byte :=
  telegram (BitVec.ofNat 32 (run.cfg.eff.n F.safeConnId 0)) 2 run.addr 7 0 (List.replicate 7 (0 : Byte) ++ [role <<< 4] ++ List.replicate 8 0)
/-- `run` with the lease of epoch 1, and the witness of port 31 that reports it or another. -/
def holder (reported : BitVec 16) : State :=
  { port { Port.reset with st := .ready, whole := true, status := 3, epoch := reported } with
    cfg := { run.cfg with eff := cfg.set F.witness 31 1 }, hinge := { run.hinge with lease := true, epoch := 1 } }
/-- `holder`, of a module without a hinge pair. -/
def holderSingle : State := { holder 0 with cfg := { run.cfg with eff := (cfg.set F.witness 31 1).set F.hingeMode 0 0 } }
/-- `holder`, with the cause Y3: stage 31 has reported FOREIGN_LEASE in 3 ticks. -/
def holderCause : State := { holder 1 with hinge := { (holder 1).hinge with foreign := (holder 1).hinge.foreign.set 31 3 } }
/-- `run` as a STANDBY. -/
def standby : State := { run with hinge := { run.hinge with role := .standby } }
/-- Buffer 0 of both buses as given, with or without a telegram that waits for the attempt. -/
def buffer0 (st : TxState) (next0 : Option (List Byte)) : State :=
  { run with can := Vector.replicate 2 { Can.reset with tx := Can.reset.tx.set 0 { TxBuf.reset with st := st }, next0 := next0 } }
def takesDoorState (s : State) (bytes : List Byte) : Bool :=
  telegramValid (BitVec.ofNat 32 (s.cfg.eff.n F.safeConnId 0)) true 2 s.addr bytes
/-- A module that takes the telegram as a leasing ACTIVE or ALONE one, of a ROLE that leads. -/
def contested (s : State) (bytes : List Byte) : Bool :=
  s.unit.running && operating s.unit.st && takesDoorState s bytes && s.hinge.role != .standby && s.hinge.leases s.hingeIn &&
    (leAt bytes 19 1 / 16 % 4 == Role.active.code || leAt bytes 19 1 / 16 % 4 == Role.alone.code)
theorem witness_DoorStateTelegrams :
    (∀ next ∈ [none, some []], ∃ (s : State) (b : BusId), s.unit.running = true ∧ operating s.unit.st = true ∧ s.leads = true ∧
      ((s.can[b]).tx[(0 : Fin 3)]).st = .sending ∧ (s.can[b]).next0 = next) ∧
    (∀ st ∈ [TxState.pending, .empty], ∃ (s : State) (b : BusId), s.unit.running = true ∧ operating s.unit.st = true ∧ s.leads = true ∧
      ((s.can[b]).tx[(0 : Fin 3)]).st = st) ∧
    standby.leads = false ∧ operating State.reset.unit.st = false ∧
    (∃ (s : State) (bytes : List Byte), s.unit.running = true ∧ operating s.unit.st = true ∧ takesDoorState s bytes = false) ∧
    (∃ (s : State) (bytes : List Byte), s.unit.running = true ∧ operating s.unit.st = true ∧ takesDoorState s bytes = true ∧ s.hinge.role = .standby ∧
      s.hinge.leases s.hingeIn = false) ∧
    (∃ (s : State) (bytes : List Byte), contested s bytes = true ∧ s.hingeIn.heldHere s.hinge.epoch < quorum s.cfg.eff ∧ s.hingeIn.pair = true) ∧
    (∃ (s : State) (bytes : List Byte), contested s bytes = true ∧ s.hingeIn.heldHere s.hinge.epoch < quorum s.cfg.eff ∧ s.hingeIn.pair = false) ∧
    (∃ (s : State) (bytes : List Byte), contested s bytes = true ∧ s.hingeIn.heldHere s.hinge.epoch = quorum s.cfg.eff ∧ s.hingeIn.pair = true ∧
      (⟨s.hinge, [], none⟩ : HingeRun).yieldCause s.hingeIn s.lostNow = true) ∧
    (∃ (s : State) (bytes : List Byte), contested s bytes = true ∧ s.hingeIn.heldHere s.hinge.epoch = quorum s.cfg.eff ∧
      (⟨s.hinge, [], none⟩ : HingeRun).yieldCause s.hingeIn s.lostNow = false) ∧
    ∃ (s : State) (bytes : List Byte), s.unit.running = true ∧ operating s.unit.st = true ∧ takesDoorState s bytes = true ∧ s.hinge.role ≠ .standby ∧
      leAt bytes 19 1 / 16 % 4 ≠ Role.active.code ∧ leAt bytes 19 1 / 16 % 4 ≠ Role.alone.code :=
  ⟨fun n h => by
      rcases List.mem_cons.1 h with h | h
      · exact ⟨buffer0 .sending none, 1, by subst h; decide +kernel⟩
      · exact ⟨buffer0 .sending (some []), 1, by rw [List.mem_singleton.1 h]; decide +kernel⟩,
    fun n h => by
      rcases List.mem_cons.1 h with h | h
      · exact ⟨buffer0 .pending none, 1, by subst h; decide +kernel⟩
      · exact ⟨buffer0 .empty none, 1, by rw [List.mem_singleton.1 h]; decide +kernel⟩,
    by decide +kernel, by decide +kernel, ⟨run, [], by decide +kernel⟩,
    ⟨standby, doorState 2, by decide +kernel⟩, ⟨holder 0, doorState 2, by decide +kernel⟩, ⟨holderSingle, doorState 2, by decide +kernel⟩,
    ⟨holderCause, doorState 1, by decide +kernel⟩, ⟨holder 1, doorState 1, by decide +kernel⟩, run, doorState 3, by decide +kernel⟩

/-- A load switch that conducts, and `run` with load switch 15 or channel 63 in a state. -/
def conducts : LoadSwitch := { LoadSwitch.reset with st := .on, cmd := true }
def output (x : Channel) : State := { run with io := { run.io with ch := run.io.ch.set 63 x } }
/-- `run` with LS_PAIRED and FC_PAIRED of these outputs set, and LS_RETRY_MAX 0. -/
def wired (s : State) : State :=
  { s with cfg := { s.cfg with eff := ((cfg.set F.lsPaired 15 1).set F.fcPaired 63 1).set F.lsRetryMax 15 0 } }
theorem witness_OutputChecks :
    (∃ (s : State) (l : LoadId) (out : Fin 80), out.val = l.val ∧ s.unit.running = true ∧ s.io.sup.invalid = false ∧ (s.io.ls[l]).driving = true ∧
      (s.io.ls[l]).st = .on ∧ (s.io.ls[l]).cmd = true ∧ (s.io.ls[l]).blank = 0 ∧ (s.io.ls[l]).latch = false ∧
      s.cfg.eff.n F.lsRetryMax l.val < min 16 ((s.io.ls[l]).retries + 1)) ∧
    (∃ (s : State) (l : LoadId) (out : Fin 80), out.val = l.val ∧ s.unit.running = true ∧ s.io.sup.invalid = false ∧ (s.io.ls[l]).driving = true ∧
      (s.io.ls[l]).latch = true) ∧
    (∀ paired ∈ [0, 1], ∃ (s : State) (l : LoadId) (out : Fin 80), out.val = l.val ∧ s.unit.running = true ∧ s.io.sup.invalid = false ∧
      (s.io.ls[l]).cmd = false ∧ (s.io.ls[l]).driving = false ∧ s.cfg.eff.n F.lsPaired l.val = paired) ∧
    (∃ (s : State) (c : ChanId) (out : Fin 80), out.val = c.val + 16 ∧ s.unit.running = true ∧ s.cfg.eff.mode c.val = 1 ∧ s.io.sup.invalid = false ∧
      (s.io.ch[c]).out = .on ∧ (s.io.ch[c]).cmd = true) ∧
    (∀ paired ∈ [0, 1], ∃ (s : State) (c : ChanId) (out : Fin 80), out.val = c.val + 16 ∧ s.unit.running = true ∧ s.cfg.eff.mode c.val = 1 ∧
      s.io.sup.invalid = false ∧ (s.io.ch[c]).cmd = false ∧ (s.io.ch[c]).out ≠ .on ∧ s.cfg.eff.n F.fcPaired c.val = paired) ∧
    (∃ (s : State) (c : ChanId), s.unit.running = true ∧ s.cfg.eff.mode c.val = 1 ∧ (s.io.ch[c]).out = .tripped ∧ turnPassed s.io.sup (c.val + 16) = true) ∧
    ∃ s : State, s.io.sup.invalid = true :=
  ⟨⟨wired (loadSw conducts), 15, 15, by decide +kernel⟩, ⟨loadSw { conducts with latch := true }, 15, 15, by decide +kernel⟩,
    fun n h => by
      rcases List.mem_cons.1 h with h | h
      · exact ⟨run, 15, 15, by subst h; decide +kernel⟩
      · exact ⟨wired run, 15, 15, by rw [List.mem_singleton.1 h]; decide +kernel⟩,
    ⟨output { Channel.reset with out := .on, cmd := true }, 63, 79, by decide +kernel⟩,
    fun n h => by
      rcases List.mem_cons.1 h with h | h
      · exact ⟨run, 63, 79, by subst h; decide +kernel⟩
      · exact ⟨wired run, 63, 79, by rw [List.mem_singleton.1 h]; decide +kernel⟩,
    ⟨output { Channel.reset with out := .tripped }, 63, by decide +kernel⟩, State.reset, by decide +kernel⟩
/-- A latched switch stays off at 130 °C and switches on at 129 °C (R336). -/
theorem witness_LoadSwitches :
    (∃ (s : State) (l : LoadId), s.unit.running = true ∧ s.io.sup.invalid = false ∧ (s.io.ls[l]).st = .on ∧ (s.io.ls[l]).blank = 0 ∧
      (s.io.ls[l]).latch = false ∧ (s.io.ls[l]).thermWarn = false ∧ (s.io.ls[l]).driving = true ∧
      s.cfg.eff.n F.lsRetryMax l.val < min 16 ((s.io.ls[l]).retries + 1)) ∧
    (∀ temp ∈ [(130 : Int), 129], ∃ (s : State) (l : LoadId), s.unit.running = true ∧ (s.io.ls[l]).slot.isSome = true ∧ turnPassed s.io.sup l.val = true ∧
      (s.io.ls[l]).latch = true ∧ (s.io.ls[l]).temp = temp ∧ (s.io.ls[l]).st ≠ .lockout) ∧
    (∃ (s : State) (l : LoadId), s.unit.running = true ∧ (s.io.ls[l]).slot.isSome = true ∧ turnPassed s.io.sup l.val = true ∧ (s.io.ls[l]).latch = true ∧
      (s.io.ls[l]).temp < 130 ∧ (s.io.ls[l]).st = .lockout) ∧
    (∃ (s : State) (l : LoadId), s.unit.running = true ∧ (s.io.ls[l]).slot.isSome = true ∧ turnPassed s.io.sup l.val = true ∧ (s.io.ls[l]).latch = false ∧
      (s.io.ls[l]).st = .shed) ∧
    ∃ (s : State) (l : LoadId), s.unit.running = true ∧ s.io.iGrp < s.io.sum ∧ (s.io.ls[l]).driving = true ∧
      ∀ j : LoadId, (s.io.ls[j]).driving = true → (s.io.ls[j]).current < (s.io.ls[l]).current ∨ (s.io.ls[j]).current = (s.io.ls[l]).current ∧ j.val ≤ l.val :=
  ⟨⟨wired (loadSw conducts), 15, by decide +kernel⟩,
    fun n h => by
      rcases List.mem_cons.1 h with h | h
      · exact ⟨loadSw { LoadSwitch.reset with st := .thermal, latch := true, slot := some 0, temp := 130 }, 15, by subst h; decide +kernel⟩
      · exact ⟨loadSw { LoadSwitch.reset with st := .thermal, latch := true, slot := some 0, temp := 129 }, 15, by
          rw [List.mem_singleton.1 h]; decide +kernel⟩,
    ⟨loadSw { LoadSwitch.reset with st := .lockout, latch := true, slot := some 0 }, 15, by decide +kernel⟩,
    ⟨loadSw { LoadSwitch.reset with st := .shed, slot := some 0 }, 15, by decide +kernel⟩,
    { run with io := { run.io with ls := Vector.replicate 16 conducts, sum := 1 } }, 15, by decide +kernel⟩

/-- `run` with another field supply. -/
def supply (u : FieldSupply) : State := { run with io := { run.io with sup := u } }
/-- `run` in the restore sequence at place `k`, with load switch 15 and channel 63 waiting or not. -/
def restores (k : Nat) (l : LsState) (c : OutState) : State :=
  { supply { run.io.sup with restore := some k } with
    io := { run.io with sup := { run.io.sup with restore := some k }, ls := run.io.ls.set 15 { LoadSwitch.reset with st := l }
                        ch := run.io.ch.set 63 { Channel.reset with out := c } } }
theorem witness_FieldSupplyEvents :
    (∃ s : State, s.unit.running = true ∧ s.io.sup.low = false ∧ s.io.sup.invalid = false ∧ s.io.sup.dropped = false ∧ s.io.sup.high = false) ∧
    (∃ s : State, s.unit.running = true ∧ s.io.sup.low = true ∧ s.io.sup.invalid = true ∧ s.io.sup.dropped = true ∧ s.io.sup.high = true) ∧
    (∃ (s : State) (k : Nat) (l : LoadId), s.unit.running = true ∧ s.io.sup.dropped = false ∧ s.io.sup.restore = some k ∧ k ≤ l.val ∧
      (s.io.ls[l]).st = .waitRestore ∧ ∀ i : Fin 80, k ≤ i.val → i.val < l.val → takesTurn s.io s.tick i.val = false) ∧
    (∃ (s : State) (k : Nat) (c : ChanId), s.unit.running = true ∧ s.io.sup.dropped = false ∧ s.io.sup.restore = some k ∧ k ≤ c.val + 16 ∧
      (s.io.ch[c]).out = .waitRestore ∧ ∀ i : Fin 80, k ≤ i.val → i.val < c.val + 16 → takesTurn s.io s.tick i.val = false) ∧
    ∃ (s : State) (k : Nat), s.unit.running = true ∧ s.io.sup.dropped = false ∧ s.io.sup.restore = some k ∧
      ∀ i : Fin 80, k ≤ i.val → takesTurn s.io s.tick i.val = false :=
  ⟨⟨run, by decide +kernel⟩, ⟨supply { FieldSupply.reset with low := true, high := true }, by decide +kernel⟩,
    ⟨restores 3 .waitRestore .waitRestore, 3, 15, by decide +kernel⟩, ⟨restores 16 .waitRestore .waitRestore, 16, 63, by decide +kernel⟩,
    restores 0 .off .off, 0, by decide +kernel⟩
theorem witness_InputsAndSupplies :
    (∀ m ∈ [2, 3, 4], ∃ (s : State) (c : ChanId), s.unit.running = true ∧ s.io.sup.invalid = false ∧ s.cfg.eff.mode c.val = m) ∧
    (∃ (s : State) (k : Fin 2), s.unit.running = true ∧ s.io.snsOff.getLsbD k.val = false ∧ s.io.anSupOff = false) ∧
    (∃ (s : State) (k : Fin 2), s.unit.running = true ∧ s.io.snsOff.getLsbD k.val = true ∧ s.io.anSupOff = true) ∧
    (∃ (s : State) (n : AnId), s.unit.running = true ∧ s.cfg.eff.n F.anMode n.val = 1 ∧ (s.io.an[n]).shuntOff = false) ∧
    ∃ (s : State) (n : AnId), s.unit.running = true ∧ (s.io.an[n]).shuntOff = true :=
  ⟨fun m h => by
      rcases List.mem_cons.1 h with h | h
      · exact ⟨run, 60, by subst h; decide +kernel⟩
      · rcases List.mem_cons.1 h with h | h
        · exact ⟨run, 56, by subst h; decide +kernel⟩
        · exact ⟨run, 58, by rw [List.mem_singleton.1 h]; decide +kernel⟩,
    ⟨run, 1, by decide +kernel⟩, ⟨{ run with io := { run.io with snsOff := 2, anSupOff := true } }, 1, by decide +kernel⟩, ⟨run, 3, by decide +kernel⟩,
    { run with io := { run.io with an := run.io.an.set 3 { run.io.an[3] with shuntOff := true } } }, 3, by decide +kernel⟩

/-! ### CAN, the hinge pair, stored words, the network -/

/-- `run` with another state of CAN B. -/
def canB (c : Can) : State := { run with can := run.can.set 1 c }
/-- CAN B on its bus, with buffer `b` as given. -/
def onBus (b : Fin 3) (x : TxBuf) : Can := { Can.reset with mode := .normal, bus := .active, tx := Can.reset.tx.set b x }
/-- CAN B on its bus with `n` held frames. -/
def holdsFrames (n : Nat) : Can := { onBus 2 .reset with rx := List.replicate n (canFrame.entry 0 0 false 0 0) }
theorem witness_CanCommands :
    (∃ (s : State) (bus : BusId) (b : Fin 3), Writer s req maintainer ∧ Holds s req maintainer .unit ∧ b ≠ 0 ∧ ((s.can[bus]).tx[b]).st ≠ .pending ∧
      ((s.can[bus]).tx[b]).st ≠ .sending ∧ ¬ (bit ((s.can[bus]).tx[b]).id 29 = true ∧ bit ((s.can[bus]).tx[b]).fmt 4 = true)) ∧
    (∃ (s : State) (bus : BusId) (b : Fin 3), Writer s req maintainer ∧ Holds s req maintainer .unit ∧ b ≠ 0 ∧
      bit ((s.can[bus]).tx[b]).id 29 = true ∧ bit ((s.can[bus]).tx[b]).fmt 4 = true) ∧
    (∃ (s : State) (bus : BusId) (n : Word), Writer s req maintainer ∧ Holds s req maintainer .unit ∧ n.toNat < 128 ∧ n ≠ 0 ∧
      (s.can[bus]).acked + n.toNat = (s.can[bus]).rx.length) ∧
    ∃ (s : State) (bus : BusId) (n : Word), Writer s req maintainer ∧ Holds s req maintainer .unit ∧ n.toNat < 128 ∧
      (s.can[bus]).rx.length + 1 = (s.can[bus]).acked + n.toNat :=
  ⟨⟨run, 1, 2, writer_run, holds_unit, by decide +kernel⟩,
    ⟨canB (onBus 2 { TxBuf.reset with id := 0x20000000, fmt := 0x10 }), 1, 2, writer_of rfl rfl rfl, holds_unit, by decide +kernel⟩,
    ⟨canB (holdsFrames 64), 1, 64, writer_of rfl rfl rfl, holds_unit, by decide +kernel⟩,
    canB (holdsFrames 63), 1, 64, writer_of rfl rfl rfl, holds_unit, by decide +kernel⟩
/-- `s` with every extended identifier taken by filter 7 of CAN B, and RELEASE telegrams of source 511. -/
def filtered (s : State) : State :=
  { s with cfg := { s.cfg with eff := (cfg.set F.rxFilter 15 0xC0000000).set F.safeRxSrc 0 511 } }
/-- An extended frame without data. -/
def extended (id : Nat) : CanFrame := { canFrame with id := id, ide := true }
/-- REC 127 falls to 126, REC 128 to a free value (R361). -/
theorem witness_CanReception :
    (∀ n ∈ [127, 128], ∃ (s : State) (bus : BusId), s.unit.running = true ∧ s.held = false ∧ (s.can[bus]).onBus = true ∧ (s.can[bus]).rec' = n) ∧
    (∃ (s : State) (bus : BusId), s.unit.running = true ∧ s.held = true ∧ (s.can[bus]).onBus = true ∧ (s.can[bus]).sending = none) ∧
    (∀ n ∈ [1, 2], ∃ (s : State) (bus : BusId) (f : CanFrame), s.unit.running = true ∧ s.held = false ∧ (s.can[bus]).onBus = true ∧
      s.safeType f = some n) ∧
    (∃ (s : State) (bus : BusId) (f : CanFrame), s.unit.running = true ∧ (s.can[bus]).onBus = true ∧ s.safeType f = none ∧ matchFilter s.cfg.eff bus f = none) ∧
    (∀ n ∈ [63, 64], ∃ (s : State) (bus : BusId) (f : CanFrame) (k : Nat), s.unit.running = true ∧ (s.can[bus]).onBus = true ∧ s.safeType f = none ∧
      matchFilter s.cfg.eff bus f = some k ∧ (s.can[bus]).rx.length = n ∧ (s.can[bus]).overflow = false) ∧
    (∃ (s : State) (bus : BusId), s.unit.running = true ∧ s.held = false ∧ (s.can[bus]).onBus = true ∧ (s.can[bus]).mode = .restricted) ∧
    (∃ (s : State) (bus : BusId), s.unit.running = true ∧ s.held = false ∧ (s.can[bus]).onBus = true ∧ (s.can[bus]).mode ≠ .restricted ∧
      (s.can[bus]).rec' = 95) ∧
    (∃ (s : State) (bus : BusId), s.unit.running = true ∧ (s.can[bus]).onBus = true ∧ (s.can[bus]).mode ≠ .restricted ∧ (s.can[bus]).passive = false ∧
      (s.can[bus]).rec' = 127 ∧ (s.can[bus]).sending = none) ∧
    (∃ (s : State) (bus : BusId), s.unit.running = true ∧ (s.can[bus]).bus = .integrating ∧ (s.can[bus]).mode ≠ .off) ∧
    (∃ (s : State) (bus : BusId) (b : Fin 3), s.unit.running = true ∧ (s.can[bus]).onBus = true ∧ (s.can[bus]).sending = some b ∧ (s.can[bus]).next0 = none ∧
      ((s.can[bus]).tx[b]).aborting = false) ∧
    (∃ (s : State) (bus : BusId) (m : CanMode), s.unit.running = true ∧ (s.can[bus]).bus = .recovering ∧ (s.can[bus]).sending = none ∧
      (s.can[bus]).modeReq = some m) ∧
    ∃ (s : State) (bus : BusId) (m : CanMode), s.unit.running = true ∧ (s.can[bus]).modeReq = some m ∧ (s.can[bus]).bus ≠ .busOff ∧
      (s.can[bus]).bus ≠ .recovering ∧ (s.can[bus]).sending = none :=
  ⟨fun n h => by
      rcases List.mem_cons.1 h with h | h
      · exact ⟨canB { onBus 2 .reset with rec' := 127 }, 1, by subst h; decide +kernel⟩
      · exact ⟨canB { onBus 2 .reset with rec' := 128 }, 1, by rw [List.mem_singleton.1 h]; decide +kernel⟩,
    ⟨{ canB (onBus 2 .reset) with unit := { run.unit with st := .faultHeld } }, 1, by decide +kernel⟩,
    fun n h => by
      rcases List.mem_cons.1 h with h | h
      · exact ⟨filtered (canB (onBus 2 .reset)), 1, extended (safeId ((filtered run).cfg.eff.n F.safeCanBase 0) 1 511), by subst h; decide +kernel⟩
      · exact ⟨filtered (canB (onBus 2 .reset)), 1, extended (safeId ((filtered run).cfg.eff.n F.safeCanBase 0) 2 run.addr), by
          rw [List.mem_singleton.1 h]; decide +kernel⟩,
    ⟨canB (onBus 2 .reset), 1, canFrame, by decide +kernel⟩,
    fun n h => by
      rcases List.mem_cons.1 h with h | h
      · exact ⟨filtered (canB (holdsFrames 63)), 1, extended 5, 7, by subst h; decide +kernel⟩
      · exact ⟨filtered (canB (holdsFrames 64)), 1, extended 5, 7, by rw [List.mem_singleton.1 h]; decide +kernel⟩,
    ⟨canB { onBus 2 .reset with mode := .restricted }, 1, by decide +kernel⟩, ⟨canB { onBus 2 .reset with rec' := 95 }, 1, by decide +kernel⟩,
    ⟨canB { onBus 2 .reset with rec' := 127 }, 1, by decide +kernel⟩, ⟨canB { Can.reset with mode := .normal }, 1, by decide +kernel⟩,
    ⟨canB (onBus 0 { TxBuf.reset with st := .sending }), 1, 0, by decide +kernel⟩,
    ⟨canB { Can.reset with bus := .recovering, modeReq := some .normal }, 1, .normal, by decide +kernel⟩,
    canB { onBus 2 .reset with modeReq := some .off }, 1, .off, by decide +kernel⟩
/-- TEC 247 stays on the bus, TEC 248 is bus-off at the next error; the sixteenth missing acknowledgement is told (R356, R361). -/
theorem witness_CanTransmission :
    (∀ n ∈ [247, 248], ∃ (s : State) (bus : BusId) (b : Fin 3), s.unit.running = true ∧ (s.can[bus]).sending = some b ∧ b ≠ 0 ∧ s.held = false ∧
      ((s.can[bus]).tx[b]).aborting = false ∧ (s.can[bus]).tec = n) ∧
    (∃ (s : State) (bus : BusId) (b : Fin 3), s.unit.running = true ∧ (s.can[bus]).sending = some b ∧ (s.can[bus]).next0 = none ∧ s.held = false ∧
      ((s.can[bus]).tx[b]).aborting = true ∧ ((s.can[bus]).tx[b]).ackErrors = 15 ∧ ((s.can[bus]).tx[b]).noListener = false ∧ (s.can[bus]).tec = 95) ∧
    (∃ (s : State) (bus : BusId) (b : Fin 3), s.unit.running = true ∧ (s.can[bus]).sending = some b ∧ b ≠ 0 ∧ s.held = false ∧ (s.can[bus]).passive = false ∧
      (s.can[bus]).tec = 127 ∧ (s.can[bus]).excepted 1 = true) ∧
    (∃ (s : State) (bus : BusId) (b : Fin 3), s.unit.running = true ∧ s.held = false ∧ (s.can[bus]).sending = none ∧ (s.can[bus]).mayTransmit = true ∧
      (s.can[bus]).choose (s.cfg.eff.n F.txOrder bus.val == 1) = some b ∧ b ≠ 0) ∧
    (∃ (s : State) (bus : BusId) (b : Fin 3), s.unit.running = true ∧ s.held = true ∧ (s.can[bus]).sending = some b) ∧
    (∃ (s : State) (bus : BusId) (bs : List Byte), s.unit.running = true ∧ s.held = false ∧ (s.can[bus]).sending = some 0 ∧ (s.can[bus]).next0 = some bs) ∧
    (∃ (s : State) (bus : BusId), s.unit.running = true ∧ (s.can[bus]).onBus = true ∧ (s.can[bus]).sending ≠ some 0 ∧ (s.can[bus]).tec = 95) ∧
    ∃ (s : State) (bus : BusId), s.unit.running = true ∧ (s.can[bus]).onBus = true ∧ (s.can[bus]).sending ≠ some 0 ∧ (s.can[bus]).tec = 128 ∧ (s.can[bus]).passive = true :=
  ⟨fun n h => by
      rcases List.mem_cons.1 h with h | h
      · exact ⟨canB { onBus 2 { TxBuf.reset with st := .sending } with tec := 247 }, 1, 2, by subst h; decide +kernel⟩
      · exact ⟨canB { onBus 2 { TxBuf.reset with st := .sending } with tec := 248 }, 1, 2, by rw [List.mem_singleton.1 h]; decide +kernel⟩,
    ⟨canB { onBus 0 { TxBuf.reset with st := .sending, aborting := true, ackErrors := 15 } with tec := 95 }, 1, 0, by decide +kernel⟩,
    ⟨canB { onBus 2 { TxBuf.reset with st := .sending } with tec := 127 }, 1, 2, by decide +kernel⟩,
    ⟨canB (onBus 2 { TxBuf.reset with st := .pending }), 1, 2, by decide +kernel⟩,
    ⟨{ canB (onBus 2 { TxBuf.reset with st := .sending }) with unit := { run.unit with st := .faultHeld } }, 1, 2, by decide +kernel⟩,
    ⟨canB { onBus 0 { TxBuf.reset with st := .sending } with next0 := some [1] }, 1, [1], by decide +kernel⟩,
    ⟨canB { onBus 2 .reset with tec := 95 }, 1, by decide +kernel⟩, canB { onBus 2 .reset with tec := 128 }, 1, by decide +kernel⟩

/-- `run` with another state of the hinge. -/
def hinge (h : Hinge) : State := { run with hinge := h }
theorem pairRuns_hinge (h : Hinge) : PairRuns (hinge h) := pairRuns_run
/-- A heartbeat with a ROLE, of tick 100 and the module's own address. -/
def beat (role : Nat) : Heartbeat := ⟨role, false, false, false, 4, 100, 0, run.addr, 1, 0, 0, 0, 0, []⟩
/-- The payload of a copy frame of a tick. -/
def copyBytes (place : Nat × Nat) (tick : Nat) : List Byte :=
  [2, BitVec.ofNat 8 place.1, BitVec.ofNat 8 place.2, 0] ++ leBytes 4 tick ++ List.replicate 112 0
/-- A STANDBY whose cycle of doorway 15 does not run, with that doorway closed. -/
def closedStandby : State := { door { Door.reset with st := .closedLocked } with hinge := standby.hinge }
/-- A STANDBY in HOMING. -/
def homingStandby : State := { standby with unit := { run.unit with st := .homing } }
theorem pairRuns_homing : PairRuns homingStandby := ⟨rfl, pairRuns_run.2.1, by decide, by decide⟩
/-- What follows an undisturbed payload. -/
def ending (p : List Byte) : FrameEnd := ⟨crc32 p, true, false⟩
theorem witness_PinLink :
    (∃ (s : State) (f : WireFrame) (b : Heartbeat), PairRuns s ∧ f.parity = false ∧ frameGood 96 f.payload f.crc f.lineOk = true ∧ heartbeatOf f.payload = some b) ∧
    (∃ (s : State) (f : WireFrame), PairRuns s ∧ f.parity = false ∧ frameGood 96 f.payload f.crc f.lineOk = false) ∧
    (∃ s : State, PairRuns s ∧ s.hinge.sent.isSome = true ∧ s.hinge.nakIn = true ∧ s.hinge.resent = false ∧ s.hinge.linkLost = false ∧ s.hinge.role = .active) ∧
    (∃ s : State, PairRuns s ∧ s.hinge.linkLost = true) ∧ (∃ f : WireFrame, PairRuns run ∧ f.parity = true) ∧
    (∀ c : CopyState, c ∈ [CopyState.axis 63 .reset, .door 15 .reset, .unit ⟨.maintenance, 0⟩, .unit ⟨.homing, 0⟩] → ∃ (s : State) (p : List Byte) (e : FrameEnd), PairRuns s ∧ s.standby = true ∧
      operating s.unit.st = true ∧ s.unit.st = .run ∧ e.parity = false ∧ frameGood 120 p e.crc e.lineOk = true ∧ leAt p 0 1 = 2 ∧
      (leAt p 1 1, leAt p 2 1) = c.place ∧ after (BitVec.ofNat 32 (leAt p 4 4)) 1 = s.tick ∧ c ≠ .unit s.copyUnit) ∧
    (∃ (s : State) (p : List Byte) (e : FrameEnd) (c : CopyState), PairRuns s ∧ s.standby = true ∧ operating s.unit.st = true ∧ e.parity = false ∧
      frameGood 120 p e.crc e.lineOk = true ∧ leAt p 0 1 = 2 ∧ (leAt p 1 1, leAt p 2 1) = c.place ∧
      after (BitVec.ofNat 32 (leAt p 4 4)) 1 = s.tick ∧ c = .unit s.copyUnit) ∧
    (∃ (s : State) (p : List Byte) (e : FrameEnd), PairRuns s ∧ s.standby = true ∧ operating s.unit.st = true ∧ e.parity = false ∧
      frameGood 120 p e.crc e.lineOk = true ∧ leAt p 0 1 = 2 ∧ (leAt p 1 1, leAt p 2 1) = (CopyState.door 15 { Door.reset with st := .unlocking }).place ∧
      after (BitVec.ofNat 32 (leAt p 4 4)) 1 = s.tick ∧ (s.recorder.cycles[(15 : DoorId)]).active = false ∧ (s.doors[(15 : DoorId)]).st.isClosed = true) ∧
    (∃ (s : State) (p : List Byte) (e : FrameEnd), PairRuns s ∧ s.standby = true ∧ operating s.unit.st = true ∧ e.parity = false ∧
      frameGood 120 p e.crc e.lineOk = true ∧ leAt p 0 1 = 2 ∧ (leAt p 1 1, leAt p 2 1) = (CopyState.unit ⟨.run, 0⟩).place ∧
      after (BitVec.ofNat 32 (leAt p 4 4)) 1 = s.tick ∧ s.unit.st = .homing) ∧
    (∃ (s : State) (p : List Byte) (e : FrameEnd), PairRuns s ∧ e.parity = false ∧ frameGood 120 p e.crc e.lineOk = true ∧
      after (BitVec.ofNat 32 (leAt p 4 4)) 1 ≠ s.tick ∧ s.standby = true) ∧ (PairRuns run ∧ run.standby = false) ∧
    (∃ (s : State) (p : List Byte) (e : FrameEnd), PairRuns s ∧ e.parity = false ∧ s.standby = true ∧ operating s.unit.st = true ∧
      frameGood 120 p e.crc e.lineOk = false) ∧
    ∃ (s : State) (e : FrameEnd), PairRuns s ∧ e.parity = true ∧ s.standby = true ∧ operating s.unit.st = true := by
  refine ⟨⟨run, whole (beat 2).bytes, _, pairRuns_run, rfl, by decide +kernel, rfl⟩, ⟨run, frame 96, pairRuns_run, rfl, by decide +kernel⟩,
    ⟨hinge { run.hinge with sent := some (beat 2), nakIn := true, role := .active }, pairRuns_hinge _, rfl, rfl, rfl, rfl, rfl⟩,
    ⟨hinge { run.hinge with linkLost := true }, pairRuns_hinge _, rfl⟩, ⟨{ frame 96 with parity := true }, pairRuns_run, rfl⟩, fun c h => ?_,
    ⟨standby, copyBytes (3, 0) 99, ending (copyBytes (3, 0) 99), .unit standby.copyUnit, pairRuns_hinge _, rfl, rfl, rfl, by decide +kernel, by decide +kernel, by decide +kernel,
      by decide +kernel, rfl⟩,
    ⟨closedStandby, copyBytes (2, 15) 99, ending (copyBytes (2, 15) 99), pairRuns_run, rfl, rfl, rfl, by decide +kernel, by decide +kernel, by decide +kernel,
      by decide +kernel, by decide +kernel, by decide +kernel⟩,
    ⟨homingStandby, copyBytes (3, 0) 99, ending (copyBytes (3, 0) 99), pairRuns_homing, rfl, rfl, rfl, by decide +kernel, by decide +kernel, by decide +kernel,
      by decide +kernel, rfl⟩,
    ⟨standby, copyBytes (3, 0) 100, ending (copyBytes (3, 0) 100), pairRuns_hinge _, rfl, by decide +kernel, by decide +kernel, rfl⟩, ⟨pairRuns_run, by decide⟩,
    ⟨standby, copyBytes (3, 0) 99, ⟨0, true, false⟩, pairRuns_hinge _, rfl, rfl, rfl, by decide +kernel⟩,
    standby, ⟨0, true, true⟩, pairRuns_hinge _, rfl, rfl, rfl⟩
  rcases List.mem_cons.1 h with h | h
  · exact ⟨standby, copyBytes (1, 63) 99, ending (copyBytes (1, 63) 99), pairRuns_hinge _, rfl, rfl, rfl, rfl, by subst h; decide +kernel⟩
  · rcases List.mem_cons.1 h with h | h
    · exact ⟨standby, copyBytes (2, 15) 99, ending (copyBytes (2, 15) 99), pairRuns_hinge _, rfl, rfl, rfl, rfl, by subst h; decide +kernel⟩
    · rcases List.mem_cons.1 h with h | h
      · exact ⟨standby, copyBytes (3, 0) 99, ending (copyBytes (3, 0) 99), pairRuns_hinge _, rfl, rfl, rfl, rfl, by subst h; decide +kernel⟩
      · exact ⟨standby, copyBytes (3, 0) 99, ending (copyBytes (3, 0) 99), pairRuns_hinge _, rfl, rfl, rfl, rfl, by rw [List.mem_singleton.1 h]; decide +kernel⟩

/-- A module whose role is not settled, with or without a partner's heartbeat of a STANDBY. -/
def unsettled (b : Option Heartbeat) : State := hinge { run.hinge with role := .unsettled, heeded := true, partner := b }
/-- An ALONE in its rounds since tick `S`. -/
def rounds (S : Tick) (s : State) : State := { s with hinge := { s.hinge with rounds := some S, lease := false, claim := none } }
/-- A STANDBY fit to take over from a witness that has missed three ticks of the holder of epoch 1. -/
def heir (h : Hinge) (d : Door) : State :=
  { port { Port.reset with st := .ready, whole := true, status := 2, epoch := 1, miss := 3 } with
    cfg := { run.cfg with eff := cfg.set F.witness 31 1 }
    hinge := { h with role := .standby, silence := 20 }
    doors := run.doors.set 15 d }
theorem pairRuns_witness {s : State} (u : s.unit = run.unit) (c : s.cfg.eff = cfg.set F.witness 31 1) : PairRuns s :=
  ⟨by rw [u]; rfl, by rw [c]; decide +kernel, by rw [u]; decide, by rw [u]; decide⟩
/-- The heir has the inputs of doorway 15 with its isolation on or off. -/
def isolates (s : State) (on : Bool) : State := { s with io := { s.io with ch := s.io.ch.set 2 { Channel.reset with value := on, sensed := true } } }
theorem witness_RolesAndLeases :
    (∃ s : State, PairRuns s ∧ operating s.unit.st = true ∧ s.hinge.role = .unsettled ∧ s.hinge.present = none ∧ s.staticIp = false) ∧
    (∃ s : State, PairRuns s ∧ operating s.unit.st = true ∧ s.hinge.role = .unsettled ∧ s.hinge.present = none ∧ s.net.k = none ∧ s.staticIp = true ∧
      s.hinge.partner = none) ∧
    (∃ (s : State) (b : Heartbeat), PairRuns s ∧ operating s.unit.st = true ∧ s.hinge.role = .unsettled ∧ s.hinge.present = some b ∧ b.role = 3) ∧
    (∃ (s : State) (S : Tick), PairRuns s ∧ operating s.unit.st = true ∧ s.hinge.rounds = some S ∧ s.hinge.lease = false ∧ s.hingeIn.heldByOther = true) ∧
    (∃ (s : State) (S : Tick), PairRuns s ∧ operating s.unit.st = true ∧ s.hinge.rounds = some S ∧ s.hinge.lease = false ∧ s.hingeIn.heldByOther = false ∧
      s.se.serial.getLsbD (since s.tick S / 80 % 32) = true) ∧
    (∃ (s : State) (S : Tick), PairRuns s ∧ operating s.unit.st = true ∧ s.hinge.rounds = some S ∧ s.hinge.lease = false ∧ s.hingeIn.heldByOther = false ∧
      s.se.serial.getLsbD (since s.tick S / 80 % 32) = false) ∧
    (∃ s : State, PairRuns s ∧ operating s.unit.st = true ∧ s.hinge.claim.isSome = true ∧ s.hinge.rounds.isSome = true ∧
      s.hingeIn.heldHere s.hinge.epoch < quorum s.cfg.eff) ∧
    (∃ s : State, PairRuns s ∧ operating s.unit.st = true ∧ s.hinge.claim.isSome = true ∧ s.hingeIn.heldHere s.hinge.epoch = quorum s.cfg.eff) ∧
    (∃ (s : State) (e : BitVec 16), PairRuns s ∧ operating s.unit.st = true ∧ s.hinge.role = .standby ∧ s.hinge.fit = true ∧ s.hinge.silence = 20 ∧
      s.hingeIn.lapsedEpoch = some e ∧ s.hinge.synced = false ∧ ∃ d : DoorId, s.cfg.eff.n F.doorUsed d.val = 1 ∧ (s.doorInputs d.val).1.getLsbD 2 = true) ∧
    (∃ (s : State) (e : BitVec 16), PairRuns s ∧ operating s.unit.st = true ∧ s.hinge.role = .standby ∧ s.hinge.fit = true ∧ s.hinge.silence = 20 ∧
      s.hingeIn.lapsedEpoch = some e ∧ s.hinge.synced = false ∧ ∃ d : DoorId, s.cfg.eff.n F.doorUsed d.val = 1 ∧ (s.doorInputs d.val).1.getLsbD 2 = false ∧
        (s.doors[d]).st = .fault) ∧
    (∃ (s : State) (e : BitVec 16), PairRuns s ∧ operating s.unit.st = true ∧ s.hinge.role = .standby ∧ s.hinge.fit = true ∧ s.hinge.silence = 20 ∧
      s.hingeIn.lapsedEpoch = some e ∧ s.hinge.synced = false ∧ ∃ d : DoorId, s.cfg.eff.n F.doorUsed d.val = 1 ∧ (s.doorInputs d.val).1.getLsbD 2 = true ∧
        (s.doors[d]).stuck = true ∧ (s.doors[d]).st = .fault) ∧
    (∃ (s : State) (e : BitVec 16), PairRuns s ∧ operating s.unit.st = true ∧ s.hinge.role = .standby ∧ s.hinge.fit = true ∧ s.hinge.gone = true ∧
      s.hingeIn.lapsedEpoch = some e ∧ s.hinge.synced = true) ∧
    (∃ s : State, PairRuns s ∧ operating s.unit.st = true ∧ s.hinge.lease = true ∧ s.unit.st ≠ .discover) ∧
    ∃ s : State, PairRuns s ∧ operating s.unit.st = true ∧ s.unit.st = .discover :=
  ⟨⟨unsettled none, pairRuns_hinge _, by decide +kernel⟩,
    ⟨{ unsettled none with cfg := { run.cfg with eff := cfg.set F.ipMode 0 1 } }, ⟨rfl, by decide +kernel, by decide, by decide⟩, by decide +kernel⟩,
    ⟨unsettled (some (beat 3)), beat 3, pairRuns_hinge _, by decide +kernel⟩,
    ⟨rounds 100 { holder 1 with ports := run.ports.set 31 { Port.reset with st := .ready, whole := true, status := 2, epoch := 1 } }, 100,
      pairRuns_witness rfl rfl, by decide +kernel⟩,
    ⟨{ rounds 100 run with se := { run.se with serial := 1 } }, 100, pairRuns_run, by decide +kernel⟩, ⟨{ rounds 20 run with se := { run.se with serial := 1 } }, 20, pairRuns_run, by decide +kernel⟩,
    ⟨hinge { run.hinge with claim := some 99, rounds := some 99 }, pairRuns_hinge _, by decide +kernel⟩,
    ⟨{ holder 1 with hinge := { (holder 1).hinge with claim := some 99 } }, pairRuns_witness rfl rfl, by decide +kernel⟩,
    ⟨isolates (heir run.hinge .reset) true, 1, pairRuns_witness rfl rfl, by decide +kernel⟩,
    ⟨isolates (heir run.hinge { Door.reset with st := .fault }) false, 1, pairRuns_witness rfl rfl, by decide +kernel⟩,
    ⟨isolates (heir run.hinge { Door.reset with st := .fault, cause := 0x3021 }) true, 1, pairRuns_witness rfl rfl, by decide +kernel⟩,
    ⟨{ heir run.hinge .reset with
        hinge := { run.hinge with role := .standby, gone := true, sync := true, lastCycle := some (90, 0), lastSweep := some (90, 0) } }, 1,
      pairRuns_witness rfl rfl, by decide +kernel⟩,
    ⟨holder 1, pairRuns_witness rfl rfl, by decide +kernel⟩,
    unit { run.unit with st := .discover }, ⟨rfl, pairRuns_run.2.1, by decide, by decide⟩, by decide +kernel⟩

/-- `run` with words of `m` in SRAM. -/
def memory (m : Mem) : State := { run with mem := m }
theorem witness_StoredWords :
    (∃ (s : State) (w : Nat), s.unit.running = true ∧ w + 1 = passWords + 16 ∧ s.mem.flips = [(w, 1)]) ∧
    (∃ (s : State) (w : Nat) (mask : BitVec 72), s.unit.running = true ∧ w < passWords ∧ s.mem.remap = [] ∧
      (s.mem.flips.lookup w).getD 0 ^^^ mask ≠ 0) ∧
    (∃ (s : State) (w v p : Nat) (mask : BitVec 72), s.unit.running = true ∧ s.mem.remap = [(v, p)] ∧ w = passWords ∧
      (s.mem.flips.lookup w).getD 0 ^^^ mask ≠ 0) ∧
    (∃ s : State, s.unit.running = true ∧ s.mem.pos + 1 < passWords ∧ s.up < s.mem.dueAt (s.mem.pos + 1) ∧ s.mem.flip s.mem.pos = 0) ∧
    (∃ s : State, s.unit.running = true ∧ s.mem.pos + 1 < passWords ∧ s.up < s.mem.dueAt (s.mem.pos + 1) ∧ s.mem.pos ∉ s.mem.poisoned ∧
      (flipPlaces (s.mem.flip s.mem.pos)).length = 1 ∧ s.mem.history.lookup s.mem.pos = none ∧ s.mem.history.length = 255) ∧
    (∃ s : State, s.unit.running = true ∧ s.mem.pos + 1 < passWords ∧ s.up < s.mem.dueAt (s.mem.pos + 1) ∧ s.mem.pos ∉ s.mem.poisoned ∧
      (flipPlaces (s.mem.flip s.mem.pos)).length = 1 ∧ s.mem.history.lookup s.mem.pos = some 3 ∧ s.mem.pos < sramWords ∧ s.mem.remap.length = 15) ∧
    (∃ s : State, s.unit.running = true ∧ s.mem.pos + 1 < passWords ∧ s.up < s.mem.dueAt (s.mem.pos + 1) ∧ s.mem.pos ∉ s.mem.poisoned ∧
      (flipPlaces (s.mem.flip s.mem.pos)).length = 2 ∧ s.mem.pos < sramWords ∧ s.mem.decodes (pageOf s.mem.pos) = false) ∧
    (∃ s : State, s.unit.running = true ∧ s.mem.pos + 1 = passWords ∧ s.mem.flip s.mem.pos = 0 ∧ 0 < s.mem.passCorr) ∧ ∃ c : Fin 4, c ≠ 0 :=
  ⟨⟨memory { run.mem with flips := [(passWords + 15, 1)] }, passWords + 15, by decide +kernel⟩, ⟨run, 0, 3, by decide +kernel⟩,
    ⟨memory { run.mem with remap := [(9, 0)] }, passWords, 9, 0, 3, by decide +kernel⟩,
    ⟨memory { run.mem with schedTick := 200 }, by decide +kernel⟩,
    ⟨memory { run.mem with schedTick := 200, flips := [(0, 1)], history := (List.range 255).map fun k => (k + 1, 1) }, by decide +kernel⟩,
    ⟨memory { run.mem with schedTick := 200, flips := [(0, 1)], history := [(0, 3)], remap := (List.range 15).map fun k => (k + 1, 0) }, by decide +kernel⟩,
    ⟨memory { run.mem with schedTick := 200, flips := (0, 3) :: (List.range 9).map fun k => (k + 1, 3) }, by decide +kernel⟩,
    ⟨memory { run.mem with pos := passWords - 1, passCorr := 1 }, by decide +kernel⟩, 3, by decide⟩

/-- A census datagram with a certificate of one byte. -/
def datagram : List Byte :=
  [0x5A, 0x43, 0x4E, 0x53, 1, 0] ++ List.replicate 122 0 ++ leBytes 2 1 ++ [0, 0] ++ [7] ++ List.replicate 64 0
/-- The certificate and signature of `datagram` pass. What the checks answer is an open value of the model, so it is a hypothesis. -/
def DatagramSigned : Prop :=
  deviceCertOk [7] 0 = true ∧
    Config.ecdsaVerify (Config.certKey [7]) (datagram.take 133) (leAt datagram 133 32) (leAt datagram 165 32) = true
theorem datagram_parts : censusParts datagram = some (datagram.take 133, [7], 0) := by decide +kernel
/-- `run` with an entry of the datagram's sender, at POWER_CYCLE `power`. -/
def known (power : Nat) : State :=
  { run with net := { run.net with table := [(3, { censusEntryOf datagram 0 0 with power := power, seq := 0 })] } }
theorem witness_NetworkAndCensus :
    (∃ s : State, s.unit.running = true ∧ s.unit.st ≠ .boot ∧ s.unit.st ≠ .config ∧ s.staticIp = false ∧ s.net.src = .none) ∧
    (∃ s : State, s.unit.running = true ∧ s.unit.st ≠ .boot ∧ s.unit.st ≠ .config ∧ s.staticIp = false ∧ s.net.src ≠ .none) ∧
    (∃ s : State, s.unit.running = true ∧ operating s.unit.st = true ∧ s.cfg.eff.n F.censusEnable 0 = 1 ∧ s.censusDue = true ∧ s.net.sentAt ≠ some s.up ∧
      s.mem.dma.getLsbD 3 = false) ∧
    (∃ s : State, s.unit.running = true ∧ s.cfg.eff.n F.censusEnable 0 ≠ 1) ∧ (∃ s : State, s.unit.running = true ∧ s.censusDue = false) ∧
    (∃ s : State, s.unit.running = true ∧ s.net.sentAt = some s.up) ∧ (∃ s : State, s.unit.running = true ∧ s.mem.dma.getLsbD 3 = true) ∧
    (∃ (s : State) (bytes : List Byte), s.unit.running = true ∧ s.unit.st ≠ .boot ∧ censusParts bytes = none) ∧
    (∃ s : State, s.unit.running = true ∧ s.unit.st ≠ .boot ∧ censusParts datagram = some (datagram.take 133, [7], 0) ∧ (DatagramSigned ∨ ¬ DatagramSigned)) ∧
    (∃ (s : State) (old : Nat × CensusEntry), s.unit.running = true ∧ s.net.table.find? (fun x => x.2.serial == 0) = some old ∧
      (censusEntryOf datagram s.tick s.up).newer old.2 = false) ∧
    (∃ (s : State) (k : Nat), s.unit.running = true ∧ s.net.table.find? (fun x => x.2.serial == 0) = none ∧ s.net.freePlace s.up = some k) :=
  ⟨⟨run, by decide +kernel⟩, ⟨{ run with net := { run.net with src := .dhcp } }, by decide +kernel⟩, ⟨{ run with tick := 40000 }, by decide +kernel⟩,
    ⟨{ run with cfg := { run.cfg with eff := cfg.set F.censusEnable 0 0 } }, by decide +kernel⟩, ⟨run, rfl, by decide +kernel⟩,
    ⟨{ run with net := { run.net with sentAt := some 100 } }, rfl, rfl⟩, ⟨{ run with mem := { run.mem with dma := 8 } }, rfl, by decide⟩, ⟨run, [], by decide +kernel⟩,
    ⟨run, rfl, by decide +kernel, datagram_parts, Classical.em _⟩,
    ⟨known 1, (3, { censusEntryOf datagram 0 0 with power := 1, seq := 0 }), by decide +kernel⟩, run, 0, by decide +kernel⟩

/-! ## One step, with results worked out by hand from the rules -/

/-- The state after a command; where it has none, the state before. -/
def next (c : Instr) (s : State) : State :=
  match exec c s with
  | .next t => t
  | _ => s
/-- The answer to session 0. -/
def answer (s : State) : Option Answer := s.kw.answers[(0 : Fin 8)]

/-- The digits 1 to 9, whose check values the catalogues of CRCs give. -/
def digits : List Byte := (List.range 9).map fun k => BitVec.ofNat 8 (0x31 + k)
theorem test_crcs : crc32 digits = 0xCBF43926 ∧ crc32c digits = 0xE3069283 ∧ crc16 digits = 0x29B1 := by decide +kernel
/-- SHA-256 of the three bytes "abc", as FIPS 180-4 gives it. -/
theorem test_sha256 : sha256 [0x61, 0x62, 0x63] =
    [0xBA, 0x78, 0x16, 0xBF, 0x8F, 0x01, 0xCF, 0xEA, 0x41, 0x41, 0x40, 0xDE, 0x5D, 0xAE, 0x22, 0x23,
     0xB0, 0x03, 0x61, 0xA3, 0x96, 0x17, 0x7A, 0x9C, 0xB4, 0x10, 0xFF, 0x61, 0xF2, 0x00, 0x15, 0xAD] := by decide +kernel
/-- A quotient rounds half away from zero (R163). -/
theorem test_rounding : rdiv 5 2 = 3 ∧ rdiv (-5) 2 = -3 ∧ rdiv 4 3 = 1 ∧ satS 16 40000 = 32767 := by decide +kernel
/-- The worked example of R38: address 42 straps ADR1, ADR3 and ADR5 and leaves ADR_P open; with ADR_P strapped the parity is wrong. -/
theorem test_address : (next (.powerOn { pins with readings := List.replicate 16 0x2A }) .reset).addr = 42 ∧
    ({ pins with readings := List.replicate 16 0x2A } : PowerUp).addressOk = true ∧
    ({ pins with readings := List.replicate 16 0x22A } : PowerUp).addressOk = false := by decide +kernel
/-- The worked example of R53: a press accepted in tick 1,200,020 and released in tick 1,260,020 has H = 60,000 and resets. -/
theorem test_reset : (let t := next .resetReleaseAccepted { panel { run.panel with rst := { run.panel.rst with pressed := true, live := true, since := 1200020 } } with
      up := 1260020 }
    t.panel.rst.hold = 60000 ∧ t.unit.running = false ∧ t.unit.cause = .reset) := by decide +kernel
/-- A press of 999 ticks is ignored (R53). -/
theorem test_short_press : (let t := next .resetReleaseAccepted { panel { run.panel with rst := { run.panel.rst with pressed := true, live := true, since := 1 } } with
      up := 1000 }
    t.panel.rst.hold = 999 ∧ t.unit.running = true) := by decide +kernel
/-- Half way from 70 to 85 °C a channel of a T0 is rated 2.50 A and the group 20.00 A (R8). -/
theorem test_derating : chanRating true 775 = 250 ∧ groupRating true 775 = 2000 ∧ chanRating true 700 = 300 ∧ chanRating false 850 = 300 := by decide +kernel
/-- COMPUTE_PHASE counts the tick and raises nothing on a quiet snapshot in BOOT (R64). -/
theorem test_compute_boot : (let t := next (.computePhase .quiet) .reset; t.tick = 1 ∧ t.up = 1 ∧ t.unit.st = .boot) := by decide +kernel
/-- A frame with one bit wrong fails its CRC and counts in UP_CRC; the samples stay (R131, R137). -/
theorem test_bad_frame : (let t := next (.upstreamFrame 31 { whole (upstream 31) with payload := (upstream 31).set 8 1 }) run
    (t.ports[31]).upCrc = 1 ∧ (t.ports[31]).good = false ∧ (t.ports[31]).smp = (run.ports[31]).smp) := by decide +kernel
theorem test_good_frame : (let t := next (.upstreamFrame 31 (whole ((upstream 31).set 8 7))) run
    (t.ports[31]).upCrc = 0 ∧ (t.ports[31]).good = true ∧ ((t.ports[31]).smp[(0 : Fin 2)]).position = 7) := by decide +kernel
/-- The third missed tick in a row loses a READY port (R142). -/
theorem test_missed : (next (.missedTick 31) (port { Port.reset with st := .ready, missRun := 2 })).lostNow = 0x80000000 := by decide +kernel
/-- TICK_COUNT at address 4 reads 100 in tick 100 (R455). -/
theorem test_read : answer (next (.read req 4) run) = some (.response 1 [4, 0, 0, 0, 100, 0, 0, 0, 100, 0, 0, 0]) := by decide +kernel
/-- No register stands at address 2 (R455, R456). -/
theorem test_read_none : answer (next (.read req 2) run) = some (.error 1 0x4F02 2 0) := by decide +kernel
/-- A word written to scratch stands there least significant byte first (R444). -/
theorem test_scratch : (let t := next (.write req 0x01000000 0x04030201) run
    memBytes t.mem.scratch 0x01000000 4 = [1, 2, 3, 4] ∧ t.mem.written.getLsbD 0 = true) := by decide +kernel
/-- An axis claimed by a MAINTAINER is his (R460). -/
theorem test_claim : (next (.claim req ⟨2, 0⟩) run).kw.holder (.axis 0) = some 0 ∧ run.kw.holder (.axis 0) = none := by decide +kernel
/-- An open command without the release of the side is refused with OPEN_NO_SIDE_RELEASE (R263). -/
theorem test_open_refused : (let t := next (.doorwayOpen req 15) { at' .closedLocked with il := { run.il with release := 4 } }
    (t.doors[15]).st = .closedLocked ∧ (t.doors[15]).refusal = 0x3030) := by decide +kernel
theorem test_open : (let t := next (.doorwayOpen req 15) (at' .closedLocked); (t.doors[15]).st = .unlocking ∧ (t.doors[15]).tick = 100) := by decide +kernel
/-- A close command at an open doorway warns for WARNING_MS, 20 ticks to the millisecond (R266). -/
theorem test_close : (let t := next (.doorwayClose req 15) (at' .opened)
    (t.doors[15]).st = .warning ∧ (t.doors[15]).blocked = true ∧ ((t.doors[15]).warnEnd).toNat = 100 + 20 * run.cfg.eff.n F.warningMs 15) := by decide +kernel
/-- A close command with a row that has no effect blocks no button (R264). -/
theorem test_close_none : (let t := next (.doorwayClose req 15) (at' .closedLocked); (t.doors[15]).st = .closedLocked ∧ (t.doors[15]).blocked = false) := by
  decide +kernel
theorem test_isolation : (let t := next (.isolationOn 15) (at' .opened); (t.doors[15]).st = .isolated ∧ (t.doors[0]).st = (run.doors[0]).st) := by decide +kernel
/-- A limit met in its own direction stops the axis (R214). -/
theorem test_limit : (let t := next (.travelLimit 63 true) (motor (moving 1) .reset)
    (t.axes[63]).mot.qstop = true ∧ (t.axes[63]).mot.limPos.active = true ∧ (t.axes[63]).mot.limNeg.active = false) := by decide +kernel
theorem test_limit_other : (let t := next (.travelLimit 63 false) (motor (moving 1) .reset); (t.axes[63]).mot.qstop = false) := by decide +kernel
/-- The worked example of R335 to R337: the fourth trip with LS_RETRY_MAX 3 is LOCKOUT, an earlier one has its slot 20,000 ticks on. -/
def heater (retries : Nat) : State :=
  { loadSw { conducts with retries := retries } with
    tick := 50000042, cfg := { run.cfg with eff := (cfg.set F.lsRetryMax 15 3).set F.lsRetryMs 15 1000 } }
theorem test_trip : (let t := next (.short 15) (heater 0)
    (t.io.ls[15]).st = .tripped ∧ (t.io.ls[15]).retries = 1 ∧ (t.io.ls[15]).slot = some 50020042) := by decide +kernel
theorem test_lockout : (let t := next (.short 15) (heater 3)
    (t.io.ls[15]).st = .lockout ∧ (t.io.ls[15]).retries = 4 ∧ (t.io.ls[15]).slot = none) := by decide +kernel
/-- A transmit error adds 8 to TEC, a success takes 1 (ISO 11898-1, R361). -/
theorem test_tx_error : (let t := next (.txError 1 2 2 false) (canB { onBus 2 { TxBuf.reset with st := .sending } with tec := 7 })
    (t.can[1]).tec = 15 ∧ ((t.can[1]).tx[2]).st = .pending) := by decide +kernel
theorem test_tx_success : (let t := next (.txSuccess 1 2 9) (canB { onBus 2 { TxBuf.reset with st := .sending } with tec := 7 })
    (t.can[1]).tec = 6 ∧ ((t.can[1]).tx[2]).st = .sent ∧ ((t.can[1]).tx[2]).ts = 9) := by decide +kernel
/-- An ACTIVE that loses the pin link is ALONE (R370, R376). -/
theorem test_pinlink : (next .pinlinkLost (hinge { run.hinge with role := .active })).hinge.role = .alone := by decide +kernel
/-- Two flips of one bit leave no wrong bit (R431). -/
theorem test_flip : (next (.sramBitFlip 5 4) (next (.sramBitFlip 5 4) run)).mem.flips = [] ∧ (next (.sramBitFlip 5 4) run).mem.flips = [(5, 4)] := by
  decide +kernel
/-- A step takes the command at the front and leaves the rest. -/
theorem test_step : (match step { run with pending := [.coverOpen, .coverClosed] } with
      | .next t => decide (t.pending = [.coverClosed] ∧ t.panel.coverOpen = true)
      | _ => false) = true := by decide +kernel
/-- With no command waiting the block idles (log 1). -/
theorem test_idle : step run = .next run := rfl
/-- The block has no instruction words: no word spells a command. -/
theorem test_words : decodeTableWord 32 0 = none ∧ run.withFetchWord 32 0 = run := ⟨rfl, rfl⟩

end Sys2Proof.Tests
end

section
/-! Reads of the host address space: a stored word without an error, the words of the trace window and the clamp report, one register and a
block of them, and what the session is answered. -/

namespace Sys2Proof.Machine
open Safety

/-! ## A stored word -/

/-- A word without wrong bits is no error to SECDED (R433). -/
theorem secded_zero : secded 0 = .ok := by simp [secded, flipPlaces]

theorem MemRun.dmaRead_clean {r : MemRun} {w : Nat} (c : Fin 4) (hp : r.m.poisoned.contains w = false) (hf : r.m.flip w = 0) :
    r.dmaRead w c = (r, true) := by
  have : r.read w (.dma c) = (r, true) := by
    unfold MemRun.read
    rw [if_neg (by rw [hp]; exact Bool.false_ne_true), hf, secded_zero]
  unfold MemRun.dmaRead
  rw [this]
  rfl

theorem MemRun.dmaRead_poisoned {r : MemRun} {w : Nat} (c : Fin 4) (hp : r.m.poisoned.contains w = true) :
    r.dmaRead w c = (r.halt c, false) := by
  have : r.read w (.dma c) = (r, false) := by
    unfold MemRun.read
    rw [if_pos hp]
  unfold MemRun.dmaRead
  rw [this]
  rfl

/-- Where the memory raises nothing, nothing is delivered. -/
theorem State.memRan_silent (s : State) (m : Mem) : s.memRan ⟨m, []⟩ = { s with mem := m } := State.deliver_nil _

/-! ## The trace window and the clamp report (R437) -/

theorem State.fetchWindow_readable {s : State} {as : List Nat} (h : WindowsReadable s as) : s.fetchWindow as = (s, none) := by
  induction as with
  | nil => rfl
  | cons a as ih =>
    have tail : s.fetchWindow as = (s, none) := ih fun b m => h b (List.mem_cons_of_mem a m)
    unfold State.fetchWindow
    cases e : windowWord a with
    | none => exact tail
    | some k =>
      obtain ⟨hp, hf⟩ := h a List.mem_cons_self k e
      simp only [MemRun.dmaRead_clean (r := ⟨s.mem, []⟩) 1 hp hf, if_true, State.memRan_silent]
      exact tail

theorem State.fetchWindow_lost {s : State} {a k : Nat} (e : windowWord a = some k) (hp : s.mem.poisoned.contains k = true) :
    s.fetchWindow [a] = (s.memRan (MemRun.halt ⟨s.mem, []⟩ 1), some a) := by
  unfold State.fetchWindow
  simp only [e, MemRun.dmaRead_poisoned (r := ⟨s.mem, []⟩) 1 hp, Bool.false_eq_true, if_false]

/-! ## One register -/

section register
variable {s : State} {me : SessId} {p : Bool} {addr : Nat}

theorem State.readWord_value {w : Word} (hs : isScratch addr = false) (h : s.peek me p addr = .ok w) (hw : WindowsReadable s [addr]) :
    s.readWord me p addr = (s.afterRead me p addr, .ok w) := by
  unfold State.readWord
  simp [hs, h, State.fetchWindow_readable hw]

theorem State.readWord_refused {c : Code} (hs : isScratch addr = false) (h : s.peek me p addr = .error c) :
    s.readWord me p addr = (s, .error c) := by
  unfold State.readWord
  simp [hs, h]

theorem State.readWord_lost {w : Word} {k : Nat} (hs : isScratch addr = false) (h : s.peek me p addr = .ok w) (e : windowWord addr = some k)
    (hp : s.mem.poisoned.contains k = true) :
    s.readWord me p addr = (s.memRan (MemRun.halt ⟨s.mem, []⟩ 1), .error 0x4702) := by
  unfold State.readWord
  simp [hs, h, State.fetchWindow_lost e hp]

theorem State.readWord_scratch (hs : isScratch addr = true) : s.readWord me p addr = s.scratchRead p addr := by
  unfold State.readWord
  rw [if_pos hs]

/-- A register that is not shut answers a privileged role the fields of both views (R17). -/
theorem State.peek_privileged (h : ∀ r, s.readRow (some me) addr = some r → r.shut = false) :
    s.peek me true addr = .ok (((s.readRow (some me) addr).map fun r => r.reg.u ||| r.reg.p).getD 0) := by
  unfold State.peek
  cases e : s.readRow (some me) addr with
  | none => rfl
  | some r => simp [Reg.seen, h r e]

/-- Every role reads a word of view U (R17). -/
theorem State.peek_viewU {w : Word} (h : s.readRow (some me) addr = some (roRow (regU w))) : s.peek me p addr = .ok w := by
  unfold State.peek
  rw [h]
  cases p <;> simp [roRow, Reg.seen, regU]

/-- A read of a register that is not RC clears nothing (R16). -/
theorem State.afterRead_keeps (h : (s.row (some me) addr).bind (·.readClear) = none) : s.afterRead me p addr = s := by
  unfold State.afterRead
  rw [h]
  simp

/-- Without the claim of its block a read clears nothing (R16). -/
theorem State.afterRead_unclaimed {b : Block} (hb : blockOf addr = some b) (h : s.holds me b = false) : s.afterRead me p addr = s := by
  unfold State.afterRead
  simp [hb, h]

/-- A privileged role that holds the claim clears an RC register in the module and in what is shown of it (R16). -/
theorem State.afterRead_clears {b : Block} {c : ClearRead} (hb : blockOf addr = some b) (h : s.holds me b = true)
    (hc : (s.row (some me) addr).bind (·.readClear) = some c) :
    s.afterRead me true addr =
      s.clearBoth (fun u => c.put (c.left (u.takenAt addr) (c.get u) (c.get u.atTick)) u) (c.put c.zero) := by
  unfold State.afterRead
  simp [hb, h, hc, State.clearBoth]

end register

/-! ## A block of registers -/

/-- A block that is not refused has a word for each address (R455). -/
theorem State.peekAll_length {s : State} {me : SessId} {p : Bool} {as : List Nat} {ws : List Word} (h : s.peekAll me p as = .ok ws) :
    ws.length = as.length := by
  induction as generalizing ws with
  | nil => cases h; rfl
  | cons a as ih =>
    unfold State.peekAll at h
    split at h
    · cases h
    · cases h
    · next w vs _ e => cases h; simp [ih e]

theorem State.readWords_values {s : State} {me : SessId} {p : Bool} {as : List Nat} {ws : List Word} (hs : as.all isScratch = false)
    (h : s.peekAll me p as = .ok ws) (hw : WindowsReadable s as) :
    s.readWords me p as = (as.foldl (fun u a => u.afterRead me p a) s, .ok ws) := by
  unfold State.readWords
  simp [hs, h, State.fetchWindow_readable hw]

theorem wordAddrs_length (addr n : Nat) : (wordAddrs addr n).length = n := by simp [wordAddrs]

end Sys2Proof.Machine
end

section
/-! READ and READ_BLOCK: what a served request comes to, and what its answer leaves alone. -/

namespace Sys2Proof.Safety
open Machine

/-! ## Frames of a request -/

/-- A request that is heard touches nothing but the sessions. -/
theorem heard_same (s : State) (r : Req) (x : Session) (p : Piece) (h : p ≠ .kw) : p.Same s (s.heard r x) := by
  cases p
  case kw => exact absurd rfl h
  all_goals rfl

/-- What the request's rule leaves alone apart from the sessions, the request with its answer leaves alone. -/
theorem Only.request {ps : List Piece} {s u : State} {r : Req} {x : Session} (hk : .kw ∈ ps) (h : Only ps (s.heard r x) u) (n : Nat) (a : Reply) :
    Only ps s (u.answer r.sess n a) := by
  have heard : Only ps s (s.heard r x) := fun p hp => heard_same s r x p fun e => hp (e ▸ hk)
  have answer : Only ps u (u.answer r.sess n a) := fun p hp => answer_same u r.sess n a p fun e => hp (e ▸ hk)
  exact (heard.trans h).trans answer

theorem Only.rfl' (ps : List Piece) (s : State) : Only ps s s := fun p _ => by cases p <;> rfl

/-- An answer to a request whose rule changes nothing touches nothing but the sessions. -/
theorem only_kw (s : State) (r : Req) (x : Session) (n : Nat) (a : Reply) : Only [.kw] s ((s.heard r x).answer r.sess n a) :=
  (Only.rfl' [.kw] (s.heard r x)).request List.mem_cons_self n a

/-- What a session is told of the request as heard, it is told of the request. -/
theorem Tells.heard {s t : State} {r : Req} {x : Session} {c : Code} {n : Nat} {d : Word} (hx : s.kw.sess[r.sess] = some x)
    (h : Tells (s.heard r x) t c n d) : Tells s t c n d := by
  intro i y hy w q
  by_cases e : i = r.sess
  · subst e
    obtain rfl : x = y := by rw [hx] at hy; exact Option.some.inj hy
    exact h r.sess _ (State.heard_session s r x) w q
  · exact h i y ((set_get_ne _ _ _ _ e).trans hy) w q

/-- The answer leaves the queues of events alone. -/
theorem answer_grows (u : State) (i : SessId) (n : Nat) (a : Reply) : Grows u (u.answer i n a) := by
  intro j y hy
  refine ⟨y, ?_, List.prefix_refl _⟩
  cases a <;> exact hy

/-! ## READ -/

section read
variable {s u : State} {r : Req} {x : Session} {addr : Word}

theorem Asks.read_ok {w : Word} (h : Asks s r x .read) (hw : (wordAddr addr.toNat).isSome = true)
    (e : (s.heard r x).readWord r.sess x.role.privileged addr.toNat = (u, .ok w)) :
    exec (.read r addr) s = .next (u.answer r.sess r.tag.toNat (.data (readOf s addr.toNat w))) := by
  have rule : (s.heard r x).doRead r.sess { x with lastMsg := s.up } addr.toNat = (u, .data (readOf s addr.toNat w)) := by
    unfold State.doRead
    rw [if_neg (by simp [Option.isSome_iff_ne_none.1 hw])]
    simp only [e]
    rfl
  show Host.Outcome.next (s.serve r .read (.read addr.toNat) fun x s => s.doRead r.sess x addr.toNat) = _
  rw [h.serve, rule]

theorem Asks.read_error {c : Code} (h : Asks s r x .read) (hw : (wordAddr addr.toNat).isSome = true)
    (e : (s.heard r x).readWord r.sess x.role.privileged addr.toNat = (u, .error c)) :
    exec (.read r addr) s = .next (u.answer r.sess r.tag.toNat (.error c addr.toNat 0)) := by
  have rule : (s.heard r x).doRead r.sess { x with lastMsg := s.up } addr.toNat = (u, .error c addr.toNat 0) := by
    unfold State.doRead
    rw [if_neg (by simp [Option.isSome_iff_ne_none.1 hw])]
    simp only [e]
  show Host.Outcome.next (s.serve r .read (.read addr.toNat) fun x s => s.doRead r.sess x addr.toNat) = _
  rw [h.serve, rule]

/-- An address of no register (R455, R475). -/
theorem Asks.read_nowhere (h : Asks s r x .read) (hw : wordAddr addr.toNat = none) :
    exec (.read r addr) s = .next ((s.heard r x).answer r.sess r.tag.toNat (.error 0x4F02 addr.toNat 0)) := by
  have rule : (s.heard r x).doRead r.sess { x with lastMsg := s.up } addr.toNat = (s.heard r x, .error 0x4F02 addr.toNat 0) := by
    unfold State.doRead
    rw [if_pos (by simp [hw])]
  show Host.Outcome.next (s.serve r .read (.read addr.toNat) fun x s => s.doRead r.sess x addr.toNat) = _
  rw [h.serve, rule]

/-- A register whose word can be fetched. -/
theorem Asks.read_register {w : Word} (h : Asks s r x .read) (hw : (wordAddr addr.toNat).isSome = true) (hs : isScratch addr.toNat = false)
    (e : (s.heard r x).peek r.sess x.role.privileged addr.toNat = .ok w) (hr : WindowsReadable s [addr.toNat]) :
    exec (.read r addr) s = .next
      (((s.heard r x).afterRead r.sess x.role.privileged addr.toNat).answer r.sess r.tag.toNat (.data (readOf s addr.toNat w))) :=
  h.read_ok hw (State.readWord_value hs e hr)

end read

/-! ## READ_BLOCK -/

theorem Asks.readBlock_ok {s u : State} {r : Req} {x : Session} {addr : Word} {count : Nat} {ws : List Word} (h : Asks s r x .read)
    (hn : 1 ≤ count ∧ count ≤ 16382) (hsp : spanError addr.toNat count = none)
    (e : (s.heard r x).readWords r.sess x.role.privileged (wordAddrs addr.toNat count) = (u, .ok ws)) :
    exec (.readBlock r addr count) s = .next
      (u.answer r.sess r.tag.toNat (.data (leBytes 4 addr.toNat ++ leBytes 4 s.tick.toNat ++ ws.flatMap fun w => leBytes 4 w.toNat))) := by
  have rule : (s.heard r x).doReadBlock r.sess { x with lastMsg := s.up } addr.toNat count =
      (u, .data (leBytes 4 addr.toNat ++ leBytes 4 s.tick.toNat ++ ws.flatMap fun w => leBytes 4 w.toNat)) := by
    unfold State.doReadBlock
    rw [if_neg (by simp [countOk, hn]), hsp]
    simp only [e]
    rfl
  show Host.Outcome.next (s.serve r .read (.readBlock addr.toNat count) fun x s => s.doReadBlock r.sess x addr.toNat count) = _
  rw [h.serve, rule]

end Sys2Proof.Safety
end

section
/-! The registers that refuse a read for their state: the samples of the trace, while a trace runs, and no other (R190). -/

namespace Sys2Proof.Machine

/-! ## How the rows of a block are found -/

section
variable {r : RegRow}

/-- No row of the table is shut. -/
def opens (l : List (Nat × RegRow)) : Bool := l.all fun x => !x.2.shut

theorem none_open (e : none = some r) : r.shut = false := nomatch e
theorem some_open {q : RegRow} (h : q.shut = false) (e : some q = some r) : r.shut = false := by cases e; exact h
theorem ite_open {c : Prop} [Decidable c] {a b : Option RegRow} (ha : a = some r → r.shut = false) (hb : b = some r → r.shut = false)
    (e : (if c then a else b) = some r) : r.shut = false := by
  split at e
  · exact ha e
  · exact hb e
theorem bind_open {α : Type} {o : Option α} {f : α → Option RegRow} (h : ∀ a, f a = some r → r.shut = false)
    (e : o.bind f = some r) : r.shut = false := by
  obtain ⟨a, _, ha⟩ := Option.bind_eq_some_iff.1 e
  exact h a ha
theorem map_open {α : Type} {o : Option α} {f : α → RegRow} (h : ∀ a, (f a).shut = false) (e : o.map f = some r) : r.shut = false := by
  obtain ⟨a, _, rfl⟩ := Option.map_eq_some_iff.1 e
  exact h a
theorem atOffset_open {off : Nat} {l : List (Nat × RegRow)} (h : opens l = true) (e : atOffset off l = some r) : r.shut = false := by
  induction l with
  | nil => cases e
  | cons x xs ih =>
    have ⟨hx, hxs⟩ : x.2.shut = false ∧ opens xs = true := by simpa [opens] using h
    exact ite_open (some_open hx) (ih hxs) e

end

/-! ## The blocks of the address map -/

section
variable {s : State} {off : Nat} {r : RegRow}

theorem cfgRow_open : s.cfgRow off = some r → r.shut = false :=
  ite_open (some_open rfl) <| ite_open (map_open fun _ => rfl) (atOffset_open rfl)
theorem obstRow_open {a : AxisId} : s.obstRow a off = some r → r.shut = false :=
  ite_open (some_open rfl) <| ite_open (some_open rfl) (atOffset_open rfl)
theorem boltRow_open : s.boltRow off = some r → r.shut = false :=
  ite_open (bind_open fun _ => atOffset_open rfl) <| ite_open (bind_open fun _ => obstRow_open) <|
    ite_open (bind_open fun _ => atOffset_open rfl) (atOffset_open rfl)
theorem txRow_open {b : BusId} {k : Fin 3} (e : s.txRow b k off = some r) : r.shut = false := by
  unfold State.txRow at e
  dsimp only at e
  split at e
  · exact some_open rfl e
  · exact atOffset_open rfl e
theorem canRow_open {b : BusId} : s.canRow b off = some r → r.shut = false :=
  ite_open (some_open rfl) <| ite_open (bind_open fun _ => txRow_open) (atOffset_open rfl)
theorem rxRow_open {b : BusId} : s.rxRow b off = some r → r.shut = false := ite_open none_open (some_open rfl)
theorem fieldRow_open : s.fieldRow off = some r → r.shut = false := ite_open (bind_open fun _ => atOffset_open rfl) (atOffset_open rfl)
theorem analogueRow_open : s.analogueRow off = some r → r.shut = false :=
  ite_open (ite_open (map_open fun _ => rfl) none_open) <| ite_open (some_open rfl) none_open
theorem loadRow_open : s.loadRow off = some r → r.shut = false := ite_open (bind_open fun _ => atOffset_open rfl) (atOffset_open rfl)
theorem recRow_open : s.recRow off = some r → r.shut = false := ite_open (some_open rfl) (atOffset_open rfl)
theorem memRow_open : s.memRow off = some r → r.shut = false := ite_open (some_open rfl) (atOffset_open rfl)
theorem sessionRow_open {i k : Nat} (e : s.sessionRow i k = some r) : r.shut = false := by
  unfold State.sessionRow at e
  dsimp only at e
  split at e
  case h_7 => exact none_open e
  all_goals exact some_open rfl e
theorem anchorRow_open {j k : Nat} : s.anchorRow j k = some r → r.shut = false := ite_open (some_open rfl) <| ite_open (some_open rfl) none_open
theorem kwRow_open {me : Sender} : s.kwRow me off = some r → r.shut = false :=
  ite_open (some_open rfl) <| ite_open (some_open rfl) <| ite_open sessionRow_open <| ite_open (some_open rfl) <| ite_open anchorRow_open <|
    ite_open (some_open rfl) (atOffset_open rfl)
theorem portRow_open : s.portRow off = some r → r.shut = false :=
  ite_open (bind_open fun _ => atOffset_open rfl) <| ite_open (some_open rfl) <| ite_open (some_open rfl) none_open
theorem axisRow_open {a : AxisId} : s.axisRow a off = some r → r.shut = false :=
  ite_open (some_open rfl) <| ite_open (ite_open (some_open rfl) none_open) (atOffset_open rfl)
/-- The samples of the trace are shut while it runs. -/
theorem traceBlock_open (h : s.trace.active = false) : s.traceBlock off = some r → r.shut = false :=
  ite_open (some_open h) (atOffset_open rfl)

end

/-! ## Any register -/

section
variable {s : State} {me : Sender} {addr : Nat} {r : RegRow}

theorem ownRow_open (h : s.trace.active = false) : s.ownRow me addr = some r → r.shut = false := by
  refine ite_open (atOffset_open rfl) <| ite_open cfgRow_open <| ite_open (atOffset_open rfl) <| ite_open boltRow_open <|
    ite_open canRow_open <| ite_open canRow_open <| ite_open none_open <| ite_open rxRow_open <| ite_open rxRow_open <|
    ite_open none_open <| ite_open fieldRow_open <| ite_open analogueRow_open <| ite_open loadRow_open <| ite_open recRow_open <|
    ite_open memRow_open <| ite_open kwRow_open <| ite_open portRow_open <| ite_open (traceBlock_open h) fun e => ?_
  split at e
  · exact atOffset_open rfl e
  · exact axisRow_open e
  · exact none_open e

theorem liveRow_open (h : s.trace.active = false) (e : s.liveRow me addr = some r) : r.shut = false := by
  unfold State.liveRow at e
  split at e
  · exact ownRow_open h e
  · exact some_open rfl e
  · next own =>
    have k := ownRow_open h own
    cases e
    exact k

theorem shadowRow_open : s.shadowRow me addr = some r → r.shut = false := by
  refine map_open fun q => ?_
  dsimp only
  split <;> rfl

/-- While no trace runs, no register is shut. -/
theorem row_open (h : s.trace.active = false) (e : s.row me addr = some r) : r.shut = false := by
  unfold State.row at e
  split at e
  · exact some_open rfl e
  · exact shadowRow_open e
  · exact liveRow_open h e

/-- Neither the last completed tick nor a capture shows another trace than the one that runs. -/
theorem readRow_open (h : s.trace.active = false) : s.readRow me addr = some r → r.shut = false :=
  ite_open (row_open (s := s.atCapture) h) <| ite_open (row_open (s := s.atTick) h) (row_open h)

end

end Sys2Proof.Machine
end

section
/-! RC registers (R16): what a read returns, and what it leaves with the claim and without it. -/

namespace Sys2Proof.Safety
open Machine

/-- An RC register of the unit block, whose value lies in one piece of the state. -/
structure CounterAt (a : Nat) (c : ClearRead) (q : Piece) : Prop where
  /-- Every state shows the register at the address. -/
  row : ∀ (u : State) (me : Sender), u.row me a = some (rcRow u c)
  /-- Its value is in one piece of the state. -/
  touches : ∀ (n : Nat) (u : State), Only [q] u (c.put n u)
  /-- The claim that clears it is that of the unit. -/
  block : blockOf a = some .unit
  /-- The address is legal. -/
  legal : (wordAddr a).isSome = true
  /-- It is not an address of scratch. -/
  register : isScratch a = false
  /-- It is not in a loop window. -/
  noCapture : ofWindow a = false
  /-- It is not in SRAM. -/
  noWindow : windowWord a = none

section
variable {s : State} {r : Req} {x : Session} {a : Nat} {c : ClearRead} {q : Piece}

/-- A read returns what the register held at the start of the tick. -/
theorem CounterAt.peek (k : CounterAt a c q) (u : State) (me : SessId) (p : Bool) :
    u.peek me p a = .ok (BitVec.ofNat 32 (c.get u.atTick)) := by
  have row : u.readRow (some me) a = some (rcRow u.atTick c) := by
    unfold State.readRow
    rw [if_neg (by rw [k.noCapture]; exact Bool.false_ne_true), if_pos (by rw [k.row]; simp [rcRow])]
    exact k.row _ _
  unfold State.peek
  rw [row]
  cases p <;> simp [rcRow, Reg.seen, regN, regU]

theorem CounterAt.readable (k : CounterAt a c q) (s : State) : WindowsReadable s [a] := by
  intro b m w e
  rw [List.mem_singleton.1 m, k.noWindow] at e
  cases e

/-- What a clearing read of the register leaves, before it is answered. -/
def cleared (s : State) (r : Req) (x : Session) (a : Nat) (c : ClearRead) : State :=
  (s.heard r x).clearBoth (fun u => c.put (c.left (u.takenAt a) (c.get u) (c.get u.atTick)) u) (c.put c.zero)

/-- With the claim of the unit block a read returns the value and clears it. -/
theorem CounterAt.read_claimed (k : CounterAt a c q) (h : Asks s r x .read) (hp : x.role.privileged = true)
    (hc : s.holds r.sess .unit = true) {addr : Word} (e : addr.toNat = a) :
    exec (.read r addr) s = .next
      ((cleared s r x a c).answer r.sess r.tag.toNat (.data (readOf s a (BitVec.ofNat 32 (c.get s.atTick))))) := by
  subst e
  rw [h.read_register k.legal k.register (k.peek _ _ _) (k.readable s), hp,
    State.afterRead_clears (s := s.heard r x) k.block hc (by rw [k.row]; rfl)]
  rfl

/-- Without the claim a read returns the value and changes nothing. -/
theorem CounterAt.read_unclaimed (k : CounterAt a c q) (h : Asks s r x .read) (hc : s.holds r.sess .unit = false)
    {addr : Word} (e : addr.toNat = a) :
    exec (.read r addr) s = .next
      ((s.heard r x).answer r.sess r.tag.toNat (.data (readOf s a (BitVec.ofNat 32 (c.get s.atTick))))) := by
  subst e
  rw [h.read_register k.legal k.register (k.peek _ _ _) (k.readable s), State.afterRead_unclaimed (s := s.heard r x) k.block hc]
  rfl

/-- A clearing read reaches the register's own piece, and what is shown of the last tick. -/
theorem CounterAt.claimed_only (k : CounterAt a c q) (n : Nat) (y : Reply) :
    Only [.kw, q, .shown] s ((cleared s r x a c).answer r.sess n y) := by
  refine Only.request (x := x) List.mem_cons_self (fun p hp => ?_) n y
  have live := k.touches (c.left ((s.heard r x).takenAt a) (c.get (s.heard r x)) (c.get (s.heard r x).atTick)) (s.heard r x) p
    fun m => hp (by rw [List.mem_singleton.1 m]; simp)
  cases p
  case shown => exact absurd (by simp) hp
  all_goals exact live

end

/-! ## The registers that the statement names -/

/-- BOLT_DIFFER_COUNT (R320). -/
def differRc : ClearRead := { get := (·.il.bolt.differCount), put := fun n s => s.bolt fun b => { b with differCount := n } }
/-- MEM_UNCORR (R447). -/
def uncorrRc : ClearRead := { get := fun s => s.mem.uncorr, put := fun n s => { s with mem := { s.mem with uncorr := n } } }
/-- KW_AUTH_FAILS (R474). -/
def authRc : ClearRead := { get := (·.kw.authFails), put := fun n s => { s with kw := { s.kw with authFails := n } } }
/-- The largest count of corrected symbols of a page (R430). -/
def maxCorrRc : ClearRead :=
  { get := (·.recorder.maxCorr), keeps := some max, put := fun n s => { s with recorder := { s.recorder with maxCorr := n } } }
/-- The lowest voltage of the field supply (R344). -/
def minVRc : ClearRead :=
  { get := (·.io.sup.minV), zero := 0xFFFF, keeps := some min, put := fun n s => s.ioOf fun io => { io with sup := { io.sup with minV := n } } }

theorem differ_at : CounterAt 0x3000C differRc .il := by
  refine ⟨fun _ _ => rfl, fun n u p hp => ?_, rfl, rfl, rfl, rfl, rfl⟩
  cases p
  case il => exact absurd List.mem_cons_self hp
  all_goals rfl
theorem uncorr_at : CounterAt 0x8001C uncorrRc .mem := by
  refine ⟨fun _ _ => rfl, fun n u p hp => ?_, rfl, rfl, rfl, rfl, rfl⟩
  cases p
  case mem => exact absurd List.mem_cons_self hp
  all_goals rfl
theorem auth_at : CounterAt 0x9000C authRc .kw := by
  refine ⟨fun _ _ => rfl, fun n u p hp => ?_, rfl, rfl, rfl, rfl, rfl⟩
  cases p
  case kw => exact absurd List.mem_cons_self hp
  all_goals rfl
theorem maxCorr_at : CounterAt 0x70058 maxCorrRc .recorder := by
  refine ⟨fun _ _ => rfl, fun n u p hp => ?_, rfl, rfl, rfl, rfl, rfl⟩
  cases p
  case recorder => exact absurd List.mem_cons_self hp
  all_goals rfl
theorem minV_at : CounterAt 0x51028 minVRc .io := by
  refine ⟨fun _ _ => rfl, fun n u p hp => ?_, rfl, rfl, rfl, rfl, rfl⟩
  cases p
  case io => exact absurd List.mem_cons_self hp
  all_goals rfl

end Sys2Proof.Safety
end

section
/-! Host scratch as a host reads it (R437, R444). -/

namespace Sys2Proof.Machine
open Safety

/-! ## Bytes and words -/

theorem leNat_lt (bs : List Byte) : leNat bs < 256 ^ bs.length := by
  induction bs with
  | nil => simp [leNat]
  | cons b bs ih =>
    have := b.isLt
    rw [List.length_cons, Nat.pow_succ]
    simp only [leNat]
    omega

theorem leBytes_leNat (bs : List Byte) : leBytes bs.length (leNat bs) = bs := by
  induction bs with
  | nil => rfl
  | cons b bs ih =>
    have := b.isLt
    have low : (b.toNat + 256 * leNat bs) % 256 = b.toNat := by omega
    have high : (b.toNat + 256 * leNat bs) / 256 = leNat bs := by omega
    simp [leNat, leBytes, low, high, ih]

/-- A word made of four bytes is sent as these bytes. -/
theorem leBytes_word {bs : List Byte} (h : bs.length = 4) : leBytes 4 (BitVec.ofNat 32 (leNat bs)).toNat = bs := by
  have lt : leNat bs < 2 ^ 32 := by
    have := leNat_lt bs
    rw [h] at this
    exact this
  rw [BitVec.toNat_ofNat, Nat.mod_eq_of_lt lt, ← h]
  exact leBytes_leNat bs

theorem memBytes_length (m : List Host.Cell) (a n : Nat) : (memBytes m a n).length = n := by simp [memBytes]

theorem slice_memBytes (m : List Host.Cell) (a : Nat) {n k j : Nat} (h : k + j ≤ n) : slice (memBytes m a n) k j = memBytes m (a + k) j := by
  refine List.ext_getElem (by simp [slice, memBytes]; omega) fun i _ _ => ?_
  simp [slice, memBytes, Nat.add_assoc]

/-! ## A scratch word -/

section
variable {s : State} {addr : Nat}

theorem isScratch_iff : isScratch addr = true ↔ 0x1000000 ≤ addr ∧ addr < 0x1040000 := by
  unfold isScratch
  rw [Bool.and_eq_true, decide_eq_true_iff, decide_eq_true_iff]
  rfl

theorem wordAddr_scratch (ha : addr % 4 = 0) (hs : isScratch addr = true) : wordAddr addr = some ⟨0x1000000, 0x103FFFF, .unit⟩ := by
  obtain ⟨lo, hi⟩ : 0x1000000 ≤ addr ∧ addr < 0x1040000 := isScratch_iff.1 hs
  have row : unitRegions.find? (fun r => decide (r.1 ≤ addr) && decide (addr ≤ r.2)) = some (0x1000000, 0x103FFFF) := by
    rw [List.find?_eq_some_iff_append]
    refine ⟨by simp; omega, unitRegions.dropLast, [], rfl, ?_⟩
    simp [unitRegions]
    omega
  unfold wordAddr regionOf
  rw [if_pos ha, if_neg (by omega), if_neg (by omega), row]
  rfl

theorem spanError_scratch (ha : addr % 4 = 0) (hs : isScratch addr = true) : spanError addr 1 = none := by
  have hi : addr < 0x1040000 := (isScratch_iff.1 hs).2
  unfold spanError
  rw [wordAddr_scratch ha hs]
  exact if_pos (by dsimp only; omega)

theorem scratchRead_observer : s.scratchRead false addr = (s, .error 0x4F03) := rfl

theorem scratchRead_unwritten (h : s.mem.written.getLsbD (scratchIndex addr) = false) :
    s.scratchRead true addr = ({ s with mem := { s.mem with notInit := satN (s.mem.notInit + 1) 32 } }, .error 0x4F0B) := by
  have read : MemRun.readScratch ⟨s.mem, []⟩ addr = (⟨{ s.mem with notInit := satN (s.mem.notInit + 1) 32 }, []⟩, .unwritten) := by
    unfold MemRun.readScratch
    rw [if_pos (by rw [h]; rfl)]
    rfl
  unfold State.scratchRead
  simp only [read, Bool.not_true, Bool.false_eq_true, if_false, State.memRan_silent]
  rfl

/-- A written word without an error is read as its four bytes in one SRAM word. -/
theorem scratchRead_written (ha : addr % 4 = 0) (h : s.mem.written.getLsbD (scratchIndex addr) = true)
    (hp : s.mem.poisoned.contains (scratchWord addr) = false) (hf : s.mem.flip (scratchWord addr) = 0) :
    s.scratchRead true addr = (s, .ok (BitVec.ofNat 32 (leNat (memBytes s.mem.scratch addr 4)))) := by
  have data : slice (s.mem.wordData addr) (addr % 8) 4 = memBytes s.mem.scratch addr 4 := by
    unfold Mem.wordData
    dsimp only
    rw [hf, secded_zero]
    refine (slice_memBytes _ _ (by omega)).trans ?_
    rw [show addr - addr % 8 + addr % 8 = addr by omega]
  have read : MemRun.readScratch ⟨s.mem, []⟩ addr = (⟨s.mem, []⟩, .value (BitVec.ofNat 32 (leNat (memBytes s.mem.scratch addr 4)))) := by
    unfold MemRun.readScratch
    rw [if_neg (by rw [h]; exact Bool.false_ne_true)]
    simp only [MemRun.dmaRead_clean (r := ⟨s.mem, []⟩) 1 hp hf, if_true, data]
  unfold State.scratchRead
  simp only [read, Bool.not_true, Bool.false_eq_true, if_false, State.memRan_silent]
  rfl

/-- The block of one written word. -/
theorem readWords_scratch {me : SessId} {w : Word} (hs : isScratch addr = true) (h : s.mem.written.getLsbD (scratchIndex addr) = true)
    (hr : s.scratchRead true addr = (s, .ok w)) : s.readWords me true [addr] = (s, .ok [w]) := by
  unfold State.readWords
  simp [hs, Mem.firstUnwritten, h, State.scratchAll, hr]

end

end Sys2Proof.Machine

namespace Sys2Proof.Safety
open Machine

/-! ## Requests -/

section
variable {s : State} {r : Req} {x : Session} {addr : Word}

theorem legal_scratch (ha : addr.toNat % 4 = 0) (hs : isScratch addr.toNat = true) : (wordAddr addr.toNat).isSome = true := by
  rw [wordAddr_scratch ha hs]
  rfl

theorem Asks.readScratch_observer (h : Asks s r x .read) (hp : x.role.privileged = false) (ha : addr.toNat % 4 = 0)
    (hs : isScratch addr.toNat = true) :
    exec (.read r addr) s = .next ((s.heard r x).answer r.sess r.tag.toNat (.error 0x4F03 addr.toNat 0)) := by
  refine h.read_error (legal_scratch ha hs) ((State.readWord_scratch hs).trans ?_)
  rw [hp]
  exact scratchRead_observer

theorem Asks.readScratch_unwritten (h : Asks s r x .read) (hp : x.role.privileged = true) (ha : addr.toNat % 4 = 0)
    (hs : isScratch addr.toNat = true) (hw : s.mem.written.getLsbD (scratchIndex addr.toNat) = false) :
    exec (.read r addr) s = .next
      (({ s.heard r x with mem := { s.mem with notInit := satN (s.mem.notInit + 1) 32 } } : State).answer r.sess r.tag.toNat
        (.error 0x4F0B addr.toNat 0)) := by
  refine h.read_error (legal_scratch ha hs) ((State.readWord_scratch hs).trans ?_)
  rw [hp]
  exact scratchRead_unwritten (s := s.heard r x) hw

/-- A scratch word that is written and free of errors answers its four bytes, alone and as a block of one word. -/
theorem Asks.readScratch_written (h : Asks s r x .read) (hp : x.role.privileged = true) (ha : addr.toNat % 4 = 0)
    (hs : isScratch addr.toNat = true) (hw : s.mem.written.getLsbD (scratchIndex addr.toNat) = true)
    (hpo : s.mem.poisoned.contains (scratchWord addr.toNat) = false) (hf : s.mem.flip (scratchWord addr.toNat) = 0) :
    let t := (s.heard r x).answer r.sess r.tag.toNat
      (.data (leBytes 4 addr.toNat ++ leBytes 4 s.tick.toNat ++ memBytes s.mem.scratch addr.toNat 4))
    exec (.read r addr) s = .next t ∧ exec (.readBlock r addr 1) s = .next t := by
  have bytes := leBytes_word (memBytes_length s.mem.scratch addr.toNat 4)
  have word := scratchRead_written (s := s.heard r x) ha hw hpo hf
  have block := readWords_scratch (s := s.heard r x) (me := r.sess) hs hw word
  rw [← hp] at word block
  have alone := h.read_ok (legal_scratch ha hs) ((State.readWord_scratch hs).trans word)
  have one := h.readBlock_ok (by decide) (spanError_scratch ha hs) block
  rw [readOf, show (s.heard r x).mem = s.mem from rfl, bytes] at alone
  rw [List.flatMap_singleton, show (s.heard r x).mem = s.mem from rfl, bytes] at one
  exact ⟨alone, one⟩

end

end Sys2Proof.Safety
end

section
/-! READ and READ_BLOCK answer the values of one snapshot or the refusal (R16, R17, R437, R444, R455, R456). -/

namespace Sys2Proof.Safety
open Machine

/-! ## A word that its SRAM word has lost (R437) -/

/-- Raising codes reaches the pieces of `codes` alone. -/
theorem deliver_only (u : State) (ev : List Raised) : Only codes u (u.deliver ev) := by
  intro p hp
  cases p
  case recorder | kw | trace | setNow => exact absurd (by simp [codes]) hp
  all_goals simp [Piece.Same]

section
variable {s : State} {r : Req} {x : Session}

/-- Channel KEYWAY halts, in the state in which the request is served. -/
def keywayHalts (s : State) (r : Req) (x : Session) : State := (s.heard r x).memRan (MemRun.halt ⟨s.mem, []⟩ 1)

theorem keywayHalts_mem (s : State) (r : Req) (x : Session) :
    (keywayHalts s r x).mem = { s.mem with dma := s.mem.dma ||| 2, events := s.mem.events ||| 16 } := by
  have delivered (u : State) (ev : List Raised) : (u.deliver ev).mem = u.mem := by simp
  exact delivered _ _

theorem keywayHalts_tells (h : s.kw.sess[r.sess] = some x) : Tells s (keywayHalts s r x) 0x4705 0xFF 1 :=
  Tells.heard h ((State.deliver_tells _ ⟨0x4705, 0xFF, 1⟩ (by decide)).of rfl rfl)

theorem keywayHalts_only (s : State) (r : Req) (x : Session) : Only ([.kw, .mem] ++ codes) (s.heard r x) (keywayHalts s r x) := by
  refine Only.trans (t := { s.heard r x with mem := (MemRun.halt ⟨s.mem, []⟩ 1).m }) (fun p hp => ?_)
    ((deliver_only _ _).mono fun p hp => List.mem_append_right _ hp)
  cases p
  case mem => exact absurd (by simp) hp
  all_goals rfl

end

/-! ## TICK_COUNT and STATE_ENTRY_TICK (R84) -/

theorem readRow_tickCount (u : State) (me : Sender) : u.readRow me 4 = some (roRow (regU u.tick)) := rfl
theorem readRow_entryTick (u : State) (me : Sender) : u.readRow me 8 = some (roRow (regU u.unit.entryTick)) := rfl

theorem unitStatus_readable (s : State) : WindowsReadable s [4, 8] := by
  intro a m k e
  obtain rfl | rfl : a = 4 ∨ a = 8 := by simpa using m
  · cases e
  · cases e

theorem peekAll_ticks (u : State) (me : SessId) (p : Bool) : u.peekAll me p [4, 8] = .ok [u.tick, u.unit.entryTick] := by
  simp only [State.peekAll, State.peek_viewU (readRow_tickCount u (some me)), State.peek_viewU (readRow_entryTick u (some me))]

theorem afterRead_ticks (u : State) (me : SessId) (p : Bool) : u.afterRead me p 4 = u ∧ u.afterRead me p 8 = u :=
  ⟨State.afterRead_keeps rfl, State.afterRead_keeps rfl⟩

section
variable {s : State} {r : Req} {x : Session}

theorem Asks.read_tickCount (h : Asks s r x .read) :
    exec (.read r 4) s = .next ((s.heard r x).answer r.sess r.tag.toNat (.data (readOf s 4 s.tick))) := by
  have word : (s.heard r x).readWord r.sess x.role.privileged 4 = (s.heard r x, .ok s.tick) := by
    have readable : WindowsReadable (s.heard r x) [4] := fun a m => unitStatus_readable _ a (by rw [List.mem_singleton.1 m]; simp)
    rw [State.readWord_value rfl (State.peek_viewU (readRow_tickCount _ _)) readable, (afterRead_ticks _ _ _).1]
    rfl
  exact h.read_ok (addr := 4) rfl word

theorem Asks.readBlock_ticks (h : Asks s r x .read) :
    exec (.readBlock r 4 2) s = .next ((s.heard r x).answer r.sess r.tag.toNat
      (.data (leBytes 4 4 ++ leBytes 4 s.tick.toNat ++ (leBytes 4 s.tick.toNat ++ leBytes 4 s.unit.entryTick.toNat)))) := by
  have words : (s.heard r x).readWords r.sess x.role.privileged [4, 8] = (s.heard r x, .ok [s.tick, s.unit.entryTick]) := by
    rw [State.readWords_values rfl (peekAll_ticks _ _ _) (unitStatus_readable _)]
    simp only [List.foldl_cons, List.foldl_nil, afterRead_ticks]
    rfl
  exact h.readBlock_ok (addr := 4) (count := 2) (by decide) rfl words

end

end Sys2Proof.Safety

open Sys2Proof Sys2Proof.Machine Sys2Proof.Safety

/-- Settles O25: each clause is one outcome of the rule of READ or READ_BLOCK on the state in which the request is heard. -/
theorem readsAnswer : Obligations.ReadsAnswer := by
  unfold Obligations.ReadsAnswer
  refine ⟨?register, ?counters, ?lost, ?refuses, ?nowhere, ?scratchRefused, ?block, ?privileged, ?ticks, ?scratch⟩
  case register =>
    intro s r x addr w h hw hs e hr
    exact ⟨_, h.read_register hw hs e hr, answered _ _ _, fun p hp => answer_same _ _ _ _ p hp⟩
  case counters =>
    intro s r x h hp
    refine ⟨fun hc => ⟨?_, ?_, ?_, ?_, ?_⟩, fun hc => ⟨?_, ?_⟩⟩
    · exact ⟨_, differ_at.read_claimed h hp hc rfl, answered _ _ _, rfl, rfl, differ_at.claimed_only _ _⟩
    · exact ⟨_, uncorr_at.read_claimed h hp hc rfl, answered _ _ _, rfl, uncorr_at.claimed_only _ _⟩
    · exact ⟨_, auth_at.read_claimed h hp hc rfl, answered _ _ _, rfl, (auth_at.claimed_only _ _).mono (by simp)⟩
    · exact ⟨_, maxCorr_at.read_claimed h hp hc rfl, answered _ _ _, rfl, maxCorr_at.claimed_only _ _⟩
    · exact ⟨_, minV_at.read_claimed h hp hc rfl, answered _ _ _, rfl, minV_at.claimed_only _ _⟩
    · exact ⟨_, differ_at.read_unclaimed h hc rfl, answered _ _ _, only_kw _ _ _ _ _⟩
    · exact ⟨_, maxCorr_at.read_unclaimed h hc rfl, answered _ _ _, only_kw _ _ _ _ _⟩
  case lost =>
    intro s r x addr w k h hw hs e hk hp
    refine ⟨_, h.read_error hw (State.readWord_lost hs e hk hp), refused _ _ _ _ _, ?_, ?_, ?_⟩
    · exact (answer_same _ r.sess _ _ .mem (by decide)).trans (keywayHalts_mem s r x)
    · exact (keywayHalts_tells h.session).grow (answer_grows _ _ _ _)
    · exact (keywayHalts_only s r x).request List.mem_cons_self _ _
  case refuses =>
    intro s r x addr c h hw hs e
    exact ⟨_, h.read_error hw (State.readWord_refused hs e), refused _ _ _ _ _, only_kw _ _ _ _ _⟩
  case nowhere =>
    intro s r x addr h hw
    exact ⟨_, h.read_nowhere hw, refused _ _ _ _ _, only_kw _ _ _ _ _⟩
  case scratchRefused =>
    intro s r x addr h ha hs
    refine ⟨fun hp => ⟨_, h.readScratch_observer hp ha hs, refused _ _ _ _ _, only_kw _ _ _ _ _⟩, fun hp hu => ?_⟩
    refine ⟨_, h.readScratch_unwritten hp ha hs hu, refused _ _ _ _ _, rfl, ?_⟩
    refine Only.request (x := x) List.mem_cons_self (fun p hp => ?_) _ _
    cases p
    case mem => exact absurd (by simp) hp
    all_goals rfl
  case block =>
    intro s r x addr count ws h h1 hn hsp hs e hr
    exact ⟨_, h.readBlock_ok ⟨h1, hn⟩ hsp (State.readWords_values hs e hr), answered _ _ _,
      (State.peekAll_length e).trans (wordAddrs_length _ _), fun p hp => answer_same _ _ _ _ p hp⟩
  case privileged =>
    intro s r x addr h hp ht hw hs hr
    have value := State.peek_privileged (s := s.heard r x) (me := r.sess) (addr := addr.toNat) fun _ => readRow_open ht
    rw [← hp] at value
    exact ⟨_, h.read_register hw hs value hr, answered _ _ _⟩
  case ticks =>
    intro s r x h
    exact ⟨⟨_, h.read_tickCount, answered _ _ _, only_kw _ _ _ _ _⟩, ⟨_, h.readBlock_ticks, answered _ _ _, only_kw _ _ _ _ _⟩⟩
  case scratch =>
    intro s r x addr h hp ha hs hw hpo hf
    obtain ⟨alone, one⟩ := h.readScratch_written hp ha hs hw hpo hf
    exact ⟨⟨_, alone, answered _ _ _, only_kw _ _ _ _ _⟩, ⟨_, one, answered _ _ _, only_kw _ _ _ _ _⟩⟩
end

section
/-! Frames that follow each other, the event of a running module, the panel, and a code that is raised on a condition. -/

namespace Sys2Proof.Safety
open Machine

theorem Changes.mono {ps qs : List Piece} {s t : State} (h : Changes ps s t) (m : ps ⊆ qs) : Changes qs s t :=
  ⟨h.only.mono (List.append_subset.2 ⟨fun _ hp => List.mem_append_left _ (m hp), List.subset_append_right _ _⟩), h.quiet⟩

theorem Changes.trans {ps : List Piece} {s t u : State} (h : Changes ps s t) (g : Changes ps t u) : Changes ps s u :=
  ⟨h.only.trans g.only, h.quiet.trans g.quiet⟩

/-- A change away from what raising codes reaches is quiet. -/
theorem Only.changes {ps : List Piece} {s t : State} (h : Only ps s t) (d : ∀ p ∈ codes, p ∉ ps) : Changes ps s t :=
  ⟨h.mono fun _ hp => List.mem_append_left _ hp,
    .rfl' (h .kw (d _ (by simp [codes]))) (h .trace (d _ (by simp [codes]))) (congrArg stored (h .recorder (d _ (by simp [codes]))))
      (h .setNow (d _ (by simp [codes])))⟩

end Sys2Proof.Safety

namespace Sys2Proof.Machine
open Safety

/-! ## A running module -/

/-- An event that the state admits reaches a running module. -/
theorem State.live_pos {s : State} {b : Bool} {f : State → State} (run : s.unit.running = true) (h : b = true) : s.live b f = f s :=
  if_pos (by rw [run, h]; rfl)

theorem State.boots_iff {s : State} : s.boots = true ↔ s.unit.st = .boot := beq_iff_eq

theorem State.boots_false {s : State} (h : s.unit.st ≠ .boot) : s.boots = false := Bool.eq_false_iff.2 fun e => h (State.boots_iff.1 e)

/-! ## The panel -/

theorem State.onPanel_only (s : State) (f : Panel → Panel) : Only [.panel] s (s.onPanel f) := by
  intro p hp
  cases p
  case panel => exact absurd List.mem_cons_self hp
  all_goals rfl

theorem State.onPanel_changes (s : State) (f : Panel → Panel) : Changes [.panel] s (s.onPanel f) := (s.onPanel_only f).changes (by decide)

/-! ## A code that is raised -/

theorem State.raise_only (s : State) (c : Code) (i : Nat) (d : Word) : Only codes s (s.raise c i d) := by
  intro p hp
  cases p
  case recorder | kw | trace | setNow => exact absurd (by simp [codes]) hp
  all_goals simp [Piece.Same]

theorem State.raise_changes (s : State) (c : Code) (i : Nat) (d : Word) : Changes [] s (s.raise c i d) :=
  ⟨s.raise_only c i d, s.raise_quiet c i d⟩

/-- The panel changes and raises a code. -/
theorem State.onPanel_raise_changes (s : State) (f : Panel → Panel) (c : Code) (i : Nat) (d : Word) :
    Changes [.panel] s ((s.onPanel f).raise c i d) :=
  (s.onPanel_changes f).trans ((State.raise_changes _ c i d).mono (List.nil_subset _))

theorem State.onPanel_raise_tells (s : State) (f : Panel → Panel) {c : Code} (i : Nat) (d : Word) (h : c ≠ 0x4804) :
    Tells s ((s.onPanel f).raise c i d) c i d :=
  (State.raise_tells (s.onPanel f) c i d h).of rfl rfl

@[simp] theorem State.onPanel_panel (s : State) (f : Panel → Panel) : (s.onPanel f).panel = f s.panel := rfl

/-- A code raised where a condition holds. -/
def State.raiseIf (s : State) (b : Bool) (c : Code) (i : Nat) (d : Word) : State := if b then s.raise c i d else s

section
variable (s : State) (b : Bool) (c : Code) (i : Nat) (d : Word)

theorem State.raiseIf_true : s.raiseIf true c i d = s.raise c i d := rfl
theorem State.raiseIf_false : s.raiseIf false c i d = s := rfl

@[simp] theorem State.raiseIf_panel : (s.raiseIf b c i d).panel = s.panel := by cases b <;> simp [State.raiseIf]

@[simp] theorem State.raiseIf_unit : (s.raiseIf b c i d).unit = s.unit := by cases b <;> simp [State.raiseIf]

theorem State.raiseIf_changes : Changes [] s (s.raiseIf b c i d) := by
  cases b
  · exact (Only.rfl' [] s).changes (by simp)
  · exact s.raise_changes c i d

theorem State.raiseIf_grows : Grows s (s.raiseIf b c i d) := by
  cases b
  · exact .rfl' rfl
  · exact s.raise_grows c i d

theorem State.raiseIf_growsBy : GrowsBy 4 s (s.raiseIf b c i d) := by
  cases b
  · exact (GrowsBy.rfl' rfl rfl).mono (by omega)
  · exact s.raise_growsBy c i d

end

/-! ## One bit of a word -/

theorem getLsbD_bit {w k : Nat} (h : k < w) (j : Nat) : (1#w <<< k).getLsbD j = decide (j = k) := by
  rw [← BitVec.twoPow_eq, BitVec.getLsbD_twoPow, decide_eq_true h, Bool.true_and]
  exact decide_eq_decide.2 eq_comm

theorem fin_beq_val {n : Nat} (j k : Fin n) : (j == k) = decide (j.val = k.val) := by
  rw [beq_eq_decide]
  exact decide_eq_decide.2 Fin.ext_iff

/-- A word with one bit put to a value. -/
theorem getLsbD_putBit {w k j : Nat} (v : BitVec w) (on : Bool) (hk : k < w) (hj : j < w) :
    (if on then v &&& ~~~(1#w <<< k) ||| 1#w <<< k else v &&& ~~~(1#w <<< k)).getLsbD j = if j = k then on else v.getLsbD j := by
  have bit := getLsbD_bit hk j
  cases on <;> simp only [Bool.false_eq_true, if_true, if_false, BitVec.getLsbD_or, BitVec.getLsbD_and, BitVec.getLsbD_not, bit] <;>
    by_cases e : j = k <;> simp [e, hj, hk]

end Sys2Proof.Machine
end

section
/-! The module's supply, its temperature and its address pins (R27, R38, R46, R47, R50, R404). -/

namespace Sys2Proof.Machine
open Safety

/-! ## Supply loss (R46, R413) -/

/-- A page sealed to be flushed is sealed at once, or as soon as there is room among the sealed pages (R413). -/
theorem Rec.seal_flushes (rc : Rec) : (rc.seal true).opened.data = [] ∨ (rc.seal true).sealDue = some true := by
  unfold Rec.seal
  split
  next empty => exact .inl (List.isEmpty_iff.1 empty)
  next =>
    split
    · exact .inr rfl
    · exact .inl rfl

theorem State.seal_only (s : State) (flush : Bool) : Only codes s { s with recorder := s.recorder.seal flush } := by
  intro p hp
  cases p
  case recorder => exact absurd (by simp [codes]) hp
  all_goals rfl

theorem State.seal_changes (s : State) (flush : Bool) : Changes [] s { s with recorder := s.recorder.seal flush } :=
  ⟨s.seal_only flush, .rfl' rfl rfl (Rec.seal_stored _ _) rfl⟩

theorem State.saveOpTime_only (s : State) : Only [.se] s s.saveOpTime := by
  intro p hp
  cases p
  case se => exact absurd List.mem_cons_self hp
  all_goals rfl

/-- HOLDUP set and its code raised: what SUPPLY_LOSS does before the flush. -/
def State.holdupRaised (s : State) : State := (s.onPanel fun p => { p with holdup := true, supplyCount := 0 }).raise 0x4008 0xFF 0

theorem State.supplyLoss_panel (s : State) : s.supplyLoss.panel = { s.panel with holdup := true, supplyCount := 0 } := by
  simp [State.supplyLoss]

theorem State.supplyLoss_se (s : State) : s.supplyLoss.se = { s.se with opTime := s.supplyLoss.recorder.opTime s.up } := by
  simp [State.supplyLoss, State.saveOpTime]

theorem State.supplyLoss_tells (s : State) : Tells s s.supplyLoss 0x4008 0xFF 0 :=
  (s.onPanel_raise_tells _ 0xFF 0 (by decide)).grow (.rfl' rfl)

theorem State.supplyLoss_flushes (s : State) : s.supplyLoss.recorder.opened.data = [] ∨ s.supplyLoss.recorder.sealDue = some true :=
  Rec.seal_flushes _

theorem State.supplyLoss_changes (s : State) : Changes [.panel, .se] s s.supplyLoss := by
  have raised : Changes [.panel, .se] s s.holdupRaised := (s.onPanel_raise_changes _ 0x4008 0xFF 0).mono (by simp)
  have sealing := (s.holdupRaised.seal_changes true).mono (List.nil_subset [.panel, .se])
  have saved := ((State.saveOpTime_only { s.holdupRaised with recorder := s.holdupRaised.recorder.seal true }).changes (by decide)).mono
    (List.subset_cons_self Piece.panel [.se])
  exact (raised.trans sealing).trans saved

/-! ## The module stops (R47, R55) -/

theorem State.stop_running (s : State) (c : StartCause) : (s.stop c).unit.running = false := rfl
theorem State.stop_cause (s : State) (c : StartCause) : (s.stop c).unit.cause = c := rfl
theorem State.stop_boltOff (s : State) (c : StartCause) : BoltOff (s.stop c) := rfl
theorem State.stop_bypass (s : State) (c : StartCause) : (s.stop c).net.bypass = true := rfl
theorem State.stop_pinSilent (s : State) (c : StartCause) : (s.stop c).hinge.sent = none := rfl

theorem State.stop_portsSilent (s : State) (c : StartCause) (k : PortId) : ((s.stop c).ports[k]).sent = none := by
  simp [State.stop, vmap_get]

theorem State.stop_canOff (s : State) (c : StartCause) (b : BusId) : ((s.stop c).can[b]).mode = .off := by
  simp [State.stop, vmap_get, Can.goOff]

theorem State.stop_only (s : State) (c : StartCause) : Only [.unit, .il, .ports, .can, .hinge, .net] s (s.stop c) := by
  intro p hp
  cases p
  case unit | il | ports | can | hinge | net => exact absurd (by simp) hp
  all_goals rfl

/-! ## The commands on a running module -/

section
variable {s : State}

theorem exec_supplyLoss (run : s.unit.running = true) (h : s.panel.holdup = false) : exec .supplyLoss s = .next s.supplyLoss :=
  congrArg Host.Outcome.next (State.live_pos run (by rw [h]; rfl))

theorem exec_supplyReturn (run : s.unit.running = true) (h : s.panel.holdup = true) : exec .supplyReturn s = .next s.supplyReturn :=
  congrArg Host.Outcome.next (State.live_pos run h)

theorem exec_holdupEnd (run : s.unit.running = true) (h : s.panel.holdup = true) : exec .holdupEnd s = .next (s.stop .supply) :=
  congrArg Host.Outcome.next (State.live_pos run h)

theorem exec_opTimeSave (run : s.unit.running = true) : exec .opTimeSave s = .next s.saveOpTime :=
  congrArg Host.Outcome.next (State.live_pos run rfl)

theorem exec_supplyHigh (run : s.unit.running = true) (h : s.panel.supplyHigh = false) :
    exec .supplyHigh s = .next ((s.onPanel fun p => { p with supplyHigh := true }).raise 0x400A 0xFF 0) :=
  congrArg Host.Outcome.next ((State.live_pos run rfl).trans (if_neg (by rw [h]; exact Bool.false_ne_true)))

theorem exec_housingHot (run : s.unit.running = true) (h : s.panel.housingHot = false) :
    exec .housingHot s = .next ((s.onPanel fun p => { p with housingHot := true }).raise 0x400B 0xFF 0) :=
  congrArg Host.Outcome.next ((State.live_pos run rfl).trans (if_neg (by rw [h]; exact Bool.false_ne_true)))

theorem exec_addrChanged {reading : BitVec 10} (run : s.unit.running = true) (st : s.unit.st ≠ .boot) (valid : s.panel.addrValid = true)
    (once : s.panel.addrDiff ≠ 3) (differs : reading ≠ s.panel.pinsUsed) : exec (.addrChanged reading) s = .next (s.addrChanged reading) :=
  congrArg Host.Outcome.next (State.live_pos run (by simp [State.boots_false st, valid, once, differs]))

end

end Sys2Proof.Machine

open Sys2Proof Sys2Proof.Machine Sys2Proof.Safety

/-- Settles O9: each command on a running module comes to one operation of the panel, the recorder or the whole module. -/
theorem supplyAndWarnings : Obligations.SupplyAndWarnings := by
  unfold Obligations.SupplyAndWarnings
  refine ⟨?loss, ?returns, ?holdupEnd, ?save, ?high, ?hot, ?address⟩
  case loss =>
    intro s run h
    exact ⟨_, exec_supplyLoss run h, s.supplyLoss_panel, s.supplyLoss_tells, s.supplyLoss_se, s.supplyLoss_flushes, s.supplyLoss_changes⟩
  case returns => exact fun s run h => exec_supplyReturn run h
  case holdupEnd =>
    intro s run h
    exact ⟨_, exec_holdupEnd run h, s.stop_running _, s.stop_cause _, s.stop_boltOff _, s.stop_portsSilent _, s.stop_pinSilent _,
      s.stop_bypass _, s.stop_canOff _, s.stop_only _⟩
  case save => exact fun s run => exec_opTimeSave run
  case high =>
    intro s run h
    exact ⟨_, exec_supplyHigh run h, by simp, s.onPanel_raise_tells _ _ _ (by decide), s.onPanel_raise_changes _ _ _ _⟩
  case hot =>
    intro s run h
    exact ⟨_, exec_housingHot run h, by simp, s.onPanel_raise_tells _ _ _ (by decide), s.onPanel_raise_changes _ _ _ _⟩
  case address =>
    intro s reading run st valid once differs
    have panel : (s.addrChanged reading).panel = { s.panel with pinsNow := reading, addrChanged := true, addrDiff := 3 } := by
      simp [State.addrChanged]
    exact ⟨_, exec_addrChanged run st valid once differs, panel, by simp [State.addr, panel], s.onPanel_raise_tells _ _ _ (by decide),
      s.onPanel_raise_changes _ _ _ _⟩
end

section
/-! The RESET input (R51 to R55). -/

namespace Sys2Proof.Machine
open Safety

/-! ## A release (R53, R55) -/

theorem ResetIn.count_hold {r : ResetIn} (h : r.pressed = true) (up : Nat) : r.count up = { r with hold := min 160001 (up - r.since) } :=
  if_pos h

theorem ResetIn.release_resets {r : ResetIn} {up : Nat} :
    (r.release up).2 = true ↔ r.live = true ∧ 1000 ≤ r.hold ∧ r.hold ≤ 160000 := by
  simp [ResetIn.release, and_assoc]

/-- The input with the release accepted, in a module that carries on. -/
def State.released (s : State) : State := s.onReset fun _ => ((s.panel.rst.count s.up).release s.up).1

theorem State.released_rst {s : State} (h : s.panel.rst.pressed = true) : s.released.panel.rst =
    { s.panel.rst with pressed := false, diff := 0, hold := min 160001 (s.up - s.panel.rst.since), live := false, since := s.up } := by
  show ((s.panel.rst.count s.up).release s.up).1 = _
  rw [ResetIn.count_hold h]
  rfl

theorem State.onReset_only (s : State) (f : ResetIn → ResetIn) : Only [.panel] s (s.onReset f) := s.onPanel_only _

theorem State.resetRelease_eq {s : State} (h : s.panel.rst.pressed = true) : s.resetRelease =
    if s.panel.rst.live = true ∧ 1000 ≤ min 160001 (s.up - s.panel.rst.since) ∧ min 160001 (s.up - s.panel.rst.since) ≤ 160000
    then s.released.resetStop else s.released := by
  have resets := ResetIn.release_resets (r := s.panel.rst.count s.up) (up := s.up)
  simp only [ResetIn.count_hold h] at resets
  simp only [State.resetRelease, State.released, ResetIn.count_hold h, resets]

/-! ## The reset (R55, R373) -/

theorem State.lastHeartbeat_grows (s : State) : Grows s s.lastHeartbeat := by
  unfold State.lastHeartbeat
  split
  · exact .rfl' rfl
  · exact State.onHinge_grows _ _

theorem State.lastHeartbeat_only (s : State) : Only (.hinge :: codes) s s.lastHeartbeat := by
  intro p hp
  cases p
  case hinge | recorder | kw | trace | setNow => exact absurd (by simp [codes]) hp
  all_goals simp [Piece.Same]

/-- RESET raised and the staging buffer sealed: what a reset does before the module stops. -/
def State.resetRaised (s : State) : State := { s.raise 0x4006 0xFF 0 with recorder := (s.raise 0x4006 0xFF 0).recorder.seal true }

theorem State.resetStop_eq (s : State) : s.resetStop = (s.resetRaised.stop .reset).lastHeartbeat := rfl

theorem State.resetStop_unit (s : State) : s.resetStop.unit.running = false ∧ s.resetStop.unit.cause = .reset := by
  simp [State.resetStop_eq, State.stop_running, State.stop_cause]

theorem State.resetStop_boltOff (s : State) : BoltOff s.resetStop := by
  simp only [BoltOff, State.resetStop_eq, State.lastHeartbeat_frame]
  exact State.stop_boltOff _ _

theorem State.resetStop_tells (s : State) : Tells s s.resetStop 0x4006 0xFF 0 :=
  (s.raise_tells 0x4006 0xFF 0 (by decide)).grow
    ((Grows.rfl' (t := s.resetRaised.stop .reset) rfl).trans (State.lastHeartbeat_grows _))

theorem State.resetStop_only (s : State) : Only ([.panel, .unit, .il, .ports, .can, .hinge, .net] ++ codes) s s.resetStop := by
  have raised : Only codes s s.resetRaised := (s.raise_only 0x4006 0xFF 0).trans (State.seal_only _ true)
  have stopped := s.resetRaised.stop_only .reset
  have beat := (s.resetRaised.stop .reset).lastHeartbeat_only
  exact ((raised.mono (by simp [codes])).trans (stopped.mono (by simp [codes]))).trans (beat.mono (by simp [codes]))

/-! ## The commands on a running module -/

section
variable {s : State}

theorem exec_resetPressAccepted (run : s.unit.running = true) (h : s.panel.rst.pressed = false) :
    exec .resetPressAccepted s = .next (s.onReset fun r => r.press s.up) :=
  congrArg Host.Outcome.next (State.live_pos run (by rw [h]; rfl))

theorem exec_resetReleaseAccepted (run : s.unit.running = true) (h : s.panel.rst.pressed = true) :
    exec .resetReleaseAccepted s = .next s.resetRelease :=
  congrArg Host.Outcome.next (State.live_pos run h)

theorem exec_resetStuck (run : s.unit.running = true) (h : s.panel.rst.pressed = true) (live : s.panel.rst.live = true) :
    exec .resetStuck s = .next s.resetJam :=
  congrArg Host.Outcome.next (State.live_pos run (by rw [h, live]; rfl))

theorem exec_resetArmed (run : s.unit.running = true) (h : s.panel.rst.pressed = false) (armed : s.panel.rst.armed = false) :
    exec .resetArmed s = .next (s.onReset ResetIn.arm) :=
  congrArg Host.Outcome.next (State.live_pos run (by rw [h, armed]; rfl))

end

end Sys2Proof.Machine

open Sys2Proof Sys2Proof.Machine Sys2Proof.Safety

/-- Settles O11: a release resets by the hold time at the release; every other row changes the RESET input alone. -/
theorem resetInput : Obligations.ResetInput := by
  unfold Obligations.ResetInput
  refine ⟨?press, ?release, ?stuck, ?arms⟩
  case press =>
    intro s run h
    exact ⟨_, exec_resetPressAccepted run h, rfl, rfl, s.onReset_only _⟩
  case release =>
    intro s run h
    have rst := State.released_rst h
    refine ⟨_, exec_resetReleaseAccepted run h, ?_⟩
    have kept : s.resetRelease.panel = s.released.panel := by
      rw [State.resetRelease_eq h]
      split <;> simp
    refine ⟨by rw [kept, rst], by rw [kept, rst], by rw [kept, rst], ?_⟩
    rw [State.resetRelease_eq h]
    split
    next resets =>
      obtain ⟨running, cause⟩ := s.released.resetStop_unit
      exact ⟨running, cause, State.resetStop_boltOff _, (State.resetStop_tells s.released).of rfl rfl,
        ((s.onReset_only _).mono (by simp)).trans (State.resetStop_only _)⟩
    next => exact s.onReset_only _
  case stuck =>
    intro s run h live
    exact ⟨_, exec_resetStuck run h live, by simp [State.resetJam, State.onReset, ResetIn.jam], s.onPanel_raise_tells _ _ _ (by decide),
      s.onPanel_raise_changes _ _ _ _⟩
  case arms =>
    intro s run h armed
    exact ⟨_, exec_resetArmed run h armed, rfl, s.onReset_only _⟩
end

section
/-! Ward switches and cover W (R40 to R43). -/

namespace Sys2Proof.Machine
open Safety

/-! ## A ward switch (R40 to R42) -/

/-- Switch k + 1 in its new debounced position. -/
def State.wardPut (s : State) (k : Fin 12) (on : Bool) : State :=
  s.onPanel fun p => { p with
    ward := if on then p.ward &&& ~~~(1#12 <<< k.val) ||| 1#12 <<< k.val else p.ward &&& ~~~(1#12 <<< k.val)
    wardCount := p.wardCount.set k 0 }

theorem State.wardOpen_iff {s : State} :
    s.wardOpen = true ↔ (s.panel.ward.getLsbD 8 = true ∨ s.panel.ward.getLsbD 9 = true) ∧ s.unit.st = .run := by
  simp [State.wardOpen, State.ward]

@[simp] theorem State.raiseIf_wardOpen (s : State) (b : Bool) (c : Code) (i : Nat) (d : Word) : (s.raiseIf b c i d).wardOpen = s.wardOpen := by
  simp [State.wardOpen, State.ward]

section
variable (s : State) (k : Fin 12) (on : Bool)

/-- A change of a switch raises up to three codes, each on its own condition. -/
theorem State.wardChange_eq : s.wardChange k on =
    (((s.wardPut k on).raiseIf (decide (k.val < 9) && !s.boots && s.unit.st != .config) 0x400D 0xFF 0).raiseIf
      (decide (k.val = 11) && on) 0x400F 0xFF 0).raiseIf ((s.wardPut k on).wardOpen && !s.wardOpen) 0x400E 0xFF 0 := by
  rw [← State.raiseIf_wardOpen (s.wardPut k on) (decide (k.val < 9) && !s.boots && s.unit.st != .config) 0x400D 0xFF 0,
    ← State.raiseIf_wardOpen _ (decide (k.val = 11) && on) 0x400F 0xFF 0]
  rfl

theorem State.wardPut_bit {j : Nat} (hj : j < 12) :
    (s.wardPut k on).panel.ward.getLsbD j = if j = k.val then on else s.panel.ward.getLsbD j :=
  getLsbD_putBit _ _ k.isLt hj

theorem State.wardChange_bit {j : Nat} (hj : j < 12) :
    (s.wardChange k on).panel.ward.getLsbD j = if j = k.val then on else s.panel.ward.getLsbD j := by
  simp only [State.wardChange_eq, State.raiseIf_panel]
  exact s.wardPut_bit k on hj

theorem State.wardChange_changes : Changes [.panel] s (s.wardChange k on) := by
  rw [State.wardChange_eq]
  have more {t : State} (h : Changes [.panel] s t) (b : Bool) (c : Code) (i : Nat) (d : Word) : Changes [.panel] s (t.raiseIf b c i d) :=
    h.trans ((t.raiseIf_changes b c i d).mono (List.nil_subset _))
  exact more (more (more (s.onPanel_changes _) _ _ _ _) _ _ _ _) _ _ _ _

end

section
variable {s : State} {k : Fin 12} {on : Bool}

theorem State.wardChange_tells_low (hk : k.val < 9) (boot : s.unit.st ≠ .boot) (config : s.unit.st ≠ .config) :
    Tells s (s.wardChange k on) 0x400D 0xFF 0 := by
  have cond : (decide (k.val < 9) && !s.boots && s.unit.st != .config) = true := by simp [hk, State.boots_false boot, config]
  rw [State.wardChange_eq, cond, State.raiseIf_true]
  exact (s.onPanel_raise_tells _ _ _ (by decide)).grow ((State.raiseIf_grows _ _ _ _ _).trans (State.raiseIf_grows _ _ _ _ _))

theorem State.wardChange_tells_last (hk : k.val = 11) : Tells s (s.wardChange k true) 0x400F 0xFF 0 := by
  have silent : (decide (k.val < 9) && !s.boots && s.unit.st != .config) = false := by simp [hk]
  rw [State.wardChange_eq, silent, decide_eq_true hk, State.raiseIf_false, Bool.true_and, State.raiseIf_true]
  exact (s.onPanel_raise_tells _ _ _ (by decide)).grow (State.raiseIf_grows _ _ _ _ _)

/-- Switch 9 or 10 turned ON in RUN with both OFF opens the ward (R42). -/
theorem State.wardChange_opens (hk : k.val = 8 ∨ k.val = 9) (st : s.unit.st = .run) (off9 : s.panel.ward.getLsbD 8 = false)
    (off10 : s.panel.ward.getLsbD 9 = false) : TellsAfter s (s.wardChange k true) 0x400E 0xFF 0 := by
  have was : s.wardOpen = false := by
    rw [Bool.eq_false_iff, Ne, State.wardOpen_iff, off9, off10]
    simp
  have opens : (s.wardPut k true).wardOpen = true := by
    rw [State.wardOpen_iff, s.wardPut_bit k true (by omega), s.wardPut_bit k true (by omega)]
    refine ⟨?_, st⟩
    rcases hk with h | h <;> simp [h]
  rw [State.wardChange_eq, was, opens, Bool.not_false, Bool.and_self, State.raiseIf_true]
  have before (b b' : Bool) : GrowsBy 8 s (((s.wardPut k true).raiseIf b 0x400D 0xFF 0).raiseIf b' 0x400F 0xFF 0) :=
    ((GrowsBy.rfl' (t := s.wardPut k true) rfl rfl).trans (State.raiseIf_growsBy _ b _ _ _)).trans (State.raiseIf_growsBy _ b' _ _ _)
  exact (before _ _).tells (by omega) (State.raise_tells _ _ _ _ (by decide))

end

/-! ## Cover W (R43) -/

/-- COVER_OPEN and COVER_OPENED set, nothing reported yet. -/
def State.coverLifted (s : State) : State := s.onPanel fun p => { p with coverOpen := true, coverOpened := true }

theorem State.coverLift_eq {s : State} (h : s.panel.coverOpen = false) :
    s.coverLift = if s.boots then s.coverLifted else s.coverLifted.coverReport := by
  unfold State.coverLift
  rw [if_neg (by rw [h]; exact Bool.false_ne_true)]
  rfl

theorem State.security_growsBy (s : State) (c : Code) (d : Nat) (bs : List Byte) : GrowsBy 4 s (s.security c d bs) := by
  have few := RecRun.add_ev ⟨s.recorder, []⟩ s.recIn (s.recIn.securityBody c 0xFF d bs) rfl
  refine ((GrowsBy.rfl' rfl rfl).trans (State.deliver_growsBy _ _)).mono ?_
  rw [Nat.zero_add]
  exact Nat.mul_le_mul_left 4 few

theorem State.coverReport_tells (s : State) : TellsAfter s s.coverReport 0x4010 0xFF 0 :=
  (s.security_growsBy 0x4010 0 []).tells (by omega) (State.raise_tells _ _ _ _ (by decide))

theorem State.security_only (s : State) (c : Code) (d : Nat) (bs : List Byte) : Only codes s (s.security c d bs) := by
  intro p hp
  cases p
  case recorder | kw | trace | setNow => exact absurd (by simp [codes]) hp
  all_goals simp [Piece.Same]

theorem State.coverReport_changes (s : State) : Changes [] s s.coverReport :=
  Changes.trans ⟨s.security_only _ _ _, s.security_quiet _ _ _⟩ (State.raise_changes _ _ _ _)

/-! ## The commands on a running module -/

section
variable {s : State}

theorem exec_wardSwitchChange {k : Fin 12} {on : Bool} (run : s.unit.running = true) (h : s.panel.ward.getLsbD k.val ≠ on) :
    exec (.wardSwitchChange k on) s = .next (s.wardChange k on) :=
  congrArg Host.Outcome.next (State.live_pos run (bne_iff_ne.2 h))

theorem exec_coverOpen (run : s.unit.running = true) : exec .coverOpen s = .next s.coverLift :=
  congrArg Host.Outcome.next (State.live_pos run rfl)

theorem exec_coverClosed (run : s.unit.running = true) : exec .coverClosed s = .next s.coverBack :=
  congrArg Host.Outcome.next (State.live_pos run rfl)

end

end Sys2Proof.Machine

open Sys2Proof Sys2Proof.Machine Sys2Proof.Safety

/-- Settles O12: each code of a ward switch is raised on its own condition, and a lifted cover is reported outside BOOT. -/
theorem wardSwitchesAndCover : Obligations.WardSwitchesAndCover := by
  unfold Obligations.WardSwitchesAndCover
  refine ⟨?switch, ?lifted, ?back⟩
  case switch =>
    intro s k on run h
    refine ⟨_, exec_wardSwitchChange run h, fun j hj => s.wardChange_bit k on hj, State.wardChange_tells_low, ?_, ?_, s.wardChange_changes k on⟩
    · rintro hk rfl
      exact State.wardChange_tells_last hk
    · rintro hk rfl st off9 off10
      exact State.wardChange_opens hk st off9 off10
  case lifted =>
    intro s run h
    refine ⟨_, exec_coverOpen run, ?_⟩
    rw [State.coverLift_eq h]
    split
    next boot =>
      exact ⟨rfl, fun _ => ⟨rfl, rfl⟩, fun n => absurd (State.boots_iff.1 boot) n, s.onPanel_changes _⟩
    next runs =>
      refine ⟨by simp [State.coverReport, State.coverLifted], fun boot => absurd (State.boots_iff.2 boot) runs,
        fun _ => State.coverReport_tells s.coverLifted, ?_⟩
      exact (s.onPanel_changes _).trans ((State.coverReport_changes _).mono (List.nil_subset _))
  case back => exact fun s run => exec_coverClosed run
end

section
/-! Counting inputs, sensor supplies and analogue inputs (R31, R327, R328, R340). -/

namespace Sys2Proof.Machine
open Safety

/-! ## One element of field I/O -/

/-- An operation that changes one channel alone. -/
theorem State.onIo_becomes {s : State} {f : IoRun → IoRun} {c : ChanId} {g : Channel → Channel}
    (h : (f ⟨s.io, []⟩).io = (IoRun.chan ⟨s.io, []⟩ c g).io) : ChannelBecomes s (s.onIo f) c (g s.io.ch[c]) := by
  have io : (s.onIo f).io = { s.io with ch := vmod s.io.ch c g } := (State.onIo_io s f).trans h
  exact ⟨by rw [io]; exact vmod_get _ _ _, fun j hj => by rw [io]; exact vmod_get_ne _ _ _ _ hj, by rw [io]⟩

/-! ## Counting (R327) -/

/-- A channel with one quadrature error more; its count stays. -/
def Channel.misstepped (x : Channel) : Channel := { x with quadErr := satN (x.quadErr + 1) 32, events := x.events ||| 16 }

theorem IoRun.quadError_raises {r : IoRun} {c : Cfg} {ch : ChanId} (valid : r.io.sup.invalid = false) (mode : c.mode ch.val = 4) :
    r.quadError c ch = (r.chan ch Channel.misstepped).raise 0x0020 ch.val 0 := by
  unfold IoRun.quadError
  rw [if_neg (by simp [valid, mode])]
  simp [IoRun.chanEvent, IoRun.chan, vmod, Channel.misstepped]

theorem IoRun.countEdge_counts {r : IoRun} {c : Cfg} {ch : ChanId} (valid : r.io.sup.invalid = false) (mode : 2 ≤ c.mode ch.val)
    (onTrackC rise second lead : Bool) (time : Nat) :
    r.countEdge c ch onTrackC rise second lead time =
      r.chan ch fun x => x.edge (edgeCount (c.mode ch.val) onTrackC rise second lead) (onTrackC && rise) time :=
  if_neg (by simp [valid, Cfg.counting, mode])

/-- An edge that is not a rising one of the channel, and counts nothing, leaves the channel as it is. -/
theorem Channel.edge_none (x : Channel) (time : Nat) : x.edge 0 false time = x := by
  simp [Channel.edge]

theorem exec_quadError {s : State} (run : s.unit.running = true) (c : ChanId) :
    exec (.quadError c) s = .next (s.onIo fun r => r.quadError s.cfg.eff c) :=
  congrArg Host.Outcome.next (State.onField_pos s _ _ run rfl)

/-- A counted edge changes its channel alone. -/
theorem exec_fieldCountEdge {s : State} {c : ChanId} (run : s.unit.running = true) (valid : s.io.sup.invalid = false)
    (mode : 2 ≤ s.cfg.eff.mode c.val) (onTrackC rise second lead : Bool) (time : Nat) :
    ∃ t, exec (.fieldCountEdge c onTrackC rise second lead time) s = .next t ∧
      ChannelBecomes s t c ((s.io.ch[c]).edge (edgeCount (s.cfg.eff.mode c.val) onTrackC rise second lead) (onTrackC && rise) time) ∧
      Only [.io] s t := by
  have counts := IoRun.countEdge_counts (r := ⟨s.io, []⟩) valid mode onTrackC rise second lead time
  exact ⟨s.onIo fun r => r.countEdge s.cfg.eff c onTrackC rise second lead time,
    congrArg Host.Outcome.next (State.onField_pos s _ _ run rfl),
    State.onIo_becomes (g := fun x => x.edge (edgeCount (s.cfg.eff.mode c.val) onTrackC rise second lead) (onTrackC && rise) time)
      (congrArg IoRun.io counts),
    State.onIo_only s _ (congrArg IoRun.ev counts)⟩

/-! ## What an edge makes of its channel -/

section
variable (x : Channel) (onTrackC rise second lead : Bool) (time : Nat)

theorem Channel.edge_counter : x.edge (edgeCount 2 onTrackC rise second lead) (onTrackC && rise) time =
    if onTrackC && rise then x.edge 1 true time else x := by
  unfold edgeCount
  cases onTrackC && rise
  · exact x.edge_none time
  · rfl

theorem Channel.edge_pulseDir : x.edge (edgeCount 3 onTrackC rise second lead) (onTrackC && rise) time =
    if onTrackC && rise then x.edge (if second then 1 else -1) true time else x := by
  unfold edgeCount
  cases onTrackC && rise
  · exact x.edge_none time
  · rfl

theorem Channel.edge_quadrature : x.edge (edgeCount 4 onTrackC rise second lead) (onTrackC && rise) time =
    x.edge (if lead then 1 else -1) (onTrackC && rise) time := rfl

end

/-! ## Sensor supplies (R31) and analogue inputs (R340) -/

theorem IoRun.sensorTrip_off (r : IoRun) (now : Tick) (k j : Fin 2) :
    (r.sensorTrip now k).io.snsOff.getLsbD j.val = (r.io.snsOff.getLsbD j.val || j == k) := by
  show (r.io.snsOff ||| 1#2 <<< k.val).getLsbD j.val = _
  rw [BitVec.getLsbD_or, getLsbD_bit k.isLt, fin_beq_val]

theorem IoRun.sensorRetry_off (r : IoRun) (k j : Fin 2) :
    (r.sensorRetry k).io.snsOff.getLsbD j.val = (r.io.snsOff.getLsbD j.val && j != k) := by
  show (r.io.snsOff &&& ~~~(1#2 <<< k.val)).getLsbD j.val = _
  rw [BitVec.getLsbD_and, BitVec.getLsbD_not, getLsbD_bit k.isLt, bne, fin_beq_val, decide_eq_true j.isLt, Bool.true_and]

section
variable {s : State}

theorem exec_sensorSupplyTrip {k : Fin 2} (run : s.unit.running = true) (h : s.io.snsOff.getLsbD k.val = false) :
    exec (.sensorSupplyTrip k) s = .next (s.onIo fun r => r.sensorTrip s.tick k) :=
  congrArg Host.Outcome.next (State.onField_pos s _ _ run (by rw [h]; rfl))

theorem exec_sensorSupplyRetry {k : Fin 2} (run : s.unit.running = true) (h : s.io.snsOff.getLsbD k.val = true) :
    exec (.sensorSupplyRetry k) s = .next (s.onIo fun r => r.sensorRetry k) :=
  congrArg Host.Outcome.next (State.onField_pos s _ _ run h)

theorem exec_anShuntOff {n : AnId} (run : s.unit.running = true) (mode : s.cfg.eff.n F.anMode n.val = 1) (h : (s.io.an[n]).shuntOff = false) :
    exec (.anShuntOff n) s = .next (s.onIo fun r => r.shuntOff s.tick n) :=
  congrArg Host.Outcome.next (State.onField_pos s _ _ run (by rw [mode, h]; rfl))

theorem exec_anShuntRetry {n : AnId} (run : s.unit.running = true) (h : (s.io.an[n]).shuntOff = true) :
    exec (.anShuntRetry n) s = .next (s.onIo fun r => r.shuntRetry n) :=
  congrArg Host.Outcome.next (State.onField_pos s _ _ run h)

theorem exec_anSupplyTrip (run : s.unit.running = true) (h : s.io.anSupOff = false) :
    exec .anSupplyTrip s = .next (s.onIo fun r => r.anSupplyTrip s.tick) :=
  congrArg Host.Outcome.next (State.onField_pos s _ _ run (by rw [h]; rfl))

theorem exec_anSupplyRetry (run : s.unit.running = true) (h : s.io.anSupOff = true) :
    exec .anSupplyRetry s = .next (s.onIo IoRun.anSupplyRetry) :=
  congrArg Host.Outcome.next (State.onField_pos s _ _ run h)

end

end Sys2Proof.Machine

open Sys2Proof Sys2Proof.Machine Sys2Proof.Safety

/-- Settles O53: each command is one operation of field I/O; where it raises a code, that code alone. -/
theorem inputsAndSupplies : Obligations.InputsAndSupplies := by
  unfold Obligations.InputsAndSupplies
  intro s run
  refine ⟨?channels, ?sensors, ?analogue, ?supplyTrip, ?supplyRetry⟩
  case channels =>
    intro c valid
    refine ⟨fun mode => ?_, fun onTrackC rise second lead time => ⟨fun mode => ?_, fun mode => ?_, fun mode => ?_⟩⟩
    · have raises := IoRun.quadError_raises (r := ⟨s.io, []⟩) valid mode
      exact ⟨_, exec_quadError run c, State.onIo_becomes (g := Channel.misstepped) (by rw [raises]; rfl),
        State.onIo_tells _ _ _ _ _ (by rw [raises]; rfl) (by decide), State.onIo_changes _ _⟩
    · have counted := exec_fieldCountEdge (c := c) run valid (by omega) onTrackC rise second lead time
      rwa [mode, Channel.edge_counter] at counted
    · have counted := exec_fieldCountEdge (c := c) run valid (by omega) onTrackC rise second lead time
      rw [mode, Channel.edge_pulseDir] at counted
      cases second <;> exact counted
    · have counted := exec_fieldCountEdge (c := c) run valid (by omega) onTrackC rise second lead time
      rw [mode, Channel.edge_quadrature] at counted
      cases lead <;> exact counted
  case sensors =>
    intro k
    refine ⟨fun h => ⟨_, exec_sensorSupplyTrip run h, ?_⟩, fun h => ⟨_, exec_sensorSupplyRetry run h, ?_⟩⟩
    · rw [State.onIo_io]
      exact ⟨rfl, IoRun.sensorTrip_off ⟨s.io, []⟩ s.tick k, Vector.getElem_set_self _, fun j hj => set_get_ne _ _ _ _ hj,
        State.onIo_tells _ _ _ _ _ rfl (by decide), State.onIo_changes _ _⟩
    · rw [State.onIo_io]
      exact ⟨rfl, IoRun.sensorRetry_off ⟨s.io, []⟩ k, Vector.getElem_set_self _, fun j hj => set_get_ne _ _ _ _ hj,
        State.onIo_only _ _ rfl⟩
  case analogue =>
    intro n
    refine ⟨fun mode h => ⟨_, exec_anShuntOff run mode h, ?_⟩, fun h => ⟨_, exec_anShuntRetry run h, ?_⟩⟩
    · rw [State.onIo_io]
      exact ⟨vmod_get _ _ _, fun j hj => vmod_get_ne _ _ _ _ hj, rfl, State.onIo_tells _ _ _ _ _ rfl (by decide), State.onIo_changes _ _⟩
    · rw [State.onIo_io]
      exact ⟨vmod_get _ _ _, fun j hj => vmod_get_ne _ _ _ _ hj, rfl, State.onIo_only _ _ rfl⟩
  case supplyTrip =>
    intro h
    exact ⟨_, exec_anSupplyTrip run h, State.onIo_io _ _, State.onIo_tells _ _ _ _ _ rfl (by decide), State.onIo_changes _ _⟩
  case supplyRetry =>
    intro h
    exact ⟨_, exec_anSupplyRetry run h, State.onIo_io _ _, State.onIo_only _ _ rfl⟩
end

section
/-! Staging of images and firmware (R92, R94, R458): the rule of each request, for either kind. -/

namespace Sys2Proof.Machine
open Safety

/-! ## The rules (R458) -/

section
variable {u : State} {i : SessId} {x : Session} {fw : Bool} {g : Staging}

theorem State.stageNeeds_none (role : x.role = .maintainer) (held : u.kw.holder .unit = some i) : u.stageNeeds i x = none := by
  simp [State.stageNeeds, State.needs, role, held]

/-- The staging that a session has begun and not ended is the one that it collects. -/
theorem State.collecting_eq (h : u.kw.staging fw = some g) (mine : g.sess = i) (collects : g.writing = none) :
    u.collecting i fw = some g := by
  unfold State.collecting
  rw [h]
  exact if_pos ⟨mine, collects⟩

theorem State.stageBegin_begins {slot : BitVec 8} {len : Nat} (needs : u.stageNeeds i x = none) (legal : fw = false → slot.toNat ≤ 1)
    (unused : fw = false → u.cfg.loaded = true → u.unit.slotB ≠ (slot == 1)) (free : u.kw.staging fw = none) (fits : len ≤ stageLimit fw) :
    u.stageBegin i x fw slot len = (u.setStaging fw (some ⟨i, !fw && slot == 1, len, [], none, x.num⟩), .data []) := by
  have slotLegal : ¬(!fw && decide (1 < slot.toNat)) = true := by
    intro e
    obtain ⟨image, beyond⟩ := Bool.and_eq_true_iff.1 e
    have := legal (by simpa using image)
    have := of_decide_eq_true beyond
    omega
  have slotUnused : ¬(!fw && u.cfg.loaded && (!fw && slot == 1) == u.unit.slotB) = true := by
    cases fw with
    | true => simp
    | false => simpa using fun loaded e => unused rfl loaded e.symm
  unfold State.stageBegin
  simp only [needs]
  rw [if_neg slotLegal, if_neg slotUnused, free, if_neg (by simp), if_neg (by omega)]

theorem State.stageData_takes {bs : List Byte} (needs : u.stageNeeds i x = none) (collects : u.collecting i fw = some g)
    (fits : g.data.length + bs.length ≤ g.len) :
    u.stageData i x fw g.data.length bs = (u.setStaging fw (some { g with data := g.data ++ bs }), .data []) := by
  unfold State.stageData
  simp only [needs, collects]
  exact if_neg (by omega)

theorem State.stageData_refuses {off : Nat} {bs : List Byte} (needs : u.stageNeeds i x = none) (collects : u.collecting i fw = some g)
    (wrong : off ≠ g.data.length ∨ g.len < off + bs.length) : u.stageData i x fw off bs = (u, .refuse 0x4F07) := by
  unfold State.stageData
  simp only [needs, collects]
  exact if_pos wrong

theorem State.stageEnd_ends {r : Req} (needs : u.stageNeeds r.sess x = none) (collects : u.collecting r.sess fw = some g)
    (complete : g.data.length = g.len) :
    u.stageEnd r x fw = (u.setStaging fw (some { g with writing := some r.tag.toNat }), .later) := by
  unfold State.stageEnd
  simp only [needs, collects]
  exact if_neg fun e => e complete

theorem State.stageCancel_discards (needs : u.stageNeeds i x = none) (collects : u.collecting i fw = some g) :
    u.stageCancel i x fw = (u.setStaging fw none, .data []) := by
  unfold State.stageCancel
  simp only [needs, collects]
  exact if_neg Bool.false_ne_true

theorem State.setStaging_only (u : State) (fw : Bool) (g : Option Staging) : Only [.kw] u (u.setStaging fw g) := by
  intro p hp
  cases p
  case kw => exact absurd List.mem_cons_self hp
  all_goals rfl

end

end Sys2Proof.Machine

namespace Sys2Proof.Safety
open Machine

/-! ## The requests -/

/-- The other sessions are as they were when a request was heard. -/
theorem heard_elsewhere (s : State) (r : Req) (x : Session) : Elsewhere r.sess s.kw.sess (s.heard r x).kw.sess :=
  fun _ hj => set_get_ne _ _ _ _ hj

/-- A request that replaces a staging touches nothing but the sessions. -/
theorem staged_only (s : State) (r : Req) (x : Session) (fw : Bool) (g : Option Machine.Staging) (n : Nat) (a : Reply) :
    Only [.kw] s (((s.heard r x).setStaging fw g).answer r.sess n a) :=
  (State.setStaging_only _ fw g).request List.mem_cons_self n a

/-- A request whose kind is served, with what its own rule comes to. -/
theorem Asks.serve_eq {s u : State} {r : Req} {x : Session} {k : Ask} {a : Reply} {f : Session → State → State × Reply} (h : Asks s r x k)
    (q : Form) (rule : f { x with lastMsg := s.up } (s.heard r x) = (u, a)) : s.serve r k q f = u.answer r.sess r.tag.toNat a := by
  rw [h.serve, rule]

theorem Holds.stageNeeds {s : State} {r : Req} {x : Session} (h : Holds s r x .unit) (role : x.role = .maintainer) :
    (s.heard r x).stageNeeds r.sess { x with lastMsg := s.up } = none :=
  State.stageNeeds_none role ((State.heard_holder s r x .unit).trans h.2)

theorem staging_heard (s : State) (r : Req) (x : Session) (fw : Bool) : (s.heard r x).kw.staging fw = s.kw.staging fw := by
  cases fw <;> rfl

section
variable {s : State} {r : Req} {x : Session} {k : Ask} {fw : Bool} {g : Machine.Staging}

theorem Asks.stageBegin {slot : BitVec 8} {len : Nat} (h : Asks s r x k) (role : x.role = .maintainer) (held : Holds s r x .unit)
    (legal : fw = false → slot.toNat ≤ 1) (unused : fw = false → s.cfg.loaded = true → s.unit.slotB ≠ (slot == 1))
    (free : s.kw.staging fw = none) (fits : len ≤ stageLimit fw) (q : Form) :
    (s.serve r k q fun x s => s.stageBegin r.sess x fw slot len) =
      ((s.heard r x).setStaging fw (some ⟨r.sess, !fw && slot == 1, len, [], none, x.num⟩)).answer r.sess r.tag.toNat (.data []) :=
  h.serve_eq q (State.stageBegin_begins (held.stageNeeds role) legal unused ((staging_heard s r x fw).trans free) fits)

/-- The session that asks has begun a staging that collects its data. -/
structure Collects (s : State) (r : Req) (x : Session) (k : Ask) (fw : Bool) (g : Machine.Staging) : Prop where
  /-- The request is served. -/
  asks : Asks s r x k
  /-- Its role and claim are those of R458. -/
  needs : (s.heard r x).stageNeeds r.sess { x with lastMsg := s.up } = none
  /-- The staging. -/
  collects : (s.heard r x).collecting r.sess fw = some g

theorem Asks.collects (h : Asks s r x k) (role : x.role = .maintainer) (held : Holds s r x .unit) (staging : s.kw.staging fw = some g)
    (mine : g.sess = r.sess) (collects : g.writing = none) : Collects s r x k fw g :=
  ⟨h, held.stageNeeds role, State.collecting_eq ((staging_heard s r x fw).trans staging) mine collects⟩

theorem Collects.data {bs : List Byte} (c : Collects s r x k fw g) (fits : g.data.length + bs.length ≤ g.len) (q : Form) :
    (s.serve r k q fun x s => s.stageData r.sess x fw g.data.length bs) =
      ((s.heard r x).setStaging fw (some { g with data := g.data ++ bs })).answer r.sess r.tag.toNat (.data []) :=
  c.asks.serve_eq q (State.stageData_takes c.needs c.collects fits)

theorem Collects.data_refused {off : Nat} {bs : List Byte} (c : Collects s r x k fw g)
    (wrong : off ≠ g.data.length ∨ g.len < off + bs.length) (q : Form) :
    (s.serve r k q fun x s => s.stageData r.sess x fw off bs) = (s.heard r x).answer r.sess r.tag.toNat (.refuse 0x4F07) :=
  c.asks.serve_eq q (State.stageData_refuses c.needs c.collects wrong)

theorem Collects.ends (c : Collects s r x k fw g) (complete : g.data.length = g.len) (q : Form) :
    (s.serve r k q fun x s => s.stageEnd r x fw) = (s.heard r x).setStaging fw (some { g with writing := some r.tag.toNat }) := by
  have ended := State.stageEnd_ends c.needs c.collects complete
  exact c.asks.serve_eq (f := fun x s => s.stageEnd r x fw) q ended

theorem Collects.cancel (c : Collects s r x k fw g) (q : Form) :
    (s.serve r k q fun x s => s.stageCancel r.sess x fw) = ((s.heard r x).setStaging fw none).answer r.sess r.tag.toNat (.data []) :=
  c.asks.serve_eq q (State.stageCancel_discards c.needs c.collects)

end

end Sys2Proof.Safety

open Sys2Proof Sys2Proof.Machine Sys2Proof.Safety

/-- Settles O28: each request comes to the rule of its kind on the state in which it is heard, and the rule replaces the staging alone. -/
theorem staging : Obligations.Staging := by
  unfold Obligations.Staging
  refine ⟨?beginImage, ?beginFirmware, ?image, ?firmware⟩
  case beginImage =>
    intro s r x slot len h role held legal unused free fits
    have served := h.stageBegin (fw := false) role held (fun _ => legal) (fun _ => unused) free fits (.stageBegin false slot len)
    exact ⟨_, congrArg Host.Outcome.next served, answered _ _ _, rfl, heard_elsewhere s r x, staged_only _ _ _ _ _ _ _⟩
  case beginFirmware =>
    intro s r x len h role held free fits
    have served := h.stageBegin (fw := true) (slot := 0) role held (by simp) (by simp) free fits (.stageBegin true 0 len)
    exact ⟨_, congrArg Host.Outcome.next served, answered _ _ _, rfl, heard_elsewhere s r x, staged_only _ _ _ _ _ _ _⟩
  case image =>
    intro s r x g h role held staging mine writing
    have c : Collects s r x .image false g := h.collects role held staging mine writing
    refine ⟨fun data fits => ?_, fun offset data wrong => ?_, fun complete => ?_, ?_⟩
    · exact ⟨_, congrArg Host.Outcome.next (c.data fits _), answered _ _ _, rfl, heard_elsewhere s r x, staged_only _ _ _ _ _ _ _⟩
    · exact ⟨_, congrArg Host.Outcome.next (c.data_refused wrong _), refused _ _ _ _ _, staging, only_kw _ _ _ _ _⟩
    · exact ⟨_, congrArg Host.Outcome.next (c.ends complete _), rfl, staged_only s r x _ _ 0 .later⟩
    · exact ⟨_, congrArg Host.Outcome.next (c.cancel _), answered _ _ _, rfl, heard_elsewhere s r x, staged_only _ _ _ _ _ _ _⟩
  case firmware =>
    intro s r x g h role held staging mine writing
    have c : Collects s r x .firmware true g := h.collects role held staging mine writing
    refine ⟨fun data fits => ?_, fun offset data wrong => ?_, fun complete => ?_, ?_⟩
    · exact ⟨_, congrArg Host.Outcome.next (c.data fits _), answered _ _ _, rfl, heard_elsewhere s r x, staged_only _ _ _ _ _ _ _⟩
    · exact ⟨_, congrArg Host.Outcome.next (c.data_refused wrong _), refused _ _ _ _ _, staging, only_kw _ _ _ _ _⟩
    · exact ⟨_, congrArg Host.Outcome.next (c.ends complete _), rfl, staged_only s r x _ _ 0 .later⟩
    · exact ⟨_, congrArg Host.Outcome.next (c.cancel _), answered _ _ _, rfl, heard_elsewhere s r x, staged_only _ _ _ _ _ _ _⟩
end

section
/-! What follows a staging inside the module: the NOR write, the dry run of an image and the check of firmware (R93, R458, R467). -/

namespace Sys2Proof.Machine
open Safety

/-! ## An event of KW_EVENTS -/

section
variable (s : State) (k : Nat) (c : Code) (d : Word) (bs : List Byte)

/-- The state with the bit of KW_EVENTS set, before the event is recorded and told. -/
def State.kwBit (s : State) (k : Nat) : State := { s with kw := { s.kw with events := s.kw.events ||| BitVec.ofNat 32 (2 ^ k) } }

theorem State.kwEvent_quiet : Quiet (s.kwBit k) (s.kwEvent k c d bs) := (State.security_quiet _ _ _ _).trans (State.raise_quiet _ _ _ _)

/-- The event changes nothing of Keyway but its bit and the queues of the sessions. -/
theorem State.kwEvent_kw : (s.kwEvent k c d bs).kw =
    { s.kw with sess := (s.kwEvent k c d bs).kw.sess, events := s.kw.events ||| BitVec.ofNat 32 (2 ^ k) } := (s.kwEvent_quiet k c d bs).kw

theorem State.kwEvent_tells (h : c ≠ 0x4804) : TellsAfter s (s.kwEvent k c d bs) c 0xFF d :=
  ((s.kwBit k).security_growsBy c d.toNat bs).tells (by omega) (State.raise_tells _ _ _ _ h)

theorem State.kwEvent_only : Only codes s (s.kwEvent k c d bs) := by
  intro p hp
  cases p
  case recorder | kw | trace | setNow => exact absurd (by simp [codes]) hp
  all_goals simp [Piece.Same]

end

/-- Whether a session is still the one that it was does not depend on its queue of events. -/
theorem State.isSame_core {s t : State} {i : SessId} (h : (t.kw.sess[i]).map Session.core = (s.kw.sess[i]).map Session.core) (n : Nat) :
    t.isSame i n = s.isSame i n := by
  have num (o : Option Session) : o.map (fun x => x.num == n) = (o.map Session.core).map fun x => x.num == n := by cases o <;> rfl
  unfold State.isSame
  rw [num, h, ← num]

theorem State.kwEvent_isSame (s : State) (k : Nat) (c : Code) (d : Word) (bs : List Byte) (i : SessId) (n : Nat) :
    (s.kwEvent k c d bs).isSame i n = s.isSame i n := State.isSame_core ((s.kwEvent_quiet k c d bs).sess i) n

/-! ## The answer to END (R455, R458) -/

section
variable {u : State} {g : Staging} {tag : Nat} {bs : List Byte}

theorem State.answerOf_open (h : u.isSame g.sess g.num = true) : (u.answerOf g tag (.data bs)).kw.answers[g.sess] = some (.response tag bs) := by
  unfold State.answerOf
  rw [if_pos h]
  simp [State.answer]

theorem State.answerOf_closed (h : u.isSame g.sess g.num = false) : u.answerOf g tag (.data bs) = u := by
  unfold State.answerOf
  rw [h]
  rfl

theorem State.answerOf_kw : (u.answerOf g tag (.data bs)).kw = { u.kw with answers := (u.answerOf g tag (.data bs)).kw.answers } := by
  unfold State.answerOf
  split <;> rfl

theorem State.answerOf_only : Only [.kw] u (u.answerOf g tag (.data bs)) := by
  intro p hp
  unfold State.answerOf
  split
  · exact answer_same _ _ _ _ _ fun e => hp (List.mem_singleton.2 e)
  · exact Only.rfl' [] u p List.not_mem_nil

theorem State.answerOf_grows : Grows u (u.answerOf g tag (.data bs)) := by
  unfold State.answerOf
  split
  · exact answer_grows _ _ _ _
  · exact .rfl' rfl

end

/-- The NOR write that turned `s` into `v` is reported in `t`: the event has been raised, and END answered where its session is still open. -/
structure Reported (v t : State) (k : Nat) (c : Code) (g : Staging) (tag : Nat) (bs : List Byte) : Prop where
  /-- The bit of KW_EVENTS, the queues and the answer are all that changes of Keyway. -/
  kw : t.kw = { v.kw with sess := t.kw.sess, answers := t.kw.answers, events := v.kw.events ||| BitVec.ofNat 32 (2 ^ k) }
  /-- RESPONSE. -/
  answer : v.isSame g.sess g.num = true → t.kw.answers[g.sess] = some (.response tag bs)
  /-- A later session of the same index gets none. -/
  silent : v.isSame g.sess g.num = false → t.kw.answers = v.kw.answers
  /-- The event. -/
  tells : TellsAfter v t c 0xFF 0

theorem State.answerOf_reported {v w : State} {k : Nat} {c : Code} {data : List Byte} (h : c ≠ 0x4804) (hw : w.kw = (v.kwEvent k c 0 data).kw)
    (g : Staging) (tag : Nat) (bs : List Byte) : Reported v (w.answerOf g tag (.data bs)) k c g tag bs := by
  have same : w.isSame g.sess g.num = v.isSame g.sess g.num :=
    (State.isSame_core (s := v.kwEvent k c 0 data) (by rw [hw]) _).trans (State.kwEvent_isSame ..)
  have event := v.kwEvent_kw k c 0 data
  refine ⟨?_, fun e => State.answerOf_open (same.trans e), fun e => ?_, ?_⟩
  · rw [State.answerOf_kw, hw, event]
  · rw [State.answerOf_closed (same.trans e), hw, event]
  · exact (v.kwEvent_tells k c 0 data h).grow ((Grows.rfl' hw).trans State.answerOf_grows)

/-! ## The NOR write (R458) -/

section
variable (s : State) (g : Staging) (tag : Nat)

/-- The slot holds the image, and its staging is over. -/
def State.imageStored (s : State) (g : Staging) : State :=
  let k : Fin 2 := if g.slotB then 1 else 0
  { s with fw := { s.fw with slots := s.fw.slots.set k g.data }, kw := { s.kw with image := none } }

/-- CFG_STAGED_SERIAL, and the dry run that begins. -/
def CfgSt.imageStaged (c : CfgSt) (st : UnitState) (g : Staging) : CfgSt :=
  { c with stagedSerial := if c.loaded then slotSerial g.data else c.stagedSerial
           dryRun := if st = .unconfigured then c.dryRun else some g.slotB }

/-- The image written and the event raised, before END is answered. -/
def State.imageTold (s : State) (g : Staging) : State :=
  { (s.imageStored g).kwEvent 5 0x4807 0 (sha256 g.data) with cfg := s.cfg.imageStaged s.unit.st g }

theorem State.imageWritten_eq : s.imageWritten g tag = (s.imageTold g).answerOf g tag (.data (leBytes 4 (leAt g.data 12 4))) := by
  have cfg : ((s.imageStored g).kwEvent 5 0x4807 0 (sha256 g.data)).cfg = s.cfg := by simp [State.imageStored]
  have unit : ((s.imageStored g).kwEvent 5 0x4807 0 (sha256 g.data)).unit = s.unit := by simp [State.imageStored]
  have staged : s.cfg.imageStaged s.unit.st g =
      (let c := if s.cfg.loaded then { s.cfg with stagedSerial := slotSerial g.data } else s.cfg
       if s.unit.st == UnitState.unconfigured then c else { c with dryRun := some g.slotB }) := by
    simp only [CfgSt.imageStaged, beq_iff_eq]
    split_ifs <;> rfl
  unfold State.imageTold
  rw [staged, ← cfg, ← unit]
  rfl

theorem State.imageStored_only : Only [.kw, .fw] s (s.imageStored g) := by
  intro p hp
  cases p
  case kw | fw => exact absurd (by simp) hp
  all_goals rfl

theorem State.imageTold_only : Only [.kw, .fw, .cfg, .recorder, .trace, .setNow] s (s.imageTold g) := by
  have stored := (s.imageStored_only g).mono (qs := [.kw, .fw, .cfg, .recorder, .trace, .setNow]) (by simp)
  have event := ((s.imageStored g).kwEvent_only 5 0x4807 0 (sha256 g.data)).mono (qs := [.kw, .fw, .cfg, .recorder, .trace, .setNow])
    (by simp [codes])
  intro p hp
  have both := stored.trans event p hp
  cases p
  case cfg => exact absurd (by simp) hp
  all_goals exact both

theorem State.imageWritten_only : Only [.kw, .fw, .cfg, .recorder, .trace, .setNow] s (s.imageWritten g tag) := by
  rw [State.imageWritten_eq]
  exact (s.imageTold_only g).trans (State.answerOf_only.mono (by simp))

theorem State.imageWritten_fw : (s.imageWritten g tag).fw = (s.imageStored g).fw := by
  rw [State.imageWritten_eq]
  have event : (s.imageTold g).fw = (s.imageStored g).fw := by simp [State.imageTold]
  exact Eq.trans (State.answerOf_only .fw (by simp)) event

theorem State.imageWritten_cfg : (s.imageWritten g tag).cfg = s.cfg.imageStaged s.unit.st g := by
  rw [State.imageWritten_eq]
  exact State.answerOf_only .cfg (by simp)

theorem State.imageWritten_reported :
    Reported (s.imageStored g) (s.imageWritten g tag) 5 0x4807 g tag (leBytes 4 (leAt g.data 12 4)) := by
  have told : (s.imageTold g).kw = ((s.imageStored g).kwEvent 5 0x4807 0 (sha256 g.data)).kw := rfl
  rw [State.imageWritten_eq]
  exact State.answerOf_reported (by decide) told _ _ _

/-- The firmware slot that is not booted holds the firmware, its check has begun, and its staging is over. -/
def State.firmwareStored (s : State) (g : Staging) : State :=
  let k : Fin 2 := if s.fw.booted then 0 else 1
  { s with fw := { s.fw with fw := s.fw.fw.set k g.data, busy := true }, kw := { s.kw with fw := none } }

theorem State.firmwareWritten_eq : s.firmwareWritten g tag =
    ((s.firmwareStored g).kwEvent 6 0x4808 0 (sha256 g.data)).answerOf g tag (.data (leBytes 4 (leAt g.data 8 4))) := rfl

theorem State.firmwareStored_only : Only [.kw, .fw] s (s.firmwareStored g) := by
  intro p hp
  cases p
  case kw | fw => exact absurd (by simp) hp
  all_goals rfl

theorem State.firmwareWritten_only : Only [.kw, .fw, .recorder, .trace, .setNow] s (s.firmwareWritten g tag) := by
  have stored := (s.firmwareStored_only g).mono (qs := [.kw, .fw, .recorder, .trace, .setNow]) (by simp)
  have event := ((s.firmwareStored g).kwEvent_only 6 0x4808 0 (sha256 g.data)).mono (qs := [.kw, .fw, .recorder, .trace, .setNow])
    (by simp [codes])
  rw [State.firmwareWritten_eq]
  exact (stored.trans event).trans (State.answerOf_only.mono (by simp))

theorem State.firmwareWritten_fw : (s.firmwareWritten g tag).fw = (s.firmwareStored g).fw := by
  rw [State.firmwareWritten_eq]
  exact Eq.trans (State.answerOf_only .fw (by simp)) (by simp)

theorem State.firmwareWritten_reported :
    Reported (s.firmwareStored g) (s.firmwareWritten g tag) 6 0x4808 g tag (leBytes 4 (leAt g.data 8 4)) := by
  rw [State.firmwareWritten_eq]
  exact State.answerOf_reported (c := 0x4808) (by decide) rfl _ _ _

end

/-! ## The dry run and the check of firmware (R93, R467) -/

theorem fwCheck_blank {bs : List Byte} {rollback : Nat} (h : slice bs 0 4 ≠ [0x5A, 0x46, 0x57, 0x52]) : fwCheck bs rollback = .blank :=
  if_pos h

theorem fwCheck_wouldBoot {bs : List Byte} {rollback : Nat} : fwCheck bs rollback = .wouldBoot ↔
    slice bs 0 4 = [0x5A, 0x46, 0x57, 0x52] ∧ fwHeaderOk bs = true ∧ sha256 (slice bs 256 (leAt bs 16 4)) = slice bs 24 32 ∧
      Config.ecdsaVerify Config.firmwareKey (bs.take 128) (leAt bs 128 32) (leAt bs 160 32) = true ∧ rollback ≤ leAt bs 12 4 := by
  unfold fwCheck
  split_ifs with magic header signature older
  · exact ⟨nofun, fun ⟨ok, _⟩ => absurd ok magic⟩
  · exact ⟨nofun, fun ⟨_, ok, digest, _⟩ => by simp [ok, digest] at header⟩
  · exact ⟨nofun, fun ⟨_, _, _, ok, _⟩ => by simp [ok] at signature⟩
  · exact ⟨nofun, fun ⟨_, _, _, _, newer⟩ => absurd older (by omega)⟩
  · simp only [Bool.or_eq_true, Bool.not_eq_true', bne_iff_ne, not_or, Bool.not_eq_false, not_not] at magic header signature
    exact ⟨fun _ => ⟨magic, header.1, header.2, signature, by omega⟩, fun _ => rfl⟩

/-! ## The commands on a running module -/

section
variable {s : State} {g : Staging} {tag : Nat}

theorem exec_stageWriteComplete_image (run : s.unit.running = true) (staging : s.kw.image = some g) (writing : g.writing = some tag) :
    exec (.stageWriteComplete false) s = .next (s.imageWritten g tag) := by
  have written : s.stageWritten false = s.imageWritten g tag := by simp [State.stageWritten, Keyway.staging, staging, writing]
  exact congrArg Host.Outcome.next ((State.live_pos run rfl).trans written)

theorem exec_stageWriteComplete_firmware (run : s.unit.running = true) (staging : s.kw.fw = some g) (writing : g.writing = some tag) :
    exec (.stageWriteComplete true) s = .next (s.firmwareWritten g tag) := by
  have written : s.stageWritten true = s.firmwareWritten g tag := by simp [State.stageWritten, Keyway.staging, staging, writing]
  exact congrArg Host.Outcome.next ((State.live_pos run rfl).trans written)

/-- What the dry run of a slot shows. -/
def CfgSt.dryRan (c : CfgSt) (o : SlotOutcome) : CfgSt :=
  { c with dryRun := none, staged := o.result, stagedNeeds := o.needsAccept
           stagedBits := if o.result == SlotResult.accepted then wholeBitting o.clamping.cfg else 0 }

theorem exec_dryRunComplete {slotB : Bool} (run : s.unit.running = true) (h : s.cfg.dryRun = some slotB) :
    exec .dryRunComplete s = .next { s with cfg := s.cfg.dryRan (s.trySlot slotB) } := by
  have ended : s.dryRunEnd = { s with cfg := s.cfg.dryRan (s.trySlot slotB) } := by
    unfold State.dryRunEnd
    rw [h]
    rfl
  exact congrArg Host.Outcome.next ((State.live_pos run rfl).trans ended)

/-- The firmware slot that is not booted. -/
def Firmware.spare (f : Firmware) : List Byte := if f.booted then f.fw[0] else f.fw[1]

theorem exec_fwStageCheckComplete (run : s.unit.running = true) (h : s.fw.busy = true) : exec .fwStageCheckComplete s =
    .next { s with fw := { s.fw with busy := false, staged := fwCheck s.fw.spare s.se.rollback } } :=
  congrArg Host.Outcome.next ((State.live_pos run rfl).trans (if_neg (by rw [h]; exact Bool.false_ne_true)))

end

end Sys2Proof.Machine

open Sys2Proof Sys2Proof.Machine Sys2Proof.Safety

/-- Settles O29: the write stores the data, raises its event and answers; the dry run and the firmware check show their results. -/
theorem stagingCompletes : Obligations.StagingCompletes := by
  unfold Obligations.StagingCompletes
  refine ⟨?image, ?firmware, ?dryRun, ?check⟩
  case image =>
    intro s g tag run staging writing
    obtain ⟨kw, answer, silent, tells⟩ := s.imageWritten_reported g tag
    exact ⟨_, exec_stageWriteComplete_image run staging writing, s.imageWritten_fw g tag, by rw [kw]; rfl, answer, silent,
      s.imageWritten_cfg g tag, by rw [kw]; rfl, tells, s.imageWritten_only g tag⟩
  case firmware =>
    intro s g tag run staging writing
    obtain ⟨kw, answer, silent, tells⟩ := s.firmwareWritten_reported g tag
    exact ⟨_, exec_stageWriteComplete_firmware run staging writing, s.firmwareWritten_fw g tag, by rw [kw]; rfl, answer, silent,
      by rw [kw]; rfl, tells, s.firmwareWritten_only g tag⟩
  case dryRun =>
    intro s slotB run h
    refine ⟨_, exec_dryRunComplete run h, rfl, fun refused => ?_, fun accepted => ?_, fun p hp => ?_⟩
    · simp [CfgSt.dryRan, refused]
    · simp [CfgSt.dryRan, accepted]
    · cases p
      case cfg => exact absurd List.mem_cons_self hp
      all_goals rfl
  case check =>
    intro s run busy
    refine ⟨_, exec_fwStageCheckComplete run busy, rfl, fun p hp => ?_, fwCheck_blank, fwCheck_wouldBoot⟩
    cases p
    case fw => exact absurd List.mem_cons_self hp
    all_goals rfl
end

section
/-! The mount of the log (R418, R419): what it finds in the flash, and what the records, events and retired blocks that follow it keep. -/

namespace Sys2Proof.Machine
open Safety

/-! ## Where writing resumes (R418) -/

/-- Where writing resumes after the mount, from the first physical page that is not used. -/
def Nand.resume (d : Nand) (used : Nat) : Nat :=
  if used % 64 = 0 ∨ d.retired.contains (used / 64) = true then 64 * d.nextBlock (used / 64) else used

/-- The committed pages of the log. -/
def Nand.log (d : Nand) (erase : Nat) : List NandPage := d.pages.filter fun p => p.valid erase && decide (256 ≤ p.phys)

/-- The page after the last one of some pages, but at least `n`. -/
def pageAfter (n : Nat) (ps : List NandPage) : Nat := ps.foldl (fun m p => max m (p.phys + 1)) n

/-- The page after the last one of the log. -/
def Nand.logEnd (d : Nand) (erase : Nat) : Nat := pageAfter 256 (d.log erase)

/-- The pages beyond the log that have been programmed in the block of its last page or in the one where it goes on. -/
def Nand.beyond (d : Nand) (erase : Nat) : List NandPage :=
  let top := d.logEnd erase
  d.pages.filter fun p => leAt p.bytes 16 4 == erase && decide (top ≤ p.phys) && (p.phys / 64 == (top - 1) / 64 || p.phys / 64 == top / 64)

theorem pageAfter_le {n top : Nat} {ps : List NandPage} (hn : n ≤ top) (h : ∀ p ∈ ps, p.phys < top) : pageAfter n ps ≤ top := by
  induction ps generalizing n with
  | nil => exact hn
  | cons p ps ih =>
    have := h p List.mem_cons_self
    exact ih (Nat.max_le.2 ⟨hn, this⟩) fun q hq => h q (List.mem_cons_of_mem p hq)

theorem le_pageAfter (n : Nat) (ps : List NandPage) : n ≤ pageAfter n ps := by
  induction ps generalizing n with
  | nil => exact Nat.le_refl n
  | cons p ps ih => exact Nat.le_trans (Nat.le_max_left _ _) (ih _)

theorem phys_lt_pageAfter {n : Nat} {ps : List NandPage} {p : NandPage} (h : p ∈ ps) : p.phys < pageAfter n ps := by
  induction ps generalizing n with
  | nil => cases h
  | cons q ps ih =>
    rcases List.mem_cons.1 h with rfl | h
    · exact Nat.lt_of_lt_of_le (by omega) (le_pageAfter (max n (p.phys + 1)) ps)
    · exact ih h

section
variable {d : Nand} {erase : Nat}

theorem Nand.mem_log {p : NandPage} (h : p ∈ d.log erase) : p ∈ d.pages ∧ leAt p.bytes 16 4 = erase ∧ 256 ≤ p.phys := by
  obtain ⟨mem, keep⟩ := List.mem_filter.1 h
  simp only [NandPage.valid, Bool.and_eq_true, beq_iff_eq, decide_eq_true_eq] at keep
  exact ⟨mem, keep.1.2, keep.2⟩

/-- Where no page from `top` on has been programmed, the log ends there. -/
theorem Nand.logEnd_eq {top : Nat} (last : d.log erase = [] ∧ top = 256 ∨ ∃ p ∈ d.log erase, p.phys + 1 = top)
    (free : ∀ p ∈ d.pages, leAt p.bytes 16 4 = erase → p.phys < top) : d.logEnd erase = top := by
  rcases last with ⟨empty, rfl⟩ | ⟨p, mem, rfl⟩
  · rw [Nand.logEnd, empty]
    rfl
  · refine Nat.le_antisymm (pageAfter_le ?_ fun q hq => ?_) (phys_lt_pageAfter mem)
    · have := (Nand.mem_log mem).2.2
      omega
    · obtain ⟨page, inLog, _⟩ := Nand.mem_log hq
      exact free q page inLog

theorem Nand.beyond_nil (free : ∀ p ∈ d.pages, leAt p.bytes 16 4 = erase → p.phys < d.logEnd erase) : d.beyond erase = [] := by
  refine List.filter_eq_nil_iff.2 fun p mem keep => ?_
  simp only [Bool.and_eq_true, beq_iff_eq, decide_eq_true_eq] at keep
  have := free p mem keep.1.1
  omega

theorem Nand.usable_congr {d e : Nand} (h : d.retired = e.retired) (n b : Nat) : d.usable n b = e.usable n b := by
  induction n generalizing b with
  | zero => rfl
  | succ n ih => simp only [Nand.usable, h, ih]

/-- Where writing resumes depends on the retired blocks alone. -/
theorem Nand.resume_congr {d e : Nand} (h : d.retired = e.retired) (used : Nat) : d.resume used = e.resume used := by
  simp only [Nand.resume, Nand.nextBlock, Nand.usable_congr h, h]

theorem Nand.asRead_retired (d : Nand) (bad : List (Nat × List Byte)) : (d.asRead bad).retired = d.retired := rfl

/-- Where no page from `top` on has been programmed, writing resumes there or in the next block that is not retired. -/
theorem Nand.resumes_at {bad : List (Nat × List Byte)} {top : Nat}
    (last : (d.asRead bad).log erase = [] ∧ top = 256 ∨ ∃ p ∈ (d.asRead bad).log erase, p.phys + 1 = top)
    (free : ∀ p ∈ (d.asRead bad).pages, leAt p.bytes 16 4 = erase → p.phys < top) :
    (d.asRead bad).resume (pageAfter ((d.asRead bad).logEnd erase) ((d.asRead bad).beyond erase)) = d.resume top := by
  have logEnd := Nand.logEnd_eq last free
  rw [Nand.beyond_nil (by rwa [logEnd]), logEnd]
  exact Nand.resume_congr (d.asRead_retired bad) top

end

/-! ## What the mount finds, and what keeps it -/

/-- The recorder has mounted the flash `d`: what it has found there, with no block put into service again. -/
structure Rec.Mounted (d : Nand) (committed : Nat) (pageSeq : Option Nat) (next : Nat) (rc : Rec) : Prop where
  /-- The mount is over. -/
  finished : rc.st ≠ .mounting
  /-- The pages are as they were. -/
  pages : rc.nand.pages = d.pages
  /-- Retired blocks stay so. -/
  retired : ∀ b ∈ d.retired, b ∈ rc.nand.retired
  /-- Committed pages of the log. -/
  committed : rc.committed = committed
  /-- PAGE_SEQ. -/
  pageSeq : rc.pageSeq = pageSeq
  /-- Where writing resumes. -/
  next : rc.nextPhys = next

section
variable {d : Nand} {n : Nat} {q : Option Nat} {next : Nat} {r : RecRun}

/-- What is stored decides it, once the mount is over. -/
theorem Rec.Mounted.of_stored {a b : Rec} (h : a.Mounted d n q next) (finished : b.st ≠ .mounting) (e : stored b = stored a) :
    b.Mounted d n q next := by
  have field {α : Type} (f : Rec → α) : f (stored b) = f (stored a) := congrArg f e
  exact ⟨finished, (field (·.nand.pages)).trans h.pages, fun x hx => (field (x ∈ ·.nand.retired)).mpr (h.retired x hx),
    (field Rec.committed).trans h.committed, (field Rec.pageSeq).trans h.pageSeq, (field Rec.nextPhys).trans h.next⟩

theorem RecRun.add_mounted (i : RecIn) (b : RecBody) (h : r.rc.Mounted d n q next) : (r.add i b).rc.Mounted d n q next := by
  refine h.of_stored ?_ (RecRun.add_stored r i b)
  rcases RecRun.add_st r i b with e | e <;> rw [e]
  · exact h.finished
  · decide

theorem RecRun.addAll_mounted (i : RecIn) (bs : List RecBody) (h : r.rc.Mounted d n q next) : (r.addAll i bs).rc.Mounted d n q next := by
  induction bs generalizing r with
  | nil => exact h
  | cons b bs ih => exact ih (RecRun.add_mounted i b h)

theorem RecRun.event_mounted (k : Nat) (c : Code) (x : Nat) (h : r.rc.Mounted d n q next) : (r.event k c x).rc.Mounted d n q next :=
  h.of_stored h.finished rfl

theorem RecRun.room_mounted (i : RecIn) (h : r.rc.Mounted d n q next) : (r.room i).rc.Mounted d n q next := by
  unfold RecRun.room
  split
  · exact h
  · exact RecRun.event_mounted _ _ _ (RecRun.add_mounted i _ (h.of_stored h.finished rfl))

theorem RecRun.fillMarks_mounted (h : r.rc.Mounted d n q next) : r.fillMarks.rc.Mounted d n q next := by
  unfold RecRun.fillMarks
  induction fillLevels generalizing r with
  | nil => exact h
  | cons x xs ih =>
    refine ih ?_
    dsimp only
    split
    · exact ⟨h.finished, h.pages, h.retired, h.committed, h.pageSeq, h.next⟩
    · exact h

theorem RecRun.retire_mounted (i : RecIn) (block reason : Nat) (h : r.rc.Mounted d n q next) :
    (r.retire i block reason).rc.Mounted d n q next := by
  unfold RecRun.retire
  split
  · exact h
  · refine RecRun.fillMarks_mounted (RecRun.add_mounted i _ (RecRun.event_mounted _ _ _ ⟨h.finished, h.pages, fun b hb => ?_, h.committed,
      h.pageSeq, h.next⟩))
    exact (((List.sublist_cons_self _ _).filter _).map _).subset (h.retired b hb)

theorem RecRun.retires_mounted (i : RecIn) (reason : Nat) (bs : List Nat) (h : r.rc.Mounted d n q next) :
    (bs.foldl (fun r b => r.retire i b reason) r).rc.Mounted d n q next := by
  induction bs generalizing r with
  | nil => exact h
  | cons b bs ih => exact ih (RecRun.retire_mounted i b reason h)

end

/-- A mount that reads the flash finds the committed pages, the last valid page and where writing resumes. -/
theorem RecRun.mount_mounted {r : RecRun} (h : r.rc.st = .mounting) (i : RecIn) (bad : List (Nat × List Byte)) (saved fwVersion : Nat)
    (cause : StartCause) :
    (r.mount i (some bad) saved fwVersion cause).rc.Mounted r.rc.nand ((r.rc.nand.asRead bad).log i.erase).length
      (((r.rc.nand.asRead bad).lastPage i.erase).map fun p => leAt p.bytes 8 4)
      ((r.rc.nand.asRead bad).resume (pageAfter ((r.rc.nand.asRead bad).logEnd i.erase) ((r.rc.nand.asRead bad).beyond i.erase))) := by
  unfold RecRun.mount
  rw [if_neg (by simp [h])]
  refine RecRun.retires_mounted i 4 _ (RecRun.addAll_mounted i _ (RecRun.room_mounted i (RecRun.add_mounted i _ ?_)))
  refine ⟨?_, rfl, fun _ hb => hb, rfl, rfl, ?_⟩
  · show (if _ then RecState.full else if _ then RecState.recording else RecState.erasing) ≠ .mounting
    split_ifs <;> decide
  · show (if _ then _ else _) = Nand.resume _ _
    simp only [Nand.resume, Bool.or_eq_true, decide_eq_true_eq]
    rfl

end Sys2Proof.Machine
end

section
/-! The end of BOOT and the choice of the image slot (R86, R88, R89, R91), and MOUNT_COMPLETE as a command. -/

namespace Sys2Proof.Machine
open Safety

/-! ## A slot that is accepted (R86, R103, R449) -/

section
variable (s : State) (slotB fallback : Bool) (o : SlotOutcome)

@[simp] theorem State.singleAddress_bypass : s.singleAddress.net.bypass = s.net.bypass := by
  unfold State.singleAddress State.takeStatic
  split
  · rfl
  · split <;> rfl

/-- The acceptance of a safety section leaves the configuration in use alone. -/
@[simp] theorem State.acceptSafety_cfg : (s.acceptSafety o).cfg.loaded = s.cfg.loaded ∧ (s.acceptSafety o).cfg.fallback = s.cfg.fallback ∧
    (s.acceptSafety o).cfg.eff = s.cfg.eff := by
  unfold State.acceptSafety
  split <;> simp

@[simp] theorem State.takeSlot_unit : (s.takeSlot slotB fallback o).unit = { s.unit with slotB := slotB } := by
  cases fallback <;> simp [State.takeSlot, apply_ite]

@[simp] theorem State.takeSlot_bypass : (s.takeSlot slotB fallback o).net.bypass = s.net.bypass := by
  simp [State.takeSlot, apply_ite]

theorem State.takeSlot_cfg : (s.takeSlot slotB fallback o).cfg.loaded = true ∧ (s.takeSlot slotB fallback o).cfg.fallback = fallback ∧
    (s.takeSlot slotB fallback o).cfg.eff = o.clamping.cfg := by
  cases fallback <;> simp [State.takeSlot, apply_ite]

end

/-! ## The slots in turn (R89, R91) -/

section
variable {s : State}

/-- The result of the slot tried first is noted. -/
def State.slotRefused (s : State) (slotB : Bool) : State := { s with cfg := s.cfg.setResult slotB (s.trySlot slotB).result }

theorem CfgSt.setResult_keeps (c : CfgSt) (slotB : Bool) (r : SlotResult) :
    (c.setResult slotB r).loaded = c.loaded ∧ (c.setResult slotB r).eff = c.eff := by cases slotB <;> exact ⟨rfl, rfl⟩

theorem State.chooseSlot_first (h : (s.trySlot s.fw.firstSlot).result = .accepted) :
    s.chooseSlot = s.takeSlot s.fw.firstSlot false (s.trySlot s.fw.firstSlot) := if_pos (beq_iff_eq.2 h)

theorem State.chooseSlot_second (h : (s.trySlot s.fw.firstSlot).result ≠ .accepted)
    (g : ((s.slotRefused s.fw.firstSlot).trySlot (!s.fw.firstSlot)).result = .accepted) :
    s.chooseSlot = (s.slotRefused s.fw.firstSlot).takeSlot (!s.fw.firstSlot) true ((s.slotRefused s.fw.firstSlot).trySlot (!s.fw.firstSlot)) :=
  (if_neg (mt beq_iff_eq.1 h)).trans (if_pos (beq_iff_eq.2 g))

theorem State.chooseSlot_none (h : (s.trySlot s.fw.firstSlot).result ≠ .accepted)
    (g : ((s.slotRefused s.fw.firstSlot).trySlot (!s.fw.firstSlot)).result ≠ .accepted) :
    s.chooseSlot = (s.slotRefused s.fw.firstSlot).slotRefused (!s.fw.firstSlot) :=
  (if_neg (mt beq_iff_eq.1 h)).trans (if_neg (mt beq_iff_eq.1 g))

theorem State.chooseSlot_keeps (s : State) : s.chooseSlot.unit.st = s.unit.st ∧ s.chooseSlot.unit.entryTick = s.unit.entryTick ∧
    s.chooseSlot.net.bypass = s.net.bypass := by
  by_cases h : (s.trySlot s.fw.firstSlot).result = .accepted
  · simp [State.chooseSlot_first h]
  · by_cases g : ((s.slotRefused s.fw.firstSlot).trySlot (!s.fw.firstSlot)).result = .accepted
    · simp [State.chooseSlot_second h g, State.slotRefused]
    · simp [State.chooseSlot_none h g, State.slotRefused]

/-- A slot is in use, with the outcome of its steps 3 to 7. -/
def SlotTaken (t : State) (slotB fallback : Bool) (o : SlotOutcome) : Prop :=
  t.cfg.loaded = true ∧ t.unit.slotB = slotB ∧ t.cfg.fallback = fallback ∧ t.cfg.eff = o.clamping.cfg

theorem State.takeSlot_taken (s : State) (slotB fallback : Bool) (o : SlotOutcome) : SlotTaken (s.takeSlot slotB fallback o) slotB fallback o := by
  obtain ⟨loaded, fell, eff⟩ := s.takeSlot_cfg slotB fallback o
  exact ⟨loaded, by simp, fell, eff⟩

/-- The slots are tried in order, and where neither is accepted the configuration in use stays. -/
theorem State.chooseSlot_outcome {b : Bool} (hb : s.fw.firstSlot = b) :
    if (s.trySlot b).result = .accepted then SlotTaken s.chooseSlot b false (s.trySlot b)
    else if ((s.slotRefused b).trySlot (!b)).result = .accepted then
      SlotTaken s.chooseSlot (!b) true ((s.slotRefused b).trySlot (!b))
    else s.chooseSlot.cfg.loaded = s.cfg.loaded ∧ s.chooseSlot.cfg.eff = s.cfg.eff := by
  subst hb
  split_ifs with first second
  · rw [State.chooseSlot_first first]
    exact State.takeSlot_taken _ _ _ _
  · rw [State.chooseSlot_second first second]
    exact State.takeSlot_taken _ _ _ _
  · rw [State.chooseSlot_none first second]
    simp [State.slotRefused, CfgSt.setResult_keeps]

/-- BOOT is over, and no slot has been tried. -/
def State.configBegun (s : State) : State := (s.enter .config s.tick).endBoot

theorem State.configBegun_unit (s : State) : s.configBegun.unit.st = .config ∧ s.configBegun.unit.entryTick = s.tick := by
  simp [State.configBegun, State.enter]

theorem State.configBegun_bypass (s : State) : s.configBegun.net.bypass = false := by
  simp [State.configBegun, State.endBoot]

theorem State.configBegun_frame (s : State) : s.configBegun.cfg = s.cfg ∧ s.configBegun.fw = s.fw := by
  simp [State.configBegun]

theorem exec_bootWaitExpiry (run : s.unit.running = true) (boot : s.unit.st = .boot) :
    exec .bootWaitExpiry s = .next s.configBegun.chooseSlot :=
  congrArg Host.Outcome.next (if_pos (by simp [run, State.boots_iff.2 boot]))

theorem State.bootWaitOver_only (s : State) : Only ([.unit, .cfg, .net, .se, .il, .mem] ++ codes) s s.bootWaitOver := by
  intro p hp
  cases p
  case unit | cfg | net | se | il | mem | recorder | kw | trace | setNow => exact absurd (by simp [codes]) hp
  all_goals simp [Piece.Same]

end

/-! ## MOUNT_COMPLETE (R418) -/

section
variable {s : State}

/-- The mount on the recorder of the module. -/
def State.mounted (s : State) (reads : Option (List (Nat × List Byte))) : State :=
  s.onRec fun r i => r.mount i reads s.se.opTime s.fw.version s.unit.cause

theorem exec_mountComplete (run : s.unit.running = true) (st : s.unit.st ≠ .boot) (reads : Option (List (Nat × List Byte))) :
    exec (.mountComplete reads) s = .next (s.mounted reads) :=
  congrArg Host.Outcome.next (if_pos (by simp [run, State.boots_false st]))

/-- What every record keeps, the codes that an operation raises keep after it. -/
theorem State.onRec_recorder {P : Rec → Prop} (records : ∀ r i b, P r.rc → P (RecRun.add r i b).rc) (s : State) {f : RecRun → RecIn → RecRun}
    (h : P (f ⟨s.recorder, []⟩ s.recIn).rc) : P (s.onRec f).recorder := by
  unfold State.onRec State.deliver
  exact State.raiseAll_recorder records _ _ _ h

theorem State.onRec_only (s : State) (f : RecRun → RecIn → RecRun) : Only codes s (s.onRec f) := by
  intro p hp
  cases p
  case recorder | kw | trace | setNow => exact absurd (by simp [codes]) hp
  all_goals simp [Piece.Same]

/-- The only code that an operation of the recorder raises is told. -/
theorem State.onRec_tells (s : State) {f : RecRun → RecIn → RecRun} {e : Raised} (h : (f ⟨s.recorder, []⟩ s.recIn).ev = [e])
    (c : e.code ≠ 0x4804) : Tells s (s.onRec f) e.code e.inst e.detail := by
  have delivered : s.onRec f = State.deliver { s with recorder := (f ⟨s.recorder, []⟩ s.recIn).rc } [e] := by
    rw [← h]
    rfl
  rw [delivered]
  exact (State.deliver_tells _ e c).of rfl rfl

theorem State.mounted_finds (h : s.recorder.st = .mounting) (bad : List (Nat × List Byte)) :
    let d := s.recorder.nand.asRead bad
    (s.mounted (some bad)).recorder.Mounted s.recorder.nand (d.log s.se.eraseCount).length
      ((d.lastPage s.se.eraseCount).map fun p => leAt p.bytes 8 4)
      (d.resume (pageAfter (d.logEnd s.se.eraseCount) (d.beyond s.se.eraseCount))) :=
  State.onRec_recorder (fun _ i b => RecRun.add_mounted i b) s (RecRun.mount_mounted (r := ⟨s.recorder, []⟩) h s.recIn bad _ _ _)

/-! ### An unreadable log -/

section
variable {r : RecRun} {i : RecIn} {saved fwVersion : Nat} {cause : StartCause}

theorem RecRun.mount_none_stored : stored (r.mount i none saved fwVersion cause).rc = stored r.rc := by
  unfold RecRun.mount
  split <;> rfl

theorem RecRun.mount_none (h : r.rc.st = .mounting) : (r.mount i none saved fwVersion cause).rc.st = .fault ∧
    (r.mount i none saved fwVersion cause).ev = ⟨0x460A, 255, 0⟩ :: r.ev := by
  unfold RecRun.mount
  rw [if_neg (by simp [h])]
  exact ⟨rfl, rfl⟩

theorem RecRun.add_fault (b : RecBody) (h : r.rc.st = .fault) : (r.add i b).rc.st = .fault := by
  unfold RecRun.add
  rw [h]
  exact h

end

theorem State.mounted_none_fault (h : s.recorder.st = .mounting) : (s.mounted none).recorder.st = .fault :=
  State.onRec_recorder (P := fun rc => rc.st = .fault) (fun _ _ b => RecRun.add_fault b) s (RecRun.mount_none (r := ⟨s.recorder, []⟩) h).1

theorem State.mounted_none_tells (h : s.recorder.st = .mounting) : Tells s (s.mounted none) 0x460A 0xFF 0 :=
  s.onRec_tells (e := ⟨0x460A, 0xFF, 0⟩) (RecRun.mount_none (r := ⟨s.recorder, []⟩) h).2 (by decide)

theorem State.mounted_none_changes (s : State) : Changes [] s (s.mounted none) :=
  ⟨s.onRec_only _, s.onRec_quiet _ fun _ => RecRun.mount_none_stored⟩

end

end Sys2Proof.Machine

open Sys2Proof Sys2Proof.Machine Sys2Proof.Safety

/-- Settles O8: the slots are tried in order on the state that enters CONFIG, and the mount's findings outlast the records that follow it. -/
theorem configTriesBothSlots : Obligations.ConfigTriesBothSlots := by
  unfold Obligations.ConfigTriesBothSlots
  refine ⟨?boot, ?mount, ?unreadable⟩
  case boot =>
    intro s run boot
    obtain ⟨st, entry, bypass⟩ := s.configBegun.chooseSlot_keeps
    obtain ⟨cfg, fw⟩ := s.configBegun_frame
    have executes := exec_bootWaitExpiry run boot
    have same : s.bootWaitOver = s.configBegun.chooseSlot := Host.Outcome.next.inj executes
    refine ⟨_, executes, st.trans s.configBegun_unit.1, entry.trans s.configBegun_unit.2, bypass.trans s.configBegun_bypass, ?_,
      same ▸ s.bootWaitOver_only⟩
    have outcome := s.configBegun.chooseSlot_outcome (congrArg Firmware.firstSlot fw)
    rw [cfg] at outcome
    exact outcome
  case mount =>
    intro s bad run st mounting
    have m := State.mounted_finds mounting bad
    refine ⟨_, exec_mountComplete run st _, m.finished, m.pages, m.retired, m.committed, m.pageSeq, fun top last free => ?_, s.onRec_only _⟩
    exact m.next.trans (Nand.resumes_at last free)
  case unreadable =>
    intro s run st mounting
    exact ⟨_, exec_mountComplete run st _, State.mounted_none_fault mounting, State.mounted_none_tells mounting, s.mounted_none_changes⟩
end

section
/-! One operation on a port: what it makes of the port, and what it leaves alone (R129, R141 to R150). -/

namespace Sys2Proof.Machine
open Safety

/-! ## A port put in place -/

section
variable (s : State) (k : PortId) (f : Port → Port)

@[simp] theorem State.portOf_here : (s.portOf k f).ports[k] = f s.ports[k] := vmod_get _ _ _

theorem State.portOf_elsewhere : Elsewhere k s.ports (s.portOf k f).ports := fun _ hj => vmod_get_ne _ _ _ _ hj

theorem State.portOf_only : Only [.ports] s (s.portOf k f) := by
  intro p hp
  cases p
  case ports => exact absurd List.mem_cons_self hp
  all_goals rfl

theorem State.portOf_changes : Changes [.ports] s (s.portOf k f) := (s.portOf_only k f).changes (by decide)

end

/-- What a delivery of codes changes. -/
theorem State.deliver_changes (s : State) (ev : List Raised) : Changes [] s (s.deliver ev) := ⟨deliver_only s ev, s.deliver_quiet ev⟩

/-! ## The operation on the module -/

section
variable {s : State} {k : PortId} {f : LinkRun → LinkIn → LinkRun} {r : LinkRun}

theorem Port.unhomes_of_not_lost {was p : Port} (h : was.st ≠ .lost) : was.unhomes p = false := by
  simp [Port.unhomes, h]

theorem Port.unhomes_of_same_st {was p : Port} (h : p.st = was.st) : was.unhomes p = false := by
  by_cases lost : was.st = .lost <;> simp [Port.unhomes, h, lost]

theorem State.newlyLost_false (keeps : r.p.st = .lost → (s.ports[k]).st = .lost) :
    (r.p.st == PortState.lost && (s.ports[k]).st != PortState.lost) = false := by
  refine Bool.eq_false_iff.2 fun newly => ?_
  obtain ⟨lost, was⟩ := Bool.and_eq_true_iff.1 newly
  exact bne_iff_ne.1 was (keeps (beq_iff_eq.1 lost))

/-- An operation that neither declares a port lost nor brings one back with its positions lost changes that port alone, and raises
its codes. -/
theorem State.onPort_eq (run : f ⟨s.ports[k], []⟩ (s.linkIn k) = r) (keeps : r.p.st = .lost → (s.ports[k]).st = .lost)
    (home : (s.ports[k]).unhomes r.p = false) : s.onPort k f = (s.portOf k fun _ => r.p).deliver r.ev := by
  unfold State.onPort
  simp only [run, State.newlyLost_false keeps, home, Bool.false_eq_true, if_false]
  rfl

/-- Where no port is newly lost, no doorway is told. -/
theorem State.portEvent_eq (run : f ⟨s.ports[k], []⟩ (s.linkIn k) = r) (keeps : r.p.st = .lost → (s.ports[k]).st = .lost) :
    s.portEvent k f = s.onPort k f := by
  have here : (s.onPort k f).ports[k] = r.p := by rw [State.onPort_ports, run]; exact Vector.getElem_set_self _
  have stays := State.newlyLost_false keeps
  rw [Bool.and_comm] at stays
  exact if_neg (by rw [here, stays]; exact Bool.false_ne_true)

/-- An operation that raises no code and keeps PORT_STATE changes its port alone. -/
theorem State.portEvent_silent {p : Port} (run : f ⟨s.ports[k], []⟩ (s.linkIn k) = ⟨p, []⟩) (st : p.st = (s.ports[k]).st) :
    s.portEvent k f = s.portOf k fun _ => p := by
  have keeps : p.st = .lost → (s.ports[k]).st = .lost := fun lost => st.symm.trans lost
  rw [State.portEvent_eq run keeps, State.onPort_eq run keeps (Port.unhomes_of_same_st st)]
  exact State.deliver_nil _

theorem State.onLink_silent {p : Port} (running : s.unit.running = true) (run : f ⟨s.ports[k], []⟩ (s.linkIn k) = ⟨p, []⟩)
    (st : p.st = (s.ports[k]).st) : s.onLink k f = s.portOf k fun _ => p :=
  (State.live_pos running rfl).trans (State.portEvent_silent run st)

theorem State.onPort_only (keeps : (f ⟨s.ports[k], []⟩ (s.linkIn k)).p.st = .lost → (s.ports[k]).st = .lost) :
    Only ([.ports, .axes] ++ codes) s (s.onPort k f) := by
  unfold State.onPort
  simp only [State.newlyLost_false keeps, Bool.false_eq_true, if_false]
  refine Only.trans (fun p hp => ?_) ((deliver_only _ _).mono fun _ hp => List.mem_append_right _ hp)
  cases p
  case ports | axes => exact absurd (by simp) hp
  all_goals rfl

end

/-- An operation has made `r` of port `k`: the other ports stay, axes may lose their homing, and the code raised first is told. -/
structure PortMade (s t : State) (k : PortId) (r : LinkRun) : Prop where
  /-- The port. -/
  here : t.ports[k] = r.p
  /-- The other ports. -/
  others : Elsewhere k s.ports t.ports
  /-- Axes of a restored port (R143). -/
  changes : Changes [.ports, .axes] s t
  /-- The code. -/
  tells : ∀ c, r.ev.getLast? = some ⟨c, k.val, 0⟩ → c ≠ 0x4804 → Tells s t c k.val 0

theorem State.onLink_made {s : State} {k : PortId} {f : LinkRun → LinkIn → LinkRun} {r : LinkRun} (running : s.unit.running = true)
    (run : f ⟨s.ports[k], []⟩ (s.linkIn k) = r) (keeps : r.p.st = .lost → (s.ports[k]).st = .lost) : PortMade s (s.onLink k f) k r := by
  have event : s.onLink k f = s.onPort k f := (State.live_pos running rfl).trans (State.portEvent_eq run keeps)
  subst run
  rw [event]
  refine ⟨?_, fun j hj => ?_, ⟨State.onPort_only keeps, s.onPort_quiet k f⟩, fun c last ne => ?_⟩
  · rw [State.onPort_ports]
    exact Vector.getElem_set_self _
  · rw [State.onPort_ports]
    exact set_get_ne _ _ _ _ hj
  · exact (State.deliver_tells_first _ _ ⟨c, k.val, 0⟩ last ne).of rfl rfl

/-! ## A byte parity error of a buffer (R443) -/

section
variable (s : State) (src : Nat)

theorem State.parityError_changes : Changes [.mem] s (s.parityError src) := by
  refine ⟨fun p hp => ?_, s.onMem_quiet _⟩
  cases p
  case mem | recorder | kw | trace | setNow => exact absurd (by simp [codes]) hp
  all_goals simp [Piece.Same]

theorem State.parityError_tells : Tells s (s.parityError src) 0x4706 0xFF (BitVec.ofNat 32 src) :=
  have other : (0x4706 : Code) ≠ 0x4804 := by decide
  (State.deliver_tells _ ⟨0x4706, 0xFF, BitVec.ofNat 32 src⟩ other).of rfl rfl

end

end Sys2Proof.Machine

namespace Sys2Proof.Safety
open Machine

/-! ## A port that carries a stage (R129, R147) -/

section
variable {s : State} {k : PortId}

theorem StagePort.stage (h : StagePort s k) : (s.linkIn k).stage = true := beq_iff_eq.2 h.2.2

theorem StagePort.sending (h : StagePort s k) : (s.linkIn k).sending = true := h.2.1

/-- A bulk operation on a port that carries a stage. -/
theorem StagePort.bulk_run (h : StagePort s k) (f : LinkRun → LinkIn → LinkRun) (r : LinkRun) :
    (if (s.linkIn k).stage && (s.linkIn k).sending then f r (s.linkIn k) else r) = f r (s.linkIn k) :=
  if_pos (by rw [h.stage, h.sending]; rfl)

theorem StagePort.bulkEvent_silent (h : StagePort s k) {f : LinkRun → LinkIn → LinkRun} {p : Port}
    (run : f ⟨s.ports[k], []⟩ (s.linkIn k) = ⟨p, []⟩) (st : p.st = (s.ports[k]).st) : s.bulkEvent k f = s.portOf k fun _ => p :=
  State.onLink_silent h.1 ((h.bulk_run f _).trans run) st

theorem StagePort.bulkEvent_made (h : StagePort s k) {f : LinkRun → LinkIn → LinkRun} {r : LinkRun}
    (run : f ⟨s.ports[k], []⟩ (s.linkIn k) = r) (keeps : r.p.st = .lost → (s.ports[k]).st = .lost) : PortMade s (s.bulkEvent k f) k r :=
  State.onLink_made h.1 ((h.bulk_run f _).trans run) keeps

end

end Sys2Proof.Safety
end

section
/-! Re-sent frames of the knuckle links and the way back of a lost port (R138, R141, R143). -/

namespace Sys2Proof.Machine
open Safety

/-! ## The rules (R138, R141) -/

section
variable {r : LinkRun} {i : LinkIn}

theorem LinkRun.request_asks (stage : i.stage = true) (sending : i.sending = true) (whole : r.p.whole = false) (rq : r.p.rq = false) :
    r.request i = r.upd fun p => { p with rq := true, upResend := satN (p.upResend + 1) 32 } :=
  if_pos (by simp [stage, sending, whole, rq])

theorem LinkRun.resendFrame_good {part : List Byte} {crc : Word} {lineOk : Bool} (stage : i.stage = true) (sending : i.sending = true)
    (rq : r.p.rq = true) (good : frameGood 32 part crc lineOk = true) :
    r.resendFrame i part crc lineOk false = r.upd fun p => p.samplePart i part true := by
  unfold LinkRun.resendFrame
  simp [stage, sending, rq, good]

/-- The sample part of a frame of the tick brings the samples (R141). -/
theorem Port.samplePart_now {p : Port} {bs : List Byte} (now : BitVec.ofNat 32 (leAt bs 4 4) = i.now) :
    p.samplePart i bs true = { p with
      status := BitVec.ofNat 8 (leAt bs 0 1), miss := leAt bs 1 1, epoch := BitVec.ofNat 16 (leAt bs 2 2),
      upTick := BitVec.ofNat 32 (leAt bs 4 4), age := 0, good := true, smp := #v[sampleOf (slice bs 8 12), sampleOf (slice bs 20 12)] } :=
  if_pos (by simpa using now)

theorem LinkRun.nak_counts (sent : r.p.sent.isSome = true) (nak : r.p.nak = false) :
    r.nak = r.upd fun p => { p with nak := true, downNak := satN (p.downNak + 1) 32 } :=
  if_pos (by simp [sent, nak])

theorem LinkRun.resend_lease {bs : List Byte} (sent : r.p.sent = some bs) (lease : (bs.getD 0 0).getLsbD 0 = true) (nak : r.p.nak = true)
    (once : r.p.resent = false) : r.resend true = r.upd fun p => { p with resent := true, sent := some (frameBytes (bs.take 48)) } := by
  unfold LinkRun.resend
  rw [sent]
  exact if_pos (by rw [nak, once, lease]; rfl)

/-- Nothing is sent from a kept copy with a parity error (R443). -/
theorem LinkRun.resend_lost (r : LinkRun) : r.resend false = r := by
  unfold LinkRun.resend
  split <;> simp

end

/-! ## A lost port with 20 good ticks (R143) -/

/-- POS_RETAINED as the good ticks that were seen give it, the tick in progress among them (log 47). -/
def Port.retainedOver (p : Port) (c : Cfg) (k : Nat) : Bool :=
  if p.good then (p.goodRun == 0 || p.retained) && p.retainedNow c k && decide (19 ≤ p.goodRun)
  else p.retained && decide (20 ≤ p.goodRun)

/-- What LINK_RESTORED makes of a lost port. -/
def LinkRun.recover (r : LinkRun) (i : LinkIn) : LinkRun :=
  ((r.goodTick i).upd fun p => { p with goodRun := 20, retained := p.retained && decide (20 ≤ p.goodRun) }).restore i

section
variable {r : LinkRun} {i : LinkIn}

theorem LinkRun.goodTick_lost (lost : r.p.st = .lost) (idle : r.p.restoring = false) :
    r.goodTick i = r.upd fun p => if p.good then { p with
      missRun := 0, retained := (p.goodRun == 0 || p.retained) && p.retainedNow i.cfg i.s, goodRun := min 20 (p.goodRun + 1) } else p := by
  unfold LinkRun.goodTick
  cases good : r.p.good <;> simp [LinkRun.upd, good, lost, idle, Port.retainedNow]

theorem LinkRun.restore_starts (lost : r.p.st = .lost) (run : 20 ≤ r.p.goodRun) (idle : r.p.restoring = false) :
    r.restore i = r.upd fun p => { (p.discover i.now) with restoring := true } :=
  if_pos (by simp [lost, run, idle])

/-- The identity of a lost port is read again. -/
theorem LinkRun.recover_eq (lost : r.p.st = .lost) (idle : r.p.restoring = false) :
    r.recover i = ⟨{ (r.p.discover i.now) with
      missRun := if r.p.good then 0 else r.p.missRun, retained := r.p.retainedOver i.cfg i.s, goodRun := 20, restoring := true }, r.ev⟩ := by
  unfold LinkRun.recover
  rw [LinkRun.goodTick_lost lost idle]
  cases good : r.p.good <;>
    rw [LinkRun.restore_starts (by simpa [LinkRun.upd, good] using lost) (Nat.le_refl _) (by simpa [LinkRun.upd, good] using idle)] <;>
    simp [LinkRun.upd, good, Port.discover, Port.retainedOver]

end

/-! ## The commands -/

section
variable {s : State} {k : PortId}

theorem exec_resendRequest (h : StagePort s k) (whole : (s.ports[k]).whole = false) (rq : (s.ports[k]).rq = false) :
    exec (.resendRequest k) s =
      .next (s.portOf k fun _ => { s.ports[k] with rq := true, upResend := satN ((s.ports[k]).upResend + 1) 32 }) :=
  congrArg Host.Outcome.next (State.onLink_silent h.1 (LinkRun.request_asks h.stage h.sending whole rq) rfl)

theorem exec_upstreamResendFrame {f : WireFrame} (h : StagePort s k) (rq : (s.ports[k]).rq = true) (parity : f.parity = false)
    (late : f.late = false) (good : frameGood 32 f.payload f.crc f.lineOk = true) (now : BitVec.ofNat 32 (leAt f.payload 4 4) = s.tick) :
    exec (.upstreamResendFrame k f) s = .next (s.portOf k fun _ => { s.ports[k] with
      status := BitVec.ofNat 8 (leAt f.payload 0 1), miss := leAt f.payload 1 1, epoch := BitVec.ofNat 16 (leAt f.payload 2 2),
      upTick := BitVec.ofNat 32 (leAt f.payload 4 4), age := 0, good := true,
      smp := #v[sampleOf (slice f.payload 8 12), sampleOf (slice f.payload 20 12)] }) := by
  have clean : s.frameParity f = s := if_neg (by rw [parity]; exact Bool.false_ne_true)
  refine congrArg Host.Outcome.next ((State.live_pos h.1 rfl).trans ?_)
  rw [clean, late, parity, Bool.not_false, Bool.and_true]
  refine State.portEvent_silent ?_ rfl
  rw [LinkRun.resendFrame_good h.stage h.sending rq good]
  exact congrArg (LinkRun.mk · []) (Port.samplePart_now now)

theorem exec_nakReceived (running : s.unit.running = true) (sent : (s.ports[k]).sent.isSome = true) (nak : (s.ports[k]).nak = false) :
    exec (.nakReceived k) s = .next (s.portOf k fun _ => { s.ports[k] with nak := true, downNak := satN ((s.ports[k]).downNak + 1) 32 }) :=
  congrArg Host.Outcome.next (State.onLink_silent running (LinkRun.nak_counts sent nak) rfl)

theorem exec_downstreamResend {bs : List Byte} (running : s.unit.running = true) (sent : (s.ports[k]).sent = some bs)
    (lease : (bs.getD 0 0).getLsbD 0 = true) (nak : (s.ports[k]).nak = true) (once : (s.ports[k]).resent = false) :
    exec (.downstreamResend k true) s =
      .next (s.portOf k fun _ => { s.ports[k] with resent := true, sent := some (frameBytes (bs.take 48)) }) :=
  congrArg Host.Outcome.next (State.onLink_silent running (LinkRun.resend_lease sent lease nak once) rfl)

theorem State.portOf_self (s : State) (k : PortId) : (s.portOf k fun _ => s.ports[k]) = s := by
  simp [State.portOf, vmod]

/-- A kept copy with a parity error is told, and no frame goes out. -/
theorem exec_downstreamResend_lost (running : s.unit.running = true) (loaded : s.cfg.loaded = true) :
    exec (.downstreamResend k false) s = .next (s.parityError 1) := by
  have told : s.live s.cfg.loaded (fun s => s.parityError 1) = s.parityError 1 := State.live_pos running loaded
  have silent : (s.parityError 1).onLink k (fun r _ => r.resend false) = s.parityError 1 :=
    (State.onLink_silent (by simpa using running) (LinkRun.resend_lost _) rfl).trans (State.portOf_self _ _)
  refine congrArg Host.Outcome.next (Eq.trans ?_ silent)
  rw [← told]
  rfl

theorem exec_linkRestored (running : s.unit.running = true) (sending : s.sending = true) (lost : (s.ports[k]).st = .lost)
    (idle : (s.ports[k]).restoring = false) :
    exec (.linkRestored k) s = .next (s.portOf k fun _ => { ((s.ports[k]).discover s.tick) with
      missRun := if (s.ports[k]).good then 0 else (s.ports[k]).missRun, retained := (s.ports[k]).retainedOver s.cfg.eff k.val, goodRun := 20,
      restoring := true }) := by
  have recovers := LinkRun.recover_eq (r := ⟨s.ports[k], []⟩) (i := s.linkIn k) lost idle
  refine congrArg Host.Outcome.next (State.onLink_silent running (Eq.trans (if_pos ?_) recovers) rfl)
  rw [show (s.linkIn k).sending = true from sending, lost, idle]
  rfl

end

end Sys2Proof.Machine

open Sys2Proof Sys2Proof.Machine Sys2Proof.Safety

/-- Settles O18: each row is one operation on the port, which raises no code and keeps PORT_STATE. -/
theorem upstreamRecovery : Obligations.UpstreamRecovery := by
  unfold Obligations.UpstreamRecovery
  refine ⟨?request, ?resent⟩
  case request =>
    intro s k h whole rq
    exact ⟨_, exec_resendRequest h whole rq, s.portOf_here k _, s.portOf_elsewhere k _, s.portOf_changes k _⟩
  case resent =>
    intro s k f h rq parity late good now
    refine ⟨_, exec_upstreamResendFrame h rq parity late good now, ?_, ?_, ?_, ?_, s.portOf_elsewhere k _, s.portOf_changes k _⟩ <;>
      rw [State.portOf_here]

/-- Settles O20: each row is one operation on the port; a kept copy with a parity error changes the memory alone. -/
theorem downstreamRecovery : Obligations.DownstreamRecovery := by
  unfold Obligations.DownstreamRecovery
  refine ⟨?nak, ?resend, ?lost, ?restored⟩
  case nak =>
    intro s k running sent nak
    exact ⟨_, exec_nakReceived running sent nak, s.portOf_here k _, s.portOf_elsewhere k _, s.portOf_changes k _⟩
  case resend =>
    intro s k bs running sent lease nak once
    exact ⟨_, exec_downstreamResend running sent lease nak once, s.portOf_here k _, s.portOf_elsewhere k _, s.portOf_changes k _⟩
  case lost =>
    intro s k running loaded
    exact ⟨_, exec_downstreamResend_lost running loaded, by simp, s.parityError_tells 1, s.parityError_changes 1⟩
  case restored =>
    intro s k running sending lost idle
    refine ⟨_, exec_linkRestored running sending lost idle, ?_⟩
    rw [State.portOf_here]
    exact ⟨lost, rfl, rfl, rfl, rfl, rfl, rfl, s.portOf_elsewhere k _, s.portOf_changes k _⟩
end

section
/-! The discovery of a stage: identity pages, parameters, fault reports (R145, R146, R148, R150). -/

namespace Sys2Proof.Machine
open Safety

/-! ## The ends of a discovery (R150) -/

section
variable (r : LinkRun) (i : LinkIn)

/-- The end of a restoring raises at most LINK_RESTORED (R143). -/
theorem LinkRun.restored_p : (r.restored i).p = { r.p with restoring := false } := by
  unfold LinkRun.restored
  split
  · rfl
  next idle => simp [← Bool.eq_false_iff.2 idle]

/-- LINK_RESTORED comes after the codes raised before it. -/
theorem LinkRun.restored_first {e : Raised} (h : r.ev.getLast? = some e) : (r.restored i).ev.getLast? = some e := by
  unfold LinkRun.restored
  split
  · show (_ :: r.ev).getLast? = some e
    rw [List.getLast?_cons, h]
    rfl
  · exact h

theorem LinkRun.mismatch_p (reason how preason index : Nat) : (r.mismatch i reason how preason index).p =
    { r.p with st := .mismatch, reason := reason, paramHow := how, paramReason := preason, paramIndex := index, disc := .idle,
               bulkQueue := [], paramTick := none, restoring := false } :=
  LinkRun.restored_p _ i

theorem LinkRun.mismatch_first (silent : r.ev = []) (reason how preason index : Nat) :
    (r.mismatch i reason how preason index).ev.getLast? = some ⟨0x0004, i.s, 0⟩ := by
  refine LinkRun.restored_first _ i ?_
  show (_ :: r.ev).getLast? = _
  rw [silent]
  rfl

theorem LinkRun.ready_p : (r.ready i).p =
    { r.p with st := .ready, reason := 0, paramHow := 0, paramReason := 0, paramIndex := 0, disc := .idle, paramTick := none,
               window := none, missRun := 0, readySerial := r.p.serial, restoring := false } :=
  LinkRun.restored_p _ i

end

/-! ## The rules (R146, R150) -/

section
variable {r : LinkRun} {i : LinkIn} {n page : Nat} {data : List Byte}

theorem LinkRun.param_last (none : (portParams i.cfg i.s)[n]? = none) : r.param i n = r.ready i := by
  unfold LinkRun.param
  rw [none]

theorem LinkRun.param_next {q : StageParam} (some : (portParams i.cfg i.s)[n]? = some q) : r.param i n =
    r.upd fun p => ({ p with disc := .params n, paramTick := none }).ask 3 (leBytes 2 q.index ++ leBytes 8 q.value.toNat) := by
  unfold LinkRun.param
  rw [some]

/-- Neither a parameter nor READY loses a port. -/
theorem LinkRun.param_keeps (r : LinkRun) (i : LinkIn) (n : Nat) : (r.param i n).p.st = .lost → r.p.st = .lost := by
  intro lost
  cases e : (portParams i.cfg i.s)[n]? with
  | none => rw [LinkRun.param_last e, LinkRun.ready_p] at lost; cases lost
  | some q => rw [LinkRun.param_next e] at lost; exact lost

/-- The port with a page of the identity stored (R146). -/
def Port.paged (p : Port) (page : Nat) (data : List Byte) : Port :=
  { p with ident := p.ident.take (9 * page) ++ (data ++ List.replicate 9 0).take 9 ++ p.ident.drop (9 * page + 9),
           pages := p.pages ||| BitVec.ofNat 4 (2 ^ page) }

theorem LinkRun.identPage_early (disc : r.p.disc = .pages) (legal : page < 4) (more : (r.p.paged page data).pages ≠ 15) :
    r.identPage i page data = r.upd fun p => p.paged page data :=
  (if_neg (by simp [disc, legal])).trans (if_pos more)

section
variable (disc : r.p.disc = .pages) (legal : page < 4) (last : (r.p.paged page data).pages = 15)
include disc legal last

/-- With the last page the checks of R150 decide. -/
theorem LinkRun.identPage_last : r.identPage i page data =
    if identReason i.cfg i.s (r.p.paged page data) ≠ 0
    then (r.upd fun p => p.paged page data).mismatch i (identReason i.cfg i.s (r.p.paged page data)) 0 0 0
    else (r.upd fun p => p.paged page data).param i 0 :=
  (if_neg (by simp [disc, legal])).trans (if_neg fun more => more last)

theorem LinkRun.identPage_fails (fails : identReason i.cfg i.s (r.p.paged page data) ≠ 0) : r.identPage i page data =
    (r.upd fun p => p.paged page data).mismatch i (identReason i.cfg i.s (r.p.paged page data)) 0 0 0 :=
  (LinkRun.identPage_last disc legal last).trans (if_pos fails)

theorem LinkRun.identPage_ready (passes : identReason i.cfg i.s (r.p.paged page data) = 0) (none : portParams i.cfg i.s = []) :
    r.identPage i page data = (r.upd fun p => p.paged page data).ready i :=
  ((LinkRun.identPage_last disc legal last).trans (if_neg fun fails => fails passes)).trans (LinkRun.param_last (by rw [none]; rfl))

theorem LinkRun.identPage_params {q : StageParam} {qs : List StageParam} (passes : identReason i.cfg i.s (r.p.paged page data) = 0)
    (some : portParams i.cfg i.s = q :: qs) : r.identPage i page data = (r.upd fun p => p.paged page data).upd fun p =>
      ({ p with disc := .params 0, paramTick := none }).ask 3 (leBytes 2 q.index ++ leBytes 8 q.value.toNat) :=
  ((LinkRun.identPage_last disc legal last).trans (if_neg fun fails => fails passes)).trans (LinkRun.param_next (by rw [some]; rfl))

end

section
variable {q : StageParam} (disc : r.p.disc = .params n) (asked : (portParams i.cfg i.s)[n]? = some q)
include disc asked

theorem LinkRun.paramValue_right : r.paramValue i q.index q.value = r.param i (n + 1) := by
  unfold LinkRun.paramValue
  simp [disc, asked]

theorem LinkRun.paramValue_wrong {value : BitVec 64} (wrong : value ≠ q.value) :
    r.paramValue i q.index value = r.mismatch i 5 2 0 q.index := by
  unfold LinkRun.paramValue
  simp [disc, asked, wrong.symm]

theorem LinkRun.paramRefused_fails (reason : Nat) : r.paramRefused i q.index reason = r.mismatch i 5 1 reason q.index := by
  unfold LinkRun.paramRefused
  simp [disc, asked]

theorem LinkRun.paramTimeout_fails : r.paramTimeout i = r.mismatch i 5 3 0xFF q.index := by
  unfold LinkRun.paramTimeout
  simp [disc, asked]

end

end

end Sys2Proof.Machine

namespace Sys2Proof.Safety
open Machine

/-! ## The commands -/

section
variable {s : State} {k : PortId}

/-- A parameter that fails, whatever shows it, takes the port to MISMATCH and is told. -/
theorem StagePort.bulkEvent_mismatch (h : StagePort s k) {f : LinkRun → LinkIn → LinkRun} {reason how preason index : Nat}
    (run : f ⟨s.ports[k], []⟩ (s.linkIn k) = (LinkRun.mk s.ports[k] []).mismatch (s.linkIn k) reason how preason index) :
    ((s.bulkEvent k f).ports[k]).st = .mismatch ∧ ((s.bulkEvent k f).ports[k]).reason = reason ∧
      ((s.bulkEvent k f).ports[k]).paramHow = how ∧ ((s.bulkEvent k f).ports[k]).paramReason = preason ∧
      ((s.bulkEvent k f).ports[k]).paramIndex = index ∧ Tells s (s.bulkEvent k f) 0x0004 k.val 0 ∧
      Elsewhere k s.ports (s.bulkEvent k f).ports ∧ Changes [.ports, .axes] s (s.bulkEvent k f) := by
  have made := h.bulkEvent_made run fun lost => by rw [LinkRun.mismatch_p] at lost; cases lost
  have first := LinkRun.mismatch_first (LinkRun.mk s.ports[k] []) (s.linkIn k) rfl reason how preason index
  rw [made.here, LinkRun.mismatch_p]
  exact ⟨rfl, rfl, rfl, rfl, rfl, made.tells 0x0004 first (by decide), made.others, made.changes⟩

end

end Sys2Proof.Safety

open Sys2Proof Sys2Proof.Machine Sys2Proof.Safety

/-- Settles O21: each row is one operation on the port, which ends in the next parameter, in READY or in MISMATCH. -/
theorem stageDiscovery : Obligations.StageDiscovery := by
  unfold Obligations.StageDiscovery
  refine ⟨?early, ?last, ?params, ?report⟩
  case early =>
    intro s k page data h disc legal more
    have row := h.bulkEvent_silent (f := fun r i => r.identPage i page data) (LinkRun.identPage_early disc legal more) rfl
    exact ⟨_, congrArg Host.Outcome.next row, s.portOf_here k _, s.portOf_elsewhere k _, s.portOf_changes k _⟩
  case last =>
    intro s k page data h disc legal last
    by_cases passes : identReason s.cfg.eff k.val ((s.ports[k]).paged page data) = 0
    · cases params : portParams s.cfg.eff k.val with
      | nil =>
        have run := LinkRun.identPage_ready (r := ⟨s.ports[k], []⟩) (i := s.linkIn k) disc legal last passes params
        have made := h.bulkEvent_made (f := fun r i => r.identPage i page data) run fun lost => by rw [LinkRun.ready_p] at lost; cases lost
        refine ⟨_, rfl, ?_⟩
        rw [made.here, LinkRun.ready_p]
        exact ⟨last, ⟨rfl, ((if_neg (not_not.2 passes)).trans (if_pos rfl)).symm, fun fails => absurd passes fails, fun _ _ => rfl,
          fun _ some => absurd rfl some⟩, made.others, made.changes⟩
      | cons q qs =>
        have some := List.cons_ne_nil q qs
        have run := LinkRun.identPage_params (r := ⟨s.ports[k], []⟩) (i := s.linkIn k) disc legal last passes params
        have made := h.bulkEvent_made (f := fun r i => r.identPage i page data) run id
        refine ⟨_, rfl, ?_⟩
        rw [made.here]
        exact ⟨last, ⟨rfl, ((if_neg (not_not.2 passes)).trans (if_neg some)).symm, fun fails => absurd passes fails,
          fun _ none => absurd none some, fun _ _ => ⟨rfl, rfl⟩⟩, made.others, made.changes⟩
    · have run := LinkRun.identPage_fails (r := ⟨s.ports[k], []⟩) (i := s.linkIn k) disc legal last passes
      have made := h.bulkEvent_made (f := fun r i => r.identPage i page data) run fun lost => by rw [LinkRun.mismatch_p] at lost; cases lost
      refine ⟨_, rfl, ?_⟩
      rw [made.here, LinkRun.mismatch_p]
      exact ⟨last, ⟨rfl, (if_pos passes).symm, fun _ => rfl, fun zero => absurd zero passes, fun zero => absurd zero passes⟩,
        made.others, made.changes⟩
  case params =>
    intro s k n q h disc asked
    refine ⟨?right, fun value wrong => ?wrong, fun reason => ?refused, ?timeout⟩
    case right =>
      have made := h.bulkEvent_made (f := fun r i => r.paramValue i q.index q.value) (LinkRun.paramValue_right disc asked)
        (LinkRun.param_keeps _ _ _)
      refine ⟨_, rfl, fun q' next => ?_, fun last => ?_, made.others, made.changes⟩
      · rw [made.here, LinkRun.param_next next]
        exact ⟨rfl, rfl⟩
      · rw [made.here, LinkRun.param_last last, LinkRun.ready_p]
        exact ⟨rfl, rfl⟩
    case wrong => exact ⟨_, rfl, h.bulkEvent_mismatch (LinkRun.paramValue_wrong disc asked wrong)⟩
    case refused => exact ⟨_, rfl, h.bulkEvent_mismatch (LinkRun.paramRefused_fails disc asked reason)⟩
    case timeout => exact ⟨_, rfl, h.bulkEvent_mismatch (LinkRun.paramTimeout_fails disc asked)⟩
  case report =>
    intro s k data h
    have row : s.bulkEvent k (fun r i => r.bulkOp i 0x84 (fillTo 10 data)) = _ :=
      h.bulkEvent_silent (p := { s.ports[k] with faultReport := some (fillTo 10 data) }) rfl rfl
    exact ⟨_, congrArg Host.Outcome.next row, s.portOf_here k _, s.portOf_elsewhere k _, s.portOf_changes k _⟩
end

section
/-! Ports without a stage: UNEXPECTED, ABSENT, and code-group sync (R130, R149, R150). -/

namespace Sys2Proof.Machine
open Safety

/-! ## All places of a vector -/

theorem mem_finsFrom {n : Nat} (j : Fin n) {m k : Nat} (low : k ≤ j.val) (high : j.val < k + m) : j ∈ finsFrom n m k := by
  induction m generalizing k with
  | zero => omega
  | succ m ih =>
    have inside : k < n := Nat.lt_of_le_of_lt low j.isLt
    rw [finsFrom, dif_pos inside]
    rcases Nat.eq_or_lt_of_le low with e | later
    · exact List.mem_cons.2 (.inl (Fin.ext e.symm))
    · exact List.mem_cons_of_mem _ (ih later (by omega))

theorem mem_fins {n : Nat} (j : Fin n) : j ∈ fins n := mem_finsFrom j (Nat.zero_le _) (by omega)

/-! ## A port in UNUSED mode reaches sync (R150) -/

theorem LinkRun.unexpected_reports {r : LinkRun} {i : LinkIn} (stage : i.stage = false) (sync : r.p.sync = true) (st : r.p.st = .unused) :
    r.unexpected i = (r.upd fun p => { p with st := .unexpected }).raise i 0x0005 :=
  (if_neg (by simp [stage])).trans (if_pos (by simp [sync, st]))

section
variable {s : State} {k : PortId}

theorem exec_stageUnexpected (running : s.unit.running = true) (loaded : s.cfg.loaded = true) (mode : s.cfg.eff.n F.portMode k.val ≠ 1)
    (st : (s.ports[k]).st = .unused) : exec (.stageUnexpected k) s =
      .next ((s.portOf k fun _ => { s.ports[k] with sync := true, st := .unexpected }).deliver [⟨0x0005, k.val, 0⟩]) := by
  have stage : (s.linkIn k).stage = false := beq_eq_false_iff_ne.2 mode
  refine congrArg Host.Outcome.next ((State.live_pos running loaded).trans (State.onPort_eq
    (r := ⟨{ s.ports[k] with sync := true, st := .unexpected }, [⟨0x0005, k.val, 0⟩]⟩) ?_ nofun (Port.unhomes_of_not_lost (by rw [st]; decide))))
  exact (if_neg (by rw [stage]; exact Bool.false_ne_true)).trans (LinkRun.unexpected_reports stage rfl st)

end

/-! ## DISCOVER_TIMEOUT (R149) -/

/-- A port that has not answered is ABSENT when DISCOVER ends. -/
def Port.absentAt (p : Port) (c : Cfg) (k : Nat) : Port :=
  if c.n F.portMode k = 1 ∧ p.st = .discovering ∧ p.pages ≠ 15 then { p with st := .absent } else p

theorem Port.absentAt_idem (p : Port) (c : Cfg) (k : Nat) : (p.absentAt c k).absentAt c k = p.absentAt c k := by
  by_cases unanswered : c.n F.portMode k = 1 ∧ p.st = .discovering ∧ p.pages ≠ 15
  · have absent : p.absentAt c k = { p with st := .absent } := if_pos unanswered
    rw [absent]
    exact if_neg (by simp)
  · have kept : p.absentAt c k = p := if_neg unanswered
    rw [kept, kept]

/-- Neither a port that has answered nor one that is ABSENT is newly lost, or comes back. -/
theorem Port.absentAt_keeps (p : Port) (c : Cfg) (k : Nat) :
    ((p.absentAt c k).st = .lost → p.st = .lost) ∧ p.unhomes (p.absentAt c k) = false := by
  unfold Port.absentAt
  split
  next unanswered => exact ⟨nofun, Port.unhomes_of_not_lost (by rw [unanswered.2.1]; decide)⟩
  next => exact ⟨id, Port.unhomes_of_same_st rfl⟩

theorem LinkRun.absent_p (r : LinkRun) (i : LinkIn) : (r.absent i).p = r.p.absentAt i.cfg i.s := by
  have same : (i.stage && r.p.st == PortState.discovering && r.p.pages != 15) =
      decide (i.cfg.n F.portMode i.s = 1 ∧ r.p.st = .discovering ∧ r.p.pages ≠ 15) := by
    simp [LinkIn.stage, Bool.and_assoc, beq_eq_decide, bne]
  unfold LinkRun.absent Port.absentAt
  rw [same]
  split <;> simp_all [LinkRun.raise, LinkRun.upd]

/-- ABSENT is raised for each of these ports. -/
theorem State.onPort_absent (s : State) (k : PortId) :
    ∃ ev, s.onPort k (fun r i => r.absent i) = (s.portOf k fun p => p.absentAt s.cfg.eff k.val).deliver ev := by
  have absent := LinkRun.absent_p ⟨s.ports[k], []⟩ (s.linkIn k)
  obtain ⟨keeps, home⟩ := (s.ports[k]).absentAt_keeps s.cfg.eff k.val
  have event := State.onPort_eq (f := fun r i => r.absent i) rfl (by rw [absent]; exact keeps) (by rw [absent]; exact home)
  rw [absent] at event
  exact ⟨_, event⟩

/-- The ports of a list, one after the other. -/
theorem State.absentAll (l : List PortId) (s : State) :
    let t := l.foldl (fun s k => s.onPort k fun r i => r.absent i) s
    t.cfg = s.cfg ∧ Changes [.ports] s t ∧
      ∀ j : PortId, t.ports[j] = if j ∈ l then (s.ports[j]).absentAt s.cfg.eff j.val else s.ports[j] := by
  induction l generalizing s with
  | nil => exact ⟨rfl, (Only.rfl' _ s).changes (by decide), fun j => (if_neg List.not_mem_nil).symm⟩
  | cons k l ih =>
    obtain ⟨ev, step⟩ := s.onPort_absent k
    obtain ⟨cfg, changes, ports⟩ := ih (s.onPort k fun r i => r.absent i)
    have first : (s.onPort k fun r i => r.absent i).cfg = s.cfg := by simp
    have one : Changes [.ports] s (s.onPort k fun r i => r.absent i) := by
      rw [step]
      exact (s.portOf_changes k _).trans ((State.deliver_changes _ ev).mono (List.nil_subset _))
    have delivered : (s.onPort k fun r i => r.absent i).ports = (s.portOf k fun p => p.absentAt s.cfg.eff k.val).ports := by
      rw [step]
      simp
    refine ⟨cfg.trans first, one.trans changes, fun j => ?_⟩
    rw [List.foldl_cons, ports j, first, delivered]
    by_cases here : j = k
    · subst here
      rw [State.portOf_here, Port.absentAt_idem]
      simp
    · rw [s.portOf_elsewhere k _ j here]
      simp [here]

section
variable {s : State}

/-- The ports of a module that ends DISCOVER. -/
def State.allAbsent (s : State) : State := (fins 32).foldl (fun s k => s.onPort k fun r i => r.absent i) s

theorem State.allAbsent_ports (s : State) (k : PortId) : s.allAbsent.ports[k] = (s.ports[k]).absentAt s.cfg.eff k.val :=
  ((State.absentAll (fins 32) s).2.2 k).trans (if_pos (mem_fins k))

theorem State.allAbsent_changes (s : State) : Changes [.ports] s s.allAbsent := (State.absentAll (fins 32) s).2.1

theorem State.enter_changes (s : State) (st : UnitState) (t : Tick) : Changes [.unit] s (s.enter st t) := by
  refine Only.changes (fun p hp => ?_) (by decide)
  cases p
  case unit => exact absurd List.mem_cons_self hp
  all_goals rfl

theorem exec_discoverTimeout (running : s.unit.running = true) (st : s.unit.st = .discover) :
    exec .discoverTimeout s = .next (s.allAbsent.enter .homing s.tick) := by
  exact congrArg Host.Outcome.next ((State.live_pos running rfl).trans (if_neg (by simp [st])))

/-! ## Code-group sync (R130) -/

theorem exec_codeGroupSyncGained (running : s.unit.running = true) (k : LinkId) :
    exec (.codeGroupSyncGained k) s = .next (s.linkSync k true) := congrArg Host.Outcome.next (State.live_pos running rfl)

theorem exec_codeGroupSyncLost (running : s.unit.running = true) (k : LinkId) :
    exec (.codeGroupSyncLost k) s = .next (s.linkSync k false) := congrArg Host.Outcome.next (State.live_pos running rfl)

end

end Sys2Proof.Machine

open Sys2Proof Sys2Proof.Machine Sys2Proof.Safety

/-- Settles O22: each row is one operation on a port, DISCOVER_TIMEOUT one on every port in turn. -/
theorem portsWithoutStage : Obligations.PortsWithoutStage := by
  unfold Obligations.PortsWithoutStage
  refine ⟨?unexpected, ?timeout, ?gained, ?lost, ?pin⟩
  case unexpected =>
    intro s k running loaded mode st
    have ports : ∀ (u : State) (ev : List Raised), (u.deliver ev).ports = u.ports := by simp
    refine ⟨_, exec_stageUnexpected running loaded mode st, ?_, ?_, ?_, ?_, ?_⟩
    · rw [ports, State.portOf_here]
    · rw [ports, State.portOf_here]
    · exact (State.deliver_tells _ ⟨0x0005, k.val, 0⟩ (by simp)).of rfl rfl
    · rw [ports]
      exact s.portOf_elsewhere k _
    · exact (s.portOf_changes k _).trans ((State.deliver_changes _ _).mono (List.nil_subset _))
  case timeout =>
    intro s running st
    have unit : s.allAbsent.unit = s.unit := s.allAbsent_changes.only .unit (by decide)
    refine ⟨_, exec_discoverTimeout running st, ?_, s.allAbsent_ports, ?_⟩
    · simp only [State.enter, unit]
      rfl
    · exact (s.allAbsent_changes.mono (by simp)).trans ((State.enter_changes _ _ _).mono (by simp))
  case gained =>
    intro s k running
    exact ⟨_, exec_codeGroupSyncGained running (.port k), s.portOf_here k _, s.portOf_elsewhere k _, s.portOf_only k _⟩
  case lost =>
    intro s k running
    have here := s.portOf_here k fun p => { p with sync := false }
    exact ⟨_, exec_codeGroupSyncLost running (.port k), here, (congrArg Port.link here).trans rfl, s.portOf_elsewhere k _, s.portOf_only k _⟩
  case pin => exact fun s running => ⟨exec_codeGroupSyncGained running .pin, exec_codeGroupSyncLost running .pin⟩
end

section
/-! Command registers that a host writes: what the write changes, and what its action does to its one object (R157, R256, R335, R413,
R444, R464). -/

namespace Sys2Proof.Safety
open Machine

/-! ## One command register (R455, R482) -/

theorem isScratch_below {addr : Nat} (h : addr < 0x1000000) : isScratch addr = false :=
  Bool.eq_false_iff.2 fun e => absurd (isScratch_iff.1 e).1 (Nat.not_le.2 h)

section
variable {s t : State} {r : Req} {x : Session} {addr : Nat} {w used : Word} {ps : List Piece}

/-- What the register's action changes of the state in which the write is heard, the write changes, beside the sessions and the mirror. -/
theorem Written.commanded (h : Written s (s.hostWrite r addr w) r addr w used) (only : Only ([.kw, .hinge] ++ ps) (s.heard r x) t)
    (rest : ∀ p : Piece, p ≠ .kw → p ≠ .hinge → p.Same t (s.hostWrite r addr w)) : Commanded ps s (s.hostWrite r addr w) r addr w used := by
  have heard : Only ([.kw, .hinge] ++ ps) s (s.heard r x) := fun p hp => heard_same s r x p fun e => hp (by simp [e])
  have write : Only ([.kw, .hinge] ++ ps) t (s.hostWrite r addr w) := fun p hp =>
    rest p (fun e => hp (by simp [e])) fun e => hp (by simp [e])
  exact ⟨h, (heard.trans only).trans write⟩

/-- A write of a command register of the unit by the holder of its claim touches, beside what every write touches, what its action does. -/
theorem Writer.unitCommand {m : Word} {v : Bool} {f : Sender → Word → State → WriteResult} (h : Writer s r x) (claim : Holds s r x .unit)
    (block : (wordAddr addr).map Region.block = some Block.unit) (low : addr < 0x1000000) (mask : m ≠ 0)
    (row : ∀ u me, State.row u me addr = some (woRow v m f)) (rule : f (some r.sess) w (s.heard r x) = .ok t)
    (only : Only ps (s.heard r x) t) (apart : Piece.kw ∉ ps ∧ Piece.hinge ∉ ps ∧ Piece.tick ∉ ps) :
    Commanded ps s (s.hostWrite r addr w) r addr w (w &&& m) ∧ ∀ p ∈ ps, p.Same t (s.hostWrite r addr w) := by
  obtain ⟨kw, hinge, tick⟩ := apart
  have sessions : t.kw = (s.heard r x).kw := only .kw kw
  obtain ⟨written, rest⟩ := h.command block (isScratch_below low) mask (.inr claim) row rule (by rw [sessions]) (fun _ => by rw [sessions])
    (only .hinge hinge) (only .tick tick)
  exact ⟨written.commanded (only.mono fun _ => List.mem_append_right _) rest,
    fun p hp => rest p (fun e => kw (e ▸ hp)) fun e => hinge (e ▸ hp)⟩

end

end Sys2Proof.Safety

namespace Sys2Proof.Machine
open Safety

/-! ## REDISCOVER (R157) -/

theorem Port.rediscover_other {p : Port} (now : Tick) (mismatch : p.st ≠ .mismatch) (absent : p.st ≠ .absent) : p.rediscover now = p :=
  if_neg (by simp [mismatch, absent])

theorem Port.rediscover_starts {p : Port} (now : Tick) (h : p.st = .mismatch ∨ p.st = .absent) : p.rediscover now =
    { (p.discover now) with st := .discovering, reason := 0, paramHow := 0, paramReason := 0, paramIndex := 0 } :=
  if_pos h

/-! ## LEARN_RESET (R256) -/

section
variable {s : State} (d : DoorId) (f : Closure → Closure)

theorem State.closureOf_here : (s.closureOf d f).doors[d] = { s.doors[d] with clo := f (s.doors[d]).clo } := vmod_get _ _ _

theorem State.closureOf_elsewhere : Elsewhere d s.doors (s.closureOf d f).doors := fun _ hj => vmod_get_ne _ _ _ _ hj

theorem State.closureOf_only : Only [.doors] s (s.closureOf d f) := by
  intro p hp
  cases p
  case doors => exact absurd List.mem_cons_self hp
  all_goals rfl

/-- A MAINTAINER in MAINTENANCE makes a reset of the learnt values due, with its certificate. -/
theorem State.learnResetWrite_due {i : SessId} {x : Session} (session : s.kw.sess[i] = some x) (role : x.role = .maintainer)
    (st : s.unit.st = .maintenance) :
    s.learnResetWrite d (some i) 1 = .ok (s.closureOf d fun c => { c with reset := some (s.tick, x.cert) }) := by
  have maintainer : s.isA (some i) .maintainer = true := by simp only [State.isA, session, Option.map_some, role, beq_self_eq_true]
  have cert : ((some i).bind fun i => s.kw.sess[i]) = some x := session
  unfold State.learnResetWrite
  rw [maintainer, st, cert]
  rfl

end

/-! ## CLEAR_LOCKOUT (R335) -/

section
variable (s : State) (l : LoadId) (f : LoadSwitch → LoadSwitch)

theorem State.loadOf_here : (s.loadOf l f).io.ls[l] = f s.io.ls[l] := vmod_get _ _ _

theorem State.loadOf_elsewhere : Elsewhere l s.io.ls (s.loadOf l f).io.ls := fun _ hj => vmod_get_ne _ _ _ _ hj

theorem State.loadOf_only : Only [.io] s (s.loadOf l f) := by
  intro p hp
  cases p
  case io => exact absurd List.mem_cons_self hp
  all_goals rfl

theorem LoadSwitch.clearLockout_st (x : LoadSwitch) :
    x.clearLockout.st = if x.st = .lockout then (if x.latch then .thermal else .off) else x.st := by
  simp [LoadSwitch.clearLockout]

end

/-! ## SEAL (R413) -/

section
variable {rc : Rec} {flush : Bool}

theorem Rec.seal_empty (h : rc.opened.data = []) : rc.seal flush = rc := if_pos (by rw [h]; rfl)

theorem Rec.seal_page (h : rc.opened.data ≠ []) (room : rc.sealedPages.length < 3) : rc.seal flush =
    { rc with sealedPages := rc.sealedPages ++ [{ rc.opened with flush := flush, firstAfter := rc.firstAfter }]
              opened := .empty, since := none, firstAfter := false, sealDue := none } :=
  (if_neg (by simpa using h)).trans (if_neg (Nat.not_le.2 room))

end

/-! ## SCRATCH_CLEAR (R444) -/

/-- A page number below 64 with the bit that clears it: every bit is in the register's mask. -/
theorem scratchClear_word {page : Word} (h : page.toNat < 64) :
    (page ||| 0x100) &&& 0x13F = page ||| 0x100 ∧ bit (page ||| 0x100) 8 = true ∧ fld (page ||| 0x100) 5 0 = page.toNat := by
  have pages : ∀ n : Fin 64, (BitVec.ofNat 32 n ||| 0x100) &&& 0x13F = BitVec.ofNat 32 n ||| 0x100 ∧
      bit (BitVec.ofNat 32 n ||| 0x100) 8 = true ∧ fld (BitVec.ofNat 32 n ||| 0x100) 5 0 = n.val := by decide
  simpa using pages ⟨page.toNat, h⟩

/-! ## KW_EVENT_ACK (R464) -/

/-- An acknowledgement shortens the queue of the session that sends it, and changes nothing else of the sessions. -/
theorem State.ackEvents_core (s : State) (i j : SessId) (seq : Word) :
    ((s.ackEvents i seq).kw.sess[j]).map Session.core = (s.kw.sess[j]).map Session.core := by
  by_cases e : j = i
  · subst e
    rw [show (s.ackEvents j seq).kw.sess[j] = _ from vmod_get _ _ _, Option.map_map]
    rfl
  · rw [show (s.ackEvents i seq).kw.sess[j] = _ from vmod_get_ne _ _ _ _ e]

theorem State.ackEvents_only (s : State) (i : SessId) (seq : Word) : Only [.kw] s (s.ackEvents i seq) := by
  intro p hp
  cases p
  case kw => exact absurd List.mem_cons_self hp
  all_goals rfl

theorem State.mirror_kw (s : State) (m : MirrorRec) : (s.mirror m).kw = s.kw := by
  unfold State.mirror
  split <;> rfl

end Sys2Proof.Machine

namespace Sys2Proof.Safety
open Machine

section
variable {s : State} {r : Req} {x : Session}

theorem Writer.kwEventAck (h : Writer s r x) (seq : Word) :
    Commanded [] s (s.hostWrite r 0x90300 seq) r 0x90300 seq seq ∧
      ∃ y, (s.hostWrite r 0x90300 seq).kw.sess[r.sess] = some y ∧ y.queue = x.queue.filter fun e => decide (seq.toNat < e.seq) := by
  have low : isScratch 0x90300 = false := isScratch_below (by decide)
  have all : seq &&& 0xFFFFFFFF = seq := BitVec.and_allOnes
  obtain ⟨g, region, block⟩ := Option.map_eq_some_iff.1 block_eventAck
  have result := h.hostWrite (f := fun i w s => .ok (match i with | some i => s.ackEvents i w | none => s)) (w := seq) region low (by decide)
    (.inl rfl) (row_eventAck _ _) rfl
  obtain ⟨written, rest⟩ := h.command (f := fun i w s => .ok (match i with | some i => s.ackEvents i w | none => s)) (w := seq) block_eventAck low
    (by decide) (.inl rfl) row_eventAck rfl rfl (fun i => (s.heard r x).ackEvents_core r.sess i seq) rfl rfl
  rw [all] at written
  refine ⟨written.commanded (((s.heard r x).ackEvents_only r.sess seq).mono (by simp)) rest, ?_⟩
  rw [result]
  have queue : ((s.heard r x).ackEvents r.sess seq).kw.sess[r.sess] =
      some { x with lastMsg := s.up, queue := x.queue.filter fun e => decide (seq.toNat < e.seq) } := by
    rw [show ((s.heard r x).ackEvents r.sess seq).kw.sess[r.sess] = _ from vmod_get _ _ _, State.heard_session]
    rfl
  exact ⟨_, (congrArg (fun k : Keyway => k.sess[r.sess]) (State.mirror_kw _ _)).trans queue, rfl⟩

end

end Sys2Proof.Safety

open Sys2Proof Sys2Proof.Machine Sys2Proof.Safety

/-- Settles O24: each write comes to the action of its register, which changes one object. -/
theorem unitCommands : Obligations.UnitCommands := by
  unfold Obligations.UnitCommands
  refine ⟨fun s r x h claim => ⟨?rediscover, ?learnReset, ?clearLockout, ?sealing, ?scratchClear⟩, fun s r x seq h => ⟨_, rfl, h.kwEventAck seq⟩⟩
  case rediscover =>
    intro k
    obtain ⟨commanded, same⟩ := h.unitCommand (w := 1) (t := (s.heard r x).portOf k fun p => p.rediscover s.tick) claim (block_port k) (by omega) (by decide)
      (row_port · · k) rfl ((s.heard r x).portOf_only k fun p => p.rediscover s.tick) (by decide)
    have ports : (s.hostWrite r (0x300048 + 0x100 * k.val) 1).ports = _ := same .ports (by simp)
    have here : (s.hostWrite r (0x300048 + 0x100 * k.val) 1).ports[k] = (s.ports[k]).rediscover s.tick := by
      rw [ports]
      exact (s.heard r x).portOf_here k _
    refine ⟨_, rfl, commanded, ?_, fun mismatch absent => ?_, fun starts => ?_⟩
    · rw [ports]
      exact (s.heard r x).portOf_elsewhere k _
    · rw [here, Port.rediscover_other _ mismatch absent]
    · rw [here, Port.rediscover_starts _ starts]
      exact ⟨rfl, rfl, rfl⟩
  case learnReset =>
    intro d st role
    obtain ⟨commanded, same⟩ := h.unitCommand (w := 1) claim (block_learn d) (by omega) (by decide) (row_learn · · d)
      (State.learnResetWrite_due d (State.heard_session s r x) role st) ((s.heard r x).closureOf_only d _) (by decide)
    have doors : (s.hostWrite r (0x3C01C + 0x20 * d.val) 1).doors = _ := same .doors (by simp)
    refine ⟨_, rfl, commanded, ?_, ?_⟩
    · rw [doors]
      exact State.closureOf_here d _
    · rw [doors]
      exact State.closureOf_elsewhere d _
  case clearLockout =>
    intro l
    obtain ⟨commanded, same⟩ := h.unitCommand (w := 1) (t := (s.heard r x).loadOf l LoadSwitch.clearLockout) claim (block_load l) (by omega) (by decide)
      (row_load · · l) rfl ((s.heard r x).loadOf_only l LoadSwitch.clearLockout) (by decide)
    have io : (s.hostWrite r (0x6001C + 0x20 * l.val) 1).io = _ := same .io (by simp)
    refine ⟨_, rfl, commanded, ?_, ?_, ?_, ?_⟩
    · rw [io, State.loadOf_here]
      rfl
    · rw [io, State.loadOf_here]
      exact LoadSwitch.clearLockout_st _
    · rw [io]
      rfl
    · rw [io]
      exact (s.heard r x).loadOf_elsewhere l _
  case sealing =>
    have only : Only [.recorder] (s.heard r x) { s.heard r x with recorder := s.recorder.seal s.panel.holdup } := by
      intro p hp
      cases p
      case recorder => exact absurd List.mem_cons_self hp
      all_goals rfl
    obtain ⟨commanded, same⟩ := h.unitCommand (w := 1) claim block_seal (by decide) (by decide) row_seal rfl only (by decide)
    have recorder : (s.hostWrite r 0x70050 1).recorder = s.recorder.seal s.panel.holdup := same .recorder (by simp)
    refine ⟨_, rfl, commanded, fun empty => ?_, fun page room => ?_⟩
    · rw [recorder, Rec.seal_empty empty]
    · rw [recorder, Rec.seal_page page room]
  case scratchClear =>
    intro page legal
    obtain ⟨used, clears, number⟩ := scratchClear_word legal
    have only : Only [.mem] (s.heard r x) { s.heard r x with mem := s.mem.clearPage page.toNat } := by
      intro p hp
      cases p
      case mem => exact absurd List.mem_cons_self hp
      all_goals rfl
    have rule : (Except.ok (if bit (page ||| 0x100) 8 then
        { s.heard r x with mem := (s.heard r x).mem.clearPage (fld (page ||| 0x100) 5 0) } else s.heard r x) : WriteResult) =
        .ok { s.heard r x with mem := s.mem.clearPage page.toNat } := by
      rw [number]
      exact congrArg Except.ok (if_pos clears)
    obtain ⟨commanded, same⟩ := h.unitCommand (w := page ||| 0x100) claim block_scratchClear (by decide) (by decide) row_scratchClear rule
      only (by decide)
    rw [used] at commanded
    exact ⟨_, rfl, commanded, same .mem (by simp)⟩
end

section
/-! The pin link of a hinge pair: heartbeats, their NAK and re-send, the loss of the link and its return (R370 to R376, R443). -/

namespace Sys2Proof.Machine
open Safety

/-! ## One operation of the hinge -/

section
variable {s : State} {f : HingeRun → HingeIn → HingeRun} {h : Hinge}

theorem State.onHinge_only (s : State) (f : HingeRun → HingeIn → HingeRun) : Only ([.hinge] ++ codes) s (s.onHinge f) := by
  intro p hp
  cases p
  case hinge | recorder | kw | trace | setNow => exact absurd (by simp [codes]) hp
  all_goals simp [Piece.Same]

theorem State.onHinge_changes (s : State) (f : HingeRun → HingeIn → HingeRun) : Changes [.hinge] s (s.onHinge f) :=
  ⟨s.onHinge_only f, s.onHinge_quiet f⟩

theorem State.putHinge_only (s : State) (h : Hinge) : Only [.hinge] s { s with hinge := h } := by
  intro p hp
  cases p
  case hinge => exact absurd List.mem_cons_self hp
  all_goals rfl

/-- An operation that takes no new tick number. -/
theorem State.onHinge_becomes {ev : List Raised} (run : f ⟨s.hinge, [], none⟩ s.hingeIn = ⟨h, ev, none⟩) : (s.onHinge f).hinge = h := by
  rw [State.onHinge_hinge, run]
  rfl

/-- An operation that raises no code either changes the hinge alone. -/
theorem State.onHinge_silent (run : f ⟨s.hinge, [], none⟩ s.hingeIn = ⟨h, [], none⟩) : s.onHinge f = { s with hinge := h } := by
  unfold State.onHinge
  rw [run]
  exact State.deliver_nil _

/-- The only code that an operation raises is told. -/
theorem State.onHinge_tells {c : Code} (run : (f ⟨s.hinge, [], none⟩ s.hingeIn).ev = [⟨c, 0xFF, 0⟩]) (ne : c ≠ 0x4804) :
    Tells s (s.onHinge f) c 0xFF 0 :=
  (State.deliver_tells_first _ _ ⟨c, 0xFF, 0⟩ (by rw [run]; rfl) ne).of rfl rfl

end

/-! ## The rules (R370, R372, R376) -/

section
variable {r : HingeRun} {i : HingeIn}

theorem HingeRun.received_good {payload : List Byte} {crc : Word} {lineOk : Bool} {b : Heartbeat}
    (good : frameGood 96 payload crc lineOk = true) (beat : heartbeatOf payload = some b) :
    r.received payload crc lineOk = r.upd fun h => { h with next := some b, nakOut := false } := by
  unfold HingeRun.received
  rw [if_pos good, beat]

theorem HingeRun.received_bad {payload : List Byte} {crc : Word} {lineOk : Bool}
    (bad : frameGood 96 payload crc lineOk = false ∨ heartbeatOf payload = none) :
    r.received payload crc lineOk = r.upd fun h => { h with hbCrc := satN (h.hbCrc + 1) 32, nakOut := true } := by
  have none : (if frameGood 96 payload crc lineOk = true then heartbeatOf payload else none) = none := by
    rcases bad with bad | bad <;> simp [bad]
  unfold HingeRun.received
  rw [none]

theorem HingeRun.nak_marks (sent : r.h.sent.isSome = true) : r.nak = r.upd fun h => { h with nakIn := true } := if_pos sent

theorem HingeRun.resend_once (sent : r.h.sent.isSome = true) (nak : r.h.nakIn = true) (once : r.h.resent = false) :
    r.resend = r.upd fun h => { h with resent := true, hbResend := satN (h.hbResend + 1) 32 } :=
  if_pos (by simp [sent, nak, once])

/-- After 20 ticks of silence an ACTIVE is ALONE, and every other role stays (R370). -/
theorem HingeRun.aloneOrActive_silent (pair : i.pair = true) (silent : 20 ≤ r.h.silence) :
    r.aloneOrActive i = r.upd fun h => { h with role := if h.role = .active then .alone else h.role } := by
  have absent : r.h.present = none := if_neg (by simp; omega)
  unfold HingeRun.aloneOrActive
  rw [absent, if_neg (by simp [pair])]
  by_cases active : r.h.role = .active
  · rw [if_pos (by simp [active, silent])]
    simp [HingeRun.upd, active]
  · rw [if_neg (by simp [active]), if_neg (by simp)]
    simp [HingeRun.upd, active]

theorem HingeRun.linkDown_loses (pair : i.pair = true) (up : r.h.linkLost = false)
    (counts : (operating i.st || i.st == UnitState.faultHeld || i.st == UnitState.unconfigured) = true) : r.linkDown i =
      (((r.upd fun h => { h with silence := max 20 h.silence, goodRun := 0, linkLost := true }).event 0 0x4501).upd fun h =>
        { h with role := if h.role = .active then .alone else h.role }) :=
  (if_pos (by rw [counts, up, HingeIn.sends, pair]; rfl)).trans (HingeRun.aloneOrActive_silent pair (Nat.le_max_left _ _))

theorem HingeRun.linkBack_restores (lost : r.h.linkLost = true) :
    r.linkBack = (r.upd fun h => { h with linkLost := false }).event 1 0x4502 := if_pos lost

end

end Sys2Proof.Machine

namespace Sys2Proof.Safety
open Machine

/-! ## The commands (R372) -/

section
variable {s : State}

theorem PairRuns.running (h : PairRuns s) : s.unit.running = true := h.1

theorem PairRuns.pair (h : PairRuns s) : s.hingeIn.pair = true := beq_iff_eq.2 h.2.1

/-- A module of a pair is in a state in which it counts the silence of the pin link (R376). -/
theorem PairRuns.counts (h : PairRuns s) :
    (operating s.unit.st || s.unit.st == UnitState.faultHeld || s.unit.st == UnitState.unconfigured) = true := by
  obtain ⟨-, -, boot, config⟩ := h
  cases e : s.unit.st
  case boot => exact absurd e boot
  case config => exact absurd e config
  all_goals rfl

theorem PairRuns.onPair (h : PairRuns s) (f : HingeRun → HingeIn → HingeRun) : s.onPair f = s.onHinge f := by
  have sends : s.hingeIn.sends = true := by simp [HingeIn.sends, PairRuns.pair h]
  obtain ⟨running, -, boot, config⟩ := h
  exact State.live_pos running (by simp [sends, boot, config])

theorem PairRuns.parityError (h : PairRuns s) (src : Nat) : PairRuns (s.parityError src) := by
  simpa [PairRuns] using h

theorem PairRuns.exec_heartbeat_next (h : PairRuns s) {f : WireFrame} {b : Heartbeat} (parity : f.parity = false)
    (good : frameGood 96 f.payload f.crc f.lineOk = true) (beat : heartbeatOf f.payload = some b) :
    exec (.heartbeatReceived f) s = .next { s with hinge := { s.hinge with next := some b, nakOut := false } } := by
  refine congrArg Host.Outcome.next ((State.live_pos h.running rfl).trans ?_)
  unfold State.heartbeatIn
  rw [parity, Bool.not_false, Bool.and_true, if_neg Bool.false_ne_true, h.onPair]
  exact State.onHinge_silent (HingeRun.received_good good beat)

theorem PairRuns.exec_heartbeat_bad (h : PairRuns s) {f : WireFrame} (parity : f.parity = false)
    (bad : frameGood 96 f.payload f.crc f.lineOk = false ∨ heartbeatOf f.payload = none) : exec (.heartbeatReceived f) s =
      .next { s with hinge := { s.hinge with hbCrc := satN (s.hinge.hbCrc + 1) 32, nakOut := true } } := by
  refine congrArg Host.Outcome.next ((State.live_pos h.running rfl).trans ?_)
  unfold State.heartbeatIn
  rw [parity, Bool.not_false, Bool.and_true, if_neg Bool.false_ne_true, h.onPair]
  exact State.onHinge_silent (HingeRun.received_bad bad)

/-- A frame with a parity error fails its CRC (R443). -/
theorem frameGood_broken (n : Nat) (payload : List Byte) (crc : Word) : frameGood n payload crc false = false := rfl

theorem PairRuns.exec_heartbeat_parity (h : PairRuns s) {f : WireFrame} (parity : f.parity = true) : exec (.heartbeatReceived f) s =
    .next { s.parityError 2 with hinge := { s.hinge with hbCrc := satN (s.hinge.hbCrc + 1) 32, nakOut := true } } := by
  refine congrArg Host.Outcome.next ((State.live_pos h.running rfl).trans ?_)
  have hinge : (s.parityError 2).hinge = s.hinge := by simp
  unfold State.heartbeatIn
  rw [parity, Bool.not_true, Bool.and_false, if_pos rfl, (h.parityError 2).onPair, ← hinge]
  exact State.onHinge_silent (HingeRun.received_bad (.inl (frameGood_broken _ _ _)))

theorem PairRuns.exec_nak (h : PairRuns s) (sent : s.hinge.sent.isSome = true) :
    exec .heartbeatNak s = .next { s with hinge := { s.hinge with nakIn := true } } :=
  congrArg Host.Outcome.next ((h.onPair _).trans (State.onHinge_silent (HingeRun.nak_marks sent)))

theorem PairRuns.exec_resend (h : PairRuns s) (sent : s.hinge.sent.isSome = true) (nak : s.hinge.nakIn = true) (once : s.hinge.resent = false) :
    exec .heartbeatResend s = .next { s with hinge := { s.hinge with resent := true, hbResend := satN (s.hinge.hbResend + 1) 32 } } :=
  congrArg Host.Outcome.next ((h.onPair _).trans (State.onHinge_silent (HingeRun.resend_once sent nak once)))

end

end Sys2Proof.Safety
end

section
/-! Copy frames as a STANDBY takes them (R371, R375, R380, R443). -/

namespace Sys2Proof.Machine
open Safety

/-! ## A copy that has been compared (R380, R383) -/

section
variable (s : State) (unit inst : Nat) (differs : Bool)

theorem State.copied_eq : s.copied unit inst differs =
    { s with hinge := (HingeRun.copied ⟨s.hinge, [], none⟩ s.hingeIn unit inst differs).h } := State.onHinge_silent rfl

theorem Hinge.copyDiff_ite {c : Prop} [Decidable c] {a b : Hinge} {n : Nat} (ha : a.copyDiff = n) (hb : b.copyDiff = n) :
    (if c then a else b).copyDiff = n := by
  split
  · exact ha
  · exact hb

/-- A copy that differs counts once, wherever in the copy cycle it stands. -/
theorem HingeRun.copied_copyDiff (r : HingeRun) (i : HingeIn) :
    (r.copied i unit inst differs).h.copyDiff = if differs then satN (r.h.copyDiff + 1) 32 else r.h.copyDiff := by
  have counted : (if differs then { r.h with copyDiff := satN (r.h.copyDiff + 1) 32 } else r.h).copyDiff =
      if differs then satN (r.h.copyDiff + 1) 32 else r.h.copyDiff := apply_ite Hinge.copyDiff _ _ _
  have started (h : Hinge) : (if (copyUnits i.cfg).head? == some (unit, inst) then
      { h with cycleStart := some i.now, cycleAxes := 0, cycleDoors := 0, cycleDiff := 0 } else h).copyDiff = h.copyDiff :=
    Hinge.copyDiff_ite rfl rfl
  have begun := (started _).trans counted
  exact Hinge.copyDiff_ite begun begun

theorem State.copied_copyDiff :
    (s.copied unit inst differs).hinge.copyDiff = if differs then satN (s.hinge.copyDiff + 1) 32 else s.hinge.copyDiff := by
  rw [State.copied_eq]
  exact HingeRun.copied_copyDiff _ _ _ _ _

theorem State.copied_only : Only [.hinge] s (s.copied unit inst differs) := by
  rw [State.copied_eq]
  exact s.putHinge_only _

end

/-- The count of a copy that is compared with the module's own. -/
theorem State.copied_compares {α : Type} [DecidableEq α] (s : State) (unit inst : Nat) (new own : α) :
    (s.copied unit inst (new != own)).hinge.copyDiff = if new = own then s.hinge.copyDiff else satN (s.hinge.copyDiff + 1) 32 := by
  rw [State.copied_copyDiff]
  by_cases same : new = own <;> simp [same]

/-! ## Which frames are taken (R131, R371, R380) -/

section
variable {s : State} {p : List Byte} {e : FrameEnd} {c : CopyState}

theorem copyWhole_clean (parity : e.parity = false) : copyWhole p e = frameGood 120 p e.crc e.lineOk := by
  rw [copyWhole, parity, Bool.not_false, Bool.and_true]

theorem copyWhole_parity (parity : e.parity = true) : copyWhole p e = false := by
  rw [copyWhole, parity, Bool.not_true, Bool.and_false]
  exact frameGood_broken _ _ _

theorem State.takeCopy_shut (h : s.standby = false ∨ operating s.unit.st = false) : s.takeCopy p e c = s :=
  if_neg (by rcases h with h | h <;> simp [h])

section
variable (running : s.unit.running = true) (pair : s.hingeIn.pair = true) (standby : s.standby = true) (works : operating s.unit.st = true)
include running pair standby works

theorem State.takeCopy_open : s.takeCopy p e c =
    match receivedCopy p e c with
    | some c => if after c.tick 1 = s.tick then s.loadCopy c.state else s
    | none => if copyWhole p e then s else s.onHinge fun r _ => r.upd fun h => { h with hbCrc := satN (h.hbCrc + 1) 32 } :=
  if_pos (by rw [running, pair, standby, works]; rfl)

/-- A good copy frame of the tick before is loaded. -/
theorem State.takeCopy_loads (whole : copyWhole p e = true) (kind : leAt p 0 1 = 2) (place : (leAt p 1 1, leAt p 2 1) = c.place)
    (tick : after (BitVec.ofNat 32 (leAt p 4 4)) 1 = s.tick) : s.takeCopy p e c = s.loadCopy c := by
  have received : receivedCopy p e c = some ⟨BitVec.ofNat 32 (leAt p 4 4), c⟩ := if_pos ⟨whole, kind, place⟩
  rw [State.takeCopy_open running pair standby works, received]
  exact if_pos tick

/-- A good frame that is no copy of the unit, or one of another tick, is dropped. -/
theorem State.takeCopy_drops (whole : copyWhole p e = true)
    (other : leAt p 0 1 ≠ 2 ∨ (leAt p 1 1, leAt p 2 1) ≠ c.place ∨ after (BitVec.ofNat 32 (leAt p 4 4)) 1 ≠ s.tick) :
    s.takeCopy p e c = s := by
  rw [State.takeCopy_open running pair standby works]
  by_cases copy : leAt p 0 1 = 2 ∧ (leAt p 1 1, leAt p 2 1) = c.place
  · have received : receivedCopy p e c = some ⟨BitVec.ofNat 32 (leAt p 4 4), c⟩ := if_pos ⟨whole, copy⟩
    rw [received]
    exact if_neg fun tick => other.elim (· copy.1) fun other => other.elim (· copy.2) (· tick)
  · have received : receivedCopy p e c = none := if_neg fun h => copy h.2
    rw [received]
    exact if_pos whole

/-- A frame that fails its CRC is counted. -/
theorem State.takeCopy_counts (broken : copyWhole p e = false) :
    s.takeCopy p e c = { s with hinge := { s.hinge with hbCrc := satN (s.hinge.hbCrc + 1) 32 } } := by
  have received : receivedCopy p e c = none := if_neg fun h => by rw [broken] at h; exact Bool.false_ne_true h.1
  rw [State.takeCopy_open running pair standby works, received, broken]
  exact State.onHinge_silent (f := fun r _ => r.upd fun h => { h with hbCrc := satN (h.hbCrc + 1) 32 }) rfl

end

end

/-! ## What a copy changes (R375, R380, R405) -/

section
variable (s : State)

/-- The bank selections of a unit copy. -/
def State.takeBanks (s : State) (banks : BitVec 64) : State :=
  { s with axes := vmapIdx (fun (a : Nat) (y : Axis) => { y with loop := { y.loop with bank := banks.getLsbD a } }) s.axes }

theorem State.takeBanks_bank (banks : BitVec 64) (a : AxisId) : ((s.takeBanks banks).axes[a]).loop.bank = banks.getLsbD a.val :=
  congrArg (fun x : Axis => x.loop.bank) (vmapIdx_get _ _ a.val a.isLt)

theorem State.takeBanks_only (banks : BitVec 64) : Only [.axes] s (s.takeBanks banks) := by
  intro p hp
  cases p
  case axes => exact absurd List.mem_cons_self hp
  all_goals rfl

end

/-- A unit copy has been loaded: unit state and bank selections are the copy's. -/
structure UnitLoaded (s t : State) (x : CopyUnit) : Prop where
  /-- The unit state. -/
  st : t.unit.st = x.st
  /-- The bank selections. -/
  banks : ∀ a : AxisId, (t.axes[a]).loop.bank = x.banks.getLsbD a.val
  /-- Nothing else. -/
  only : Only [.unit, .axes] s t

section
variable {s : State} {x : CopyUnit}

theorem State.loadUnit_maintenance (run : s.unit.st = .run) (st : x.st = .maintenance) : UnitLoaded s (s.loadUnit x) x := by
  have loads : s.loadUnit x = (s.takeBanks x.banks).enterMaint none := if_pos (by rw [run, st]; rfl)
  have enters : (s.takeBanks x.banks).enterMaint none =
      { ((s.takeBanks x.banks).enter .maintenance s.tick) with unit := { ((s.takeBanks x.banks).enter .maintenance s.tick).unit with maintSess := none } } :=
    if_neg (by rw [show (s.takeBanks x.banks).unit.st = .run from run]; decide)
  rw [loads, enters]
  refine ⟨st.symm, fun a => s.takeBanks_bank x.banks a, fun p hp => ?_⟩
  cases p
  case unit | axes => exact absurd (by simp) hp
  all_goals rfl

/-- DISCOVER and HOMING are entered where the copy shows them and the module is not there. -/
theorem State.loadUnit_early (st : x.st = .discover ∨ x.st = .homing) : UnitLoaded s (s.loadUnit x) x := by
  have other : x.st ≠ .maintenance ∧ x.st ≠ .run ∧ operating x.st = true := by rcases st with e | e <;> rw [e] <;> decide
  obtain ⟨maintenance, run, works⟩ := other
  have loads : s.loadUnit x = if x.st == s.unit.st then s.takeBanks x.banks else (s.takeBanks x.banks).enter x.st s.tick := by
    unfold State.loadUnit State.takeBanks
    simp [maintenance, run, works]
  rw [loads]
  split
  next same => exact ⟨(beq_iff_eq.1 same).symm, s.takeBanks_bank x.banks, (s.takeBanks_only _).mono (by simp)⟩
  next =>
    refine ⟨rfl, fun a => s.takeBanks_bank x.banks a, fun p hp => ?_⟩
    cases p
    case unit | axes => exact absurd (by simp) hp
    all_goals rfl

/-- RUN is entered from HOMING. -/
theorem State.loadUnit_run (homing : s.unit.st = .homing) (st : x.st = .run) :
    (s.loadUnit x).unit.st = .run ∧ Changes [.unit, .axes] s (s.loadUnit x) := by
  have loads : s.loadUnit x = (s.takeBanks x.banks).enterRun s.tick := by
    unfold State.loadUnit State.takeBanks
    simp [homing, st, operating]
  have enters : (s.takeBanks x.banks).enterRun s.tick =
      ((s.takeBanks x.banks).enter .run s.tick).raiseIf ((s.takeBanks x.banks).enter .run s.tick).wardOpen 0x400E 0xFF 0 := rfl
  rw [loads, enters]
  refine ⟨by simp [State.enter], ?_⟩
  exact ((((s.takeBanks_only _).changes (by decide)).mono (by simp)).trans ((State.enter_changes _ _ _).mono (by simp))).trans
    ((State.raiseIf_changes _ _ _ _ _).mono (List.nil_subset _))

end

/-! ## A doorway's cycle (R405) -/

theorem Cycle.mark_keeps (c : Cycle) (k : Nat) (on : Bool) : (c.mark k on).active = c.active ∧ (c.mark k on).first = c.first := by
  unfold Cycle.mark
  split <;> exact ⟨rfl, rfl⟩

/-- A cycle begins where a closed doorway leaves the states in which cycles end. -/
theorem Cycle.follow_begins {c : Cycle} {w0 w1 : Door} (i : DoorIn) (ev : List Raised) (op : Nat) (idle : c.active = false)
    (closed : w0.st.isClosed = true) (leaves : w1.st.endsCycle = false) :
    (c.follow i w0 w1 ev op).active = true ∧ (c.follow i w0 w1 ev op).first = w1.st.code := by
  unfold Cycle.follow
  simp [idle, closed, leaves, Cycle.mark_keeps, apply_ite Cycle.active, apply_ite Cycle.first]

end Sys2Proof.Machine
end

section
/-! What each kind of copy frame does, and the frames that load none (R370, R375, R376, R380, R405, R443). -/

namespace Sys2Proof.Machine
open Safety

/-! ## The copies of a unit (R375, R380) -/

section
variable (s : State)

theorem State.putAxis_only (a : AxisId) (x : Axis) : Only [.axes] s { s with axes := s.axes.set a x } := by
  intro p hp
  cases p
  case axes => exact absurd List.mem_cons_self hp
  all_goals rfl

theorem State.loadCopy_axis (a : AxisId) (x : Axis) :
    (s.loadCopy (.axis a x)).axes = s.axes.set a ((s.axes[a]).copyFrom x) ∧
    (s.loadCopy (.axis a x)).hinge.copyDiff =
      (if (s.axes[a]).copyFrom x = s.axes[a] then s.hinge.copyDiff else satN (s.hinge.copyDiff + 1) 32) ∧
    Only [.axes, .hinge] s (s.loadCopy (.axis a x)) := by
  let put : State := { s with axes := s.axes.set a ((s.axes[a]).copyFrom x) }
  have axes : (s.loadCopy (.axis a x)).axes = put.axes := (put.copied_frame 1 a.val _).2.2.2.2.2.2.1
  exact ⟨axes, put.copied_compares 1 a.val _ _,
    ((s.putAxis_only a _).mono (by simp)).trans ((put.copied_only 1 a.val _).mono (by simp))⟩

/-- The cycle of a doorway as it follows a copy of the doorway. -/
def State.followCopy (s : State) (d : DoorId) (x : Door) : Cycle :=
  (s.recorder.cycles[d]).follow { s.doorIn d with now := x.tick } s.doors[d] ((s.doors[d]).copyFrom x) [] (s.recorder.opTime s.up)

/-- A doorway and its cycle as a copy gives them. -/
def State.putDoorCopy (s : State) (d : DoorId) (x : Door) : State :=
  { s with doors := s.doors.set d ((s.doors[d]).copyFrom x)
           recorder := { s.recorder with cycles := s.recorder.cycles.set d (s.followCopy d x) } }

theorem State.putDoorCopy_only (d : DoorId) (x : Door) : Only [.doors, .recorder] s (s.putDoorCopy d x) := by
  intro p hp
  cases p
  case doors | recorder => exact absurd (by simp) hp
  all_goals rfl

theorem State.loadCopy_door_eq (d : DoorId) (x : Door) : s.loadCopy (.door d x) =
    (s.putDoorCopy d x).copied 2 d.val ((s.doors[d]).copyFrom x != s.doors[d]) := rfl

theorem State.loadCopy_door (d : DoorId) (x : Door) :
    (s.loadCopy (.door d x)).doors = s.doors.set d ((s.doors[d]).copyFrom x) ∧
    (s.loadCopy (.door d x)).hinge.copyDiff =
      (if (s.doors[d]).copyFrom x = s.doors[d] then s.hinge.copyDiff else satN (s.hinge.copyDiff + 1) 32) ∧
    (s.loadCopy (.door d x)).recorder = { s.recorder with cycles := s.recorder.cycles.set d (s.followCopy d x) } ∧
    Only [.doors, .hinge, .recorder] s (s.loadCopy (.door d x)) := by
  rw [State.loadCopy_door_eq]
  have counted : ((s.putDoorCopy d x).copied 2 d.val ((s.doors[d]).copyFrom x != s.doors[d])).hinge.copyDiff =
      if (s.doors[d]).copyFrom x = s.doors[d] then s.hinge.copyDiff else satN (s.hinge.copyDiff + 1) 32 :=
    (s.putDoorCopy d x).copied_compares 2 d.val _ _
  have only := (s.putDoorCopy d x).copied_only 2 d.val ((s.doors[d]).copyFrom x != s.doors[d])
  refine ⟨by simp [State.putDoorCopy], counted, only .recorder (by simp), ?_⟩
  exact ((s.putDoorCopy_only d x).mono (by simp)).trans (only.mono (by simp))

theorem State.loadCopy_unit_same :
    (s.loadCopy (.unit s.copyUnit)).hinge.copyDiff = s.hinge.copyDiff ∧ Only [.hinge] s (s.loadCopy (.unit s.copyUnit)) := by
  have loads : s.loadCopy (.unit s.copyUnit) = s.copied 3 0 false := if_pos (beq_self_eq_true _)
  rw [loads]
  exact ⟨s.copied_copyDiff 3 0 false, s.copied_only 3 0 false⟩

section
variable {s : State} {x : CopyUnit}

theorem State.loadCopy_unit_differs (differs : x ≠ s.copyUnit) : s.loadCopy (.unit x) = (s.loadUnit x).copied 3 0 true :=
  if_neg (by simpa using differs)

/-- A unit copy that differs is counted. -/
theorem State.loadCopy_unit_counts (differs : x ≠ s.copyUnit) :
    (s.loadCopy (.unit x)).hinge.copyDiff = satN (s.hinge.copyDiff + 1) 32 := by
  rw [State.loadCopy_unit_differs differs, State.copied_copyDiff]
  simp

theorem State.loadCopy_unit_loaded (differs : x ≠ s.copyUnit) (loaded : UnitLoaded s (s.loadUnit x) x) :
    (s.loadCopy (.unit x)).unit.st = x.st ∧ (∀ a : AxisId, ((s.loadCopy (.unit x)).axes[a]).loop.bank = x.banks.getLsbD a.val) ∧
    Only [.unit, .axes, .hinge] s (s.loadCopy (.unit x)) := by
  rw [State.loadCopy_unit_differs differs]
  have only := (s.loadUnit x).copied_only 3 0 true
  have unit : ((s.loadUnit x).copied 3 0 true).unit = (s.loadUnit x).unit := only .unit (by simp)
  have axes : ((s.loadUnit x).copied 3 0 true).axes = (s.loadUnit x).axes := only .axes (by simp)
  rw [unit, axes]
  exact ⟨loaded.st, loaded.banks, (loaded.only.mono (by simp)).trans (only.mono (by simp))⟩

theorem CopyUnit.ne_of_st (st : x.st ≠ s.unit.st) : x ≠ s.copyUnit := fun same => st (congrArg CopyUnit.st same)

/-- A unit copy that shows RUN starts a homing STANDBY. -/
theorem State.loadCopy_unit_run (homing : s.unit.st = .homing) (st : x.st = .run) :
    (s.loadCopy (.unit x)).unit.st = .run ∧ (s.loadCopy (.unit x)).hinge.copyDiff = satN (s.hinge.copyDiff + 1) 32 ∧
    Changes [.unit, .axes, .hinge] s (s.loadCopy (.unit x)) := by
  have differs : x ≠ s.copyUnit := CopyUnit.ne_of_st (by rw [homing, st]; decide)
  obtain ⟨run, changes⟩ := State.loadUnit_run homing st
  have only := (s.loadUnit x).copied_only 3 0 true
  refine ⟨?_, State.loadCopy_unit_counts differs, ?_⟩ <;> rw [State.loadCopy_unit_differs differs]
  · exact (congrArg UnitSt.st (only .unit (by simp))).trans run
  · exact (changes.mono (by simp)).trans ((only.changes (by decide)).mono (by simp))

end

end

end Sys2Proof.Machine

namespace Sys2Proof.Safety
open Machine

/-! ## The loss of the link and its return (R370, R376) -/

section
variable {s : State}

theorem PairRuns.exec_pinlinkLost (h : PairRuns s) (up : s.hinge.linkLost = false) : ∃ t, exec .pinlinkLost s = .next t ∧
    t.hinge = { s.hinge with silence := max 20 s.hinge.silence, goodRun := 0, linkLost := true, events := s.hinge.events ||| 1
                             role := if s.hinge.role = .active then .alone else s.hinge.role } ∧
    Tells s t 0x4501 0xFF 0 ∧ Changes [.hinge] s t := by
  have run := HingeRun.linkDown_loses (r := ⟨s.hinge, [], none⟩) h.pair up h.counts
  exact ⟨_, congrArg Host.Outcome.next (h.onPair _), State.onHinge_becomes run,
    State.onHinge_tells (congrArg HingeRun.ev run) (by decide), s.onHinge_changes _⟩

theorem PairRuns.exec_pinlinkRestored (h : PairRuns s) (lost : s.hinge.linkLost = true) : ∃ t, exec .pinlinkRestored s = .next t ∧
    t.hinge = { s.hinge with silence := 0, goodRun := 20, linkLost := false, events := s.hinge.events ||| 2 } ∧
    Tells s t 0x4502 0xFF 0 ∧ Changes [.hinge] s t := by
  let counted : HingeRun := ⟨{ s.hinge with silence := 0, goodRun := 20 }, [], none⟩
  have run : (if s.hinge.linkLost then counted.linkBack else ⟨s.hinge, [], none⟩) =
      (counted.upd fun h => { h with linkLost := false }).event 1 0x4502 :=
    (if_pos lost).trans (HingeRun.linkBack_restores lost)
  exact ⟨_, congrArg Host.Outcome.next (h.onPair _), State.onHinge_becomes run,
    State.onHinge_tells (congrArg HingeRun.ev run) (by decide), s.onHinge_changes _⟩

/-! ## Copy frames -/

variable {p : List Byte} {e : FrameEnd} {c : CopyState}

theorem PairRuns.exec_copyFrame (h : PairRuns s) (parity : e.parity = false) : exec (.copyFrame p e c) s = .next (s.takeCopy p e c) := by
  refine congrArg Host.Outcome.next ((State.live_pos h.running rfl).trans ?_)
  rw [parity, if_neg Bool.false_ne_true]

theorem PairRuns.exec_copyFrame_parity (h : PairRuns s) (parity : e.parity = true) :
    exec (.copyFrame p e c) s = .next ((s.parityError 2).takeCopy p e c) := by
  refine congrArg Host.Outcome.next ((State.live_pos h.running rfl).trans ?_)
  rw [parity, if_pos rfl]

theorem PairRuns.exec_copyFrame_loads (h : PairRuns s) (standby : s.standby = true) (works : operating s.unit.st = true)
    (parity : e.parity = false) (good : frameGood 120 p e.crc e.lineOk = true) (kind : leAt p 0 1 = 2)
    (place : (leAt p 1 1, leAt p 2 1) = c.place) (tick : after (BitVec.ofNat 32 (leAt p 4 4)) 1 = s.tick) :
    exec (.copyFrame p e c) s = .next (s.loadCopy c) :=
  (h.exec_copyFrame parity).trans <| congrArg Host.Outcome.next <|
    State.takeCopy_loads h.running h.pair standby works ((copyWhole_clean parity).trans good) kind place tick

/-- What a module that is no working STANDBY receives, and what is no copy of the tick before, is dropped. -/
theorem PairRuns.exec_copyFrame_drops (h : PairRuns s) (parity : e.parity = false)
    (other : s.standby = false ∨ operating s.unit.st = false ∨
      (frameGood 120 p e.crc e.lineOk = true ∧
        (leAt p 0 1 ≠ 2 ∨ (leAt p 1 1, leAt p 2 1) ≠ c.place ∨ after (BitVec.ofNat 32 (leAt p 4 4)) 1 ≠ s.tick))) :
    exec (.copyFrame p e c) s = .next s := by
  refine (h.exec_copyFrame parity).trans (congrArg Host.Outcome.next ?_)
  by_cases shut : s.standby = false ∨ operating s.unit.st = false
  · exact State.takeCopy_shut shut
  · obtain ⟨standby, works⟩ := not_or.1 shut
    obtain ⟨good, other⟩ := (other.resolve_left standby).resolve_left works
    exact State.takeCopy_drops h.running h.pair (Bool.not_eq_false _ ▸ standby) (Bool.not_eq_false _ ▸ works) ((copyWhole_clean parity).trans good) other

theorem PairRuns.exec_copyFrame_bad (h : PairRuns s) (standby : s.standby = true) (works : operating s.unit.st = true)
    (parity : e.parity = false) (bad : frameGood 120 p e.crc e.lineOk = false) :
    exec (.copyFrame p e c) s = .next { s with hinge := { s.hinge with hbCrc := satN (s.hinge.hbCrc + 1) 32 } } :=
  (h.exec_copyFrame parity).trans <| congrArg Host.Outcome.next <|
    State.takeCopy_counts h.running h.pair standby works ((copyWhole_clean parity).trans bad)

/-- A copy frame that fails its CRC reaches the count of CRC errors alone, and only in a working STANDBY. -/
theorem PairRuns.takeCopy_broken (h : PairRuns s) (broken : copyWhole p e = false) :
    (s.standby = true → operating s.unit.st = true →
      (s.takeCopy p e c).hinge = { s.hinge with hbCrc := satN (s.hinge.hbCrc + 1) 32 }) ∧
    Only [.hinge] s (s.takeCopy p e c) := by
  refine ⟨fun standby works => by rw [State.takeCopy_counts h.running h.pair standby works broken], ?_⟩
  by_cases works : s.standby = true ∧ operating s.unit.st = true
  · rw [State.takeCopy_counts h.running h.pair works.1 works.2 broken]
    exact s.putHinge_only _
  · have shut : s.standby = false ∨ operating s.unit.st = false := by
      simpa only [not_and_or, Bool.not_eq_true] using works
    rw [State.takeCopy_shut shut]
    exact .rfl' _ s

/-- A heartbeat with a parity error is a bad one, and told. -/
theorem PairRuns.heartbeat_parity (h : PairRuns s) {f : WireFrame} (parity : f.parity = true) :
    ∃ t, exec (.heartbeatReceived f) s = .next t ∧
      t.hinge = { s.hinge with hbCrc := satN (s.hinge.hbCrc + 1) 32, nakOut := true } ∧ Tells s t 0x4706 0xFF 2 ∧ Changes [.hinge, .mem] s t :=
  ⟨_, h.exec_heartbeat_parity parity, rfl, (s.parityError_tells 2).grow (.rfl' rfl),
    ((s.parityError_changes 2).mono (by simp)).trans ((((s.parityError 2).putHinge_only _).changes (by decide)).mono (by simp))⟩

/-- A copy frame with a parity error fails its CRC, and is told. -/
theorem PairRuns.copyFrame_parity (h : PairRuns s) (parity : e.parity = true) :
    ∃ t, exec (.copyFrame p e c) s = .next t ∧ Tells s t 0x4706 0xFF 2 ∧
      (s.standby = true → operating s.unit.st = true → t.hinge = { s.hinge with hbCrc := satN (s.hinge.hbCrc + 1) 32 }) ∧
      Changes [.mem, .hinge] s t := by
  have hinge : (s.parityError 2).hinge = s.hinge := by simp
  have unit : (s.parityError 2).unit = s.unit := by simp
  obtain ⟨counts, only⟩ := (h.parityError 2).takeCopy_broken (c := c) (copyWhole_parity (p := p) parity)
  rw [unit, hinge, show (s.parityError 2).standby = s.standby by simp [State.standby]] at counts
  exact ⟨_, h.exec_copyFrame_parity parity, (s.parityError_tells 2).grow (.rfl' (only .kw (by decide))), counts,
    ((s.parityError_changes 2).mono (by simp)).trans ((only.changes (by decide)).mono (by simp))⟩

end

end Sys2Proof.Safety

open Sys2Proof Sys2Proof.Machine Sys2Proof.Safety

/-- Settles O57: each row is one operation of the hinge, or a copy loaded and counted; a frame with a parity error fails its CRC. -/
theorem pinLink : Obligations.PinLink := by
  unfold Obligations.PinLink
  intro s h
  refine ⟨?heartbeat, ?nak, ?resend, h.exec_pinlinkLost, h.exec_pinlinkRestored, fun f => h.heartbeat_parity, ?copy,
    fun p e c => h.exec_copyFrame_drops, ?bad, fun p e c => h.copyFrame_parity⟩
  case heartbeat =>
    exact fun f parity => ⟨fun b good beat => ⟨_, h.exec_heartbeat_next parity good beat, rfl, s.putHinge_only _⟩,
      fun bad => ⟨_, h.exec_heartbeat_bad parity bad, rfl, s.putHinge_only _⟩⟩
  case nak => exact fun sent => ⟨_, h.exec_nak sent, rfl, s.putHinge_only _⟩
  case resend => exact fun sent nak once => ⟨_, h.exec_resend sent nak once, rfl, s.putHinge_only _⟩
  case bad => exact fun p e c parity standby works bad => ⟨_, h.exec_copyFrame_bad standby works parity bad, rfl, s.putHinge_only _⟩
  case copy =>
    intro p e c standby works parity good kind place tick
    have loads := h.exec_copyFrame_loads standby works parity good kind place tick
    refine ⟨?axis, ?door, ?same, ?maintenance, ?early, ?run⟩
    case axis =>
      rintro a x rfl
      obtain ⟨axes, counted, only⟩ := s.loadCopy_axis a x
      refine ⟨_, loads, ?_, ?_, counted, only⟩ <;> rw [axes]
      · exact Vector.getElem_set_self _
      · exact fun _ other => set_get_ne _ _ _ _ other
    case door =>
      rintro d x rfl
      obtain ⟨doors, counted, recorder, only⟩ := s.loadCopy_door d x
      refine ⟨_, loads, ?here, ?elsewhere, counted, ?recorder, ?cycles, ?begins, only⟩
      case here => rw [doors]; exact Vector.getElem_set_self _
      case elsewhere => rw [doors]; exact fun _ other => set_get_ne _ _ _ _ other
      case recorder => rw [recorder]
      case cycles => rw [recorder]; exact fun _ other => set_get_ne _ _ _ _ other
      case begins =>
        intro idle closed leaves
        have follows : (s.loadCopy (.door d x)).recorder.cycles[d] = s.followCopy d x := by
          rw [recorder]
          exact Vector.getElem_set_self _
        rw [follows]
        exact Cycle.follow_begins _ _ _ idle closed leaves
    case same =>
      rintro rfl
      exact ⟨_, loads, s.loadCopy_unit_same⟩
    case maintenance =>
      rintro x rfl differs run st
      obtain ⟨entered, banks, only⟩ := State.loadCopy_unit_loaded differs (State.loadUnit_maintenance run st)
      exact ⟨_, loads, entered.trans st, banks, State.loadCopy_unit_counts differs, only⟩
    case early =>
      rintro x rfl differs st
      obtain ⟨entered, banks, only⟩ := State.loadCopy_unit_loaded differs (State.loadUnit_early st)
      exact ⟨_, loads, entered, banks, State.loadCopy_unit_counts differs, only⟩
    case run =>
      rintro x rfl st homing
      obtain ⟨entered, counted, changes⟩ := State.loadCopy_unit_run homing st
      have shut : ¬ s.wardOpen = true := fun opened => by
        obtain ⟨-, run⟩ := State.wardOpen_iff.1 opened
        rw [homing] at run
        exact UnitState.noConfusion run
      exact ⟨_, loads, entered, fun opened => absurd opened shut, counted, changes⟩

end

section
/-! The loop that the selector chooses (R172). -/

namespace Sys2Proof.Machine

/-- No loop has a lower u_pre than this one. -/
def LoopSt.Lowest (l : LoopSt) (x : Loop) : Prop := ∀ y : Loop, (l.ch x).out ≤ (l.ch y).out

section
variable {l : LoopSt}

theorem LoopSt.lowest_iff {x : Loop} : l.Lowest x ↔ (l.ch x).out = min l.lv.out (min l.lf.out l.le.out) := by
  constructor
  · intro low
    have v : _ ≤ l.lv.out := low .v
    have f : _ ≤ l.lf.out := low .f
    have e : _ ≤ l.le.out := low .e
    cases x <;> simp only [LoopSt.ch] at * <;> omega
  · intro low y
    rw [low]
    cases y <;> simp only [LoopSt.ch] <;> omega

/-- The loop selected before stays selected where it is among the lowest. -/
theorem selectLoop_stays {p : Loop} (before : l.sel = some p) (low : l.Lowest p) : selectLoop l = p := by
  rw [LoopSt.lowest_iff] at low
  unfold selectLoop
  rw [before]
  cases p <;> exact if_pos low

/-- Where the loop selected before is not among the lowest, the order V, F, E decides. -/
theorem selectLoop_order (before : ∀ p, l.sel = some p → ¬ l.Lowest p) :
    (l.Lowest .v → selectLoop l = .v) ∧ (¬ l.Lowest .v → l.Lowest .f → selectLoop l = .f) ∧
      (¬ l.Lowest .v → ¬ l.Lowest .f → selectLoop l = .e) := by
  simp only [LoopSt.lowest_iff] at before ⊢
  unfold selectLoop
  cases sel : l.sel with
  | none =>
    exact ⟨fun v => if_pos v, fun v f => (if_neg v).trans (if_pos f), fun v f => (if_neg v).trans (if_neg f)⟩
  | some p =>
    have lost := before p sel
    simp only [LoopSt.ch] at *
    cases p with
    | v => exact ⟨fun v => absurd v lost, fun _ f => (if_neg lost).trans (if_pos f), fun _ f => (if_neg lost).trans (if_neg f)⟩
    | f => exact ⟨fun v => (if_neg lost).trans (if_pos v), fun _ f => absurd f lost, fun v _ => (if_neg lost).trans (if_neg v)⟩
    | e => exact ⟨fun v => (if_neg lost).trans (if_pos v), fun v _ => (if_neg lost).trans (if_neg v), fun v f => by simp only at lost; omega⟩

theorem selectLoop_lowest : l.Lowest (selectLoop l) := by
  by_cases before : ∃ p, l.sel = some p ∧ l.Lowest p
  · obtain ⟨p, sel, low⟩ := before
    rwa [selectLoop_stays sel low]
  · obtain ⟨v, f, e⟩ := selectLoop_order fun p sel low => before ⟨p, sel, low⟩
    by_cases hv : l.Lowest .v
    · rwa [v hv]
    · by_cases hf : l.Lowest .f
      · rwa [f hv hf]
      · rw [e hv hf]
        rw [LoopSt.lowest_iff] at hv hf ⊢
        simp only [LoopSt.ch] at *
        omega

/-- A loop whose output alone lies below 0 wins. -/
theorem selectLoop_negative {x : Loop} (low : (l.ch x).out < 0) (others : ∀ y, y ≠ x → 0 ≤ (l.ch y).out) : selectLoop l = x := by
  by_contra other
  have least := selectLoop_lowest (l := l) x
  have := others _ other
  omega

end

end Sys2Proof.Machine

open Sys2Proof Sys2Proof.Machine

/-- Settles O15: the loop selected before among the lowest is kept, else the first lowest in the order V, F, E is taken. -/
theorem lowestLoopWins : Obligations.LowestLoopWins := by
  unfold Obligations.LowestLoopWins
  exact fun l => ⟨selectLoop_lowest, fun _ => selectLoop_stays, selectLoop_order, fun _ => selectLoop_negative⟩
end

section
/-! The trace as a host commands it (R188, R189). -/

namespace Sys2Proof.Machine
open Safety

/-! ## What a request to the trace does at the next boundary -/

section
variable {t : TraceSt} {asked now : Tick}

theorem TraceSt.boundary_arm (c : Cfg) (arm : t.armReq = some asked) (past : now ≠ asked) (stop : t.stopReq = none) :
    t.boundary c now = { (t.arm c) with armReq := none } := by
  simp [TraceSt.boundary, arm, stop, past.symm]

theorem TraceSt.boundary_stop (c : Cfg) (stop : t.stopReq = some asked) (past : now ≠ asked) (arm : t.armReq = none) :
    t.boundary c now = { (if t.st = .armed then { t with st := .idle, samples := [] } else t.truncate) with stopReq := none } := by
  by_cases armed : t.st = .armed
  · simp [TraceSt.boundary, arm, stop, past.symm, armed]
  · have kept : t.truncate.armReq = none := by
      unfold TraceSt.truncate
      split <;> exact arm
    simp [TraceSt.boundary, stop, past.symm, armed, kept]

end

/-- A trace forced in the tick before triggers. -/
theorem State.triggered_forced {s : State} (forced : s.trace.forceReq = some (s.tick - 1)) : s.triggered = true := by
  simp [State.triggered, forced]

/-! ## TRACE_CTRL and TRACE_DONE -/

section
variable {s : State}

theorem State.trace_only (t : TraceSt) : Only [.trace] s { s with trace := t } := by
  intro p hp
  cases p
  case trace => exact absurd List.mem_cons_self hp
  all_goals rfl

theorem State.traceCtrl_arm :
    (s.traceCtrl 1).trace = if s.trace.active then s.trace else { s.trace with armReq := some s.tick } := by
  cases active : s.trace.active <;> simp [State.traceCtrl, bit, active]

theorem exec_traceDone (running : s.unit.running = true) (operates : operating s.unit.st = true) :
    exec .traceDone s = .next { s with trace := s.trace.finish } :=
  congrArg Host.Outcome.next (State.live_pos running operates)

end

end Sys2Proof.Machine

namespace Sys2Proof.Safety
open Machine

/-- A write of TRACE_CTRL by the holder of the unit's claim is answered and changes the trace alone. -/
theorem Writer.traceCtrl {s : State} {r : Req} {x : Session} (h : Writer s r x) (claim : Holds s r x .unit) (w : Word) :
    Commanded [.trace] s (s.hostWrite r 0x400000 w) r 0x400000 w (w &&& 7) ∧
      (s.hostWrite r 0x400000 w).trace = ((s.heard r x).traceCtrl w).trace := by
  obtain ⟨commanded, same⟩ := h.unitCommand (w := w) claim block_trace (by decide) (by decide) row_trace rfl
    (State.trace_only _) (by decide)
  exact ⟨commanded, same .trace List.mem_cons_self⟩

end Sys2Proof.Safety

open Sys2Proof Sys2Proof.Machine Sys2Proof.Safety

/-- Settles O23: each write posts its request in the trace alone; the next boundary or the next tick's trigger acts on it. -/
theorem traceCommands : Obligations.TraceCommands := by
  unfold Obligations.TraceCommands
  refine ⟨fun s r x h claim => ⟨?arm, ?stop, ?force⟩, ?finish⟩
  case arm =>
    obtain ⟨commanded, trace⟩ := h.traceCtrl claim 1
    rw [State.traceCtrl_arm] at trace
    refine ⟨_, rfl, commanded, fun active => trace.trans (if_pos active), fun idle => ?_⟩
    have posted : (s.hostWrite r 0x400000 1).trace = { s.trace with armReq := some s.tick } :=
      trace.trans (if_neg (Bool.eq_false_iff.1 idle))
    refine ⟨posted, fun c now past stop => ?_⟩
    rw [TraceSt.boundary_arm c (congrArg TraceSt.armReq posted) past ((congrArg TraceSt.stopReq posted).trans stop)]
    exact ⟨rfl, rfl, rfl⟩
  case stop =>
    obtain ⟨commanded, trace⟩ := h.traceCtrl claim 4
    have posted : (s.hostWrite r 0x400000 4).trace = { s.trace with stopReq := some s.tick } := trace
    refine ⟨_, rfl, commanded, posted, fun c now past arm => ?_⟩
    rw [TraceSt.boundary_stop c (congrArg TraceSt.stopReq posted) past ((congrArg TraceSt.armReq posted).trans arm), posted]
    exact ⟨fun armed => by simp [armed], fun triggered => by simp [triggered, TraceSt.truncate]⟩
  case force =>
    obtain ⟨commanded, trace⟩ := h.traceCtrl claim 2
    have posted : (s.hostWrite r 0x400000 2).trace = { s.trace with forceReq := some s.tick } := trace
    refine ⟨_, rfl, commanded, posted, fun u same tick => State.triggered_forced ?_⟩
    rw [same, posted, tick, BitVec.add_sub_cancel]
  case finish =>
    intro s running operates
    exact ⟨_, exec_traceDone running operates, by simp [TraceSt.finish], State.trace_only _⟩
end

section
/-! The loop engine: saturation, direction of travel, position loop, inner loops, selector and integrators (R163, R166 to R169, R172 to
R174, R176). -/

namespace Sys2Proof.Machine

/-! ## Saturation (R163) -/

section
variable {lo hi x : Int}

theorem le_sat (h : lo ≤ hi) : lo ≤ sat lo hi x := by
  unfold sat
  split <;> [skip; split] <;> omega

theorem sat_le (h : lo ≤ hi) : sat lo hi x ≤ hi := by
  unfold sat
  split <;> [skip; split] <;> omega

theorem sat_of_mem (low : lo ≤ x) (high : x ≤ hi) : sat lo hi x = x :=
  (if_neg (Int.not_lt.2 low)).trans (if_neg (Int.not_lt.2 high))

end

/-! ## Direction of travel (R166, R167) -/

theorem sgn_pos {x : Int} (h : 0 < x) : sgn x = 1 := if_pos h

theorem sgn_neg {x : Int} (h : x < 0) : sgn x = -1 := (if_neg (Int.not_lt.2 (Int.le_of_lt h))).trans (if_pos h)

theorem sgn_unit {x : Int} (h : x ≠ 0) : sgn x = 1 ∨ sgn x = -1 :=
  (Int.lt_or_gt_of_ne h).elim (fun neg => .inr (sgn_neg neg)) fun pos => .inl (sgn_pos pos)

/-- The direction of R166: the sign of v_ref, else that of the way to the target, else the one before. -/
def travel (before vRef target xRef : Int) : Int :=
  if vRef ≠ 0 then sgn vRef else if target ≠ xRef then sgn (target - xRef) else before

section
variable {l : LoopSt} {d vRef target xRef : Int}

theorem travel_moving (h : vRef ≠ 0) : travel d vRef target xRef = sgn vRef := if_pos h

theorem travel_away (h : target ≠ xRef) : travel d 0 target xRef = sgn (target - xRef) := (if_neg (by simp)).trans (if_pos h)

theorem travel_resting : travel d 0 xRef xRef = d := (if_neg (by simp)).trans (if_neg (by simp))

theorem travel_unit (h : d = 1 ∨ d = -1) : travel d vRef target xRef = 1 ∨ travel d vRef target xRef = -1 := by
  by_cases moving : vRef = 0
  · subst moving
    by_cases away : target = xRef
    · rwa [away, travel_resting]
    · rw [travel_away away]
      exact sgn_unit (sub_ne_zero.2 away)
  · rw [travel_moving moving]
    exact sgn_unit moving

theorem travel_opposite (h : d = 1 ∨ d = -1) (turns : travel d vRef target xRef ≠ d) : travel d vRef target xRef = -d := by
  obtain e | e := travel_unit (vRef := vRef) (target := target) (xRef := xRef) h <;> obtain rfl | rfl := h
  · exact absurd e turns
  · exact e
  · exact e
  · exact absurd e turns

theorem LoopSt.direction_same (h : travel l.dir vRef target xRef = l.dir) : l.direction vRef target xRef = l := if_pos h

theorem LoopSt.direction_turns (h : travel l.dir vRef target xRef ≠ l.dir) : l.direction vRef target xRef =
    { l with dir := travel l.dir vRef target xRef, lv := l.lv.negate, lf := l.lf.negate, le := l.le.negate,
             vCorr := -l.vCorr, uPrev := -l.uPrev } := if_neg h

theorem LoopSt.direction_dir : (l.direction vRef target xRef).dir = travel l.dir vRef target xRef := by
  by_cases h : travel l.dir vRef target xRef = l.dir
  · rw [direction_same h, h]
  · rw [direction_turns h]

end

/-! ## Position loop (R168) -/

theorem LoopSt.position_corrects (l : LoopSt) (p : LoopPar) (xRef vRef : Int) (range : 0 ≤ p.b 1) :
    -(p.b 1) ≤ (l.position p true xRef vRef).vCorr ∧ (l.position p true xRef vRef).vCorr ≤ p.b 1 :=
  ⟨le_sat (by omega), sat_le (by omega)⟩

/-! ## Inner loops (R169, R176) -/

section
variable {l : LoopSt} {p : LoopPar} {first : Bool} {vRef aRef fLim vCap : Int}

/-- The engine once its three inner loops have their outputs, and before the selector acts on them. -/
def LoopSt.outputs (l : LoopSt) (p : LoopPar) (first : Bool) (vRef aRef fLim vCap : Int) : LoopSt :=
  let lo := -p.brakeMax
  let hi := min p.driveMax fLim
  let tbl := tableNorm p l
  let vn := l.vMeas * l.dir
  let fn := satF (satF (rdiv (p.fc * l.iMeas * 4096) (100 * 2 ^ 20)) * l.dir)
  let l' := l.clampIntegrators lo hi
  { l' with
    fLim := fLim, vCap := vCap, fTable := tablePhys p l'
    lv := l'.lv.eval p true first 4 l.vSet vn
      (satF (rdiv (tbl * 10000000 + (p.mass * (aRef * l.dir) + p.visc * (vRef * l.dir)) * 4096) 10000000)) lo hi
    lf := l'.lf.eval p false first 8 fLim fn fLim lo hi
    le := l'.le.eval p true first 12 vCap vn (satF (rdiv (tbl * 10000000 + p.visc * vCap * 4096) 10000000)) lo hi }

/-- The selected loop changes. -/
def LoopSt.handsOver (l : LoopSt) (w : Loop) : Bool := l.sel.isSome && decide (l.sel ≠ some w)

/-- The channel of the loop selected, after the tick's re-seed or integration. -/
def LoopSt.winner (l : LoopSt) (p : LoopPar) (lo hi : Int) : LoopCh × Bool :=
  integrate (l.ch (selectLoop l)) p (selectLoop l) (l.handsOver (selectLoop l)) l.stale l.uPrev lo hi

/-- The selector, the integrators and the command, on the outputs of the inner loops. -/
def LoopSt.selected (l : LoopSt) (p : LoopPar) (lo hi : Int) : LoopSt :=
  let w := selectLoop l
  let r := l.winner p lo hi
  let u := sat lo hi (r.1.ff + r.1.p + r.1.i + r.1.d)
  let satd := decide (u = lo ∨ u = hi)
  { (l.setCh w r.1) with
    engaged := true, sel := some w, uPrev := u, reseeded := r.2, saturated := satd, cmdForce := u * l.dir,
    handovers := if l.handsOver w then satN (l.handovers + 1) 32 else l.handovers,
    satTicks := if satd then satN (l.satTicks + 1) 32 else l.satTicks }

theorem LoopSt.inner_eq : l.inner p first vRef aRef fLim vCap =
    (l.outputs p first vRef aRef fLim vCap).selected p (-p.brakeMax) (min p.driveMax fLim) := rfl

variable (l p first vRef aRef fLim vCap)

theorem LoopSt.outputs_frame :
    (l.outputs p first vRef aRef fLim vCap).uPrev = l.uPrev ∧ (l.outputs p first vRef aRef fLim vCap).sel = l.sel ∧
    (l.outputs p first vRef aRef fLim vCap).stale = l.stale ∧ (l.outputs p first vRef aRef fLim vCap).handovers = l.handovers ∧
    (l.outputs p first vRef aRef fLim vCap).dir = l.dir := ⟨rfl, rfl, rfl, rfl, rfl⟩

theorem LoopSt.outputs_i (x : Loop) :
    ((l.outputs p first vRef aRef fLim vCap).ch x).i = sat (-p.brakeMax) (min p.driveMax fLim) (l.ch x).i := by cases x <;> rfl

theorem LoopSt.outputs_out (x : Loop) :
    ∃ u, ((l.outputs p first vRef aRef fLim vCap).ch x).out = sat (-p.brakeMax) (min p.driveMax fLim) u := by
  cases x <;> exact ⟨_, rfl⟩

variable {p fLim}

/-- A force within the limits of the command fits the format of a force. -/
theorem satF_between {f : Int} (low : -p.brakeMax ≤ f) (high : f ≤ min p.driveMax fLim) : satF f = f := by
  have brake : p.brakeMax ≤ 2 ^ 31 - 1 := sat_le (by decide)
  have drive : p.driveMax ≤ 2 ^ 31 - 1 := sat_le (by decide)
  exact sat_of_mem (by simp only [Nat.add_one_sub_one]; omega) (by simp only [Nat.add_one_sub_one]; omega)

end

/-! ## Integrators (R173, R174) -/

section
variable (c : LoopCh) (p : LoopPar) (w : Loop) (ho stale : Bool) (uPrev lo hi : Int)

/-- The winner is re-seeded (R173), or takes no increment, or integrates (R174); a stale sample lets it take none. -/
theorem integrate_cases :
    (ho = true ∧ 0 ≤ c.out) ∧ integrate c p w ho stale uPrev lo hi =
      ({ c with i := sat lo hi (satF (uPrev - (c.ff + c.p + c.d))), frozen := false }, true) ∨
    ¬ (ho = true ∧ 0 ≤ c.out) ∧ integrate c p w ho stale uPrev lo hi = (c, false) ∨
    ¬ (ho = true ∧ 0 ≤ c.out) ∧ stale = false ∧
      ∃ u, integrate c p w ho stale uPrev lo hi = ({ c with i := sat lo hi u, frozen := false }, false) := by
  unfold integrate
  split
  next h => exact .inl ⟨by simpa using h, rfl⟩
  next h =>
    have kept : ¬ (ho = true ∧ 0 ≤ c.out) := by simpa using h
    split
    · exact .inr (.inl ⟨kept, rfl⟩)
    next fresh =>
      dsimp only
      split
      · exact .inr (.inl ⟨kept, rfl⟩)
      · exact .inr (.inr ⟨kept, Bool.eq_false_iff.2 fresh, _, rfl⟩)

variable {c p w ho stale uPrev lo hi}

theorem integrate_frame : (integrate c p w ho stale uPrev lo hi).1.out = c.out ∧ (integrate c p w ho stale uPrev lo hi).1.ff = c.ff ∧
    (integrate c p w ho stale uPrev lo hi).1.p = c.p ∧ (integrate c p w ho stale uPrev lo hi).1.d = c.d := by
  obtain ⟨-, e⟩ | ⟨-, e⟩ | ⟨-, -, u, e⟩ := integrate_cases c p w ho stale uPrev lo hi <;>
    rw [e] <;> exact ⟨rfl, rfl, rfl, rfl⟩

theorem integrate_reseeded : (integrate c p w ho stale uPrev lo hi).2 = true ↔ ho = true ∧ 0 ≤ c.out := by
  obtain ⟨h, e⟩ | ⟨h, e⟩ | ⟨h, -, u, e⟩ := integrate_cases c p w ho stale uPrev lo hi <;> rw [e]
  · exact iff_of_true rfl h
  · exact iff_of_false Bool.false_ne_true h
  · exact iff_of_false Bool.false_ne_true h

theorem integrate_i (range : lo ≤ hi) (low : lo ≤ c.i) (high : c.i ≤ hi) :
    lo ≤ (integrate c p w ho stale uPrev lo hi).1.i ∧ (integrate c p w ho stale uPrev lo hi).1.i ≤ hi := by
  obtain ⟨-, e⟩ | ⟨-, e⟩ | ⟨-, -, u, e⟩ := integrate_cases c p w ho stale uPrev lo hi <;> rw [e]
  · exact ⟨le_sat range, sat_le range⟩
  · exact ⟨low, high⟩
  · exact ⟨le_sat range, sat_le range⟩

end

/-! ## Selector and command (R172, R173) -/

section
variable {l : LoopSt} {p : LoopPar} {lo hi : Int}

theorem LoopSt.handsOver_iff {w : Loop} : l.handsOver w = true ↔ ∃ q, l.sel = some q ∧ q ≠ w := by
  cases sel : l.sel <;> simp [LoopSt.handsOver, sel]

/-- The winner is re-seeded, or takes no increment, or integrates with a fresh sample. -/
theorem LoopSt.winner_cases (l : LoopSt) (p : LoopPar) (lo hi : Int) :
    let c := l.ch (selectLoop l)
    (l.winner p lo hi).2 = true ∧ l.winner p lo hi =
      ({ c with i := sat lo hi (satF (l.uPrev - (c.ff + c.p + c.d))), frozen := false }, true) ∨
    (l.winner p lo hi).2 = false ∧ l.winner p lo hi = (c, false) ∨ (l.winner p lo hi).2 = false ∧ l.stale = false := by
  obtain ⟨-, e⟩ | ⟨-, e⟩ | ⟨-, fresh, _, e⟩ :=
    integrate_cases (l.ch (selectLoop l)) p (selectLoop l) (l.handsOver (selectLoop l)) l.stale l.uPrev lo hi
  · exact .inl ⟨congrArg Prod.snd e, e⟩
  · exact .inr (.inl ⟨congrArg Prod.snd e, e⟩)
  · exact .inr (.inr ⟨congrArg Prod.snd e, fresh⟩)

theorem LoopSt.selected_ch (x : Loop) : (l.selected p lo hi).ch x = if x = selectLoop l then (l.winner p lo hi).1 else l.ch x := by
  have put : ∀ (w x : Loop) (c : LoopCh), (l.setCh w c).ch x = if x = w then c else l.ch x := by
    intro w x c
    cases w <;> cases x <;> rfl
  rw [← put]
  cases x <;> rfl

theorem LoopSt.selected_other {x : Loop} (h : x ≠ selectLoop l) : (l.selected p lo hi).ch x = l.ch x :=
  (selected_ch x).trans (if_neg h)

theorem LoopSt.selected_same : (l.selected p lo hi).ch (selectLoop l) = (l.winner p lo hi).1 :=
  (selected_ch _).trans (if_pos rfl)

theorem LoopSt.selected_out (x : Loop) : ((l.selected p lo hi).ch x).out = (l.ch x).out := by
  by_cases h : x = selectLoop l
  · rw [h, selected_same]
    exact integrate_frame.1
  · rw [selected_other h]

theorem LoopSt.selected_reseeded : (l.selected p lo hi).reseeded = true ↔
    (∃ q, l.sel = some q ∧ q ≠ selectLoop l) ∧ 0 ≤ ((l.selected p lo hi).ch (selectLoop l)).out := by
  rw [selected_out, ← handsOver_iff]
  exact integrate_reseeded

theorem LoopSt.selected_handovers : (l.selected p lo hi).handovers =
    if l.sel = none ∨ l.sel = some (selectLoop l) then l.handovers else satN (l.handovers + 1) 32 := by
  show (if l.handsOver (selectLoop l) then _ else _) = _
  cases sel : l.sel with
  | none => simp [LoopSt.handsOver, sel]
  | some q => by_cases same : q = selectLoop l <;> simp [LoopSt.handsOver, sel, same]

theorem LoopSt.selected_i (range : lo ≤ hi) (between : ∀ x, lo ≤ (l.ch x).i ∧ (l.ch x).i ≤ hi) (x : Loop) :
    lo ≤ ((l.selected p lo hi).ch x).i ∧ ((l.selected p lo hi).ch x).i ≤ hi := by
  by_cases h : x = selectLoop l
  · rw [h, selected_same]
    obtain ⟨low, high⟩ := between (selectLoop l)
    exact integrate_i range low high
  · rw [selected_other h]
    exact between x

/-- A stale sample moves no integrator unless the winner is re-seeded. -/
theorem LoopSt.selected_stale (kept : (l.selected p lo hi).reseeded = false) (stale : l.stale = true) :
    (l.selected p lo hi).ch (selectLoop l) = l.ch (selectLoop l) := by
  rw [selected_same]
  obtain ⟨won, -⟩ | ⟨-, e⟩ | ⟨-, fresh⟩ := l.winner_cases p lo hi
  · exact absurd won (Bool.eq_false_iff.1 kept)
  · rw [e]
  · rw [fresh] at stale
    exact absurd stale Bool.false_ne_true

/-- A re-seed that the limits leave alone carries the command on from the tick before (R173). -/
theorem LoopSt.selected_carries {c : LoopCh} (same : (l.selected p lo hi).ch (selectLoop l) = c)
    (reseeded : (l.selected p lo hi).reseeded = true) (fits : ∀ f, lo ≤ f → f ≤ hi → satF f = f) (low : lo ≤ l.uPrev)
    (high : l.uPrev ≤ hi) (low' : lo ≤ l.uPrev - (c.ff + c.p + c.d)) (high' : l.uPrev - (c.ff + c.p + c.d) ≤ hi) :
    (l.selected p lo hi).uPrev = l.uPrev := by
  rw [selected_same] at same
  have won : (l.winner p lo hi).2 = true := reseeded
  have i : c.i = l.uPrev - (c.ff + c.p + c.d) := by
    subst same
    obtain ⟨-, ff, p', d⟩ : _ ∧ (l.winner p lo hi).1.ff = _ ∧ (l.winner p lo hi).1.p = _ ∧ (l.winner p lo hi).1.d = _ := integrate_frame
    obtain ⟨-, e⟩ | ⟨kept, -⟩ | ⟨kept, -⟩ := l.winner_cases p lo hi
    · rw [ff, p', d] at low' high' ⊢
      exact (congrArg (fun r : LoopCh × Bool => r.1.i) e).trans (by rw [fits _ low' high', sat_of_mem low' high'])
    · exact absurd won (Bool.eq_false_iff.1 kept)
    · exact absurd won (Bool.eq_false_iff.1 kept)
  have command : (l.selected p lo hi).uPrev = sat lo hi (c.ff + c.p + c.i + c.d) := by rw [← same]; rfl
  rw [command, show c.ff + c.p + c.i + c.d = l.uPrev by rw [i]; omega, sat_of_mem low high]

theorem LoopSt.selected_lowest (x : Loop) : ((l.selected p lo hi).ch (selectLoop l)).out ≤ ((l.selected p lo hi).ch x).out := by
  rw [selected_out, selected_out]
  exact selectLoop_lowest x

theorem LoopSt.selected_uPrev (range : lo ≤ hi) : lo ≤ (l.selected p lo hi).uPrev ∧ (l.selected p lo hi).uPrev ≤ hi :=
  ⟨le_sat range, sat_le range⟩

end

end Sys2Proof.Machine
end

section
/-! One tick of the profile planner, and the travel limits (R202, R203, R214). -/

namespace Sys2Proof.Machine

/-! ## The profile in force (R205, R207, R208) -/

/-- Two motions have the same position, speed and target, and both have landed and braked for it, or neither. -/
structure MotionSt.SameMove (m n : MotionSt) : Prop where
  /-- Target. -/
  target : n.target = m.target
  /-- Position. -/
  xp : n.xp = m.xp
  /-- Speed. -/
  vp : n.vp = m.vp
  /-- Landed. -/
  landed : n.landed = m.landed
  /-- Braking for the target. -/
  latched : n.latched = m.latched

/-- Taking the profile in force leaves the move itself alone. -/
theorem AxRun.profileInForce_sameMove (r : AxRun) (i : AxIn) : r.ax.mot.SameMove (r.profileInForce i).2.ax.mot := by
  have both : ∀ {c : Prop} [Decidable c] {a b : AxRun}, r.ax.mot.SameMove a.ax.mot → r.ax.mot.SameMove b.ax.mot →
      r.ax.mot.SameMove (if c then a else b).ax.mot := by
    intro c _ a b ha hb
    split <;> assumption
  unfold profileInForce
  dsimp only
  split
  · exact ⟨rfl, rfl, rfl, rfl, rfl⟩
  · split
    · exact both ⟨rfl, rfl, rfl, rfl, rfl⟩ ⟨rfl, rfl, rfl, rfl, rfl⟩
    · rw [apply_ite Prod.snd]
      exact both ⟨rfl, rfl, rfl, rfl, rfl⟩ ⟨rfl, rfl, rfl, rfl, rfl⟩
    · exact ⟨rfl, rfl, rfl, rfl, rfl⟩

/-! ## The direction of the move (R202) -/

/-- Where the planner steers: toward the target, or on as it moves over it. -/
def MotionSt.heading (m : MotionSt) : Int := if m.target * 65536 ≠ m.xp then sgn (m.target * 65536 - m.xp) else sgn m.vp

theorem MotionSt.heading_sq {m : MotionSt} (h : ¬ (m.target * 65536 = m.xp ∧ m.vp = 0)) : m.heading * m.heading = 1 := by
  have unit : m.heading = 1 ∨ m.heading = -1 := by
    unfold heading
    split
    next away => exact sgn_unit (sub_ne_zero.2 away)
    next here => exact sgn_unit fun rest => h ⟨not_not.1 here, rest⟩
  rcases unit with e | e <;> rw [e] <;> rfl

/-- The speed along the way. -/
def MotionSt.along (m : MotionSt) : Int := m.vp * m.heading

/-- The way ahead, with 16 fractional bits. -/
def MotionSt.ahead (m : MotionSt) : Int := (m.target * 65536 - m.xp) * m.heading

theorem MotionSt.heading_cancel {m : MotionSt} (h : ¬ (m.target * 65536 = m.xp ∧ m.vp = 0)) (s : Int) : s * m.heading * m.heading = s := by
  rw [mul_assoc, heading_sq h, mul_one]

theorem MotionSt.off_of_along {m : MotionSt} (h : m.along < 0) : ¬ (m.target * 65536 = m.xp ∧ m.vp = 0) :=
  fun rest => by simp [along, rest.2] at h

/-! ## The speed of the next tick (R202) -/

/-- The speed after a tick of braking by an axis that moves away from its target. -/
def Profile.retreat (p : Profile) (s : Int) : Int :=
  let s1 := min 0 (speedBy s (p.dec (-s)))
  if -(p.vStop * 256) < s1 then 0 else s1

/-- The speed that the profile allows, were the target far; an axis that brakes for its target does not speed up. -/
def Profile.allowed (p : Profile) (m : MotionSt) (s : Int) : Int :=
  let up :=
    if s < p.vStart * 256 then p.vStart * 256
    else if p.vMax * 256 < s then max (p.vMax * 256) (speedBy s (-(p.dec s)))
    else if s < p.vBreak * 256 then min (speedBy s p.a1) (p.vMax * 256)
    else min (speedBy s p.a2) (p.vMax * 256)
  if (m.latched || (m.braking && decide (m.reaction = .stop))) && decide (0 < s) then min up s else up

/-- The target lies inside the braking distance. -/
def Profile.inside (p : Profile) (s delta : Int) : Bool := decide (p.vdec delta * 20000 < s * 20000 - 2 * p.dec s * 256)

/-- The speed after a tick on the way to the target. -/
def Profile.approach (p : Profile) (m : MotionSt) (s delta : Int) : Int :=
  if p.inside s delta then speedBy s (-(p.dec s)) else min (p.allowed m s) (p.vdec delta)

section
variable {p : Profile} {m : MotionSt} {s delta : Int}

theorem Profile.retreat_nonpos : p.retreat s ≤ 0 := by
  unfold retreat
  dsimp only
  split
  · exact Int.le_refl 0
  · exact min_le_left _ _

theorem Profile.allowed_latched (latched : m.latched = true) (moves : 0 < s) : p.allowed m s ≤ s := by
  unfold allowed
  dsimp only
  rw [if_pos (c := _ = true) (by simp [latched, moves])]
  exact min_le_right _ _

/-- Unless the target lies inside the braking distance, the axis can stop from the speed it takes, and does not speed up once it brakes. -/
theorem Profile.approach_bound : p.vdec delta * 20000 < s * 20000 - 2 * p.dec s * 256 ∨
    p.approach m s delta ≤ p.vdec delta ∧ (m.latched = true → 0 < s → p.approach m s delta ≤ s) := by
  by_cases inside : p.vdec delta * 20000 < s * 20000 - 2 * p.dec s * 256
  · exact .inl inside
  · have takes : p.approach m s delta = min (p.allowed m s) (p.vdec delta) := if_neg (by simpa [Profile.inside] using inside)
    rw [takes]
    exact .inr ⟨min_le_right _ _, fun latched moves => (min_le_left _ _).trans (allowed_latched latched moves)⟩

end

/-! ## The cases of a tick (R202, R203) -/

/-- One tick of the planner by the profile in force. -/
def AxRun.planned (r : AxRun) (p : Profile) : AxRun :=
  let m := r.ax.mot
  let dt := m.heading
  let delta := m.ahead
  let s := m.along
  if m.target * 65536 = m.xp ∧ m.vp = 0 then r.mot fun m => { m with phase := .idle, aRef := 0, xRef := m.xWhole, vRef := 0 }
  else if s < 0 then r.mot fun m => m.advance s (p.retreat s) dt .away
  else
    let s' := p.approach m s delta
    let latch := m.latched || (!p.inside s delta && decide (p.vdec delta < p.allowed m s))
    if delta * 20000 ≤ s' * 256 ∧ s' * 20000 ≤ p.vStop * 256 * 20000 + 2 * p.d1 * 256 then
      r.mot fun m => { (m.land s dt) with latched := latch }
    else
      let r := r.mot fun m => { (m.advance s s' dt (p.phaseOf s s')) with latched := latch }
      if (m.target * 65536 - r.ax.mot.xp) * dt < 0 then r.event 2 0x2006 0 else r

theorem AxRun.profileStep_eq (r : AxRun) (i : AxIn) : r.profileStep i = (r.profileInForce i).2.planned (r.profileInForce i).1 := rfl

section
variable {r : AxRun} {p : Profile}

theorem AxRun.planned_rests (rest : r.ax.mot.target * 65536 = r.ax.mot.xp ∧ r.ax.mot.vp = 0) :
    (r.planned p).ax.mot = { r.ax.mot with phase := .idle, aRef := 0, xRef := r.ax.mot.xWhole, vRef := 0 } := by
  unfold planned
  dsimp only
  rw [if_pos rest]
  rfl

/-- An axis that moves away from its target brakes. -/
theorem AxRun.planned_brakes (away : r.ax.mot.along < 0) : (r.planned p).ax.mot =
    r.ax.mot.advance r.ax.mot.along (p.retreat r.ax.mot.along) r.ax.mot.heading .away := by
  unfold planned
  dsimp only
  rw [if_neg (MotionSt.off_of_along away), if_pos away]
  rfl

/-- An axis on its way lands, or moves on. -/
theorem AxRun.planned_goes (way : ¬ (r.ax.mot.target * 65536 = r.ax.mot.xp ∧ r.ax.mot.vp = 0)) (toward : 0 ≤ r.ax.mot.along) :
    (∃ latch, (r.planned p).ax.mot = { (r.ax.mot.land r.ax.mot.along r.ax.mot.heading) with latched := latch }) ∨
    ∃ latch ph events, (r.planned p).ax.mot = { (r.ax.mot.advance r.ax.mot.along (p.approach r.ax.mot r.ax.mot.along r.ax.mot.ahead)
      r.ax.mot.heading ph) with latched := latch, events := events } := by
  unfold planned
  dsimp only
  rw [if_neg way, if_neg (Int.not_lt.2 toward)]
  split
  · exact .inl ⟨_, rfl⟩
  · split <;> exact .inr ⟨_, _, _, rfl⟩

/-- A tick in which the move ends is a landing (R203). -/
theorem AxRun.planned_lands (before : r.ax.mot.landed = false) (after : (r.planned p).ax.mot.landed = true) :
    ∃ s dt latch, (r.planned p).ax.mot = { (r.ax.mot.land s dt) with latched := latch } := by
  by_cases rest : r.ax.mot.target * 65536 = r.ax.mot.xp ∧ r.ax.mot.vp = 0
  · rw [planned_rests rest, before] at after
    exact absurd after Bool.false_ne_true
  · by_cases away : r.ax.mot.along < 0
    · rw [planned_brakes away] at after
      exact absurd (before.symm.trans after) Bool.false_ne_true
    · obtain ⟨latch, e⟩ | ⟨_, _, _, e⟩ := planned_goes (p := p) rest (Int.not_lt.1 away)
      · exact ⟨_, _, _, e⟩
      · rw [e] at after
        exact absurd (before.symm.trans after) Bool.false_ne_true

theorem AxRun.planned_target : (r.planned p).ax.mot.target = r.ax.mot.target := by
  by_cases rest : r.ax.mot.target * 65536 = r.ax.mot.xp ∧ r.ax.mot.vp = 0
  · rw [planned_rests rest]
  · by_cases away : r.ax.mot.along < 0
    · rw [planned_brakes away]
      rfl
    · obtain ⟨_, e⟩ | ⟨_, _, _, e⟩ := planned_goes (p := p) rest (Int.not_lt.1 away) <;> rw [e] <;> rfl

end

/-! ## Travel limits (R214) -/

section
variable (c : Cfg) (a : Nat) {m : MotionSt} (soft : Bool) (t : Int)

theorem limitTarget_neg (tripped : m.limNeg.active = true) : m.xWhole ≤ limitTarget c a m soft t := by
  unfold limitTarget
  simp only [tripped, Bool.true_and, decide_eq_true_eq]
  split <;> split <;> omega

theorem limitTarget_pos (tripped : m.limPos.active = true) : limitTarget c a m soft t ≤ m.xWhole := by
  unfold limitTarget
  simp only [tripped, Bool.true_and, decide_eq_true_eq]
  split <;> split <;> omega

end

end Sys2Proof.Machine

open Sys2Proof Sys2Proof.Machine

/-- Settles O47: each part of the engine and of the planner by the rule of its own. -/
theorem loopAndPlanner : Obligations.LoopAndPlanner := by
  unfold Obligations.LoopAndPlanner
  refine ⟨?direction, ?position, ?inner, ?planner, ?limits⟩
  case direction =>
    intro l vRef target xRef unit
    refine ⟨fun forth => ?_, fun back => ?_, fun rest above => ?_, fun rest below => ?_, fun rest there => ?_, fun same => ?_, fun turns => ?_⟩
    · rw [LoopSt.direction_dir, travel_moving (Int.ne_of_gt forth), sgn_pos forth]
    · rw [LoopSt.direction_dir, travel_moving (Int.ne_of_lt back), sgn_neg back]
    · rw [LoopSt.direction_dir, rest, travel_away (Int.ne_of_gt above), sgn_pos (Int.sub_pos_of_lt above)]
    · rw [LoopSt.direction_dir, rest, travel_away (Int.ne_of_lt below), sgn_neg (Int.sub_neg_of_lt below)]
    · rw [rest, there]
      exact LoopSt.direction_same travel_resting
    · exact LoopSt.direction_same (LoopSt.direction_dir.symm.trans same)
    · rw [LoopSt.direction_dir] at turns
      rw [LoopSt.direction_turns turns]
      exact ⟨travel_opposite unit turns, rfl, rfl, fun x => by cases x <;> exact ⟨rfl, rfl, rfl, rfl⟩, rfl, rfl, rfl⟩
  case position =>
    intro l p run xRef vRef
    refine ⟨rfl, fun held => if_neg (Bool.eq_false_iff.1 held), fun runs range => ?_⟩
    rw [runs]
    exact l.position_corrects p xRef vRef range
  case inner =>
    intro l p first vRef aRef fLim vCap range
    rw [LoopSt.inner_eq]
    obtain ⟨uPrev, sel, stale, handovers, dir⟩ := l.outputs_frame p first vRef aRef fLim vCap
    rw [← uPrev, ← sel, ← stale, ← handovers, ← dir]
    have clamped := l.outputs_i p first vRef aRef fLim vCap
    have limited := l.outputs_out p first vRef aRef fLim vCap
    have fits (f : Int) (low : -p.brakeMax ≤ f) (high : f ≤ min p.driveMax fLim) := satF_between low high
    generalize l.outputs p first vRef aRef fLim vCap = o at *
    generalize -p.brakeMax = lo, min p.driveMax fLim = hi at *
    have between := LoopSt.selected_i (p := p) range fun x => by rw [clamped x]; exact ⟨le_sat range, sat_le range⟩
    obtain ⟨low, high⟩ := LoopSt.selected_uPrev (l := o) (p := p) range
    refine ⟨low, high, rfl, fun x => ⟨(between x).1, (between x).2, ?_⟩, selectLoop o, rfl, LoopSt.selected_lowest, fun x other => ?_,
      LoopSt.selected_reseeded, fun kept stale => ?_, LoopSt.selected_handovers,
      fun reseeded low high => LoopSt.selected_carries rfl reseeded fits low high⟩
    · obtain ⟨u, out⟩ := limited x
      rw [LoopSt.selected_out, out]
      exact ⟨le_sat range, sat_le range⟩
    · rw [LoopSt.selected_other other, clamped]
    · rw [LoopSt.selected_stale kept stale, clamped]
  case planner =>
    intro r i
    rw [AxRun.profileStep_eq]
    obtain ⟨target, xp, vp, landed, latched⟩ := r.profileInForce_sameMove i
    dsimp only
    rw [← target, ← xp, ← vp, ← landed, ← latched]
    generalize (r.profileInForce i).1 = p, (r.profileInForce i).2 = q
    refine ⟨AxRun.planned_target, fun there rest => ?_, fun away => ?_, fun before after => ?_, fun before after toward off => ?_⟩
    · rw [AxRun.planned_rests ⟨there, rest⟩]
      exact ⟨rfl, rfl, rest, rfl, rfl⟩
    · rw [AxRun.planned_brakes away]
      exact ⟨rfl, (MotionSt.heading_cancel (MotionSt.off_of_along away) _).trans_le Profile.retreat_nonpos, rfl⟩
    · obtain ⟨s, dt, latch, e⟩ := AxRun.planned_lands before after
      rw [e]
      exact ⟨rfl, rfl, rfl, rfl, rfl, rfl⟩
    · have way : ¬ (q.ax.mot.target * 65536 = q.ax.mot.xp ∧ q.ax.mot.vp = 0) := fun rest => off rest.1
      obtain ⟨_, e⟩ | ⟨_, _, _, e⟩ := AxRun.planned_goes (p := p) way toward <;> rw [e] at after ⊢
      · exact absurd after.symm Bool.false_ne_true
      · exact Profile.approach_bound.imp_right fun ⟨stops, slows⟩ =>
          have speed := MotionSt.heading_cancel way _
          ⟨speed.trans_le stops, fun brakes moves => speed.trans_le (slows brakes moves)⟩
  case limits => exact fun c a m soft t => ⟨limitTarget_neg c a soft t, limitTarget_pos c a soft t⟩
end

section
/-! One operation on an axis while the levels are computed: what it makes of the axis, and what it leaves alone (R160). -/

namespace Sys2Proof.Machine
open Safety

/-- An operation has made `r` of axis `a`: the other axes stay, and the code raised first is told. -/
structure AxisMade (s t : State) (a : AxisId) (r : AxRun) : Prop where
  /-- The axis. -/
  here : t.axes[a] = r.ax
  /-- The other axes. -/
  others : Elsewhere a s.axes t.axes
  /-- The rest. -/
  changes : Changes [.axes] s t
  /-- No code, no queue. -/
  silent : r.ev = [] → Only [.axes] s t
  /-- The code. -/
  tells : ∀ c d, r.ev.getLast? = some (c, d) → c ≠ 0x4804 → Tells s t c a.val d

section
variable {s : State} {a : AxisId} {f : AxRun → AxIn → AxRun}

theorem State.onAxis_changes : Changes [.axes] s (s.onAxis a f) :=
  ((State.putAxis_only s a _).changes (by decide)).trans ((State.deliver_changes _ _).mono (List.nil_subset _))

theorem State.onAxis_made : AxisMade s (s.onAxis a f) a (f ⟨s.axes[a], []⟩ (s.axIn a)) where
  here := by rw [State.onAxis_axes]; exact Vector.getElem_set_self _
  others := fun j hj => by rw [State.onAxis_axes]; exact set_get_ne _ _ _ _ hj
  changes := State.onAxis_changes
  silent := fun none => by
    unfold State.onAxis
    simp only [none, List.map_nil, State.deliver_nil]
    exact State.putAxis_only s a _
  tells := fun c d first ne =>
    (State.deliver_tells_first _ _ ⟨c, a.val, d⟩ (by rw [List.getLast?_map, first]; rfl) ne).of rfl rfl

theorem State.onLevel_eq (running : s.unit.running = true) (computes : s.computes = true) : s.onLevel a f = s.onAxis a f :=
  State.live_pos running computes

theorem State.onLevel_made (running : s.unit.running = true) (computes : s.computes = true) :
    AxisMade s (s.onLevel a f) a (f ⟨s.axes[a], []⟩ (s.axIn a)) := by
  rw [State.onLevel_eq running computes]
  exact State.onAxis_made

/-- An operation that does nothing to its axis leaves the module as it is. -/
theorem State.onLevel_stays (stays : f ⟨s.axes[a], []⟩ (s.axIn a) = ⟨s.axes[a], []⟩) : s.onLevel a f = s := by
  have same : s.onAxis a f = s := by
    unfold State.onAxis
    dsimp only
    rw [stays, List.map_nil, State.deliver_nil]
    simp
  unfold State.onLevel State.live
  dsimp only
  rw [same, ite_self]

end

end Sys2Proof.Machine
end

section
/-! Targets, quick stops, homing failures and reactions of one axis: what each makes of the axis (R198, R199, R206, R215, R236 to R238). -/

namespace Sys2Proof.Machine

/-! ## A new target (R198, R199) -/

/-- The target that an axis takes for one that it is given. -/
def AxRun.newTarget (r : AxRun) (i : AxIn) (t : Int) (soft : Bool) : Int := satS 32 (limitTarget i.cfg i.a r.ax.mot soft t)

@[simp] theorem ObstSt.abandon_frame (o : ObstSt) (now : Tick) :
    (o.abandon now).total = o.total ∧ (o.abandon now).lastTick = o.lastTick ∧ (o.abandon now).lastX = o.lastX ∧
    (o.abandon now).confirmed = o.confirmed ∧ (o.abandon now).marked = o.marked := by
  unfold abandon
  split <;> exact ⟨rfl, rfl, rfl, rfl, rfl⟩

@[simp] theorem Axis.closingMove_frame (x : Axis) (t : Int) (now : Tick) :
    (x.closingMove t now).total = x.obst.total ∧ (x.closingMove t now).lastTick = x.obst.lastTick ∧
    (x.closingMove t now).lastX = x.obst.lastX ∧ (x.closingMove t now).confirmed = x.obst.confirmed ∧
    (x.closingMove t now).marked = x.obst.marked := by
  unfold closingMove
  dsimp only
  split <;> exact x.obst.abandon_frame now

section
variable (r : AxRun) (i : AxIn) (t : Int) (src : Source) (soft : Bool)

theorem AxRun.take_mot : (r.take i t src soft).ax.mot =
    { r.ax.mot with
      target := r.newTarget i t soft, source := src, replanned := true, atTarget := false, latched := false, deferral := none, used := none
      events := if r.newTarget i t soft = t then r.ax.mot.events else r.ax.mot.events ||| 2 } := by
  unfold take newTarget
  dsimp only
  split <;> rfl

/-- A target that the limits have changed raises TARGET_CLAMPED. -/
theorem AxRun.take_ev : (r.take i t src soft).ev = if r.newTarget i t soft = t then r.ev else (0x2005, 0) :: r.ev := by
  unfold take newTarget
  dsimp only
  split <;> rfl

@[simp] theorem AxRun.take_xMeas : (r.take i t src soft).ax.loop.xMeas = r.ax.loop.xMeas := by
  unfold take
  dsimp only
  split <;> rfl

@[simp] theorem AxRun.take_obst_frame :
    (r.take i t src soft).ax.obst.total = r.ax.obst.total ∧ (r.take i t src soft).ax.obst.lastTick = r.ax.obst.lastTick ∧
    (r.take i t src soft).ax.obst.lastX = r.ax.obst.lastX ∧ (r.take i t src soft).ax.obst.confirmed = r.ax.obst.confirmed ∧
    (r.take i t src soft).ax.obst.marked = r.ax.obst.marked := by
  unfold take
  dsimp only
  split <;> exact Axis.closingMove_frame _ _ _

end

/-- Where no travel limit has tripped, a homed axis clamps to its soft limits, and another takes the target as it is (R199). -/
theorem limitTarget_free (c : Cfg) (a : Nat) {m : MotionSt} (soft : Bool) (t : Int) (neg : m.limNeg.active = false)
    (pos : m.limPos.active = false) :
    limitTarget c a m soft t = if soft && m.home.homed then sat (c.v F.softMin a) (c.v F.softMax a) t else t := by
  simp [limitTarget, neg, pos]

theorem satS_word {x : Int} (low : -(2 ^ 31) ≤ x) (high : x < 2 ^ 31) : satS 32 x = x := sat_of_mem low (Int.le_sub_one_of_lt high)

section
variable {r : AxRun} {i : AxIn} {t : Int} (neg : r.ax.mot.limNeg.active = false) (pos : r.ax.mot.limPos.active = false)
include neg pos

theorem AxRun.newTarget_homed (homed : r.ax.mot.home.homed = true) (range : i.cfg.v F.softMin i.a ≤ i.cfg.v F.softMax i.a)
    (low : -(2 ^ 31) ≤ i.cfg.v F.softMin i.a) (high : i.cfg.v F.softMax i.a < 2 ^ 31) :
    r.newTarget i t true = sat (i.cfg.v F.softMin i.a) (i.cfg.v F.softMax i.a) t := by
  unfold newTarget
  rw [limitTarget_free _ _ _ _ neg pos, homed]
  exact satS_word (low.trans (le_sat range)) ((sat_le range).trans_lt high)

theorem AxRun.newTarget_unhomed (unhomed : r.ax.mot.home.homed = false) (low : -(2 ^ 31) ≤ t) (high : t < 2 ^ 31) :
    r.newTarget i t true = t := by
  unfold newTarget
  rw [limitTarget_free _ _ _ _ neg pos, unhomed]
  exact satS_word low high

end

end Sys2Proof.Machine

open Sys2Proof Sys2Proof.Machine

/-- Settles O10: a homed axis takes the target clamped to its soft limits, which differs from the one given exactly beyond one of them. -/
theorem targetsAreClamped : Obligations.TargetsAreClamped := by
  unfold Obligations.TargetsAreClamped
  intro r i t src
  dsimp only
  intro range low high tLow tHigh neg pos
  rw [r.take_ev, r.take_mot]
  refine ⟨fun homed => ?_, fun unhomed => ?_⟩
  · rw [AxRun.newTarget_homed neg pos homed range low high]
    refine ⟨le_sat range, sat_le range, sat_of_mem, fun below => if_pos below, fun above => ?_, fun l h => ?_, fun beyond => ?_⟩
    · exact (if_neg (by omega)).trans (if_pos above)
    · exact ⟨if_pos (sat_of_mem l h), if_pos (sat_of_mem l h)⟩
    · have changed : sat (i.cfg.v F.softMin i.a) (i.cfg.v F.softMax i.a) t ≠ t := fun same => by
        have := le_sat (x := t) range
        have := sat_le (x := t) range
        omega
      exact ⟨if_neg changed, if_neg changed⟩
  · have kept := AxRun.newTarget_unhomed (i := i) neg pos unhomed tLow tHigh
    exact ⟨kept, if_pos kept, if_pos kept⟩
end

section
/-! The ends of a move: landings, quick stops at rest, travel limits, the end of a reaction, hold (R203, R206, R214, R215, R223, R237, R244). -/

namespace Sys2Proof.Machine
open Safety

/-! ## A landing (R203, R237, R244) -/

theorem AxRun.homeLanding_idle {r : AxRun} (i : AxIn) (idle : r.ax.mot.home.phase = .none) : r.homeLanding i = r := by
  simp [homeLanding, idle]

theorem AxRun.reactionEnd_idle {r : AxRun} (idle : r.ax.mot.reaction = .none) : r.reactionEnd = r := by
  simp [reactionEnd, idle]

/-- The direction in which a move lands. -/
def MotionSt.landingWay (m : MotionSt) : Int := if m.target * 65536 = m.xp then sgn m.vp else sgn (m.target * 65536 - m.xp)

/-- The move lands, and nothing else. -/
def AxRun.lands (r : AxRun) : AxRun := r.mot fun m => m.land (m.vp * m.landingWay) m.landingWay

theorem AxRun.loop_ite (r : AxRun) (f : LoopSt → LoopSt) (b : Bool) : (if b then r.loop f else r) = r.loop (if b then f else id) := by
  cases b <;> rfl

/-- A landing of an axis that neither homes nor reacts ends the move, besides learning and the evaluation of a leaf. -/
theorem AxRun.moveLanded_eq {r : AxRun} (i : AxIn) (planned : r.ax.mot.planned = true) (home : r.ax.mot.home.phase = .none)
    (reaction : r.ax.mot.reaction = .none) : ∃ f, r.moveLanded i = (r.lands.loop f).evalStart i := by
  have alone : (r.lands.homeLanding i).reactionEnd = r.lands := by
    rw [homeLanding_idle i (r := r.lands) home, reactionEnd_idle (r := r.lands) reaction]
  have learns (q : AxRun) (e : (r.lands.homeLanding i).reactionEnd = q) : r.moveLanded i =
      (if i.cfg.v F.learnEnable i.a = 1 && q.ax.mot.landed then q.loop fun l => { l with learn := l.learn.land } else q).evalStart i := by
    subst e
    exact if_neg (by rw [planned]; exact Bool.false_ne_true)
  exact ⟨_, (learns _ alone).trans (congrArg (evalStart · i) (loop_ite _ _ _))⟩

section
variable (r : AxRun) (i : AxIn)

theorem AxRun.evalStart_mot : (r.evalStart i).ax.mot = r.ax.mot := by
  unfold evalStart
  split <;> rfl

theorem AxRun.evalStart_ev : (r.evalStart i).ev = r.ev := by
  unfold evalStart
  split <;> rfl

theorem AxRun.evalStart_eval (landed : r.ax.mot.landed = true) : (r.evalStart i).ax.obst.eval =
    if r.ax.obst.closing = true ∧ i.leaf = true ∧ i.cfg.kind i.a = 1 then .settle (msTicks (i.cfg.n F.closeSettle i.a)) else r.ax.obst.eval := by
  unfold evalStart
  simp only [landed, Bool.true_and, Bool.and_eq_true, decide_eq_true_eq, and_assoc]
  split <;> rfl

/-! ## Quick stops and homing failures (R206, R215) -/

@[simp] theorem AxRun.quickStop_frame :
    (r.quickStop i).ev = r.ev ∧ (r.quickStop i).ax.mot.home = r.ax.mot.home ∧ (r.quickStop i).ax.mot.limNeg = r.ax.mot.limNeg ∧
    (r.quickStop i).ax.mot.limPos = r.ax.mot.limPos ∧ (r.quickStop i).ax.mot.reaction = r.ax.mot.reaction ∧
    (r.quickStop i).ax.loop.xMeas = r.ax.loop.xMeas ∧ (r.quickStop i).ax.mot.qstop = true ∧ (r.quickStop i).ax.mot.phase = .qstop :=
  ⟨rfl, rfl, rfl, rfl, rfl, rfl, rfl, rfl⟩

@[simp] theorem AxRun.quickStop_obst_frame :
    (r.quickStop i).ax.obst.total = r.ax.obst.total ∧ (r.quickStop i).ax.obst.lastTick = r.ax.obst.lastTick ∧
    (r.quickStop i).ax.obst.lastX = r.ax.obst.lastX := by
  obtain ⟨total, tick, x, -, -⟩ := r.ax.obst.abandon_frame i.now
  exact ⟨total, tick, x⟩

/-- A homing that has failed with a RESULT. -/
def HomeSt.failedWith (h : HomeSt) (result : Nat) : HomeSt := { h with phase := .none, result := result, failed := true, homed := false }

@[simp] theorem AxRun.homeFail_frame (n : Nat) :
    (r.homeFail i n).ev = (0x2003, BitVec.ofNat 32 n) :: r.ev ∧ (r.homeFail i n).ax.mot.home = r.ax.mot.home.failedWith n ∧
    (r.homeFail i n).ax.mot.limNeg = r.ax.mot.limNeg ∧ (r.homeFail i n).ax.mot.limPos = r.ax.mot.limPos ∧
    (r.homeFail i n).ax.mot.reaction = r.ax.mot.reaction ∧ (r.homeFail i n).ax.mot.qstop = true :=
  ⟨rfl, rfl, rfl, rfl, rfl, rfl⟩

/-! ## Travel limits (R214) -/

variable (side : Int)

/-- A limit that trips on the way toward it fails a homing. -/
theorem AxRun.limitTrip_homing (along : r.ax.mot.travel = side) (homes : r.ax.mot.home.phase ≠ .none) : r.limitTrip i side = r.homeFail i 3 := by
  simp [limitTrip, along, homes]

/-- It stops a driven axis that does not home. -/
theorem AxRun.limitTrip_stops (along : r.ax.mot.travel = side) (home : r.ax.mot.home.phase = .none) (driven : r.ax.mot.driven = true)
    (free : r.ax.obst.confirmed = false) : r.limitTrip i side = (r.event 3 0x2004 0).quickStop i := by
  have notHoming : (decide (r.ax.mot.travel = side) && decide (r.ax.mot.home.phase ≠ .none)) = false := by simp [home]
  have stopped : (decide (r.ax.mot.travel = side) && r.ax.mot.driven && !r.ax.obst.confirmed) = true := by simp [along, driven, free]
  exact (if_neg (Bool.eq_false_iff.1 notHoming)).trans (if_pos stopped)

/-- Off the way it is reported alone. -/
theorem AxRun.limitTrip_reports (off : r.ax.mot.travel ≠ side) : r.limitTrip i side = r.event 3 0x2004 0 := by
  simp [limitTrip, off]

theorem AxRun.limitTrip_limits : (r.limitTrip i side).ax.mot.limNeg = r.ax.mot.limNeg ∧ (r.limitTrip i side).ax.mot.limPos = r.ax.mot.limPos := by
  unfold limitTrip
  dsimp only
  split
  · exact ⟨rfl, rfl⟩
  · split <;> exact ⟨rfl, rfl⟩

end

/-- The input of one travel limit. -/
def MotionSt.limit (m : MotionSt) : Bool → Debounce
  | true => m.limPos
  | false => m.limNeg

/-- The direction of travel toward a limit. -/
def limitSide : Bool → Int
  | true => 1
  | false => -1

/-- The input of a travel limit accepted as active at the measured position. -/
def AxRun.limitActive (r : AxRun) (positive : Bool) : AxRun :=
  r.mot fun m => match positive with
    | true => { m with limPos := ⟨true, 0, r.ax.loop.xMeas⟩ }
    | false => { m with limNeg := ⟨true, 0, r.ax.loop.xMeas⟩ }

section
variable {r : AxRun} (i : AxIn) {positive : Bool}

theorem AxRun.limitEvent_trips (inactive : (r.ax.mot.limit positive).active = false) :
    r.limitEvent i positive = (r.limitActive positive).limitTrip i (limitSide positive) := by
  cases positive <;> exact if_neg (Bool.eq_false_iff.1 inactive)

@[simp] theorem AxRun.limitActive_frame :
    (r.limitActive positive).ev = r.ev ∧ (r.limitActive positive).ax.mot.travel = r.ax.mot.travel ∧
    (r.limitActive positive).ax.mot.home = r.ax.mot.home ∧ (r.limitActive positive).ax.mot.driven = r.ax.mot.driven ∧
    (r.limitActive positive).ax.mot.qstop = r.ax.mot.qstop ∧ (r.limitActive positive).ax.obst = r.ax.obst := by
  cases positive <;> exact ⟨rfl, rfl, rfl, rfl, rfl, rfl⟩

theorem AxRun.limitTrip_active (side : Int) : (((r.limitActive positive).limitTrip i side).ax.mot.limit positive).active = true := by
  obtain ⟨neg, pos⟩ := (r.limitActive positive).limitTrip_limits i side
  cases positive
  · exact congrArg Debounce.active neg
  · exact congrArg Debounce.active pos

end

/-- TRAVEL_LIMIT at either limit (R214). -/
structure LimitTrips (s t : State) (a : AxisId) (positive : Bool) : Prop where
  /-- The input. -/
  active : ((t.axes[a]).mot.limit positive).active = true
  /-- The other axes. -/
  others : Elsewhere a s.axes t.axes
  /-- The rest. -/
  changes : Changes [.axes] s t
  /-- Off the way. -/
  reports : (s.axes[a]).mot.travel ≠ limitSide positive → (t.axes[a]).mot.qstop = (s.axes[a]).mot.qstop ∧ Tells s t 0x2004 a.val 0
  /-- On the way. -/
  stops : (s.axes[a]).mot.travel = limitSide positive → (s.axes[a]).mot.home.phase = .none → (s.axes[a]).mot.driven = true →
    (s.axes[a]).obst.confirmed = false → (t.axes[a]).mot.qstop = true ∧ (t.axes[a]).mot.phase = .qstop ∧ Tells s t 0x2004 a.val 0
  /-- On the way of a homing. -/
  fails : (s.axes[a]).mot.travel = limitSide positive → (s.axes[a]).mot.home.phase ≠ .none →
    (t.axes[a]).mot.home.result = 3 ∧ (t.axes[a]).mot.home.phase = .none ∧ (t.axes[a]).mot.qstop = true ∧ Tells s t 0x2003 a.val 3

theorem State.travelLimit_trips {s : State} {a : AxisId} {positive : Bool} (running : s.unit.running = true) (computes : s.computes = true)
    (inactive : ((s.axes[a]).mot.limit positive).active = false) :
    LimitTrips s (s.onLevel a fun r i => r.limitEvent i positive) a positive := by
  have made := State.onLevel_made (a := a) (f := fun r i => r.limitEvent i positive) running computes
  rw [AxRun.limitEvent_trips _ inactive] at made
  obtain ⟨ev, travel, home, driven, qstop, obst⟩ := AxRun.limitActive_frame (r := ⟨s.axes[a], []⟩) (positive := positive)
  refine ⟨?active, made.others, made.changes, fun off => ?reports, fun along idle drives free => ?stops, fun along homes => ?fails⟩
  case active =>
    rw [made.here]
    exact AxRun.limitTrip_active _ _
  case reports =>
    rw [AxRun.limitTrip_reports _ _ _ (travel ▸ off)] at made
    exact ⟨made.here ▸ qstop, made.tells _ _ (by rw [AxRun.event, ev]; rfl) (by decide)⟩
  case stops =>
    rw [AxRun.limitTrip_stops _ _ _ (travel ▸ along) (home ▸ idle) (driven ▸ drives) (obst ▸ free)] at made
    exact ⟨made.here ▸ rfl, made.here ▸ rfl, made.tells _ _ (by rw [(AxRun.quickStop_frame _ _).1, AxRun.event, ev]; rfl) (by decide)⟩
  case fails =>
    rw [AxRun.limitTrip_homing _ _ _ (travel ▸ along) (home ▸ homes)] at made
    exact ⟨made.here ▸ rfl, made.here ▸ rfl, made.here ▸ rfl, made.tells _ _ (by rw [(AxRun.homeFail_frame _ _ _).1, ev]; rfl) (by decide)⟩

/-! ## Rest and hold (R206, R223) -/

theorem MotionSt.quickRest_eq {m : MotionSt} (stops : m.qstop = true) : m.quickRest =
    { m with xp := rdiv m.xp 65536 * 65536, vp := 0, target := rdiv m.xp 65536, xRef := satS 32 (rdiv m.xp 65536), vRef := 0
             qstop := false, phase := .idle, reaction := .none, braking := false } := if_pos stops

theorem AxRun.holdEvent_holds {r : AxRun} {i : AxIn} (kind : i.cfg.kind i.a = 2) (driven : r.ax.mot.driven = true) (rests : r.ax.mot.rests = true) :
    r.holdEvent i = r.mot MotionSt.hold := if_pos (by simp [kind, driven, rests])

theorem AxRun.holdEvent_moves {r : AxRun} {i : AxIn} (moves : r.ax.mot.rests = false) : r.holdEvent i = r := if_neg (by simp [moves])

end Sys2Proof.Machine

open Sys2Proof Sys2Proof.Machine

/-- Settles O37: each row is one operation on its axis, at once; only the limits raise a code. -/
theorem movesEnd : Obligations.MovesEnd := by
  unfold Obligations.MovesEnd
  intro s a running computes
  have made (f : AxRun → AxIn → AxRun) := State.onLevel_made (a := a) (f := f) running computes
  refine ⟨fun planned home reaction => ?landed, fun stops => ?rest, fun inactive => ?pos, fun inactive => ?neg, ?reaction,
    fun kind driven rests => ?hold, fun moves => ?moving⟩
  case landed =>
    obtain ⟨f, eq⟩ := AxRun.moveLanded_eq (r := ⟨s.axes[a], []⟩) (s.axIn a) planned home reaction
    have made := made AxRun.moveLanded
    rw [eq] at made
    refine ⟨_, rfl, ?_, ?_, made.others, made.silent (AxRun.evalStart_ev _ _)⟩
    · rw [made.here]
      exact AxRun.evalStart_mot _ _
    · rw [made.here]
      exact AxRun.evalStart_eval _ _ rfl
  case rest =>
    have made := made fun r _ => r.mot fun m => { m.quickRest with aRef := if m.qstop then 0 else m.aRef }
    refine ⟨_, rfl, ?_, made.others, made.silent rfl⟩
    rw [made.here]
    simp only [AxRun.mot, MotionSt.quickRest_eq stops, stops, if_true]
  case pos =>
    obtain ⟨active, others, changes, reports, stops, fails⟩ := State.travelLimit_trips (positive := true) running computes inactive
    exact ⟨_, rfl, active, others, changes, reports, stops, fails⟩
  case neg =>
    obtain ⟨active, others, changes, -, stops, -⟩ := State.travelLimit_trips (positive := false) running computes inactive
    exact ⟨_, rfl, active, others, changes, stops⟩
  case reaction =>
    have made := made fun r _ => r.brakingEnd
    exact ⟨_, rfl, made.here, made.others, made.silent rfl⟩
  case hold =>
    have made := made AxRun.holdEvent
    rw [AxRun.holdEvent_holds kind driven rests] at made
    exact ⟨_, rfl, made.here, made.others, made.silent rfl⟩
  case moving => exact congrArg Host.Outcome.next (State.onLevel_stays (AxRun.holdEvent_moves moves))
end

section
/-! Homing: what a found reference, chatter and time-out make of the axis (R210, R211, R213, R215). -/

namespace Sys2Proof.Machine

section
variable {r : AxRun} (i : AxIn) (x : Int)

/-! ## The found position (R210, R211) -/

/-- A homing whose reference is found at a position: every position is shifted by what makes that position HOME_POS. -/
def HomeSt.foundAt (h : HomeSt) (i : AxIn) (x : Int) (ph : HomePhase) : HomeSt :=
  { h with phase := ph, found := x, offset := satS 32 (h.offset + (i.cfg.v F.homePos i.a - x)) }

/-- A search stops on its reference. -/
theorem AxRun.homeFound_stops (search : r.ax.mot.home.phase ≠ .push) :
    (r.homeFound i x).ax.mot.home = r.ax.mot.home.foundAt i x .stopping ∧ (r.homeFound i x).ax.mot.qstop = true ∧
    (r.homeFound i x).ax.loop.xMeas = satS 32 (r.ax.loop.xMeas + (i.cfg.v F.homePos i.a - x)) ∧ (r.homeFound i x).ev = r.ev := by
  unfold homeFound
  dsimp only
  rw [if_neg (by simpa using search)]
  exact ⟨rfl, rfl, rfl, rfl⟩

/-- A push rests on its reference and backs off. -/
theorem AxRun.homeFound_backs (push : r.ax.mot.home.phase = .push) :
    (r.homeFound i x).ax.mot.home = r.ax.mot.home.foundAt i x .backoff ∧ (r.homeFound i x).ax.mot.vp = 0 := by
  unfold homeFound
  dsimp only
  rw [if_pos (by simpa using push), take_mot]
  exact ⟨rfl, rfl⟩

theorem AxRun.homeAbsolute_home : (r.homeAbsolute i).ax.mot.home =
    { r.ax.mot.home with
      phase := .none, homed := true, result := 1
      offset := satS 32 (r.ax.mot.home.offset + (i.cfg.v F.homePos i.a - r.ax.mot.home.offset)) } := rfl

/-- At the switch of SWITCH_INDEX the search goes on toward the index. -/
theorem AxRun.switchFound_goesOn (method : i.cfg.n F.homeMethod i.a = 4) :
    (r.switchFound i x).ax.mot.home = { r.ax.mot.home with phase := .index, switchTick := some i.now } ∧
    (r.switchFound i x).ax.mot.source = .homing ∧ (r.switchFound i x).ax.loop.xMeas = r.ax.loop.xMeas := by
  unfold switchFound homeLegFrom
  rw [if_pos method, take_mot, take_xMeas]
  exact ⟨rfl, rfl, rfl⟩

/-! ## The rows of HOME_POSITION_FOUND (R211) -/

/-- Where a search takes a found position as its reference: at the switch by a method without an index, and at the index but in the
tick of the switch. -/
theorem AxRun.positionFound_search (first : r.ax.mot.home.first = false)
    (search : r.ax.mot.home.phase = .toward ∧ i.cfg.n F.homeMethod i.a ≠ 4 ∨ r.ax.mot.home.phase = .index ∧ r.ax.mot.home.switchTick ≠ some i.now) :
    r.positionFound i x = r.homeFound i x := by
  obtain ⟨phase, method⟩ | ⟨phase, tick⟩ := search
  · simp [positionFound, first, phase, switchFound, method]
  · simp [positionFound, first, phase, tick]

theorem AxRun.positionFound_switch (first : r.ax.mot.home.first = false) (phase : r.ax.mot.home.phase = .toward) :
    r.positionFound i x = r.switchFound i x := by
  simp [positionFound, first, phase]

theorem AxRun.positionFound_push (first : r.ax.mot.home.first = false) (phase : r.ax.mot.home.phase = .push) :
    r.positionFound i x = r.homeFound i x := by
  simp [positionFound, first, phase]

theorem AxRun.positionFound_absolute (first : r.ax.mot.home.first = false) (phase : r.ax.mot.home.phase = .absolute)
    (encoder : i.cfg.kind i.a ≠ 2 ∨ i.cfg.v F.stepEncoder i.a ≠ 0) : r.positionFound i x = r.homeAbsolute i := by
  have encoderless : i.encoderless = false := by
    obtain kind | encoder := encoder
    · simp [AxIn.encoderless, kind]
    · simp [AxIn.encoderless, encoder]
  simp [positionFound, first, phase, encoderless]

/-- In every other phase a position counts for nothing. -/
theorem AxRun.positionFound_ignored (phase : r.ax.mot.home.phase = .none ∨ r.ax.mot.home.phase = .away ∨ r.ax.mot.home.phase = .stopping ∨
    r.ax.mot.home.phase = .backoff ∨ r.ax.mot.home.phase = .index ∧ r.ax.mot.home.switchTick = some i.now) : r.positionFound i x = r := by
  obtain phase | phase | phase | phase | ⟨phase, tick⟩ := phase
  case inr.inr.inr.inr => simp [positionFound, phase, tick]
  all_goals simp [positionFound, phase]

end

/-! ## Failures (R213, R215) -/

theorem AxRun.homingFails_idle {r : AxRun} (i : AxIn) (n : Nat) (idle : r.ax.mot.home.phase = .none) : r.homingFails i n = r :=
  if_pos (beq_iff_eq.2 idle)

theorem AxRun.homingFails_homes {r : AxRun} (i : AxIn) (n : Nat) (homes : r.ax.mot.home.phase ≠ .none) : r.homingFails i n = r.homeFail i n :=
  if_neg fun idle => homes (beq_iff_eq.1 idle)

/-- A homing that fails between compute phases stops its axis and tells its RESULT. -/
theorem State.homingFails_made {s : State} {a : AxisId} (n : Nat) (running : s.unit.running = true) (computes : s.computes = true)
    (homes : (s.axes[a]).mot.home.phase ≠ .none) : AxisMade s (s.onLevel a fun r i => r.homingFails i n) a
      ((⟨s.axes[a], []⟩ : AxRun).homeFail (s.axIn a) n) := by
  have made := State.onLevel_made (a := a) (f := fun r i => r.homingFails i n) running computes
  rwa [AxRun.homingFails_homes _ n homes] at made

end Sys2Proof.Machine

open Sys2Proof Sys2Proof.Machine

/-- Settles O38: a found position acts by the phase of the homing; a failure stops the axis with its RESULT. -/
theorem homingEvents : Obligations.HomingEvents := by
  unfold Obligations.HomingEvents
  intro s a running computes
  refine ⟨fun x first => ⟨fun search => ?search, fun phase method => ?switch, fun phase => ?push, fun phase encoder => ?absolute, fun phase => ?ignored⟩,
    fun x idle => ?idle, fun homes => ⟨?chatter, ?timeout⟩, fun idle => ⟨?noChatter, ?noTimeout⟩⟩
  case search =>
    have made := State.onLevel_made (a := a) (f := fun r i => r.positionFound i x) running computes
    rw [AxRun.positionFound_search _ _ first search] at made
    have notPush : (s.axes[a]).mot.home.phase ≠ .push := by
      obtain ⟨phase, -⟩ | ⟨phase, -⟩ := search <;> rw [phase] <;> decide
    obtain ⟨home, qstop, xMeas, ev⟩ := AxRun.homeFound_stops (r := ⟨s.axes[a], []⟩) (s.axIn a) x notPush
    refine ⟨_, rfl, ?_, ?_, ?_, made.here ▸ qstop, made.here ▸ xMeas, made.others, made.silent ev⟩ <;> rw [made.here, home] <;> rfl
  case switch =>
    have made := State.onLevel_made (a := a) (f := fun r i => r.positionFound i x) running computes
    rw [AxRun.positionFound_switch _ _ first phase] at made
    obtain ⟨home, source, xMeas⟩ := AxRun.switchFound_goesOn (r := ⟨s.axes[a], []⟩) (s.axIn a) x method
    exact ⟨_, rfl, made.here ▸ home, made.here ▸ source, made.here ▸ xMeas, made.others, made.changes⟩
  case push =>
    have made := State.onLevel_made (a := a) (f := fun r i => r.positionFound i x) running computes
    rw [AxRun.positionFound_push _ _ first phase] at made
    obtain ⟨home, vp⟩ := AxRun.homeFound_backs (r := ⟨s.axes[a], []⟩) (s.axIn a) x phase
    refine ⟨_, rfl, ?_, ?_, ?_, made.here ▸ vp, made.others, made.changes⟩ <;> rw [made.here, home] <;> rfl
  case absolute =>
    have made := State.onLevel_made (a := a) (f := fun r i => r.positionFound i x) running computes
    rw [AxRun.positionFound_absolute _ _ first phase encoder] at made
    refine ⟨_, rfl, ?_, ?_, ?_, ?_, made.others, made.silent rfl⟩ <;> rw [made.here, AxRun.homeAbsolute_home]
    exact congrArg (satS 32) (add_sub_cancel _ _)
  case ignored => exact congrArg Host.Outcome.next (State.onLevel_stays (AxRun.positionFound_ignored _ x (.inr phase)))
  case idle => exact congrArg Host.Outcome.next (State.onLevel_stays (AxRun.positionFound_ignored _ x (.inl idle)))
  case chatter =>
    have made := State.homingFails_made 2 running computes homes
    exact ⟨_, rfl, made.here ▸ rfl, made.here ▸ rfl, made.tells _ _ rfl (by decide), made.others, made.changes⟩
  case timeout =>
    have made := State.homingFails_made 5 running computes homes
    exact ⟨_, rfl, made.here ▸ rfl, made.here ▸ rfl, made.tells _ _ rfl (by decide), made.others, made.changes⟩
  case noChatter => exact congrArg Host.Outcome.next (State.onLevel_stays (AxRun.homingFails_idle _ 2 idle))
  case noTimeout => exact congrArg Host.Outcome.next (State.onLevel_stays (AxRun.homingFails_idle _ 5 idle))
end

section
/-! Obstacles, siblings and stalls of one axis: what each makes of the axis (R225, R235, R236, R238). -/

namespace Sys2Proof.Machine

/-! ## The reaction (R236 to R238) -/

/-- The codes of a run are those of a later one but for the newest. -/
theorem AxRun.take_suffix (r : AxRun) (i : AxIn) (t : Int) (src : Source) (soft : Bool) : r.ev <:+ (r.take i t src soft).ev := by
  rw [take_ev]
  split
  · exact List.suffix_refl _
  · exact List.suffix_cons _ _

/-- A homing that fails where it is one. -/
theorem AxRun.failing_frame (q : AxRun) (homing : Bool) (n : Nat) :
    (if homing then q.homeFailCode n else q).ax.mot.reaction = q.ax.mot.reaction ∧ (if homing then q.homeFailCode n else q).ax.obst = q.ax.obst ∧
    q.ev <:+ (if homing then q.homeFailCode n else q).ev := by
  cases homing
  · exact ⟨rfl, rfl, List.suffix_refl _⟩
  · exact ⟨rfl, rfl, List.suffix_cons _ _⟩

section
variable (r : AxRun) (i : AxIn) (sibling : Bool) (n : Nat)

theorem AxRun.react_reaction : (r.react i sibling n).ax.mot.reaction =
    if sibling then .sibling else if r.ax.loop.dir = 1 then .stop else .reverse := by
  refine (AxRun.failing_frame _ _ n).1.trans ((congrArg MotionSt.reaction (take_mot _ _ _ _ _)).trans ?_)
  cases sibling
  · simp [AxRun.mot]
  · rfl

theorem AxRun.react_obst :
    (r.react i sibling n).ax.obst.total = r.ax.obst.total ∧ (r.react i sibling n).ax.obst.lastTick = r.ax.obst.lastTick ∧
    (r.react i sibling n).ax.obst.lastX = r.ax.obst.lastX ∧ (r.react i sibling n).ax.obst.confirmed = r.ax.obst.confirmed := by
  have kept : (r.react i sibling n).ax.obst = _ := (AxRun.failing_frame _ _ n).2.1
  rw [kept]
  obtain ⟨total, tick, x, confirmed, -⟩ := take_obst_frame (AxRun.mot r _) i _ .planner true
  exact ⟨total, tick, x, confirmed⟩

theorem AxRun.react_suffix : r.ev <:+ (r.react i sibling n).ev :=
  (take_suffix (AxRun.mot r _) i _ .planner true).trans (show _ <:+ (r.react i sibling n).ev from (AxRun.failing_frame (AxRun.loop (AxRun.take _ i _ .planner true) _) _ n).2.2)

/-! ## A confirmed obstacle (R235) -/

variable {r i}

/-- A confirmation on a driven force axis that is neither reacting nor marked: its place is kept, it is counted, told first, and answered. -/
theorem AxRun.obstacleEvent_confirms (kind : i.cfg.kind i.a = 1) (driven : r.ax.mot.driven = true) (reaction : r.ax.mot.reaction = .none)
    (unmarked : r.ax.obst.marked = false) :
    (r.obstacleEvent i).ax.mot.reaction = (if r.ax.loop.dir = 1 then .stop else .reverse) ∧
    (r.obstacleEvent i).ax.obst.total = satN (r.ax.obst.total + 1) 32 ∧ (r.obstacleEvent i).ax.obst.lastTick = i.now ∧
    (r.obstacleEvent i).ax.obst.lastX = r.ax.loop.xMeas ∧ (r.obstacleEvent i).ax.obst.confirmed = true ∧
    (0x2001, 0) :: r.ev <:+ (r.obstacleEvent i).ev := by
  have reacts : r.obstacleEvent i = ((r.confirm i).mot fun m => { m with qbrake := m.qstop }).react i false 7 :=
    if_pos (by simp [kind, driven, reaction, unmarked])
  rw [reacts, react_reaction]
  obtain ⟨total, tick, x, confirmed⟩ := ((r.confirm i).mot fun m => { m with qbrake := m.qstop }).react_obst i false 7
  exact ⟨rfl, total, tick, x, confirmed, ((r.confirm i).mot fun m => { m with qbrake := m.qstop }).react_suffix i false 7⟩

/-! ## A marked leaf (R238) -/

theorem AxRun.reverseMarked_unmarked (unmarked : r.ax.obst.marked = false) : r.reverseMarked i = r :=
  if_neg (by simp [unmarked])

theorem AxRun.reverseMarked_reverses (marked : r.ax.obst.marked = true) (driven : r.ax.mot.driven = true) (reaction : r.ax.mot.reaction = .none) :
    (r.reverseMarked i).ax.mot.reaction = .sibling ∧ (r.reverseMarked i).ax.obst.marked = false := by
  have reacts : r.reverseMarked i = ((r.mot fun m => { m with qbrake := m.qstop }).react i true 7).obst fun o => { o with marked := false } :=
    if_pos (by simp [marked, driven, reaction])
  rw [reacts]
  exact ⟨react_reaction _ i true 7, rfl⟩

/-! ## A stall (R225) -/

theorem AxRun.stallEvent_stalls (kind : i.cfg.kind i.a = 2) (encoder : i.cfg.v F.stepEncoder i.a = 1) (driven : r.ax.mot.driven = true)
    (home : r.ax.mot.home.phase = .none) : r.stalls i = true ∧ r.stallEvent i = r.stall i := by
  have stalls : r.stalls i = true := by simp [AxRun.stalls, kind, encoder, driven]
  refine ⟨stalls, ?_⟩
  simp [stallEvent, stalls, home]

end

end Sys2Proof.Machine
end

section
/-! What a doorway's sequencer leaves of an axis that reacts to an obstacle or has stalled (R241, R266, R271, R279). -/

namespace Sys2Proof.Machine

/-- The motion keeps its reaction, and outside a homing its place, target and phase. -/
structure MotionSt.SameCourse (m n : MotionSt) : Prop where
  /-- The reaction. -/
  reaction : n.reaction = m.reaction
  /-- Place, target and phase. -/
  rest : m.home.phase = .none → n.home.phase = .none ∧ n.xp = m.xp ∧ n.vp = m.vp ∧ n.target = m.target ∧ n.phase = m.phase

/-- The axis keeps its course and what it has recorded of obstacles. -/
structure Axis.SameCourse (x y : Axis) : Prop where
  /-- Motion. -/
  mot : x.mot.SameCourse y.mot
  /-- Obstacles. -/
  total : y.obst.total = x.obst.total
  /-- Tick of the last one. -/
  lastTick : y.obst.lastTick = x.obst.lastTick
  /-- Place of the last one. -/
  lastX : y.obst.lastX = x.obst.lastX

theorem MotionSt.SameCourse.refl (m : MotionSt) : m.SameCourse m := ⟨rfl, fun idle => ⟨idle, rfl, rfl, rfl, rfl⟩⟩

theorem MotionSt.SameCourse.trans {m n p : MotionSt} (h : m.SameCourse n) (g : n.SameCourse p) : m.SameCourse p where
  reaction := g.reaction.trans h.reaction
  rest idle := by
    obtain ⟨idle', xp, vp, target, phase⟩ := h.rest idle
    obtain ⟨idle'', xp', vp', target', phase'⟩ := g.rest idle'
    exact ⟨idle'', xp'.trans xp, vp'.trans vp, target'.trans target, phase'.trans phase⟩

theorem Axis.SameCourse.refl (x : Axis) : x.SameCourse x := ⟨.refl _, rfl, rfl, rfl⟩

theorem Axis.SameCourse.trans {x y z : Axis} (h : x.SameCourse y) (g : y.SameCourse z) : x.SameCourse z :=
  ⟨h.mot.trans g.mot, g.total.trans h.total, g.lastTick.trans h.lastTick, g.lastX.trans h.lastX⟩

/-- A target that is set waits: the axis keeps its course. -/
theorem MotionSt.setTarget_course (m : MotionSt) (t : Int) (now : Tick) : m.SameCourse (m.setTarget t now) := by
  unfold setTarget
  split
  · exact .refl m
  · exact ⟨rfl, fun idle => ⟨idle, rfl, rfl, rfl, rfl⟩⟩

/-- A homing that fails keeps the reaction. -/
theorem AxRun.homeFail_course {r : AxRun} (i : AxIn) (n : Nat) (homes : r.ax.mot.home.phase ≠ .none) : r.ax.SameCourse (r.homeFail i n).ax := by
  obtain ⟨total, tick, x⟩ := r.quickStop_obst_frame i
  exact ⟨⟨rfl, fun idle => absurd idle homes⟩, total, tick, x⟩

/-- All axes keep their course from one run of a doorway to another. -/
def DoorRun.SameCourse (r q : DoorRun) : Prop := ∀ a : AxisId, (r.axes[a]).SameCourse (q.axes[a])

namespace DoorRun
variable {r q p : DoorRun} (i : DoorIn)

theorem SameCourse.of_axes (h : q.axes = r.axes) : r.SameCourse q := fun a => by rw [h]; exact .refl _

theorem SameCourse.refl (r : DoorRun) : r.SameCourse r := .of_axes rfl

theorem SameCourse.trans (h : r.SameCourse q) (g : q.SameCourse p) : r.SameCourse p := fun a => (h a).trans (g a)

theorem SameCourse.foldl {α : Type} {f : DoorRun → α → DoorRun} (h : ∀ (r : DoorRun) (x : α), r.SameCourse (f r x)) (l : List α) (r : DoorRun) :
    r.SameCourse (l.foldl f r) := by
  induction l generalizing r with
  | nil => exact .refl r
  | cons x l ih => exact (h r x).trans (ih _)

theorem SameCourse.upd (h : r.SameCourse q) (f : Door → Door) : r.SameCourse (q.upd f) := h.trans (.of_axes rfl)

theorem SameCourse.event (h : r.SameCourse q) (bitNo : Nat) (code : Code) (detail : Word) : r.SameCourse (q.event i bitNo code detail) :=
  h.trans (.of_axes rfl)

theorem SameCourse.byEvent (h : r.SameCourse q) : r.SameCourse q.byEvent := h.upd _

/-- A choice of two runs. -/
theorem SameCourse.ite {c : Prop} [Decidable c] (h : r.SameCourse q) (g : r.SameCourse p) : r.SameCourse (if c then q else p) := by
  split <;> assumption

theorem set_course {a : AxisId} {x : Axis} {w : Door} {ev : List Raised} (h : (r.axes[a]).SameCourse x) : r.SameCourse ⟨w, r.axes.set a x, ev⟩ := by
  intro b
  by_cases e : b = a
  · subst e
    rw [show (r.axes.set b x)[b] = x from Vector.getElem_set_self _]
    exact h
  · dsimp only
    rw [set_get_ne r.axes a b x e]
    exact .refl _

/-! ## One axis -/

theorem mot_course {a : AxisId} {f : MotionSt → MotionSt} (h : (r.axes[a]).mot.SameCourse (f (r.axes[a]).mot)) : r.SameCourse (r.mot a f) :=
  set_course ⟨h, rfl, rfl, rfl⟩

variable (r)

theorem target_course (a : AxisId) (t : Int) : r.SameCourse (r.target i a t) := mot_course (MotionSt.setTarget_course _ _ _)

theorem stopAxis_course (a : AxisId) : r.SameCourse (r.stopAxis i a) := .ite (target_course r i a _) (.refl r)

theorem mark_course (a : AxisId) : r.SameCourse (r.obst a fun o => { o with marked := true }) := set_course ⟨.refl _, rfl, rfl, rfl⟩

theorem follow_course (on : Bool) : r.SameCourse (r.follow i on) := by
  unfold follow
  split
  · exact .refl r
  · exact mot_course ⟨rfl, fun idle => ⟨idle, rfl, rfl, rfl, rfl⟩⟩

/-! ## The doorway (R241, R266, R279) -/

theorem stopAll_course : r.SameCourse (r.stopAll i) := .foldl (fun r a => stopAxis_course r i a) _ r

theorem abortHoming_course : r.SameCourse (r.abortHoming i) := by
  refine (SameCourse.foldl (fun r a => ?_) (axesOf i.cfg i.d) r).upd _
  split
  · exact .refl r
  · next homes => exact set_course (AxRun.homeFail_course (r := ⟨r.axes[a], []⟩) _ 8 fun idle => homes (beq_iff_eq.2 idle))

theorem jogEnd_course : r.SameCourse (r.jogEnd i) := by
  unfold jogEnd
  split
  · exact .refl r
  · refine SameCourse.upd ?_ _
    split
    · exact .refl r
    · exact (SameCourse.ite (stopAxis_course r i _) (.refl r)).trans (mot_course ⟨rfl, fun idle => ⟨idle, rfl, rfl, rfl, rfl⟩⟩)

theorem goto_course (st : DoorState) : r.SameCourse (r.goto i st) := (jogEnd_course r i).upd _

theorem reopenTargets_course : r.SameCourse (r.reopenTargets i) := by
  refine SameCourse.foldl (fun r k => ?_) _ r
  split
  · exact (SameCourse.refl r).upd _
  · exact .ite ((target_course r i _ _).upd _) (.refl r)

theorem enterReopening_course : r.SameCourse (r.enterReopening i) := by
  unfold enterReopening
  exact (((goto_course r i _).trans (follow_course _ i false)).upd _).trans (reopenTargets_course _ i)

theorem enterFault_course (cause : Code) : r.SameCourse (r.enterFault i cause) := by
  unfold enterFault
  exact (((((abortHoming_course r i).trans (goto_course _ i _)).trans (follow_course _ i false)).trans (stopAll_course _ i)).upd _).event i _ _ _

theorem stepStopped_course : r.SameCourse (r.stepStopped i) := by
  unfold stepStopped
  refine ((SameCourse.foldl (fun r a => ?_) _ r).upd _).event i _ _ _
  exact mot_course ⟨rfl, fun idle => ⟨idle, rfl, rfl, rfl, rfl⟩⟩

theorem stoppedShort_course (k : Nat) : r.SameCourse (r.stoppedShort k) := (SameCourse.refl r).upd _

theorem markSiblings_course : r.SameCourse (r.markSiblings i) :=
  .ite (.foldl (fun r a => .ite (mark_course r a) (.refl r)) _ r) (.refl r)

theorem obstacle_course (k : Nat) : r.SameCourse (r.obstacle i k) := by
  unfold obstacle
  refine .ite (jogEnd_course r i) ?_
  split
  · exact .ite (((SameCourse.refl r).upd _).trans (enterReopening_course _ i)).byEvent (.refl r)
  · exact .ite (stoppedShort_course r k) (.refl r)
  · exact .ite (stepStopped_course r i) (.refl r)
  · exact .ite (stepStopped_course r i) (.refl r)
  · exact .ite (stoppedShort_course r k) (.refl r)
  · exact .ite (enterFault_course r i _).byEvent (.refl r)
  · exact .refl r

theorem stall_course (k : Nat) : r.SameCourse (r.stall i k) := by
  unfold stall
  split
  · exact .ite (stepStopped_course r i) (.refl r)
  · exact .ite (stoppedShort_course r k) (.refl r)
  · exact .ite (enterFault_course r i _) (.refl r)
  · exact .refl r

theorem trigger_course {f : DoorRun → DoorRun} (h : r.SameCourse (f r)) : r.SameCourse (r.trigger f) := .ite (.refl r) (.ite h h.byEvent)

end DoorRun
end Sys2Proof.Machine
end

section
/-! OBST_CONFIRMED, SIBLING_REVERSAL and STALL on the module: the axis, its doorway, and its place in the cycle's record (R225, R235, R238,
R241, R405). -/

namespace Sys2Proof.Machine
open Safety

/-! ## The doorway of an axis -/

section
variable (s : State)

theorem State.runDoor_changes (d : DoorId) (i : DoorIn) (f : DoorRun → DoorIn → DoorRun) : Changes [.axes, .doors] s (s.runDoor d i f) := by
  refine ⟨Only.trans (fun p hp => ?_) ((deliver_only _ _).mono fun _ hp => List.mem_append_right _ hp), s.runDoor_quiet d i f⟩
  cases p
  case axes | doors | recorder => exact absurd (by simp [codes]) hp
  all_goals rfl

/-- What an operation on a doorway leaves: axes on their course, and nothing changed beside them and the doorways. -/
structure DoorTold (s t : State) : Prop where
  /-- The axes. -/
  course : ∀ a : AxisId, (s.axes[a]).SameCourse (t.axes[a])
  /-- The rest. -/
  changes : Changes [.axes, .doors] s t
  /-- The queues. -/
  grows : Grows s t

theorem DoorTold.rfl' : DoorTold s s := ⟨fun _ => .refl _, (Only.rfl' _ s).changes (by decide), .rfl' rfl⟩

variable {s}

theorem State.doorOf'_told (a : AxisId) {f : Nat → DoorRun → DoorIn → DoorRun} (h : ∀ (k : Nat) (r : DoorRun) (i : DoorIn), r.SameCourse (f k r i)) :
    DoorTold s (s.doorOf' a f) := by
  unfold State.doorOf'
  split
  · exact DoorTold.rfl' s
  · split
    · exact DoorTold.rfl' s
    · unfold State.onDoor
      split
      · exact ⟨fun b => by rw [State.runDoor_axes]; exact h _ ⟨_, s.axes, _⟩ _ b, s.runDoor_changes _ _ _, s.runDoor_grows _ _ _⟩
      · exact DoorTold.rfl' s

/-! ## A confirmed obstacle (R235 to R241, R405) -/

theorem State.noteObstacle_told (a : AxisId) : DoorTold s (s.noteObstacle a) := by
  unfold State.noteObstacle
  split
  · exact DoorTold.rfl' s
  · refine ⟨fun _ => .refl _, ⟨fun p hp => ?_, .rfl' rfl rfl rfl rfl⟩, .rfl' rfl⟩
    cases p
    case recorder => exact absurd (by simp [codes]) hp
    all_goals rfl

theorem State.forgetConfirmed_told (a : AxisId) :
    DoorTold s { s with axes := vmod s.axes a fun x => { x with obst := { x.obst with confirmed := false } } } := by
  refine ⟨fun b => ?_, (Only.changes (fun p hp => ?_) (by decide)), .rfl' rfl⟩
  · by_cases e : b = a
    · subst e
      dsimp only
      rw [vmod_get]
      exact ⟨.refl _, rfl, rfl, rfl⟩
    · dsimp only
      rw [vmod_get_ne _ _ _ _ e]
      exact .refl _
  · cases p
    case axes => exact absurd List.mem_cons_self hp
    all_goals rfl

theorem DoorTold.trans {t u : State} (h : DoorTold s t) (g : DoorTold t u) : DoorTold s u :=
  ⟨fun a => (h.course a).trans (g.course a), h.changes.trans g.changes, h.grows.trans g.grows⟩

/-- The cycle's record, the siblings and the doorway follow a confirmation on the axis. -/
theorem State.obstacleEvent_told {a : AxisId} (confirmed : ((s.onLevel a AxRun.obstacleEvent).axes[a]).obst.confirmed = true) :
    DoorTold (s.onLevel a AxRun.obstacleEvent) (s.obstacleEvent a) := by
  unfold State.obstacleEvent
  dsimp only
  rw [if_pos confirmed]
  refine ((State.noteObstacle_told a).trans (State.doorOf'_told a fun k r i => ?_)).trans (State.forgetConfirmed_told a)
  exact (((DoorRun.SameCourse.refl r).upd _).trans (DoorRun.markSiblings_course _ i)).trans (DoorRun.obstacle_course _ i k)

/-! ## A stall (R225, R266, R271) -/

theorem State.stallEvent_told {a : AxisId} (computes : s.computes = true) (stalls : (⟨s.axes[a], []⟩ : AxRun).stalls (s.axIn a) = true) :
    DoorTold (s.onLevel a AxRun.stallEvent) (s.stallEvent a) := by
  unfold State.stallEvent
  dsimp only
  rw [if_pos (by rw [computes, stalls]; rfl)]
  exact State.doorOf'_told a fun k r i => DoorRun.trigger_course r (DoorRun.stall_course r i k)

/-- An operation on an axis, then on its doorway: the axis keeps its course, and the code raised first is told. -/
theorem AxisMade.told {t u : State} {a : AxisId} {r : AxRun} (made : AxisMade s t a r) (told : DoorTold t u) :
    r.ax.SameCourse (u.axes[a]) ∧ Changes [.axes, .doors] s u ∧
    ∀ c d, r.ev.getLast? = some (c, d) → c ≠ 0x4804 → TellsAfter s u c a.val d :=
  ⟨made.here ▸ told.course a, (made.changes.mono (by simp)).trans told.changes, fun c d first ne => (made.tells c d first ne).after.grow told.grows⟩

end

/-! ## Marked siblings (R238) -/

/-- The leaves of a list reverse where they are marked. -/
def State.reverseAll (s : State) (l : List AxisId) : State := l.foldl (fun s a => s.onLevel a AxRun.reverseMarked) s

/-- What becomes of leaves that reverse where they are marked. -/
structure SiblingsReverse (l : List AxisId) (s t : State) : Prop where
  /-- A marked leaf that can. -/
  reverses : ∀ a ∈ l, (s.axes[a]).obst.marked = true → (s.axes[a]).mot.driven = true → (s.axes[a]).mot.reaction = .none →
    (t.axes[a]).mot.reaction = .sibling ∧ (t.axes[a]).obst.marked = false
  /-- A leaf without a mark. -/
  unmarked : ∀ a : AxisId, (s.axes[a]).obst.marked = false → t.axes[a] = s.axes[a]
  /-- The other axes. -/
  others : ∀ a : AxisId, a ∉ l → t.axes[a] = s.axes[a]
  /-- The rest. -/
  changes : Changes [.axes] s t

/-- A leaf that has reversed has lost its mark, so that nothing later in the list turns it again. -/
theorem State.reverseAll_reverses (l : List AxisId) {s : State} (running : s.unit.running = true) (computes : s.computes = true) :
    SiblingsReverse l s (s.reverseAll l) := by
  induction l generalizing s with
  | nil => exact ⟨fun a member => absurd member List.not_mem_nil, fun _ _ => rfl, fun _ _ => rfl, (Only.rfl' _ s).changes (by decide)⟩
  | cons b l ih =>
    have made := State.onLevel_made (a := b) (f := AxRun.reverseMarked) running computes
    obtain ⟨reverses, unmarked, others, changes⟩ := ih (s := s.onLevel b AxRun.reverseMarked) (by simpa using running)
      (by simpa [State.computes] using computes)
    refine ⟨fun a member marked driven reaction => ?_, fun a free => ?_, fun a away => ?_, made.changes.trans changes⟩
    · by_cases e : a = b
      · subst e
        obtain ⟨sibling, free⟩ := AxRun.reverseMarked_reverses (r := ⟨s.axes[a], []⟩) (i := s.axIn a) marked driven reaction
        rw [← made.here] at sibling free
        have stays := unmarked a free
        exact ⟨(congrArg (·.mot.reaction) stays).trans sibling, (congrArg (·.obst.marked) stays).trans free⟩
      · have same := made.others a e
        exact reverses a (List.mem_of_ne_of_mem e member) (same ▸ marked) (same ▸ driven) (same ▸ reaction)
    · have same : (s.onLevel b AxRun.reverseMarked).axes[a] = s.axes[a] := by
        by_cases e : a = b
        · subst e
          rw [made.here, AxRun.reverseMarked_unmarked free]
        · exact made.others a e
      exact (unmarked a (same ▸ free)).trans same
    · obtain ⟨e, away⟩ := not_or.1 (mt List.mem_cons.2 away)
      exact (others a away).trans (made.others a e)

end Sys2Proof.Machine

open Sys2Proof Sys2Proof.Machine Sys2Proof.Safety

/-- Settles O39: the event acts on its axis, and what the doorway does about it leaves the axis on its course. -/
theorem obstacles : Obligations.Obstacles := by
  unfold Obligations.Obstacles
  refine ⟨fun s a running computes kind driven reaction unmarked => ?confirmed, fun s d running computes => ?siblings,
    fun s a running computes kind encoder driven home => ?stall⟩
  case confirmed =>
    have made := State.onLevel_made (a := a) (f := AxRun.obstacleEvent) running computes
    obtain ⟨reacts, total, tick, x, confirmed, oldest⟩ :=
      AxRun.obstacleEvent_confirms (r := ⟨s.axes[a], []⟩) (i := s.axIn a) kind driven reaction unmarked
    obtain ⟨newer, codes⟩ := oldest
    obtain ⟨course, changes, tells⟩ := made.told (State.obstacleEvent_told (made.here ▸ confirmed))
    have event : exec (.obstConfirmed a) s = .next (s.obstacleEvent a) := congrArg Host.Outcome.next (State.live_pos running rfl)
    exact ⟨_, event, course.mot.reaction.trans reacts, course.total.trans total, course.lastTick.trans tick, course.lastX.trans x,
      tells _ _ (codes ▸ List.getLast?_concat) (by decide), changes⟩
  case siblings =>
    obtain ⟨reverses, -, others, changes⟩ := State.reverseAll_reverses (leavesOf s.cfg.eff d.val) running computes
    exact ⟨_, congrArg Host.Outcome.next (State.live_pos running rfl), reverses, others, changes⟩
  case stall =>
    have made := State.onLevel_made (a := a) (f := AxRun.stallEvent) running computes
    obtain ⟨stalls, stalled⟩ := AxRun.stallEvent_stalls (r := ⟨s.axes[a], []⟩) (i := s.axIn a) kind encoder driven home
    rw [stalled] at made
    obtain ⟨course, changes, tells⟩ := made.told (State.stallEvent_told computes stalls)
    obtain ⟨-, xp, vp, target, phase⟩ := course.mot.rest home
    have event : exec (.stall a) s = .next (s.stallEvent a) := congrArg Host.Outcome.next (State.live_pos running rfl)
    exact ⟨_, event, xp, vp, target, phase, tells _ _ rfl (by decide), changes⟩
end

section
/-! One operation on a doorway from an event: what it tells, what it leaves alone, and the doorway of an axis (R257, R258). -/

namespace Sys2Proof.Machine
open Safety

section
variable {s : State} {d : DoorId} {i : DoorIn} {f : DoorRun → DoorIn → DoorRun}

theorem State.runDoor_here : (s.runDoor d i f).doors[d] = (f ⟨s.doors[d], s.axes, []⟩ i).door := by
  rw [State.runDoor_doors]
  exact Vector.getElem_set_self _

theorem State.runDoor_others : Elsewhere d s.doors (s.runDoor d i f).doors := fun e away => by
  rw [State.runDoor_doors]
  exact set_get_ne _ _ _ _ away

/-- An operation that leaves the axes reaches its doorway alone. -/
theorem State.runDoor_changes_doors (axes : (f ⟨s.doors[d], s.axes, []⟩ i).axes = s.axes) : Changes [.doors] s (s.runDoor d i f) := by
  obtain ⟨only, quiet⟩ := s.runDoor_changes d i f
  refine ⟨fun p away => ?_, quiet⟩
  by_cases e : p = .axes
  · subst e
    exact (State.runDoor_axes s d i f).trans axes
  · exact only p fun near => (List.mem_cons.1 near).elim e away

/-- The first code of a doorway's operation is told. -/
theorem State.runDoor_tells {c : Code} {n : Nat} {w : Word} (first : (f ⟨s.doors[d], s.axes, []⟩ i).ev.getLast? = some ⟨c, n, w⟩)
    (ne : c ≠ 0x4804) : Tells s (s.runDoor d i f) c n w :=
  (State.deliver_tells_first _ _ ⟨c, n, w⟩ first ne).of rfl rfl

theorem State.onDoor_eq (used : s.cfg.eff.n F.doorUsed d.val = 1) (computes : s.computes = true) : s.onDoor d f = s.runDoor d (s.doorIn d) f :=
  if_pos (by rw [used, computes]; rfl)

end

section
variable {s : State} {a : AxisId} {f : Nat → DoorRun → DoorIn → DoorRun}

theorem doorOfAxis_used {c : Cfg} {n d k : Nat} (found : doorOfAxis c n = some (d, k)) : c.n F.doorUsed d = 1 := by
  obtain ⟨m, hit, e⟩ := Option.map_eq_some_iff.1 found
  obtain ⟨rfl, -⟩ := Prod.mk.inj e
  have here := List.find?_some hit
  simp only [Bool.and_eq_true, beq_iff_eq] at here
  exact here.1

theorem State.doorOf'_eq {d : DoorId} {k : Nat} (found : doorOfAxis s.cfg.eff a.val = some (d.val, k)) (computes : s.computes = true) :
    s.doorOf' a f = s.runDoor d (s.doorIn d) (f k) := by
  have slot : finOf 16 d.val = some d := dif_pos d.isLt
  unfold State.doorOf'
  simp only [found, slot]
  exact State.onDoor_eq (doorOfAxis_used found) computes

/-- What holds of the state and after the operation on every doorway and slot holds after the operation on the doorway of an axis. -/
theorem State.doorOf'_induct {P : State → Prop} (stays : P s) (runs : ∀ d k, P (s.runDoor d (s.doorIn d) (f k))) : P (s.doorOf' a f) := by
  unfold State.doorOf' State.onDoor
  split
  · exact stays
  · split
    · exact stays
    · split
      · exact runs _ _
      · exact stays

end

end Sys2Proof.Machine
end

section
/-! LEAF_EVALUATION and CLOSURE_LOST: what the events make of their axis and their doorway (R244, R247, R251). -/

namespace Sys2Proof.Machine
open Safety

/-! ## The evaluation of a leaf (R244, R247) -/

section
variable (r : DoorRun) (i : DoorIn) (a : AxisId)

theorem DoorRun.leafEvaluated_axes : (r.leafEvaluated i a).axes = (r.obst a fun o => o.evaluate i.cfg a.val i.now).axes := by
  unfold leafEvaluated
  dsimp only
  split
  · rfl
  · rfl

theorem DoorRun.leafEvaluated_here :
    (r.leafEvaluated i a).axes[a] = { r.axes[a] with obst := (r.axes[a]).obst.evaluate i.cfg a.val i.now } := by
  rw [leafEvaluated_axes]
  exact vmod_get _ _ _

theorem DoorRun.leafEvaluated_others : Elsewhere a r.axes (r.leafEvaluated i a).axes := fun b away => by
  rw [leafEvaluated_axes]
  exact vmod_get_ne _ _ _ _ away

/-- A leaf whose signature does not pass raises CLOSURE_SIG. -/
theorem DoorRun.leafEvaluated_ev (fails : ((r.leafEvaluated i a).axes[a]).obst.sig ≠ .pass) :
    (r.leafEvaluated i a).ev = ⟨0x3011, i.d, 0⟩ :: r.ev := by
  rw [leafEvaluated_axes] at fails
  exact congrArg DoorRun.ev (if_neg fails)

end

/-- What an evaluation that ends does in its slot: the leaves alone have a gap. -/
def evaluateSlot (a : AxisId) (k : Nat) (r : DoorRun) (i : DoorIn) : DoorRun := if k < 2 then r.leafEvaluated i a else r

/-- The mean position of the axis is there, and its evaluation is over. -/
def AxRun.observe (x : Int) (r : AxRun) : AxRun := r.obst fun o => { o with eval := .idle, xObs := x }

/-- The module with that axis so. -/
def State.observed (s : State) (a : AxisId) (x : Int) : State := s.onLevel a fun r _ => r.observe x

/-- The doorway of an axis has evaluated it, or it is no leaf: its mean position stays, and the other axes. -/
structure LeafKept (a : AxisId) (s t : State) : Prop where
  /-- No evaluation begins. -/
  eval : (t.axes[a]).obst.eval = (s.axes[a]).obst.eval
  /-- The mean position. -/
  xObs : (t.axes[a]).obst.xObs = (s.axes[a]).obst.xObs
  /-- The other axes. -/
  others : Elsewhere a s.axes t.axes
  /-- The rest. -/
  changes : Changes [.axes, .doors] s t

section
variable {s : State} {a : AxisId}

theorem State.evaluateSlot_kept : LeafKept a s (s.doorOf' a (evaluateSlot a)) := by
  refine State.doorOf'_induct ⟨rfl, rfl, fun _ _ => rfl, (Only.rfl' _ s).changes (by decide)⟩ fun d k => ?_
  have changes := s.runDoor_changes d (s.doorIn d) (evaluateSlot a k)
  by_cases leaf : k < 2
  · have axes : (s.runDoor d (s.doorIn d) (evaluateSlot a k)).axes = (DoorRun.leafEvaluated ⟨s.doors[d], s.axes, []⟩ (s.doorIn d) a).axes :=
      (State.runDoor_axes ..).trans (congrArg DoorRun.axes (if_pos leaf))
    refine ⟨?_, ?_, ?_, changes⟩
    · rw [axes, DoorRun.leafEvaluated_here]; rfl
    · rw [axes, DoorRun.leafEvaluated_here]; rfl
    · rw [axes]; exact DoorRun.leafEvaluated_others _ _ a
  · have axes : (s.runDoor d (s.doorIn d) (evaluateSlot a k)).axes = s.axes :=
      (State.runDoor_axes ..).trans (congrArg DoorRun.axes (if_neg leaf))
    exact ⟨by rw [axes], by rw [axes], by rw [axes]; exact fun _ _ => rfl, changes⟩

/-- A leaf of a doorway is evaluated at the tick in progress, and a signature that does not pass is told. -/
theorem State.evaluateSlot_leaf {d : DoorId} {k : Nat} (computes : s.computes = true) (found : doorOfAxis s.cfg.eff a.val = some (d.val, k))
    (leaf : k < 2) :
    ((s.doorOf' a (evaluateSlot a)).axes[a]).obst = (s.axes[a]).obst.evaluate s.cfg.eff a.val s.tick ∧
    (((s.doorOf' a (evaluateSlot a)).axes[a]).obst.sig ≠ .pass → Tells s (s.doorOf' a (evaluateSlot a)) 0x3011 d.val 0) := by
  have run : evaluateSlot a k = fun r i => r.leafEvaluated i a := funext fun r => funext fun i => if_pos leaf
  rw [State.doorOf'_eq found computes, run, State.runDoor_axes]
  refine ⟨congrArg Axis.obst (DoorRun.leafEvaluated_here _ _ a), fun fails => State.runDoor_tells ?_ (by decide)⟩
  exact congrArg List.getLast? (DoorRun.leafEvaluated_ev _ _ a fails)

/-- LEAF_EVALUATION on an axis that is being evaluated: its position is there, then its doorway evaluates it. -/
theorem State.leafEvaluation_eq (x : Int) (busy : (s.axes[a]).obst.eval ≠ .idle) :
    s.leafEvaluation a x = (s.observed a x).doorOf' a (evaluateSlot a) :=
  if_neg fun e => busy (beq_iff_eq.1 e)

theorem State.observed_made (x : Int) (running : s.unit.running = true) (computes : s.computes = true) :
    AxisMade s (s.observed a x) a (AxRun.observe x ⟨s.axes[a], []⟩) :=
  State.onLevel_made running computes

theorem State.observed_computes (x : Int) : (s.observed a x).computes = s.computes := by
  simp [State.observed, State.computes]

theorem State.observed_cfg (x : Int) : (s.observed a x).cfg = s.cfg := by
  simp [State.observed]

end

/-! ## A lost closure (R251) -/

/-- What the loss of closure makes of a doorway that is monitored. -/
theorem DoorRun.closureLost_eq {r : DoorRun} (i : DoorIn) (monitored : r.door.clo.monitor = true) (stands : r.door.clo.lost = false) :
    r.closureLost i = (r.clo fun k => { k with lost := true, closed := false, locked := false, withheld := 7,
                                               tick := if k.locked then i.now else k.tick }).cloEvent i 2 0x3012 :=
  if_pos (by rw [monitored, stands]; rfl)

end Sys2Proof.Machine
end

section
/-! The verdict of a doorway in a compute phase: which rows hold, WITHHELD, and when positions are learnt (R245, R249, R250, R251). -/

namespace Sys2Proof.Machine

/-! ## What the verdict leaves of the axes -/

/-- What the rows of the verdict read of an axis beside its gap, and what it has learnt. -/
def DoorRun.findings (r : DoorRun) (a : AxisId) : MotionSt × SigResult × Int := ((r.axes[a]).mot, (r.axes[a]).obst.sig, (r.axes[a]).obst.xLearnt)

/-- Rows 2 and 3 of R250. -/
def DoorRun.gapRows (r : DoorRun) (i : DoorIn) : Bool × Bool := gapsPass (gapLimit i.cfg i.d) (r.gaps i)

/-- Row 4 of R250. -/
def DoorRun.sigsPass (r : DoorRun) (i : DoorIn) : Bool := (leavesOf i.cfg i.d).all fun a => (r.axes[a]).obst.sig == SigResult.pass

section
variable {r q : DoorRun} {i : DoorIn}

theorem DoorRun.lockOk_congr (same : q.findings = r.findings) : q.lockOk i = r.lockOk i := by
  have mot (a : AxisId) : (q.axes[a]).mot = (r.axes[a]).mot := congrArg Prod.fst (congrFun same a)
  unfold lockOk
  simp only [mot]

theorem DoorRun.sigsPass_congr (same : q.findings = r.findings) : q.sigsPass i = r.sigsPass i := by
  have sig (a : AxisId) : (q.axes[a]).obst.sig = (r.axes[a]).obst.sig := congrArg (·.2.1) (congrFun same a)
  unfold sigsPass
  simp only [sig]

/-- What leaves the axes leaves what is found of them. -/
theorem DoorRun.findings_of_axes {p : DoorRun} (h : p.findings = r.findings) (same : q.axes = p.axes) : q.findings = r.findings := by
  rw [← h]
  unfold findings
  rw [same]

theorem DoorRun.axis_findings {a : AxisId} {f : Axis → Axis} (mot : (f r.axes[a]).mot = (r.axes[a]).mot)
    (sig : (f r.axes[a]).obst.sig = (r.axes[a]).obst.sig) (learnt : (f r.axes[a]).obst.xLearnt = (r.axes[a]).obst.xLearnt) :
    (r.axis a f).findings = r.findings := by
  funext b
  unfold findings axis
  by_cases e : b = a
  · subst e
    simp only [vmod_get, mot, sig, learnt]
  · simp only [vmod_get_ne _ _ _ _ e]

theorem DoorRun.foldl_findings {f : DoorRun → AxisId → DoorRun} (h : ∀ r a, (f r a).findings = r.findings) (l : List AxisId) (r : DoorRun) :
    (l.foldl f r).findings = r.findings :=
  List.foldlRecOn (motive := fun q => q.findings = r.findings) l f rfl fun q same a _ => (h q a).trans same

theorem DoorRun.foldl_door {f : DoorRun → AxisId → DoorRun} (h : ∀ r a, (f r a).door = r.door) (l : List AxisId) (r : DoorRun) :
    (l.foldl f r).door = r.door :=
  List.foldlRecOn (motive := fun q => q.door = r.door) l f rfl fun q same a _ => (h q a).trans same

theorem DoorRun.ite_findings {c : Prop} [Decidable c] {p : DoorRun} (h : q.findings = r.findings) (g : p.findings = r.findings) :
    (if c then q else p).findings = r.findings := by
  split <;> assumption

theorem DoorRun.ite_door {c : Prop} [Decidable c] {p : DoorRun} (h : q.door = r.door) (g : p.door = r.door) : (if c then q else p).door = r.door := by
  split <;> assumption

theorem DoorRun.obst_findings {a : AxisId} {f : ObstSt → ObstSt} (sig : ∀ o, (f o).sig = o.sig) (learnt : ∀ o, (f o).xLearnt = o.xLearnt) :
    (r.obst a f).findings = r.findings :=
  axis_findings rfl (sig _) (learnt _)

variable (r i)

theorem DoorRun.liveGap_findings (a : AxisId) : (r.liveGap i a).findings = r.findings := by
  unfold liveGap
  split
  · exact axis_findings rfl rfl rfl
  · rfl

theorem DoorRun.monitor_findings : (r.monitor i).findings = r.findings := by
  unfold monitor
  split
  · rfl
  · extract_lets watched gs p failing ls counted noted gone
    have live : watched.findings = r.findings := foldl_findings (fun r a => r.liveGap_findings i a) _ r
    have counts : counted.findings = watched.findings := by
      refine foldl_findings (fun r a => ?_) ls watched
      exact obst_findings (fun _ => rfl) fun _ => rfl
    have notes : noted.findings = r.findings := findings_of_axes (counts.trans live) rfl
    clear_value noted
    exact ite_findings (findings_of_axes notes rfl) notes

/-! ## The rows (R250) -/

theorem DoorRun.allEvaluated_iff :
    r.allEvaluated i = true ↔ r.door.clo.seq = true ∧ leavesOf i.cfg i.d ≠ [] ∧ ∀ a ∈ leavesOf i.cfg i.d, (r.axes[a]).obst.done = true := by
  simp [allEvaluated, and_assoc]

theorem DoorRun.gapRows_fst_iff : (r.gapRows i).1 = true ↔ gapSum (r.gaps i) ≤ gapLimit i.cfg i.d := decide_eq_true_iff

theorem DoorRun.gapRows_snd_iff : (r.gapRows i).2 = true ↔ ∀ a ∈ leavesOf i.cfg i.d, -gapLimit i.cfg i.d ≤ (r.axes[a]).obst.gap := by
  simp [gapRows, gapsPass, gaps]

theorem DoorRun.sigsPass_iff : r.sigsPass i = true ↔ ∀ a ∈ leavesOf i.cfg i.d, (r.axes[a]).obst.sig = .pass := by
  simp [sigsPass]

theorem DoorIn.inputsOk_iff : i.inputsOk = true ↔ i.active.getLsbD 0 = true ∧ i.active.getLsbD 1 = true := Bool.and_eq_true_iff

theorem DoorIn.portsOk_iff : i.portsOk = true ↔ ∀ a ∈ axesOf i.cfg i.d, i.portReady a = true := List.all_eq_true

/-! ## WITHHELD (R250) -/

/-- The code of the first row that does not hold tells which one it is. -/
theorem withheldCode_rows (r1 r2 r3 r4 r5 r6 r7 r8 : Bool) :
    let w := withheldCode r1 r2 r3 r4 r5 r6 r7 r8
    let closed := r1 && r2 && r3 && r4 && r5
    (w = 0 ↔ (closed && r6 && r7 && r8) = true) ∧ (w = 1 ↔ r1 = false) ∧ (w = 2 ↔ r1 = true ∧ r2 = false) ∧
    (w = 3 ↔ r1 = true ∧ r2 = true ∧ r3 = false) ∧ (w = 4 ↔ r1 = true ∧ r2 = true ∧ r3 = true ∧ r4 = false) ∧
    (w = 7 ↔ r1 = true ∧ r2 = true ∧ r3 = true ∧ r4 = true ∧ r5 = false) ∧ (w = 6 ↔ closed = true ∧ r6 = false) ∧
    (w = 5 ↔ closed = true ∧ r6 = true ∧ r7 = false) ∧ (w = 8 ↔ closed = true ∧ r6 = true ∧ r7 = true ∧ r8 = false) := by
  cases r1; · simp [withheldCode]
  cases r2; · simp [withheldCode]
  cases r3; · simp [withheldCode]
  cases r4; · simp [withheldCode]
  cases r5; · simp [withheldCode]
  cases r6; · simp [withheldCode]
  cases r7; · simp [withheldCode]
  cases r8 <;> simp [withheldCode]

/-! ## The verdict (R245, R249 to R251) -/

/-- The verdict's answer `q` to what a doorway is found as, `r`. -/
structure DoorRun.Judged (r : DoorRun) (i : DoorIn) (q : DoorRun) : Prop where
  /-- Rows 1 to 5. -/
  closed : q.door.clo.closed = (r.allEvaluated i && (r.gapRows i).1 && (r.gapRows i).2 && r.sigsPass i && !q.door.clo.lost)
  /-- Rows 6 to 8. -/
  locked : q.door.clo.locked = (q.door.clo.closed && r.lockOk i && i.inputsOk && i.portsOk)
  /-- The first row that does not hold. -/
  withheld : q.door.clo.withheld = withheldCode (r.allEvaluated i) (r.gapRows i).1 (r.gapRows i).2 (r.sigsPass i) (!q.door.clo.lost)
    (r.lockOk i) i.inputsOk i.portsOk
  /-- Positions are learnt where CLOSED_LOCKED begins. -/
  learnt : r.door.clo.locked = true ∨ q.door.clo.locked = false → ∀ a : AxisId, (q.axes[a]).obst.xLearnt = (r.axes[a]).obst.xLearnt

theorem DoorRun.verdict_judged : r.Judged i (r.verdict i) := by
  unfold verdict
  extract_lets ls k obst aband begun evaluated gs gaps decided checked watched pass stands lock inputs ports closed locked bits start started judged
  have begins : begun.findings = r.findings := findings_of_axes rfl rfl
  have decides : decided.findings = r.findings := findings_of_axes begins rfl
  have checks : checked.findings = r.findings := ite_findings (ite_findings decides (findings_of_axes decides rfl)) begins
  have watches : watched.findings = r.findings := (monitor_findings checked i).trans checks
  have starts : started.findings = r.findings := by
    refine ite_findings ((foldl_findings (fun r a => ?_) ls watched).trans watches) watches
    exact obst_findings (fun _ => rfl) fun _ => rfl
  have judges : judged.findings = r.findings := findings_of_axes starts rfl
  have lost : judged.door.clo.lost = watched.door.clo.lost := by
    refine congrArg (·.clo.lost) (?_ : started.door = watched.door)
    exact ite_door (foldl_door (fun _ _ => by rfl) ls watched) rfl
  have judgement : r.Judged i judged := by
    refine ⟨?_, ?_, ?_, fun _ a => congrArg (·.2.2) (congrFun judges a)⟩
    · rw [lost, ← sigsPass_congr watches]
      rfl
    · rw [← lockOk_congr watches]
      rfl
    · rw [lost, ← sigsPass_congr watches, ← lockOk_congr watches]
      rfl
  split
  case isFalse => exact judgement
  case isTrue teaches =>
    have door : (ls.foldl (fun r a => r.teach i a) judged).door = judged.door := foldl_door (fun _ _ => by rfl) ls judged
    obtain ⟨closedBy, lockedBy, withheldBy, -⟩ := judgement
    refine ⟨by rw [door]; exact closedBy, by rw [door]; exact lockedBy, by rw [door]; exact withheldBy, fun stays => ?_⟩
    rw [door] at stays
    simp only [Bool.and_eq_true, Bool.not_eq_true'] at teaches
    obtain ⟨⟨⟨locks, was⟩, -⟩, -⟩ := teaches
    exact stays.elim (fun held => absurd (held.symm.trans was) Bool.noConfusion) fun free => absurd (locks.symm.trans free) Bool.noConfusion

end

end Sys2Proof.Machine

open Sys2Proof Sys2Proof.Machine Sys2Proof.Safety

/-- Settles O40: an evaluation acts on its axis, then on its doorway; CLOSURE_LOST on the doorway alone; the verdict by its rows. -/
theorem closureEvents : Obligations.ClosureEvents := by
  unfold Obligations.ClosureEvents
  refine ⟨fun s a x running computes busy => ?evaluation, fun s d running computes used monitored stands => ?lost, fun r i => ?verdict⟩
  case evaluation =>
    have made := State.observed_made (a := a) x running computes
    have silent := made.silent rfl
    obtain ⟨eval, xObs, others, changes⟩ := State.evaluateSlot_kept (s := s.observed a x) (a := a)
    have event : exec (.leafEvaluation a x) s = .next ((s.observed a x).doorOf' a (evaluateSlot a)) :=
      congrArg Host.Outcome.next ((State.live_pos running computes).trans (State.leafEvaluation_eq x busy))
    refine ⟨_, event, ?_, ?_, fun b away => (others b away).trans (made.others b away), fun d k found leaf => ?_,
      (made.changes.mono (by simp)).trans changes⟩
    · rw [eval, made.here]; rfl
    · rw [xObs, made.here]; rfl
    · obtain ⟨evaluated, tells⟩ := State.evaluateSlot_leaf (s := s.observed a x) (a := a)
        ((State.observed_computes x).trans computes) (State.observed_cfg x ▸ found) leaf
      have tick : (s.observed a x).tick = s.tick := silent .tick (by decide)
      rw [made.here, tick] at evaluated
      exact ⟨congrArg ObstSt.gap evaluated, congrArg ObstSt.evalTick evaluated, congrArg ObstSt.done evaluated, congrArg ObstSt.tEval evaluated,
        fun fails => ((tells fails).of (silent .kw (by decide)) tick).after⟩
  case lost =>
    have event : exec (.closureLost d) s = .next (s.runDoor d (s.doorIn d) DoorRun.closureLost) :=
      congrArg Host.Outcome.next ((State.live_pos running rfl).trans (State.onDoor_eq used computes))
    have made := DoorRun.closureLost_eq (r := ⟨s.doors[d], s.axes, []⟩) (s.doorIn d) monitored stands
    have door := (State.runDoor_here (s := s) (d := d) (i := s.doorIn d) (f := DoorRun.closureLost)).trans (congrArg DoorRun.door made)
    have axes := congrArg DoorRun.axes made
    exact ⟨_, event, congrArg Door.clo door, by rw [door]; rfl, (State.runDoor_axes ..).trans axes, State.runDoor_others,
      (State.runDoor_tells (congrArg (·.ev.getLast?) made) (by decide)).after, State.runDoor_changes_doors axes⟩
  case verdict =>
    obtain ⟨closed, locked, withheld, learnt⟩ := DoorRun.verdict_judged r i
    have rows := withheldCode_rows (r.allEvaluated i) (r.gapRows i).1 (r.gapRows i).2 (r.sigsPass i) (!(r.verdict i).door.clo.lost) (r.lockOk i)
      i.inputsOk i.portsOk
    dsimp only at rows
    rw [← withheld, ← closed, ← locked] at rows
    dsimp only
    simp only [← DoorRun.allEvaluated_iff, ← DoorRun.gapRows_fst_iff, ← DoorRun.gapRows_snd_iff, ← DoorRun.sigsPass_iff, ← DoorIn.inputsOk_iff,
      ← DoorIn.portsOk_iff, Bool.not_eq_true]
    obtain ⟨none, first, second, third, fourth, fifth, sixth, seventh, eighth⟩ := rows
    refine ⟨?_, ?_, none, first, second, third, fourth, fifth.trans (by rw [Bool.not_eq_false']), sixth, seventh, eighth, learnt⟩
    · rw [closed]
      simp only [Bool.and_eq_true, Bool.not_eq_true', and_assoc]
    · rw [locked]
      simp only [Bool.and_eq_true, and_assoc]
end

section
/-! What the operations of the sequencer leave of their doorway, and which codes they raise (R265 to R268, R271 to R282). -/

namespace Sys2Proof.Machine

/-! ## The axes of some slots (R73, R257) -/

theorem putAxis_perm (a : AxisId) (l : List AxisId) : (putAxis a l).Perm (a :: l) := by
  induction l with
  | nil => exact .refl _
  | cons b l ih =>
    unfold putAxis
    split
    · exact .refl _
    · exact (ih.cons b).trans (.swap a b l)

theorem slotAxes_perm (c : Cfg) (d : Nat) (ks : List Nat) : (slotAxes c d ks).Perm (ks.filterMap (slotAxis c d)) := by
  unfold slotAxes
  induction ks.filterMap (slotAxis c d) with
  | nil => exact .refl _
  | cons a l ih => exact (putAxis_perm a _).trans (ih.cons a)

theorem slotAxes_length (c : Cfg) (d : Nat) (ks : List Nat) : (slotAxes c d ks).length ≤ ks.length :=
  (slotAxes_perm c d ks).length_eq.trans_le (List.length_filterMap_le _ _)

theorem mem_slotAxes {c : Cfg} {d : Nat} {ks : List Nat} {a : AxisId} : a ∈ slotAxes c d ks ↔ ∃ k ∈ ks, slotAxis c d k = some a := by
  rw [(slotAxes_perm c d ks).mem_iff, List.mem_filterMap]

namespace DoorRun

/-! ## Operations on the axes: the doorway stays -/

section
variable (r : DoorRun) (i : DoorIn)

theorem foldl_frame {α : Type} {f : DoorRun → α → DoorRun} (h : ∀ r a, (f r a).door = r.door ∧ (f r a).ev = r.ev) (l : List α) :
    (l.foldl f r).door = r.door ∧ (l.foldl f r).ev = r.ev :=
  List.foldlRecOn (motive := fun q => q.door = r.door ∧ q.ev = r.ev) l f ⟨rfl, rfl⟩ fun q same a _ =>
    ⟨(h q a).1.trans same.1, (h q a).2.trans same.2⟩

@[simp] theorem mot_frame (a : AxisId) (f : MotionSt → MotionSt) : (r.mot a f).door = r.door ∧ (r.mot a f).ev = r.ev := ⟨rfl, rfl⟩

@[simp] theorem obst_frame (a : AxisId) (f : ObstSt → ObstSt) : (r.obst a f).door = r.door ∧ (r.obst a f).ev = r.ev := ⟨rfl, rfl⟩

@[simp] theorem upd_frame (f : Door → Door) : (r.upd f).door = f r.door ∧ (r.upd f).axes = r.axes ∧ (r.upd f).ev = r.ev := ⟨rfl, rfl, rfl⟩

@[simp] theorem byEvent_frame : r.byEvent.door = { r.door with moved := true } ∧ r.byEvent.axes = r.axes ∧ r.byEvent.ev = r.ev := ⟨rfl, rfl, rfl⟩

@[simp] theorem event_frame (bitNo : Nat) (code : Code) (detail : Word) :
    (r.event i bitNo code detail).door = { r.door with events := r.door.events ||| BitVec.ofNat 32 (2 ^ bitNo) } ∧
    (r.event i bitNo code detail).axes = r.axes ∧ (r.event i bitNo code detail).ev = ⟨code, i.d, detail⟩ :: r.ev := ⟨rfl, rfl, rfl⟩

@[simp] theorem target_frame (a : AxisId) (t : Int) : (r.target i a t).door = r.door ∧ (r.target i a t).ev = r.ev := ⟨rfl, rfl⟩

@[simp] theorem slotTarget_frame (k : Nat) (t : Int) : (r.slotTarget i k t).door = r.door ∧ (r.slotTarget i k t).ev = r.ev := by
  unfold slotTarget
  split
  · exact ⟨rfl, rfl⟩
  · exact target_frame r i _ t

@[simp] theorem stopAxis_frame (a : AxisId) : (r.stopAxis i a).door = r.door ∧ (r.stopAxis i a).ev = r.ev := by
  unfold stopAxis
  dsimp only
  split
  · exact target_frame r i a _
  · exact ⟨rfl, rfl⟩

@[simp] theorem stopAll_frame : (r.stopAll i).door = r.door ∧ (r.stopAll i).ev = r.ev := foldl_frame r (fun r a => stopAxis_frame r i a) _

@[simp] theorem want_frame (ks : List Nat) (on : Bool) : (r.want i ks on).door = r.door ∧ (r.want i ks on).ev = r.ev :=
  foldl_frame r (fun r a => mot_frame r a _) _

@[simp] theorem closingTargets_frame : (r.closingTargets i).door = r.door ∧ (r.closingTargets i).ev = r.ev := by
  refine foldl_frame r (fun r a => ?_) _
  dsimp only
  split <;> exact ⟨rfl, rfl⟩

@[simp] theorem openTargets_frame : (r.openTargets i).door = r.door ∧ (r.openTargets i).ev = r.ev :=
  foldl_frame r (fun r a => target_frame r i a _) _

@[simp] theorem follow_frame (on : Bool) : (r.follow i on).door = r.door ∧ (r.follow i on).ev = r.ev := by
  unfold follow
  split <;> exact ⟨rfl, rfl⟩

@[simp] theorem startSlots_frame (ks : List Nat) : (r.startSlots i ks).door = r.door ∧ (r.startSlots i ks).ev = r.ev :=
  foldl_frame r (fun r a => mot_frame r a _) _

@[simp] theorem egressStep_frame : (r.egressStep i).door = r.door ∧ (r.egressStep i).ev = r.ev := by
  unfold egressStep
  split
  · exact ⟨rfl, rfl⟩
  · exact foldl_frame r (fun r a => stopAxis_frame r i a) _

@[simp] theorem egressDrive_frame : (r.egressDrive i).door = r.door ∧ (r.egressDrive i).ev = r.ev := by
  unfold egressDrive
  dsimp only
  split
  · exact want_frame r i _ true
  · split
    · exact want_frame r i _ true
    · simp

theorem offNow_door : (r.offNow i).door = r.door := foldl_door (fun _ _ => by rfl) _ r

/-! ## The closing sequence (R245, R251) -/

@[simp] theorem beginSequence_frame :
    (r.beginSequence i).door = { r.door with clo := { r.door.clo with seq := true, seqObst := false, seqAbandon := false, lost := false, checked := false } } ∧
    (r.beginSequence i).ev = r.ev :=
  foldl_frame (r.clo _) (fun r a => obst_frame r a _) _

@[simp] theorem endSequence_frame :
    r.endSequence.door = { r.door with clo := { r.door.clo with seq := false, monitor := false, lost := false } } ∧
    r.endSequence.axes = r.axes ∧ r.endSequence.ev = r.ev := ⟨rfl, rfl, rfl⟩

/-! ## Jogs and aborted homings (R215, R282) -/

/-- The end of a jog touches the jog alone. -/
theorem jogEnd_door : (r.jogEnd i).door = { r.door with jog := none, jogStop := (r.jogEnd i).door.jogStop } := by
  unfold jogEnd
  split
  · next idle => rw [← idle]
  · split
    · rfl
    · simp only [upd_frame, mot_frame]
      split <;> simp

theorem jogEnd_ev : (r.jogEnd i).ev = r.ev := by
  unfold jogEnd
  split
  · rfl
  · split
    · rfl
    · simp only [upd_frame, mot_frame]
      split <;> simp

/-- A homing that fails on an axis is one code more. -/
theorem abortHoming_step (a : AxisId) :
    (if (r.axes[a]).mot.home.phase == HomePhase.none then r else r.run a fun q => q.homeFail (axInOf i a) 8).door = r.door ∧
    (if (r.axes[a]).mot.home.phase == HomePhase.none then r else r.run a fun q => q.homeFail (axInOf i a) 8).ev.length ≤ r.ev.length + 1 := by
  split
  · exact ⟨rfl, Nat.le_succ _⟩
  · exact ⟨rfl, Nat.le_refl _⟩

theorem abortHoming_door : (r.abortHoming i).door = { r.door with homing := .none } :=
  congrArg (fun w : Door => { w with homing := .none }) (foldl_door (fun r a => (abortHoming_step r i a).1) (axesOf i.cfg i.d) r)

theorem foldl_ev_length {f : DoorRun → AxisId → DoorRun} (h : ∀ r a, (f r a).ev.length ≤ r.ev.length + 1) (l : List AxisId) :
    (l.foldl f r).ev.length ≤ r.ev.length + l.length := by
  induction l generalizing r with
  | nil => exact Nat.le_refl _
  | cons a l ih =>
    have step := h r a
    have rest := ih (f r a)
    rw [List.foldl_cons, List.length_cons]
    omega

/-- A doorway has four axes at most. -/
theorem abortHoming_ev_length : (r.abortHoming i).ev.length ≤ r.ev.length + 4 :=
  (foldl_ev_length r (fun r a => (abortHoming_step r i a).2) (axesOf i.cfg i.d)).trans
    (Nat.add_le_add_left (slotAxes_length i.cfg i.d [0, 1, 2, 3]) _)

/-! ## Entries into states (R265, R266) -/

@[simp] theorem goto_frame (st : DoorState) :
    (r.goto i st).door.st = st ∧ (r.goto i st).door.tick = i.now ∧ (r.goto i st).door.retry = false ∧ (r.goto i st).door.egress = .none ∧
    (r.goto i st).door.homing = .none ∧ (r.goto i st).door.jog = none ∧ (r.goto i st).door.jogTick = r.door.jogTick ∧
    (r.goto i st).door.active = r.door.active ∧ (r.goto i st).door.blocked = r.door.blocked ∧ (r.goto i st).door.attempts = r.door.attempts ∧
    (r.goto i st).door.cause = r.door.cause ∧ (r.goto i st).door.clo = r.door.clo ∧ (r.goto i st).ev = r.ev := by
  unfold goto
  rw [(upd_frame _ _).1, (upd_frame _ _).2.2, jogEnd_door, jogEnd_ev]
  exact ⟨rfl, rfl, rfl, rfl, rfl, rfl, rfl, rfl, rfl, rfl, rfl, rfl, rfl⟩

@[simp] theorem enterWarning_frame :
    (r.enterWarning i).door.st = .warning ∧ (r.enterWarning i).door.tick = i.now ∧ (r.enterWarning i).door.jogTick = r.door.jogTick ∧
    (r.enterWarning i).door.active = r.door.active ∧ (r.enterWarning i).door.blocked = r.door.blocked ∧
    (r.enterWarning i).door.warnEnd = after i.now (msTicks (i.cfg.n F.warningMs i.d)) ∧
    (r.enterWarning i).ev = ⟨0x3001, i.d, BitVec.ofNat 32 (i.cfg.n F.warningMs i.d)⟩ :: r.ev := by
  simp [enterWarning]

@[simp] theorem enterUnlocking_frame :
    (r.enterUnlocking i).door.st = .unlocking ∧ (r.enterUnlocking i).door.tick = i.now ∧ (r.enterUnlocking i).door.jogTick = r.door.jogTick ∧
    (r.enterUnlocking i).door.active = r.door.active ∧ (r.enterUnlocking i).ev = r.ev := by
  simp [enterUnlocking]

@[simp] theorem enterOpening_frame :
    (r.enterOpening i).door.st = .opening ∧ (r.enterOpening i).door.tick = i.now ∧ (r.enterOpening i).door.jogTick = r.door.jogTick ∧
    (r.enterOpening i).door.active = r.door.active ∧ (r.enterOpening i).ev = r.ev := by
  simp [enterOpening]

@[simp] theorem enterLocking_frame :
    (r.enterLocking i).door.st = .locking ∧ (r.enterLocking i).door.tick = i.now ∧ (r.enterLocking i).door.jogTick = r.door.jogTick ∧
    (r.enterLocking i).door.blocked = r.door.blocked ∧ (r.enterLocking i).ev = r.ev := by
  simp [enterLocking]

@[simp] theorem enterClosing_frame :
    (r.enterClosing i).door.st = .closing ∧ (r.enterClosing i).door.tick = i.now ∧ (r.enterClosing i).door.jogTick = r.door.jogTick ∧
    (r.enterClosing i).door.clo.seq = true ∧ (r.enterClosing i).door.clo.seqObst = false ∧ (r.enterClosing i).ev = r.ev := by
  simp [enterClosing]

@[simp] theorem enterObstructed_frame :
    (r.enterObstructed i).door.st = .obstructedOpen ∧ (r.enterObstructed i).door.tick = i.now ∧
    (r.enterObstructed i).door.jogTick = r.door.jogTick ∧ (r.enterObstructed i).ev = ⟨0x3005, i.d, 0⟩ :: r.ev := by
  simp [enterObstructed]

@[simp] theorem enterClosedUnlocked_frame :
    (r.enterClosedUnlocked i).door.st = .closedUnlocked ∧ (r.enterClosedUnlocked i).door.tick = i.now ∧
    (r.enterClosedUnlocked i).door.jogTick = r.door.jogTick ∧ (r.enterClosedUnlocked i).ev = r.ev := by
  simp [enterClosedUnlocked]

@[simp] theorem enterFault_frame (cause : Code) :
    (r.enterFault i cause).door.st = .fault ∧ (r.enterFault i cause).door.tick = i.now ∧ (r.enterFault i cause).door.cause = cause ∧
    (r.enterFault i cause).door.jogTick = r.door.jogTick := by
  simp [enterFault, abortHoming_door]

@[simp] theorem enterIsolated_frame :
    (r.enterIsolated i).door.st = .isolated ∧ (r.enterIsolated i).door.tick = i.now ∧ (r.enterIsolated i).door.jogTick = r.door.jogTick := by
  simp [enterIsolated, offNow_door]

theorem unhomeAxes_frame (l : List AxisId) :
    (l.foldl (fun r a => r.mot a fun m => { m with home := { m.home with homed := false } }) r).door = r.door ∧
    (l.foldl (fun r a => r.mot a fun m => { m with home := { m.home with homed := false } }) r).ev = r.ev :=
  foldl_frame r (fun r a => mot_frame r a _) l

@[simp] theorem enterUnhomed_frame (clearHomed : Bool) :
    (r.enterUnhomed i clearHomed).door.st = .unhomed ∧ (r.enterUnhomed i clearHomed).door.tick = i.now ∧
    (r.enterUnhomed i clearHomed).door.jogTick = r.door.jogTick ∧ (r.enterUnhomed i clearHomed).ev = r.ev := by
  cases clearHomed
  · simp [enterUnhomed]
  · simp [enterUnhomed, unhomeAxes_frame]

@[simp] theorem egressUnlock_frame :
    (r.egressUnlock i).door = { r.door with egress := .unlock } ∧ (r.egressUnlock i).ev = r.ev := by
  simp [egressUnlock]

/-- Entry into EGRESS is told after the codes of the homings that it aborts (R215, R275). -/
theorem enterEgress_frame :
    (r.enterEgress i).door.st = .egress ∧ (r.enterEgress i).door.tick = i.now ∧ (r.enterEgress i).door.attempts = 0 ∧
    (r.enterEgress i).door.blocked = false ∧ (r.enterEgress i).door.active = r.door.active ∧
    (r.enterEgress i).ev = ⟨0x3003, i.d, if egressGo i then 0 else 1⟩ :: (r.abortHoming i).ev := by
  unfold enterEgress
  dsimp only
  split <;> simp [abortHoming_door]

end

end DoorRun
end Sys2Proof.Machine
end

section
/-! Open and close commands, by the state of their doorway (R262 to R264, R266). -/

namespace Sys2Proof.Machine
namespace DoorRun

section
variable {r : DoorRun} {i : DoorIn}

@[simp] theorem refuse_frame (r : DoorRun) (i : DoorIn) (cause : Code) :
    (r.refuse i cause).door = { r.door with refusal := cause, events := r.door.events ||| 16 } ∧ (r.refuse i cause).axes = r.axes ∧
    (r.refuse i cause).ev = ⟨0x3006, i.d, cause.setWidth 32⟩ :: r.ev := ⟨rfl, rfl, rfl⟩

/-! ## One command of a kind in a tick (R262) -/

/-- The doorway with a command of the kind noted for the tick. -/
def noted (r : DoorRun) (k : Nat) : DoorRun := r.upd fun w => { w with given := w.given ||| (1#2 <<< k) }

@[simp] theorem noted_frame (r : DoorRun) (k : Nat) :
    (r.noted k).door = { r.door with given := r.door.given ||| (1#2 <<< k) } ∧ (r.noted k).axes = r.axes ∧ (r.noted k).ev = r.ev := ⟨rfl, rfl, rfl⟩

theorem open_first (first : r.door.given.getLsbD 1 = false) : r.open i = (r.noted 1).openOnce i false := if_neg (Bool.eq_false_iff.1 first)

theorem close_first (first : r.door.given.getLsbD 0 = false) : r.close i = (r.noted 0).closeOnce i := if_neg (Bool.eq_false_iff.1 first)

/-! ## Open commands (R263, R266) -/

theorem openRefusal_side (side : i.side = false) : r.openRefusal i = some 0x3030 := if_pos (by rw [side]; rfl)

theorem openRefusal_zero (side : i.side = true) (zero : i.zero = false) : r.openRefusal i = some 0x3031 :=
  (if_neg (by rw [side]; decide)).trans (if_pos (by rw [zero]; rfl))

/-- With side and zero speed released, the state alone refuses. -/
theorem openRefusal_released (side : i.side = true) (zero : i.zero = true) :
    r.openRefusal i = if r.door.st = .unhomed ∨ r.door.st = .isolated ∨ r.door.st = .fault then some 0x3032 else none := by
  unfold openRefusal
  rw [side, zero]
  cases r.door.st <;> rfl

theorem openOnce_refused {c : Code} (refused : r.openRefusal i = some c) : r.openOnce i false = r.refuse i c := by
  unfold openOnce
  rw [refused]
  rfl

theorem openOnce_button_refused (refused : r.openRefusal i ≠ none) : r.openOnce i true = r := by
  obtain ⟨c, refusal⟩ := Option.ne_none_iff_exists'.1 refused
  unfold openOnce
  rw [refusal]
  rfl

theorem openOnce_accepted (accepted : r.openRefusal i = none) (button : Bool) : r.openOnce i button = r.openAccepted i := by
  unfold openOnce
  rw [accepted]

section
variable (side : i.side = true) (zero : i.zero = true) (button : Bool)
include side zero

theorem openOnce_unready (st : r.door.st = .unhomed ∨ r.door.st = .isolated ∨ r.door.st = .fault) : r.openOnce i false = r.refuse i 0x3032 :=
  openOnce_refused ((openRefusal_released side zero).trans (if_pos st))

/-- An open command that nothing refuses acts by the state. -/
theorem openOnce_ready {st : DoorState} (here : r.door.st = st) (ready : ¬ (st = .unhomed ∨ st = .isolated ∨ st = .fault)) :
    r.openOnce i button = r.openAccepted i :=
  openOnce_accepted ((openRefusal_released side zero).trans (if_neg (here ▸ ready))) button

theorem openOnce_unlocks (st : r.door.st = .closedLocked ∨ r.door.st = .closedUnlocked ∨ r.door.st = .stepIn ∨ r.door.st = .locking) :
    (r.openOnce i button).door.st = .unlocking ∧ (r.openOnce i button).door.tick = i.now ∧ (r.openOnce i button).door.blocked = false := by
  have unlocks : r.openOnce i button = ((r.enterUnlocking i).upd fun w => { w with blocked := false }).byEvent := by
    rcases st with st | st | st | st <;> rw [openOnce_ready side zero button st (by decide)] <;> unfold openAccepted <;> rw [st]
  rw [unlocks]
  simp

theorem openOnce_opens (st : r.door.st = .warning ∨ r.door.st = .closing ∨ r.door.st = .reopening ∨ r.door.st = .obstructedOpen) :
    (r.openOnce i button).door.st = .opening ∧ (r.openOnce i button).door.tick = i.now ∧ (r.openOnce i button).door.blocked = false ∧
    (r.openOnce i button).door.attempts = 0 := by
  have opens : r.openOnce i button = ((r.enterOpening i).upd fun w => { w with blocked := false, attempts := 0 }).byEvent := by
    rcases st with st | st | st | st <;> rw [openOnce_ready side zero button st (by decide)] <;> unfold openAccepted <;> rw [st]
  rw [opens]
  simp

theorem openOnce_stays (st : r.door.st = .unlocking ∨ r.door.st = .stepOut ∨ r.door.st = .opening ∨ r.door.st = .opened) :
    r.openOnce i button = r := by
  rcases st with st | st | st | st <;> rw [openOnce_ready side zero button st (by decide)] <;> unfold openAccepted <;> rw [st]

theorem openOnce_egress_active (st : r.door.st = .egress) (active : i.active.getLsbD 4 = true) : r.openOnce i button = r := by
  rw [openOnce_ready side zero button st (by decide)]
  unfold openAccepted
  rw [st]
  exact if_pos active

theorem openOnce_egress_inactive (st : r.door.st = .egress) (inactive : i.active.getLsbD 4 = false) :
    (r.openOnce i button).door.st = .opening ∧ (r.openOnce i button).door.tick = i.now ∧ (r.openOnce i button).door.blocked = false := by
  have opens : r.openOnce i button = (((r.want i [0, 1, 2, 3] true).enterOpening i).upd fun w => { w with blocked := false }).byEvent := by
    rw [openOnce_ready side zero button st (by decide)]
    unfold openAccepted
    rw [st]
    exact if_neg (Bool.eq_false_iff.1 inactive)
  rw [opens]
  simp

end

/-- What an open command makes of a doorway (R263, R266). -/
structure OpenAnswer (r q : DoorRun) (i : DoorIn) : Prop where
  /-- No release of the side. -/
  unreleased : i.side = false → q = r.refuse i 0x3030
  /-- No zero speed. -/
  moving : i.side = true → i.zero = false → q = r.refuse i 0x3031
  /-- A state that refuses it. -/
  unready : i.side = true → i.zero = true → r.door.st = .unhomed ∨ r.door.st = .isolated ∨ r.door.st = .fault → q = r.refuse i 0x3032
  /-- A closed doorway, or one that locks. -/
  unlocks : i.side = true → i.zero = true →
    r.door.st = .closedLocked ∨ r.door.st = .closedUnlocked ∨ r.door.st = .stepIn ∨ r.door.st = .locking →
    q.door.st = .unlocking ∧ q.door.tick = i.now ∧ q.door.blocked = false
  /-- A doorway that closes, or that has given up closing. -/
  opens : i.side = true → i.zero = true →
    r.door.st = .warning ∨ r.door.st = .closing ∨ r.door.st = .reopening ∨ r.door.st = .obstructedOpen →
    q.door.st = .opening ∧ q.door.tick = i.now ∧ q.door.blocked = false ∧ q.door.attempts = 0
  /-- A doorway that opens or is open. -/
  stays : i.side = true → i.zero = true →
    r.door.st = .unlocking ∨ r.door.st = .stepOut ∨ r.door.st = .opening ∨ r.door.st = .opened → q = r
  /-- EGRESS, while the pair is active. -/
  held : i.side = true → i.zero = true → r.door.st = .egress → i.active.getLsbD 4 = true → q = r
  /-- EGRESS, once it is not. -/
  cleared : i.side = true → i.zero = true → r.door.st = .egress → i.active.getLsbD 4 = false →
    q.door.st = .opening ∧ q.door.tick = i.now ∧ q.door.blocked = false

theorem openOnce_answer (r : DoorRun) (i : DoorIn) : OpenAnswer r (r.openOnce i false) i where
  unreleased side := openOnce_refused (openRefusal_side side)
  moving side zero := openOnce_refused (openRefusal_zero side zero)
  unready side zero st := openOnce_unready side zero st
  unlocks side zero st := openOnce_unlocks side zero false st
  opens side zero st := openOnce_opens side zero false st
  stays side zero st := openOnce_stays side zero false st
  held side zero st active := openOnce_egress_active side zero false st active
  cleared side zero st inactive := openOnce_egress_inactive side zero false st inactive

@[simp] theorem openAccepted_active (r : DoorRun) (i : DoorIn) : (r.openAccepted i).door.active = r.door.active := by
  unfold openAccepted
  split
  case h_9 => split <;> simp
  all_goals simp

/-! ## Close commands (R263, R264, R266) -/

@[simp] theorem closes_frame (r : DoorRun) (f : DoorRun → DoorRun) :
    (r.closes f).door = { (f (r.upd fun w => { w with blocked := true })).door with moved := true } ∧
    (r.closes f).axes = (f (r.upd fun w => { w with blocked := true })).axes ∧
    (r.closes f).ev = (f (r.upd fun w => { w with blocked := true })).ev := ⟨rfl, rfl, rfl⟩

theorem closeOnce_refused (st : r.door.st = .unhomed ∨ r.door.st = .isolated ∨ r.door.st = .fault) : r.closeOnce i = r.refuse i 0x3032 := by
  unfold closeOnce
  rcases st with st | st | st <;> rw [st]

/-- The doorway as an accepted close command leaves it where it warns (R264, R266, R272). -/
structure ClosesByWarning (r q : DoorRun) (i : DoorIn) : Prop where
  /-- WARNING. -/
  st : q.door.st = .warning
  /-- STATE_TICK. -/
  tick : q.door.tick = i.now
  /-- BUTTONS_BLOCKED. -/
  blocked : q.door.blocked = true
  /-- WARN_END. -/
  warnEnd : q.door.warnEnd = after i.now (msTicks (i.cfg.n F.warningMs i.d))
  /-- WARNING_START. -/
  ev : q.ev = ⟨0x3001, i.d, BitVec.ofNat 32 (i.cfg.n F.warningMs i.d)⟩ :: r.ev

theorem closeOnce_warns (st : r.door.st = .opened ∨ r.door.st = .obstructedOpen ∨ r.door.st = .unlocking ∨ r.door.st = .stepOut ∨ r.door.st = .opening) :
    ClosesByWarning r (r.closeOnce i) i := by
  unfold closeOnce
  rcases st with st | st | st | st | st <;> rw [st] <;> constructor <;> simp

theorem closeOnce_closedUnlocked (st : r.door.st = .closedUnlocked) :
    (r.closeOnce i).door.blocked = true ∧ (r.closeOnce i).door.tick = i.now ∧
    (r.closeOnce i).door.st = if r.door.clo.closed then .locking else .warning := by
  have closes : r.closeOnce i = r.closes fun r => if r.door.clo.closed then r.enterLocking i else r.enterWarning i := by
    unfold closeOnce
    rw [st]
  rw [closes]
  cases closed : r.door.clo.closed <;> simp [closed]

theorem closeOnce_stays (st : r.door.st = .closing ∨ r.door.st = .warning ∨ r.door.st = .reopening ∨ r.door.st = .stepIn ∨ r.door.st = .locking ∨
    r.door.st = .closedLocked) : r.closeOnce i = r := by
  unfold closeOnce
  rcases st with st | st | st | st | st | st <;> rw [st]

theorem closeOnce_egress_active (st : r.door.st = .egress) (active : i.active.getLsbD 4 = true) : r.closeOnce i = r := by
  unfold closeOnce
  rw [st]
  exact if_pos active

theorem closeOnce_egress_inactive (st : r.door.st = .egress) (inactive : i.active.getLsbD 4 = false) : ClosesByWarning r (r.closeOnce i) i := by
  have warns : r.closeOnce i = r.closes fun r => (r.want i [0, 1, 2, 3] true).enterWarning i := by
    unfold closeOnce
    rw [st]
    exact if_neg (Bool.eq_false_iff.1 inactive)
  rw [warns]
  constructor <;> simp

/-- What a close command makes of a doorway (R263, R264, R266). -/
structure CloseAnswer (r q : DoorRun) (i : DoorIn) : Prop where
  /-- A state that refuses it. -/
  unready : r.door.st = .unhomed ∨ r.door.st = .isolated ∨ r.door.st = .fault → q = r.refuse i 0x3032
  /-- A doorway that opens or is open. -/
  warns : r.door.st = .opened ∨ r.door.st = .obstructedOpen ∨ r.door.st = .unlocking ∨ r.door.st = .stepOut ∨ r.door.st = .opening →
    ClosesByWarning r q i
  /-- A closed doorway: it locks where its closure is proven. -/
  locks : r.door.st = .closedUnlocked →
    q.door.blocked = true ∧ q.door.tick = i.now ∧ q.door.st = if r.door.clo.closed then .locking else .warning
  /-- A doorway that closes or is locked. -/
  stays : r.door.st = .closing ∨ r.door.st = .warning ∨ r.door.st = .reopening ∨ r.door.st = .stepIn ∨ r.door.st = .locking ∨
    r.door.st = .closedLocked → q = r
  /-- EGRESS, while the pair is active. -/
  held : r.door.st = .egress → i.active.getLsbD 4 = true → q = r
  /-- EGRESS, once it is not. -/
  cleared : r.door.st = .egress → i.active.getLsbD 4 = false → ClosesByWarning r q i

theorem closeOnce_answer (r : DoorRun) (i : DoorIn) : CloseAnswer r (r.closeOnce i) i :=
  ⟨closeOnce_refused, closeOnce_warns, closeOnce_closedUnlocked, closeOnce_stays, closeOnce_egress_active, closeOnce_egress_inactive⟩

end

end DoorRun
end Sys2Proof.Machine
end

section
/-! A doorway after one operation, from an event or from a host's write (R262, R455). -/

namespace Sys2Proof.Safety
open Machine

/-- An operation has made `q` of doorway `d` and the axes: the other doorways stay, and the codes raised are told. -/
structure DoorMade (s t : State) (d : DoorId) (q : DoorRun) : Prop where
  /-- The doorway. -/
  here : t.doors[d] = q.door
  /-- The axes. -/
  axes : t.axes = q.axes
  /-- The other doorways. -/
  others : Elsewhere d s.doors t.doors
  /-- The code raised first. -/
  tells : ∀ e, q.ev.getLast? = some e → e.code ≠ 0x4804 → Tells s t e.code e.inst e.detail
  /-- Each of a few codes. -/
  tellsAfter : ∀ e ∈ q.ev, e.code ≠ 0x4804 → q.ev.length ≤ 16 → TellsAfter s t e.code e.inst e.detail

section
variable {ps : List Piece} {s t : State}

/-- Telling looks at the sessions and the tick alone. -/
theorem TellsAfter.of {s' : State} {c : Code} {n : Nat} {w : Word} (h : TellsAfter s' t c n w) (kw : s'.kw = s.kw) (tick : s'.tick = s.tick) :
    TellsAfter s t c n w := fun i x session wants room => by
  have told := h i x (by rw [kw]; exact session) wants room
  rw [tick] at told
  exact told

/-- A piece that stays need not be listed. -/
theorem Only.drop {p : Piece} (h : Only (p :: ps) s t) (same : p.Same s t) : Only ps s t := fun q away => by
  by_cases e : q = p
  · exact e ▸ same
  · exact h q fun near => (List.mem_cons.1 near).elim e away

/-- A refused command leaves the doorway's state and says why (R263). -/
theorem DoorMade.refused {d : DoorId} {q : DoorRun} {i : DoorIn} {c : Code} (made : DoorMade s t d (q.refuse i c)) (fresh : q.ev = []) :
    (t.doors[d]).st = q.door.st ∧ (t.doors[d]).refusal = c ∧ t.axes = q.axes ∧ Tells s t 0x3006 i.d (c.setWidth 32) := by
  obtain ⟨here, axes, -, tells, -⟩ := made
  rw [here]
  exact ⟨rfl, rfl, axes, tells ⟨0x3006, i.d, c.setWidth 32⟩ (congrArg List.getLast? (congrArg (List.cons _) fresh)) (by decide : (0x3006 : Code) ≠ 0x4804)⟩

/-- A command that has no effect leaves the doorway and the axes. -/
theorem DoorMade.stays {d : DoorId} {q : DoorRun} (made : DoorMade s t d q) : t.doors[d] = q.door ∧ t.axes = q.axes := ⟨made.here, made.axes⟩

end

end Sys2Proof.Safety

namespace Sys2Proof.Machine
open Safety

section
variable (s : State) (d : DoorId) (i : DoorIn) (f : DoorRun → DoorIn → DoorRun)

theorem State.runDoor_made : DoorMade s (s.runDoor d i f) d (f ⟨s.doors[d], s.axes, []⟩ i) where
  here := State.runDoor_here
  axes := State.runDoor_axes ..
  others := State.runDoor_others
  tells := fun _ first ne => State.runDoor_tells first ne
  tellsAfter := fun e member ne few => (State.deliver_tellsAfter _ _ e member ne few).of rfl rfl

variable {s d i f}

/-- An operation that raises no code touches the doorways, the axes and the cycles' record. -/
theorem State.runDoor_silent (none : (f ⟨s.doors[d], s.axes, []⟩ i).ev = []) : Only [.axes, .doors, .recorder] s (s.runDoor d i f) := by
  intro p away
  unfold State.runDoor
  simp only [none, State.deliver_nil]
  cases p
  case axes | doors | recorder => exact absurd (by decide) away
  all_goals rfl

theorem State.runDoor_only_doors (axes : (f ⟨s.doors[d], s.axes, []⟩ i).axes = s.axes) : Only ([.doors] ++ codes) s (s.runDoor d i f) :=
  (State.runDoor_changes_doors axes).only

end

end Sys2Proof.Machine

namespace Sys2Proof.Safety
open Machine

/-- A write that a host sends to `addr` has led to `u`, where the register's action has led from the state in which the write is heard
to `t` (R384, R455). -/
structure Carried (s t u : State) (r : Req) (x : Session) (addr : Nat) (w used : Word) : Prop where
  /-- Answer and mirror. -/
  written : Written s u r addr w used
  /-- Beside the sessions and the mirror the action decides. -/
  same : ∀ p : Piece, p ≠ .kw → p ≠ .hinge → p.Same t u
  /-- The queues of events. -/
  told : ∀ c n d, Tells (s.heard r x) t c n d → Tells s u c n d
  /-- The queues of events, where others come before. -/
  toldAfter : ∀ c n d, TellsAfter (s.heard r x) t c n d → TellsAfter s u c n d

section
variable {s t u : State} {r : Req} {x : Session} {addr : Nat} {w used : Word}

/-- What a session is told of the request as heard, it is told of the request. -/
theorem TellsAfter.heard {c : Code} {n : Nat} {d : Word} (hx : s.kw.sess[r.sess] = some x) (h : TellsAfter (s.heard r x) t c n d) :
    TellsAfter s t c n d := by
  intro i y hy w q
  by_cases e : i = r.sess
  · subst e
    obtain rfl : x = y := by rw [hx] at hy; exact Option.some.inj hy
    exact h r.sess _ (State.heard_session s r x) w q
  · exact h i y ((set_get_ne _ _ _ _ e).trans hy) w q

/-- A write of a command register whose action changes the pieces listed and raises codes. -/
theorem Writer.carried {m : Word} {v : Bool} {b : Block} {f : Sender → Word → State → WriteResult} {ps : List Piece} (h : Writer s r x)
    (block : (wordAddr addr).map Region.block = some b) (low : addr < 0x1000000) (mask : m ≠ 0) (claim : uWritable addr = true ∨ Holds s r x b)
    (row : ∀ u me, State.row u me addr = some (woRow v m f)) (rule : f (some r.sess) w (s.heard r x) = .ok t)
    (changes : Changes ps (s.heard r x) t) (apart : Piece.hinge ∉ ps ++ codes ∧ Piece.tick ∉ ps ++ codes) :
    Carried s t (s.hostWrite r addr w) r x addr w (w &&& m) := by
  obtain ⟨only, quiet⟩ := changes
  obtain ⟨written, same⟩ := h.command block (isScratch_below low) mask claim row rule quiet.kw quiet.sess (only .hinge apart.1) (only .tick apart.2)
  obtain ⟨g, region, rfl⟩ := Option.map_eq_some_iff.1 block
  have result := h.hostWrite region (isScratch_below low) mask claim (row _ _) rule
  have grows : Grows t (s.hostWrite r addr w) := by
    rw [result]
    exact (Grows.rfl' (State.mirror_kw t _)).trans (answer_grows _ _ _ _)
  exact ⟨written, same, fun c n d told => (Tells.heard h.session told).grow grows, fun c n d told => (TellsAfter.heard h.session told).grow grows⟩

/-- What the action touches at most, the write touches at most, beside the sessions and the mirror. -/
theorem Carried.commanded {ps : List Piece} (h : Carried s t u r x addr w used) (only : Only ([.kw, .hinge] ++ ps) (s.heard r x) t) :
    Commanded ps s u r addr w used := by
  have heard : Only ([.kw, .hinge] ++ ps) s (s.heard r x) := fun p away => heard_same s r x p fun e => away (by simp [e])
  have write : Only ([.kw, .hinge] ++ ps) t u := fun p away => h.same p (fun e => away (by simp [e])) fun e => away (by simp [e])
  exact ⟨h.written, (heard.trans only).trans write⟩

theorem Carried.made {d : DoorId} {q : DoorRun} (h : Carried s t u r x addr w used) (made : DoorMade (s.heard r x) t d q) : DoorMade s u d q := by
  have doors : u.doors = t.doors := h.same .doors (by decide) (by decide)
  have axes : u.axes = t.axes := h.same .axes (by decide) (by decide)
  exact ⟨doors ▸ made.here, axes.trans made.axes, doors ▸ made.others, fun e first ne => h.told _ _ _ (made.tells e first ne),
    fun e member ne few => h.toldAfter _ _ _ (made.tellsAfter e member ne few)⟩

end

/-! ## One command for one doorway -/

/-- A host's write of a register of doorway `d` has made `q` of it. -/
structure DoorWrite (s t : State) (r : Req) (addr : Nat) (w used : Word) (d : DoorId) (q : DoorRun) : Prop where
  /-- The doorway and the axes. -/
  made : DoorMade s t d q
  /-- Answer and mirror; nothing changes but what is listed. -/
  commanded : Commanded ([.axes, .doors] ++ codes) s t r addr w used
  /-- No axis is touched. -/
  still : q.axes = s.axes → Commanded ([.doors] ++ codes) s t r addr w used
  /-- No code is raised. -/
  silent : q.ev = [] → Commanded [.axes, .doors, .recorder] s t r addr w used
  /-- Neither. -/
  both : q.axes = s.axes → q.ev = [] → Commanded [.doors, .recorder] s t r addr w used

section
variable {s : State} {r : Req} {x : Session} {addr : Nat} {w : Word}

/-- A write whose action is one operation on a doorway. -/
theorem Writer.doorWrite {d : DoorId} {m : Word} {v : Bool} {f : Sender → Word → State → WriteResult} {g : DoorRun → DoorIn → DoorRun} (h : Writer s r x)
    (block : (wordAddr addr).map Region.block = some (.door d)) (low : addr < 0x1000000) (mask : m ≠ 0)
    (claim : uWritable addr = true ∨ Holds s r x (.door d)) (row : ∀ u me, State.row u me addr = some (woRow v m f))
    (rule : f (some r.sess) w (s.heard r x) = .ok ((s.heard r x).runDoor d (s.doorIn d) g)) :
    DoorWrite s (s.hostWrite r addr w) r addr w (w &&& m) d (g ⟨s.doors[d], s.axes, []⟩ (s.doorIn d)) := by
  have changes := (s.heard r x).runDoor_changes d (s.doorIn d) g
  have carried := h.carried block low mask claim row rule changes (by decide)
  refine ⟨carried.made (State.runDoor_made ..), ?_, fun axes => ?_, fun none => ?_, fun axes none => ?_⟩
  · exact carried.commanded (changes.only.mono fun _ => List.mem_append_right _)
  · exact carried.commanded ((State.runDoor_only_doors (s := s.heard r x) axes).mono fun _ => List.mem_append_right _)
  · exact carried.commanded ((State.runDoor_silent (s := s.heard r x) none).mono fun _ => List.mem_append_right _)
  · exact carried.commanded (((State.runDoor_silent (s := s.heard r x) none).drop ((State.runDoor_axes ..).trans axes)).mono
      fun _ => List.mem_append_right _)

/-- DWn_CMD with one bit set: its operation. -/
theorem Writer.doorCommand {d : DoorId} {g : DoorRun → DoorIn → DoorRun} (h : Writer s r x) (claim : Holds s r x (.door d)) (computes : s.computes = true)
    (rule : ∀ u : State, u.doorCommand d w = u.onDoorCmd d g) :
    DoorWrite s (s.hostWrite r (doorBase d + 0x40) w) r (doorBase d + 0x40) w (w &&& 0xF) d (g ⟨s.doors[d], s.axes, []⟩ (s.doorIn d)) := by
  have low : doorBase d + 0x40 < 0x1000000 := by unfold doorBase; omega
  exact h.doorWrite (block_door d) low (by decide) (.inr claim) (row_door · · d) (congrArg Except.ok ((rule _).trans (if_pos computes)))

end

end Sys2Proof.Safety

open Sys2Proof Sys2Proof.Machine Sys2Proof.Safety

/-- Settles O41: an open command is refused by the release or the state, else it acts by the state; a close command by the state alone. -/
theorem openAndClose : Obligations.OpenAndClose := by
  unfold Obligations.OpenAndClose
  refine ⟨fun s r x d h claim runs first => ?openCommand, fun s r x d h claim runs first => ?closeCommand⟩
  case openCommand =>
    obtain ⟨-, computes, -⟩ := runs
    obtain ⟨made, commanded, -⟩ := h.doorCommand (g := fun r i => r.open i) (w := 1) claim computes fun _ => rfl
    rw [DoorRun.open_first (r := ⟨s.doors[d], s.axes, []⟩) first] at made
    obtain ⟨unreleased, moving, unready, unlocks, opens, stays, held, cleared⟩ :=
      DoorRun.openOnce_answer (DoorRun.noted ⟨s.doors[d], s.axes, []⟩ 1) (s.doorIn d)
    refine ⟨_, rfl, commanded.written, made.others, commanded.only.mono (by decide), fun side => ?_, fun side zero => ?_, fun side zero =>
      ⟨fun st => ?_, fun st => ?_, fun st => ?_, fun st => ?_, fun st active => ?_, fun st inactive => ?_⟩⟩
    · exact (unreleased side ▸ made).refused rfl
    · exact (moving side zero ▸ made).refused rfl
    · exact (unready side zero st ▸ made).refused rfl
    · exact made.here ▸ unlocks side zero st
    · exact made.here ▸ opens side zero st
    · exact (stays side zero st ▸ made).stays
    · exact (held side zero st active ▸ made).stays
    · exact made.here ▸ cleared side zero st inactive
  case closeCommand =>
    obtain ⟨-, computes, -⟩ := runs
    obtain ⟨made, commanded, -⟩ := h.doorCommand (g := fun r i => r.close i) (w := 2) claim computes fun _ => rfl
    rw [DoorRun.close_first (r := ⟨s.doors[d], s.axes, []⟩) first] at made
    obtain ⟨unready, warns, locks, stays, held, cleared⟩ :=
      DoorRun.closeOnce_answer (DoorRun.noted ⟨s.doors[d], s.axes, []⟩ 0) (s.doorIn d)
    refine ⟨_, rfl, commanded.written, made.others, commanded.only.mono (by decide), fun st => ?_, fun st => ?_, fun st => ?_, fun st => ?_,
      fun st active => ?_, fun st inactive => ?_⟩
    · exact (unready st ▸ made).refused rfl
    · obtain ⟨warning, tick, blocked, warnEnd, ev⟩ := warns st
      rw [made.here]
      exact ⟨warning, tick, blocked, warnEnd, made.tells ⟨0x3001, d.val, _⟩ (congrArg List.getLast? ev) (by decide : (0x3001 : Code) ≠ 0x4804)⟩
    · exact made.here ▸ locks st
    · exact (stays st ▸ made).stays
    · exact (held st active ▸ made).stays
    · obtain ⟨warning, tick, blocked, -, -⟩ := cleared st inactive
      exact made.here ▸ ⟨warning, tick, blocked⟩
end

section
/-! One operation on every doorway of a kind: each is met as the operations on the others leave it (R73, R285). -/

namespace Sys2Proof.Machine
open Safety

/-- For doorway `d` two states are alike: it is as it was, and so is what it reads of inputs, release, speed and configuration. -/
structure State.SameFor (s u : State) (d : DoorId) : Prop where
  /-- The tick. -/
  tick : u.tick = s.tick
  /-- The configuration. -/
  cfg : u.cfg = s.cfg
  /-- The release. -/
  il : u.il = s.il
  /-- The unit. -/
  unit : u.unit = s.unit
  /-- The role. -/
  hinge : u.hinge = s.hinge
  /-- The doorway. -/
  door : u.doors[d] = s.doors[d]

section
variable {s u v : State} {d : DoorId} {p : DoorId → Bool} {f : DoorRun → DoorIn → DoorRun}

theorem State.SameFor.rfl' (s : State) (d : DoorId) : s.SameFor s d := ⟨rfl, rfl, rfl, rfl, rfl, rfl⟩

theorem State.SameFor.trans (h : s.SameFor u d) (g : u.SameFor v d) : s.SameFor v d :=
  ⟨g.tick.trans h.tick, g.cfg.trans h.cfg, g.il.trans h.il, g.unit.trans h.unit, g.hinge.trans h.hinge, g.door.trans h.door⟩

theorem State.SameFor.computes (h : s.SameFor u d) : u.computes = s.computes := by
  unfold State.computes
  rw [h.unit, h.hinge]

theorem State.onDoor_sameFor (s : State) {e : DoorId} (away : d ≠ e) : s.SameFor (s.onDoor e f) d := by
  unfold State.onDoor
  split
  · exact ⟨by simp, by simp, by simp, by simp, by simp, State.runDoor_others d away⟩
  · exact .rfl' s d

theorem State.onDoor_changes (s : State) (e : DoorId) : Changes [.axes, .doors] s (s.onDoor e f) := by
  unfold State.onDoor
  split
  · exact s.runDoor_changes _ _ _
  · exact (Only.rfl' _ s).changes (by decide)

/-- The doorways of a list, each where it satisfies the condition. -/
def State.visit (p : DoorId → Bool) (f : DoorRun → DoorIn → DoorRun) (l : List DoorId) (s : State) : State :=
  l.foldl (fun s d => if p d then s.onDoor d f else s) s

theorem State.visit_away (l : List DoorId) (s : State) (away : d ∉ l) : s.SameFor (s.visit p f l) d := by
  induction l generalizing s with
  | nil => exact .rfl' s d
  | cons e l ih =>
    obtain ⟨ne, rest⟩ := not_or.1 (mt List.mem_cons.2 away)
    have step : s.SameFor (if p e then s.onDoor e f else s) d := by
      split
      · exact s.onDoor_sameFor ne
      · exact .rfl' s d
    exact step.trans (ih _ rest)

/-- A doorway of the list has its turn once. -/
theorem State.visit_turn (l : List DoorId) (s : State) (nodup : l.Nodup) (member : d ∈ l) :
    ∃ u, s.SameFor u d ∧ (if p d then u.onDoor d f else u).SameFor (s.visit p f l) d := by
  induction l generalizing s with
  | nil => exact absurd member List.not_mem_nil
  | cons e l ih =>
    obtain ⟨away, nodup⟩ := List.nodup_cons.1 nodup
    by_cases here : d = e
    · subst here
      exact ⟨s, .rfl' s d, State.visit_away l _ away⟩
    · have step : s.SameFor (if p e then s.onDoor e f else s) d := by
        split
        · exact s.onDoor_sameFor here
        · exact .rfl' s d
      obtain ⟨u, before, after⟩ := ih (if p e then s.onDoor e f else s) nodup (List.mem_of_ne_of_mem here member)
      exact ⟨u, step.trans before, after⟩

theorem State.onDoors_turn (s : State) (p : DoorId → Bool) (f : DoorRun → DoorIn → DoorRun) (d : DoorId) :
    ∃ u, s.SameFor u d ∧ (if p d then u.onDoor d f else u).SameFor (s.onDoors p f) d :=
  State.visit_turn (fins 16) s (by decide) (mem_fins d)

/-- A used doorway that satisfies the condition is operated on, as it stood before. -/
theorem State.onDoors_visits (chosen : p d = true) (runs : DoorRuns s d) :
    ∃ u, s.SameFor u d ∧ (s.onDoors p f).doors[d] = (f ⟨s.doors[d], u.axes, []⟩ (u.doorIn d)).door := by
  obtain ⟨-, computes, used⟩ := runs
  obtain ⟨u, before, after⟩ := s.onDoors_turn p f d
  refine ⟨u, before, after.door.trans ?_⟩
  rw [if_pos chosen, State.onDoor_eq (before.cfg ▸ used) (before.computes.trans computes), State.runDoor_here, before.door]

/-- A doorway that is not used, or does not satisfy the condition, stays. -/
theorem State.onDoors_skips (skipped : s.cfg.eff.n F.doorUsed d.val ≠ 1 ∨ p d = false) : (s.onDoors p f).doors[d] = s.doors[d] := by
  obtain ⟨u, before, after⟩ := s.onDoors_turn p f d
  refine (after.door.trans ?_).trans before.door
  rcases skipped with unused | other
  · have stays : u.onDoor d f = u := if_neg (by rw [before.cfg]; simp [unused])
    rw [stays, ite_self]
  · rw [if_neg (Bool.eq_false_iff.1 other)]

theorem State.onDoors_changes (s : State) (p : DoorId → Bool) (f : DoorRun → DoorIn → DoorRun) : Changes [.axes, .doors] s (s.onDoors p f) :=
  List.foldlRecOn (motive := fun t => Changes [.axes, .doors] s t) (fins 16) _ ((Only.rfl' _ s).changes (by decide)) fun t changes d _ => by
    split
    · exact changes.trans (t.onDoor_changes d)
    · exact changes

end

end Sys2Proof.Machine
end

section
/-! DOOR_SIDE_CMD and the side inputs: the command for every used doorway of the side (R262, R285). -/

namespace Sys2Proof.Safety
open Machine

section
variable {s t u : State} {d : DoorId} {q : DoorRun} {i : DoorIn} {axes : Vector Axis 64} {k : Nat}

/-- A refused command leaves the state, and CAUSE.REFUSAL says why. -/
theorem refusal_of {c : Code} (here : t.doors[d] = q.door) (refused : q = (DoorRun.noted ⟨s.doors[d], axes, []⟩ k).refuse i c) :
    (t.doors[d]).st = (s.doors[d]).st ∧ (t.doors[d]).refusal = c := by
  rw [here, refused]
  exact ⟨rfl, rfl⟩

/-- A command without effect leaves state and buttons. -/
theorem stays_of (here : t.doors[d] = q.door) (stays : q = DoorRun.noted ⟨s.doors[d], axes, []⟩ k) :
    (t.doors[d]).st = (s.doors[d]).st ∧ (t.doors[d]).blocked = (s.doors[d]).blocked := by
  rw [here, stays]
  exact ⟨rfl, rfl⟩

/-- The answer to an open command, as the doorway reads release and speed. -/
theorem openDone_of (answer : DoorRun.OpenAnswer (DoorRun.noted ⟨s.doors[d], axes, []⟩ 1) q i) (here : t.doors[d] = q.door)
    (side : i.side = s.il.release.getLsbD (s.cfg.eff.n F.doorSide d.val)) (zero : i.zero = s.il.release.getLsbD 2)
    (active : i.active = (s.doors[d]).active) : OpenDone s t d := by
  obtain ⟨unreleased, moving, unready, unlocks, opens, stays, held, cleared⟩ := answer
  rw [side] at unreleased moving unready unlocks opens stays held cleared
  rw [zero] at moving unready unlocks opens stays held cleared
  rw [active] at held cleared
  refine ⟨fun no => refusal_of here (unreleased no), fun yes no => refusal_of here (moving yes no), fun yes still =>
    ⟨fun st => refusal_of here (unready yes still st), fun st => ?_, fun st inactive => ?_, fun st => ?_, fun st => ?_⟩⟩
  · rcases st with st | st | st | st | ⟨st, pair⟩
    · exact stays_of here (stays yes still (.inl st))
    · exact stays_of here (stays yes still (.inr (.inl st)))
    · exact stays_of here (stays yes still (.inr (.inr (.inl st))))
    · exact stays_of here (stays yes still (.inr (.inr (.inr st))))
    · exact stays_of here (held yes still st pair)
  · obtain ⟨opening, -, free⟩ := cleared yes still st inactive
    exact here ▸ ⟨opening, free⟩
  · obtain ⟨unlocking, -, free⟩ := unlocks yes still st
    exact here ▸ ⟨unlocking, free⟩
  · obtain ⟨opening, -, free, attempts⟩ := opens yes still st
    exact here ▸ ⟨opening, free, attempts⟩

/-- The answer to a close command. -/
theorem closeDone_of (answer : DoorRun.CloseAnswer (DoorRun.noted ⟨s.doors[d], axes, []⟩ 0) q i) (here : t.doors[d] = q.door)
    (active : i.active = (s.doors[d]).active) : CloseDone s t d := by
  obtain ⟨unready, warns, locks, stays, held, cleared⟩ := answer
  rw [active] at held cleared
  have warned (closes : DoorRun.ClosesByWarning (DoorRun.noted ⟨s.doors[d], axes, []⟩ 0) q i) :
      (t.doors[d]).st = .warning ∧ (t.doors[d]).blocked = true := here ▸ ⟨closes.st, closes.blocked⟩
  refine ⟨fun st => refusal_of here (unready st), fun st => ?_, fun st => ?_, fun st => ?_⟩
  · rcases st with st | st | st | st | st | ⟨st, inactive⟩
    · exact warned (warns (.inl st))
    · exact warned (warns (.inr (.inl st)))
    · exact warned (warns (.inr (.inr (.inl st))))
    · exact warned (warns (.inr (.inr (.inr (.inl st)))))
    · exact warned (warns (.inr (.inr (.inr (.inr st)))))
    · exact warned (cleared st inactive)
  · obtain ⟨blocked, -, lock⟩ := locks st
    exact here ▸ ⟨lock, blocked⟩
  · rcases st with st | st | st | st | st | st | ⟨st, pair⟩
    · exact stays_of here (stays (.inl st))
    · exact stays_of here (stays (.inr (.inl st)))
    · exact stays_of here (stays (.inr (.inr (.inl st))))
    · exact stays_of here (stays (.inr (.inr (.inr (.inl st)))))
    · exact stays_of here (stays (.inr (.inr (.inr (.inr (.inl st))))))
    · exact stays_of here (stays (.inr (.inr (.inr (.inr (.inr st))))))
    · exact stays_of here (held st pair)

/-- A side command reaches the used doorways of its side, and no other. -/
theorem sideCommand_done (s : State) (right opening : Bool) : SideDone s (s.sideCommand right opening) right opening := by
  intro d
  refine ⟨fun away => State.onDoors_skips (away.imp_right fun other => beq_eq_false_iff_ne.2 other), fun runs side => ?_⟩
  obtain ⟨u, same, here⟩ := State.onDoors_visits (s := s) (p := fun d => s.cfg.eff.n F.doorSide d.val == (if right then 1 else 0))
    (f := fun r i => if opening then r.open i else r.close i) (beq_iff_eq.2 side) runs
  have active : (u.doorIn d).active = (s.doors[d]).active := congrArg Door.active same.door
  have zero : (u.doorIn d).zero = s.il.release.getLsbD 2 := congrArg (fun l : Interlock => l.release.getLsbD 2) same.il
  have released : (u.doorIn d).side = s.il.release.getLsbD (s.cfg.eff.n F.doorSide d.val) := by rw [← same.il, ← same.cfg]; rfl
  refine ⟨fun opens first => ?_, fun closes first => ?_⟩
  · subst opens
    exact openDone_of (DoorRun.openOnce_answer _ _) (here.trans (congrArg DoorRun.door (DoorRun.open_first first))) released zero active
  · subst closes
    exact closeDone_of (DoorRun.closeOnce_answer _ _) (here.trans (congrArg DoorRun.door (DoorRun.close_first first))) active

/-- What a side command has done is seen at the doorways. -/
theorem SideDone.of_doors {right opening : Bool} (h : SideDone s t right opening) (doors : u.doors = t.doors) : SideDone s u right opening := by
  unfold SideDone OpenDone CloseDone at *
  rw [doors]
  exact h

/-- One bit of DOOR_SIDE_CMD (R285). -/
theorem Writer.sideWrite {r : Req} {x : Session} {w : Word} {right opening : Bool} (h : Writer s r x) (claim : Holds s r x .unit)
    (rule : ∀ v : State, v.sideWrite w = v.sideCommand right opening) :
    ∃ t, Host.Outcome.next (s.hostWrite r 0x200 w) = (Host.Outcome.next t : Host.Outcome State Fault Refusal) ∧
      Written s t r 0x200 w (w &&& 0xF) ∧ SideDone s t right opening ∧ Only ([.kw, .hinge, .doors, .axes] ++ codes) s t := by
  have changes : Changes [.axes, .doors] (s.heard r x) ((s.heard r x).sideCommand right opening) := State.onDoors_changes ..
  have carried := h.carried (w := w) block_side (by decide) (by decide) (.inr claim) row_side (congrArg Except.ok (rule _)) changes (by decide)
  refine ⟨_, rfl, carried.written, ?_, ?_⟩
  · exact (sideCommand_done (s.heard r x) right opening).of_doors (carried.same .doors (by decide) (by decide))
  · exact (carried.commanded (changes.only.mono fun _ => List.mem_append_right _)).only.mono (by decide)

end

end Sys2Proof.Safety

namespace Sys2Proof.Machine
open Safety

section
variable {s : State} (right opening : Bool)

/-- An input that is named gives its side's command; one that is not does nothing (R262). -/
theorem State.sideInput_named (running : s.unit.running = true)
    (named : s.cfg.eff.n (if opening then F.sideOpenInput else F.sideCloseInput) (if right then 1 else 0) ≠ 0xFF) :
    SideDone s (s.sideInput right opening) right opening ∧ Changes [.doors, .axes] s (s.sideInput right opening) := by
  have given : s.sideInput right opening = s.sideCommand right opening :=
    State.live_pos (f := fun s => s.sideCommand right opening) running (bne_iff_ne.2 named)
  rw [given]
  exact ⟨sideCommand_done s right opening, (s.onDoors_changes _ _).mono (by decide)⟩

theorem State.sideInput_unnamed
    (unnamed : s.cfg.eff.n (if opening then F.sideOpenInput else F.sideCloseInput) (if right then 1 else 0) = 0xFF) :
    s.sideInput right opening = s := by
  have off : s.named (if opening then F.sideOpenInput else F.sideCloseInput) (if right then 1 else 0) = false := by
    rw [State.named, unnamed]
    rfl
  exact if_neg (by rw [off, Bool.and_false]; decide)

end

end Sys2Proof.Machine

open Sys2Proof Sys2Proof.Machine Sys2Proof.Safety

/-- Settles O42: each bit and each named input is one command for the doorways of its side. -/
theorem sideCommands : Obligations.SideCommands := by
  unfold Obligations.SideCommands
  refine ⟨fun s r x h claim => ⟨?_, ?_, ?_, ?_⟩, fun s right running => ⟨fun named => ?_, fun named => ?_, fun unnamed => ?_, fun unnamed => ?_⟩⟩
  · exact h.sideWrite claim fun _ => rfl
  · exact h.sideWrite claim fun _ => rfl
  · exact h.sideWrite claim fun _ => rfl
  · exact h.sideWrite claim fun _ => rfl
  · exact ⟨_, rfl, State.sideInput_named right true running named⟩
  · exact ⟨_, rfl, State.sideInput_named right false running named⟩
  · exact congrArg Host.Outcome.next (State.sideInput_unnamed right true unnamed)
  · exact congrArg Host.Outcome.next (State.sideInput_unnamed right false unnamed)
end

section
/-! What the operations of the sequencer make of the axes: what holds of each, and drive states, homings and jogs (R196, R209, R278, R281, R282). -/

namespace Sys2Proof.Machine
open Safety

/-- A target that is set waits: drive state, homing and jog stay. -/
@[simp] theorem MotionSt.setTarget_frame (m : MotionSt) (t : Int) (now : Tick) :
    (m.setTarget t now).want = m.want ∧ (m.setTarget t now).driven = m.driven ∧ (m.setTarget t now).cmd = m.cmd ∧
    (m.setTarget t now).home = m.home ∧ (m.setTarget t now).jog = m.jog := by
  unfold setTarget
  split <;> exact ⟨rfl, rfl, rfl, rfl, rfl⟩

namespace DoorRun

/-! ## What holds of every axis -/

/-- What holds of an axis in one run holds of it in a later one. -/
def Keeps (P : Axis → Prop) (r q : DoorRun) : Prop := ∀ a : AxisId, P r.axes[a] → P q.axes[a]

section
variable {P : Axis → Prop} {r q p : DoorRun} {i : DoorIn}

theorem Keeps.of_axes (h : q.axes = r.axes) : Keeps P r q := fun a holds => by rw [h]; exact holds

theorem Keeps.refl (r : DoorRun) : Keeps P r r := .of_axes rfl

theorem Keeps.trans (h : Keeps P r q) (g : Keeps P q p) : Keeps P r p := fun a holds => g a (h a holds)

theorem Keeps.upd (h : Keeps P r q) (f : Door → Door) : Keeps P r (q.upd f) := h

theorem Keeps.ite {c : Prop} [Decidable c] (h : Keeps P r q) (g : Keeps P r p) : Keeps P r (if c then q else p) := by
  split <;> assumption

theorem Keeps.foldl {α : Type} {f : DoorRun → α → DoorRun} (h : ∀ (r : DoorRun) (x : α), Keeps P r (f r x)) (l : List α) (r : DoorRun) :
    Keeps P r (l.foldl f r) :=
  List.foldlRecOn (motive := fun q => Keeps P r q) l f (.refl r) fun q keeps x _ => keeps.trans (h q x)

theorem axis_keeps {f : Axis → Axis} (h : ∀ x, P x → P (f x)) (r : DoorRun) (a : AxisId) : Keeps P r (r.axis a f) := fun b holds => by
  unfold axis
  by_cases e : b = a
  · subst e
    rw [vmod_get]
    exact h _ holds
  · rw [vmod_get_ne _ _ _ _ e]
    exact holds

theorem mot_keeps {f : MotionSt → MotionSt} (h : ∀ x : Axis, P x → P { x with mot := f x.mot }) (r : DoorRun) (a : AxisId) : Keeps P r (r.mot a f) :=
  axis_keeps h r a

theorem obst_keeps {f : ObstSt → ObstSt} (h : ∀ x : Axis, P x → P { x with obst := f x.obst }) (r : DoorRun) (a : AxisId) : Keeps P r (r.obst a f) :=
  axis_keeps h r a

/-- What a step makes of its axis, and no other step undoes, holds of every axis of the list. -/
theorem foldl_makes {f : DoorRun → AxisId → DoorRun} (makes : ∀ (r : DoorRun) (a : AxisId), P ((f r a).axes[a]))
    (keeps : ∀ (r : DoorRun) (a : AxisId), Keeps P r (f r a)) (l : List AxisId) (r : DoorRun) {a : AxisId} (member : a ∈ l) :
    P ((l.foldl f r).axes[a]) := by
  induction l generalizing r with
  | nil => exact absurd member List.not_mem_nil
  | cons b l ih =>
    rcases List.mem_cons.1 member with rfl | rest
    · exact Keeps.foldl keeps l (f r a) a (makes r a)
    · exact ih (f r b) rest

/-! ## Targets, and entries into states -/

/-- What targets, the end of a jog and a step that follows leave of an axis. -/
structure Lasts (P : Axis → Prop) : Prop where
  /-- A target. -/
  target : ∀ (x : Axis) (t : Int) (now : Tick), P x → P { x with mot := x.mot.setTarget t now }
  /-- The end of a jog. -/
  unjog : ∀ x : Axis, P x → P { x with mot := { x.mot with jog := false } }
  /-- Following. -/
  follow : ∀ (x : Axis) (on bad : Bool), P x → P { x with mot := { x.mot with follow := on, followBad := bad } }

variable (lasts : Lasts P) (r i)
include lasts

theorem target_keeps (a : AxisId) (t : Int) : Keeps P r (r.target i a t) := mot_keeps (fun x => lasts.target x t i.now) r a

theorem slotTarget_keeps (k : Nat) (t : Int) : Keeps P r (r.slotTarget i k t) := by
  unfold slotTarget
  split
  · exact .refl r
  · exact target_keeps r i lasts _ t

theorem stopAxis_keeps (a : AxisId) : Keeps P r (r.stopAxis i a) := .ite (target_keeps r i lasts a _) (.refl r)

theorem follow_keeps (on : Bool) : Keeps P r (r.follow i on) := by
  unfold DoorRun.follow
  split
  · exact .refl r
  · exact mot_keeps (fun x => lasts.follow x _ _) r _

theorem jogEnd_keeps : Keeps P r (r.jogEnd i) := by
  unfold jogEnd
  split
  · exact .refl r
  · refine Keeps.upd ?_ _
    split
    · exact .refl r
    · exact (Keeps.ite (stopAxis_keeps r i lasts _) (.refl r)).trans (mot_keeps lasts.unjog _ _)

theorem goto_keeps (st : DoorState) : Keeps P r (r.goto i st) := (jogEnd_keeps r i lasts).upd _

end

/-- What speaks of drive state, command and homing alone lasts. -/
theorem Lasts.of_mot {Q : Bool → Bool → StageCmd → HomeSt → Prop} : Lasts fun x => Q x.mot.want x.mot.driven x.mot.cmd x.mot.home := by
  refine ⟨fun x t now holds => ?_, fun x holds => holds, fun x on bad holds => holds⟩
  obtain ⟨want, driven, cmd, home, -⟩ := x.mot.setTarget_frame t now
  rw [want, driven, cmd, home]
  exact holds

theorem Lasts.want (on : Bool) : Lasts fun x => x.mot.want = on := .of_mot (Q := fun want _ _ _ => want = on)

section
variable (r : DoorRun) (i : DoorIn)

/-! ## Drive states (R196) -/

theorem want_makes {ks : List Nat} (on : Bool) {a : AxisId} (member : a ∈ slotAxes i.cfg i.d ks) : ((r.want i ks on).axes[a]).mot.want = on :=
  foldl_makes (P := fun x => x.mot.want = on) (fun r a => congrArg (fun x : Axis => x.mot.want) (vmod_get r.axes a _))
    (fun r a => mot_keeps (f := fun m => { m with want := on }) (fun _ _ => rfl) r a) _ r member

/-! ## The homing of a doorway (R278) -/

/-- What the start of a homing leaves of an axis as well. -/
structure LastsHoming (P : Axis → Prop) : Prop extends Lasts P where
  /-- The start of a homing. -/
  homing : ∀ (x : Axis) (n : Nat) (now : Tick), P x → P { x with mot := x.mot.startHoming n now }

section
variable {P : Axis → Prop} (lasts : LastsHoming P)
include lasts

theorem startSlots_keeps (ks : List Nat) : Keeps P r (r.startSlots i ks) :=
  Keeps.foldl (fun r a => mot_keeps (fun x => lasts.homing x _ i.now) r a) (slotAxes i.cfg i.d ks) r

theorem homeMoves_keeps : Keeps P r (r.homeMoves i) := by
  unfold homeMoves
  exact (((Keeps.refl r).upd _).trans (slotTarget_keeps _ i lasts.toLasts _ _)).trans
    ((Keeps.foldl (fun r a => target_keeps r i lasts.toLasts a _) _ _).trans (slotTarget_keeps _ i lasts.toLasts _ _))

theorem homeLock_keeps : Keeps P r (r.homeLock i) :=
  .ite (homeMoves_keeps r i lasts) (startSlots_keeps (r.upd fun w => { w with homing := .lock }) i lasts [3])

theorem homeLeaves_keeps : Keeps P r (r.homeLeaves i) :=
  .ite (homeLock_keeps r i lasts) (startSlots_keeps (r.upd fun w => { w with homing := .leaves }) i lasts [0, 1])

/-- Past the drive state, a doorway's homing starts that of some axes, or moves. -/
theorem homeStart_keeps : Keeps P ((r.upd fun w => { w with homeFailed := false }).want i [0, 1, 2, 3] true) (r.homeStart i) := by
  unfold homeStart
  dsimp only
  split
  · exact homeLeaves_keeps _ i lasts
  · exact ((Keeps.refl _).upd _).trans (startSlots_keeps _ i lasts [2])

end

/-- Every axis of a doorway that starts homing is to be driven. -/
theorem homeStart_want {a : AxisId} (member : a ∈ axesOf i.cfg i.d) : ((r.homeStart i).axes[a]).mot.want = true :=
  homeStart_keeps (P := fun x => x.mot.want = true) r i ⟨.want true, fun _ _ _ _ => rfl⟩ a (want_makes _ i true member)

@[simp] theorem homeMoves_frame : (r.homeMoves i).door = { r.door with homing := .moves } ∧ (r.homeMoves i).ev = r.ev := by
  have moved := foldl_frame ((r.upd fun w => { w with homing := .moves }).slotTarget i 2 (i.cfg.v F.stepInPos i.d))
    (fun r a => target_frame r i a (i.cfg.v F.closedNom a.val)) (leavesOf i.cfg i.d)
  unfold homeMoves
  simp [moved]

/-- A slot without an axis is an empty list of axes. -/
theorem slotAxes_single {c : Cfg} {d k : Nat} : (slotAxes c d [k]).isEmpty = true ↔ slotAxis c d k = none := by
  rw [List.isEmpty_iff, List.eq_nil_iff_forall_not_mem]
  simp [mem_slotAxes, Option.eq_none_iff_forall_ne_some]

/-- The stage with which the homing goes on once the step has homed: the first one that has an axis (R278). -/
def stageAfterStep (c : Cfg) (d : Nat) : HomeStage := if leavesOf c d ≠ [] then .leaves else if slotAxis c d 3 ≠ none then .lock else .moves

theorem homeLock_door : (r.homeLock i).door = { r.door with homing := if slotAxis i.cfg i.d 3 ≠ none then .lock else .moves } := by
  unfold homeLock
  by_cases empty : slotAxis i.cfg i.d 3 = none
  · rw [if_pos (slotAxes_single.2 empty), if_neg (not_not.2 empty), (homeMoves_frame r i).1]
  · rw [if_neg (mt slotAxes_single.1 empty), if_pos empty, (startSlots_frame _ i _).1]
    rfl

theorem homeLeaves_door : (r.homeLeaves i).door = { r.door with homing := stageAfterStep i.cfg i.d } := by
  unfold homeLeaves stageAfterStep
  by_cases empty : leavesOf i.cfg i.d = []
  · rw [if_pos (List.isEmpty_iff.2 empty), if_neg (not_not.2 empty), homeLock_door]
  · rw [if_neg (mt List.isEmpty_iff.1 empty), if_pos empty, (startSlots_frame _ i _).1]
    rfl

/-- The homing of a doorway starts with its first stage that has an axis. -/
theorem homeStart_door : (r.homeStart i).door =
    { r.door with homeFailed := false, homing := if slotAxis i.cfg i.d 2 ≠ none then .step else stageAfterStep i.cfg i.d } := by
  unfold homeStart
  by_cases empty : slotAxis i.cfg i.d 2 = none
  · rw [if_pos (slotAxes_single.2 empty), if_neg (not_not.2 empty), homeLeaves_door, (want_frame _ i _ _).1]
    rfl
  · rw [if_neg (mt slotAxes_single.1 empty), if_pos empty, (startSlots_frame _ i _).1]
    exact congrArg (fun w : Door => { w with homing := .step }) (want_frame _ i _ _).1

/-- A doorway that leaves a fault drives no axis (R266). -/
theorem enterUnhomed_unwanted (clearHomed : Bool) {a : AxisId} (member : a ∈ axesOf i.cfg i.d) :
    ((r.enterUnhomed i clearHomed).axes[a]).mot.want = false := by
  have unwanted := want_makes (r.goto i .unhomed) i false member
  refine Keeps.ite (P := fun x => x.mot.want = false) (c := clearHomed = true) ?_ (.refl _) a unwanted
  exact .foldl (fun r a => mot_keeps (f := fun m => { m with home := { m.home with homed := false } }) (fun _ holds => holds) r a) _ _

/-! ## Jogs (R281, R282) -/

theorem mot_here (a : AxisId) (f : MotionSt → MotionSt) : (r.mot a f).axes[a] = { r.axes[a] with mot := f (r.axes[a]).mot } := vmod_get _ _ _

theorem mot_others (a : AxisId) (f : MotionSt → MotionSt) : Elsewhere a r.axes (r.mot a f).axes := fun _ away => vmod_get_ne _ _ _ _ away

theorem stopAxis_others (a : AxisId) : Elsewhere a r.axes (r.stopAxis i a).axes := by
  unfold stopAxis
  dsimp only
  split
  · exact mot_others r a _
  · exact fun _ _ => rfl

section
variable {k : Fin 4} {a : AxisId}

/-- A jog drives its axis alone, and raises no code. -/
theorem jogGo_made (slot : slotAxis i.cfg i.d k.val = some a) :
    ((r.jogGo i k).axes[a]).mot.want = true ∧ ((r.jogGo i k).axes[a]).mot.jog = true ∧ Elsewhere a r.axes (r.jogGo i k).axes ∧
    (r.jogGo i k).ev = r.ev := by
  have goes : r.jogGo i k = ((r.mot a fun m => { m with want := true, jog := true }).target i a r.door.jogTarget).upd fun w =>
      { w with jog := some k, jogTick := i.now, jogRan := true, jogStop := w.jogStop &&& ~~~(1#4 <<< k.val) } := by
    unfold jogGo
    rw [slot]
  obtain ⟨want, -, -, -, jog⟩ := MotionSt.setTarget_frame { (r.axes[a]).mot with want := true, jog := true } r.door.jogTarget i.now
  have axis : ((r.jogGo i k).axes[a]).mot = MotionSt.setTarget { (r.axes[a]).mot with want := true, jog := true } r.door.jogTarget i.now := by
    rw [goes, (upd_frame _ _).2.1, target, mot_here, mot_here]
  refine ⟨axis ▸ want, axis ▸ jog, fun b away => ?_, ?_⟩
  · rw [goes, (upd_frame _ _).2.1, target]
    exact (mot_others _ a _ b away).trans (mot_others r a _ b away)
  · rw [goes]
    rfl

theorem jogGo_door : (r.jogGo i k).door =
    { r.door with jog := some k, jogTick := i.now, jogRan := true, jogStop := r.door.jogStop &&& ~~~(1#4 <<< k.val) } := by
  unfold jogGo
  split <;> rfl

variable {r}

/-- The end of a jog reaches its axis alone: it is jogged no longer. -/
theorem jogEnd_made (jog : r.door.jog = some k) (slot : slotAxis i.cfg i.d k.val = some a) :
    ((r.jogEnd i).axes[a]).mot.jog = false ∧ Elsewhere a r.axes (r.jogEnd i).axes := by
  have ends : (r.jogEnd i).axes = ((if (r.axes[a]).mot.reaction == Reaction.none then r.stopAxis i a else r).mot a fun m => { m with jog := false }).axes := by
    unfold jogEnd
    rw [jog]
    dsimp only
    rw [slot]
    rfl
  rw [ends, mot_here]
  refine ⟨rfl, fun b away => (mot_others _ a _ b away).trans ?_⟩
  split
  · exact stopAxis_others r i a b away
  · rfl

end

end

end DoorRun
end Sys2Proof.Machine
end

section
/-! The service commands of a doorway: which conditions let them act, and what they make of it (R263, R266, R273, R274, R278, R281). -/

namespace Sys2Proof.Machine
open Safety

/-! ## Ports that are READY (R263) -/

theorem bitsOf_cons (b : Bool) (bs : List Bool) (k : Nat) : bitsOf (b :: bs) k = (if b then 2 ^ k else 0) + bitsOf bs (k + 1) := rfl

theorem bitsOf_succ (bs : List Bool) (k : Nat) : bitsOf bs (k + 1) = 2 * bitsOf bs k := by
  induction bs generalizing k with
  | nil => rfl
  | cons b bs ih =>
    rw [bitsOf_cons, bitsOf_cons, ih]
    split <;> ring

theorem bitsOf_testBit (bs : List Bool) (j : Nat) : (bitsOf bs 0).testBit j = bs.getD j false := by
  induction bs generalizing j with
  | nil => simp [bitsOf]
  | cons b bs ih =>
    rw [bitsOf_cons, bitsOf_succ]
    cases j with
    | zero => cases b <;> simp [Nat.testBit_zero]
    | succ j =>
      rw [Nat.testBit_succ, List.getD_cons_succ, ← ih]
      congr 1
      cases b <;> simp; omega

theorem packWord_getLsbD (bs : List Bool) {j : Nat} (inside : j < 32) : (packWord bs).getLsbD j = bs.getD j false := by
  rw [packWord, BitVec.getLsbD_ofNat, bitsOf_testBit]
  simp [inside]

theorem fins32_getD (f : PortId → Bool) (k : PortId) : ((fins 32).map f).getD k.val false = f k := by
  fin_cases k <;> rfl

section
variable (s : State) (d : DoorId) (a : AxisId)

theorem State.doorIn_ready (k : PortId) : (s.doorIn d).ready.getLsbD k.val = ((s.ports[k]).st == PortState.ready) :=
  (packWord_getLsbD _ k.isLt).trans (fins32_getD (fun k => (s.ports[k]).st == PortState.ready) k)

/-- The port of an axis is READY as the doorway sees it. -/
theorem State.doorIn_portReady :
    (s.doorIn d).portReady a = true ↔ ∃ k : PortId, s.cfg.eff.portOf a.val = some k.val ∧ (s.ports[k]).st = .ready := by
  unfold DoorIn.portReady
  rw [show (s.doorIn d).cfg = s.cfg.eff from rfl]
  cases port : s.cfg.eff.portOf a.val with
  | none => simp
  | some n =>
    refine ⟨fun ready => ?_, fun ⟨k, same, ready⟩ => ?_⟩
    · have inside : n < 32 := BitVec.lt_of_getLsbD ready
      exact ⟨⟨n, inside⟩, rfl, beq_iff_eq.1 ((s.doorIn_ready d ⟨n, inside⟩).symm.trans ready)⟩
    · obtain rfl := Option.some.inj same
      exact (s.doorIn_ready d k).trans (beq_iff_eq.2 ready)

theorem State.doorIn_portsOk : (s.doorIn d).portsOk = true ↔
    ∀ a ∈ axesOf s.cfg.eff d.val, ∃ k : PortId, s.cfg.eff.portOf a.val = some k.val ∧ (s.ports[k]).st = .ready := by
  rw [DoorIn.portsOk_iff]
  exact forall₂_congr fun a _ => s.doorIn_portReady d a

end

namespace DoorRun

section
variable {r : DoorRun} {i : DoorIn}

/-! ## HOME (R263, R278) -/

theorem homeCommand_starts (homeable : i.homeable = true) (st : r.door.st = .unhomed) (homing : r.door.homing = .none)
    (used : i.cfg.n F.doorUsed i.d = 1) : r.homeCommand i = r.homeStart i :=
  if_pos (by simp [homeable, st, homing, used])

theorem homeCommand_refused (busy : r.door.st ≠ .unhomed ∨ r.door.homing ≠ .none) : r.homeCommand i = r.refuse i 0x3032 :=
  if_neg (by rcases busy with busy | busy <;> simp [busy])

/-! ## DOOR_RESET (R263, R266) -/

theorem doorReset_unhomes (st : r.door.st = .fault) (cause : r.door.cause ≠ 0x3021) (ports : i.portsOk = true) :
    r.doorReset i = (r.enterUnhomed i false).byEvent :=
  (if_neg (not_or.2 ⟨not_not.2 st, cause⟩)).trans (if_neg (by simp [ports]))

theorem doorReset_unready (st : r.door.st = .fault) (cause : r.door.cause ≠ 0x3021) (ports : ¬ i.portsOk = true) :
    r.doorReset i = r.refuse i 0x3033 :=
  (if_neg (not_or.2 ⟨not_not.2 st, cause⟩)).trans (if_pos (by simp [ports]))

theorem doorReset_refused (h : r.door.st ≠ .fault ∨ r.door.cause = 0x3021) : r.doorReset i = r.refuse i 0x3032 := if_pos h

/-! ## ANNOUNCE_HOLD (R273) -/

/-- The tick to which a hold of `ms` would move WARN_END. -/
def holdTick (i : DoorIn) (ms : Nat) : Tick := after i.now (msTicks (min ms 3000))

section
variable {ms : Nat}

theorem hold_axes : (r.hold i ms).axes = r.axes := by
  unfold hold
  split
  · rfl
  · dsimp only
    split
    · split <;> rfl
    · rfl

theorem hold_ignored (st : r.door.st ≠ .warning) : r.hold i ms = r.upd fun w => { w with holdIgnored := satN (w.holdIgnored + 1) 32 } := if_pos st

variable (st : r.door.st = .warning)
include st

theorem hold_early (early : ¬ 0 < (holdTick i ms - r.door.warnEnd).toInt) : r.hold i ms = r :=
  (if_neg (not_not.2 st)).trans (if_neg (Bool.eq_false_iff.1 (decide_eq_false early)))

theorem hold_moves (later : 0 < (holdTick i ms - r.door.warnEnd).toInt) (under : ¬ 0 < (holdTick i ms - r.door.ceiling).toInt) :
    r.hold i ms = r.upd fun w => { w with warnEnd := holdTick i ms } := by
  unfold hold
  rw [if_neg (not_not.2 st)]
  unfold holdTick at *
  simp only [decide_eq_true later, decide_eq_false under, if_true, Bool.false_eq_true, if_false]

theorem hold_clamped (later : 0 < (holdTick i ms - r.door.warnEnd).toInt) (beyond : 0 < (holdTick i ms - r.door.ceiling).toInt) :
    r.hold i ms = (r.upd fun w => { w with warnEnd := w.ceiling }).event i 10 0x3002 0 := by
  unfold hold
  rw [if_neg (not_not.2 st)]
  unfold holdTick at *
  simp only [decide_eq_true later, decide_eq_true beyond, if_true]

end

/-! ## CHIME (R274) -/

theorem chime_door : (r.chime i).door = if r.door.st = .isolated ∨ r.door.st = .fault ∨ r.door.st = .warning ∨ r.door.st = .reopening then r.door
    else { r.door with chime := some (after i.now (msTicks (i.cfg.n F.chimeMs i.d))) } := by
  unfold chime
  cases r.door.st <;> rfl

theorem chime_frame : (r.chime i).axes = r.axes ∧ (r.chime i).ev = r.ev := by
  unfold chime
  split <;> exact ⟨rfl, rfl⟩

end

end DoorRun

/-! ## JOG_GO (R281) -/

/-- A MAINTAINER in MAINTENANCE with switch 11 ON may jog an axis of a doorway that stands, where its port is READY and no other is jogged. -/
theorem State.jogRefusal_none {s : State} {d : DoorId} {i : SessId} {k : Fin 4} {a : AxisId} {p : PortId} (role : s.isA (some i) .maintainer = true)
    (maintenance : s.unit.st = .maintenance) (ward : s.ward 11 = true) (stands : (s.doors[d]).st.jogs = true)
    (used : s.cfg.eff.n F.doorUsed d.val = 1) (slot : slotAxis s.cfg.eff d.val k.val = some a) (port : s.cfg.eff.portOf a.val = some p.val)
    (ready : (s.ports[p]).st = .ready) (free : (s.doors[d]).jog = none ∨ (s.doors[d]).jog = some k) : s.jogRefusal d (some i) k = none := by
  have found : ((s.cfg.eff.portOf a.val).bind (finOf 32)) = some p := by
    rw [port]
    exact dif_pos p.isLt
  have stage : ((s.ports[p]).st == PortState.ready) = true := beq_iff_eq.2 ready
  unfold State.jogRefusal
  rcases free with free | free <;> simp only [role, maintenance, ward, stands, used, slot, found, free, Option.map_some, stage] <;> simp

/-! ## The registers of the commands, and their words (R461) -/

/-- Holds and chimes need no claim. -/
theorem uWritable_hold (d : DoorId) : uWritable (doorBase d + 0x44) = true := by
  revert d
  decide

theorem uWritable_chime (d : DoorId) : uWritable (doorBase d + 0x48) = true := by
  revert d
  decide

theorem doorBase_below (d : DoorId) {k : Nat} (inside : k < 0x1000) : doorBase d + k < 0x1000000 := by
  unfold doorBase
  omega

/-- The low half of a hold's word is its time. -/
theorem holdWord_time (ms : Word) : fld ms 15 0 = ms.toNat % 65536 := rfl

theorem chimeWord_used {value : Word} (sounds : value.getLsbD 0 = true) : value &&& 1 = 1 := by
  rw [show (1 : Word) = 1#32 from rfl, BitVec.and_one_eq_setWidth_ofBool_getLsbD, sounds]
  rfl

/-- JOG_GO's word names its slot, and does not stop. -/
theorem jogWord_slot (k : Fin 4) :
    (BitVec.ofNat 32 k.val ||| 0x10) &&& 0x33 = BitVec.ofNat 32 k.val ||| 0x10 ∧ bit (BitVec.ofNat 32 k.val ||| 0x10) 4 = true ∧
    bit (BitVec.ofNat 32 k.val ||| 0x10) 5 = false ∧ Fin.ofNat 4 (fld (BitVec.ofNat 32 k.val ||| 0x10) 1 0) = k := by
  revert k
  decide

end Sys2Proof.Machine

namespace Sys2Proof.Safety
open Machine

/-! ## The writes (R455) -/

section
variable {s : State} {r : Req} {x : Session} {d : DoorId} (h : Writer s r x) (runs : DoorRuns s d)
include h runs

theorem Writer.hold (ms : Word) : DoorWrite s (s.hostWrite r (doorBase d + 0x44) ms) r (doorBase d + 0x44) ms (ms &&& 0xFFFF) d
    (DoorRun.hold ⟨s.doors[d], s.axes, []⟩ (s.doorIn d) (ms.toNat % 65536)) := by
  obtain ⟨-, computes, used⟩ := runs
  have rule := State.onDoor_eq (s := s.heard r x) (f := fun r i => r.hold i (fld ms 15 0)) used computes
  exact h.doorWrite (block_hold d) (doorBase_below d (by decide)) (by decide) (.inl (uWritable_hold d)) (row_hold · · d) (congrArg Except.ok rule)

theorem Writer.chime {value : Word} (sounds : value.getLsbD 0 = true) :
    DoorWrite s (s.hostWrite r (doorBase d + 0x48) value) r (doorBase d + 0x48) value 1 d (DoorRun.chime ⟨s.doors[d], s.axes, []⟩ (s.doorIn d)) := by
  obtain ⟨-, computes, used⟩ := runs
  have rule : (if bit value 0 then (s.heard r x).onDoor d fun r i => r.chime i else s.heard r x) =
      (s.heard r x).runDoor d (s.doorIn d) fun r i => r.chime i :=
    (if_pos sounds).trans (State.onDoor_eq (s := s.heard r x) used computes)
  have rung := h.doorWrite (w := value) (block_chime d) (doorBase_below d (by decide)) (by decide) (.inl (uWritable_chime d)) (row_chime · · d)
    (congrArg Except.ok rule)
  rw [chimeWord_used sounds] at rung
  exact rung

variable (claim : Holds s r x (.door d)) {k : Fin 4}
include claim

/-- JOG_GO of a slot that may be jogged (R281). -/
theorem Writer.jogGo (allowed : (s.heard r x).jogRefusal d (some r.sess) k = none) :
    DoorWrite s (s.hostWrite r (doorBase d + 0x50) (BitVec.ofNat 32 k.val ||| 0x10)) r (doorBase d + 0x50) (BitVec.ofNat 32 k.val ||| 0x10)
      (BitVec.ofNat 32 k.val ||| 0x10) d (DoorRun.jogGo ⟨s.doors[d], s.axes, []⟩ (s.doorIn d) k) := by
  obtain ⟨-, computes, used⟩ := runs
  obtain ⟨word, goes, noStop, number⟩ := jogWord_slot k
  have rule : (s.heard r x).jogWrite d (some r.sess) (BitVec.ofNat 32 k.val ||| 0x10) =
      .ok ((s.heard r x).runDoor d (s.doorIn d) fun r i => r.jogGo i k) := by
    unfold State.jogWrite
    simp only [goes, number, allowed, noStop, if_true, Bool.false_and, Bool.false_eq_true, if_false]
    exact congrArg Except.ok (State.onDoor_eq (s := s.heard r x) used computes)
  have gone := h.doorWrite (block_jog d) (doorBase_below d (by decide)) (by decide) (.inr claim) (row_jog · · d) rule
  rw [word] at gone
  exact gone

/-- JOG_STOP while a jog runs (R282). -/
theorem Writer.jogStop (jog : (s.doors[d]).jog = some k) :
    DoorWrite s (s.hostWrite r (doorBase d + 0x50) 0x20) r (doorBase d + 0x50) 0x20 0x20 d (DoorRun.jogEnd ⟨s.doors[d], s.axes, []⟩ (s.doorIn d)) := by
  obtain ⟨-, computes, used⟩ := runs
  have runs : ((s.heard r x).doors[d]).jog.isSome = true := Option.isSome_iff_exists.2 ⟨k, jog⟩
  have rule : (s.heard r x).jogWrite d (some r.sess) 0x20 = .ok ((s.heard r x).runDoor d (s.doorIn d) fun r i => r.jogEnd i) := by
    have stops : (s.heard r x).jogWrite d (some r.sess) 0x20 =
        .ok (if ((s.heard r x).doors[d]).jog.isSome then (s.heard r x).onDoor d fun r i => r.jogEnd i else s.heard r x) := rfl
    rw [stops, if_pos runs]
    exact congrArg Except.ok (State.onDoor_eq (s := s.heard r x) used computes)
  exact h.doorWrite (block_jog d) (doorBase_below d (by decide)) (by decide) (.inr claim) (row_jog · · d) rule

end

end Sys2Proof.Safety

open Sys2Proof Sys2Proof.Machine Sys2Proof.Safety

/-- Settles O43: each write is one operation on the doorway, which acts or refuses by its state. -/
theorem doorService : Obligations.DoorService := by
  unfold Obligations.DoorService
  refine ⟨fun s r x d h claim runs => ?commands, fun s r x d h runs => ⟨fun ms => ?hold, fun value sounds => ?chime⟩,
    fun s r x d k a p h claim runs slot => ⟨?go, fun jog => ?stop⟩⟩
  case commands =>
    obtain ⟨-, computes, used⟩ := runs
    have home : DoorWrite s _ r (doorBase d + 0x40) 4 4 d _ := h.doorCommand (g := DoorRun.homeCommand) (w := 4) claim computes fun _ => rfl
    have reset : DoorWrite s _ r (doorBase d + 0x40) 8 8 d _ := h.doorCommand (g := DoorRun.doorReset) (w := 8) claim computes fun _ => rfl
    refine ⟨fun operates st homing => ?starts, fun busy => ?noHome, fun st cause ports => ?unhomes, fun st cause ports => ?unready, fun other => ?noReset⟩
    case starts =>
      rw [DoorRun.homeCommand_starts (r := ⟨s.doors[d], s.axes, []⟩) (i := s.doorIn d) operates st homing used] at home
      obtain ⟨⟨here, axes, others, -, -⟩, commanded, -⟩ := home
      refine ⟨_, rfl, ⟨commanded.written, commanded.only.mono (by decide)⟩, ?_, others, fun a member => ?_, ?_⟩
      · rw [here, DoorRun.homeStart_door]
        exact st
      · rw [axes]
        exact DoorRun.homeStart_want _ (s.doorIn d) member
      · rw [here, DoorRun.homeStart_door]
        rfl
    case noHome =>
      rw [DoorRun.homeCommand_refused (r := ⟨s.doors[d], s.axes, []⟩) (i := s.doorIn d) busy] at home
      obtain ⟨stays, refusal, -, tells⟩ := home.made.refused rfl
      obtain ⟨written, only⟩ := home.still rfl
      exact ⟨_, rfl, ⟨written, only.mono (by decide)⟩, stays, refusal, tells, home.made.others⟩
    case unhomes =>
      rw [DoorRun.doorReset_unhomes (r := ⟨s.doors[d], s.axes, []⟩) (i := s.doorIn d) st cause ((s.doorIn_portsOk d).2 ports)] at reset
      obtain ⟨⟨here, axes, others, -, -⟩, commanded, -⟩ := reset
      obtain ⟨unhomed, tick, -⟩ := DoorRun.enterUnhomed_frame ⟨s.doors[d], s.axes, []⟩ (s.doorIn d) false
      refine ⟨_, rfl, ⟨commanded.written, commanded.only.mono (by decide)⟩, here ▸ unhomed, here ▸ tick, fun a member => ?_, others⟩
      rw [axes]
      exact DoorRun.enterUnhomed_unwanted _ (s.doorIn d) false member
    case unready =>
      rw [DoorRun.doorReset_unready (r := ⟨s.doors[d], s.axes, []⟩) (i := s.doorIn d) st cause (mt (s.doorIn_portsOk d).1 ports)] at reset
      obtain ⟨stays, refusal, -, tells⟩ := reset.made.refused rfl
      obtain ⟨written, only⟩ := reset.still rfl
      exact ⟨_, rfl, ⟨written, only.mono (by decide)⟩, stays.trans st, refusal, tells, reset.made.others⟩
    case noReset =>
      rw [DoorRun.doorReset_refused (r := ⟨s.doors[d], s.axes, []⟩) (i := s.doorIn d) other] at reset
      obtain ⟨stays, refusal, -, tells⟩ := reset.made.refused rfl
      obtain ⟨written, only⟩ := reset.still rfl
      exact ⟨_, rfl, ⟨written, only.mono (by decide)⟩, stays, by rw [reset.made.here]; rfl, refusal, tells, reset.made.others⟩
  case hold =>
    have held := h.hold runs ms
    obtain ⟨written, only⟩ := held.still DoorRun.hold_axes
    obtain ⟨here, -, others, tells, -⟩ := held.made
    have door {q : DoorRun} := fun rule : DoorRun.hold ⟨s.doors[d], s.axes, []⟩ (s.doorIn d) (ms.toNat % 65536) = q => here.trans (congrArg DoorRun.door rule)
    refine ⟨_, rfl, written, others, only, fun st => ?_, fun st => ⟨fun early => ?_, fun later under => ?_, fun later beyond => ?_⟩⟩
    · exact door (DoorRun.hold_ignored (r := ⟨s.doors[d], s.axes, []⟩) st)
    · exact door (DoorRun.hold_early (r := ⟨s.doors[d], s.axes, []⟩) st early)
    · exact door (DoorRun.hold_moves (r := ⟨s.doors[d], s.axes, []⟩) st later under)
    · have clamps := DoorRun.hold_clamped (r := ⟨s.doors[d], s.axes, []⟩) (i := s.doorIn d) st later beyond
      refine ⟨congrArg Door.warnEnd (door clamps), tells ⟨0x3002, d.val, 0⟩ ?_ (by decide : (0x3002 : Code) ≠ 0x4804)⟩
      rw [clamps]
      rfl
  case chime =>
    have rung := h.chime runs sounds
    obtain ⟨axes, ev⟩ := DoorRun.chime_frame (r := ⟨s.doors[d], s.axes, []⟩) (i := s.doorIn d)
    exact ⟨_, rfl, rung.both axes ev, rung.made.others, rung.made.here.trans DoorRun.chime_door⟩
  case go =>
    intro role maintenance ward stands port ready free
    have maintainer : (s.heard r x).isA (some r.sess) .maintainer = true := by
      unfold State.isA
      dsimp only
      rw [State.heard_session, Option.map_some, role]
      rfl
    have gone := h.jogGo runs claim (State.jogRefusal_none (s := s.heard r x) maintainer maintenance ward stands runs.2.2 slot port ready free)
    obtain ⟨want, jog, elsewhere, ev⟩ := DoorRun.jogGo_made ⟨s.doors[d], s.axes, []⟩ (s.doorIn d) slot
    obtain ⟨here, axes, others, -, -⟩ := gone.made
    obtain ⟨written, only⟩ := gone.silent ev
    have door := here.trans (DoorRun.jogGo_door _ _)
    refine ⟨_, rfl, ⟨written, only.mono (by decide)⟩, ?_, ?_, ?_, ?_, ?_, others, ?_⟩
    · rw [door]
    · rw [door]
    · rw [door]; rfl
    · rw [axes]; exact want
    · rw [axes]; exact jog
    · rw [axes]; exact elsewhere
  case stop =>
    have stopped := h.jogStop runs claim jog
    obtain ⟨unjogged, elsewhere⟩ := DoorRun.jogEnd_made (r := ⟨s.doors[d], s.axes, []⟩) (s.doorIn d) jog slot
    obtain ⟨here, axes, others, -, -⟩ := stopped.made
    obtain ⟨written, only⟩ := stopped.silent (DoorRun.jogEnd_ev _ _)
    have door := here.trans (DoorRun.jogEnd_door _ _)
    refine ⟨_, rfl, ⟨written, only.mono (by decide)⟩, ?_, ?_, ?_, others, ?_⟩
    · rw [door]
    · rw [door]
    · rw [axes]; exact unjogged
    · rw [axes]; exact elsewhere
end

section
/-! Buttons, the isolating switch, the egress pair, and the release as a doorway meets them (R262 to R264, R266, R275, R276, R305). -/

namespace Sys2Proof.Machine
open Safety

/-! ## An axis that stops being driven at once (R215, R266) -/

/-- An axis that stops being driven has its command record off. -/
theorem AxRun.release_off (q : AxRun) (i : AxIn) : (q.release i).ax.mot.driven = false ∧ (q.release i).ax.mot.cmd = .off := ⟨rfl, rfl⟩

namespace DoorRun

section
variable (r : DoorRun) (i : DoorIn)

theorem run_here (a : AxisId) (f : AxRun → AxRun) : (r.run a f).axes[a] = (f ⟨r.axes[a], []⟩).ax := Vector.getElem_set_self _

theorem run_others (a : AxisId) (f : AxRun → AxRun) : Elsewhere a r.axes (r.run a f).axes := fun _ away => set_get_ne _ _ _ _ away

/-- The end of an axis's drive, where there is one. -/
def dropAxis (a : AxisId) (q : AxRun) : AxRun :=
  if q.ax.mot.driven || q.ax.mot.home.phase != HomePhase.none then q.release (axInOf i a) else q

theorem dropAxis_undriven (a : AxisId) (q : AxRun) : (dropAxis i a q).ax.mot.driven = false := by
  unfold dropAxis
  split
  · exact (q.release_off _).1
  · next idle =>
    exact (Bool.or_eq_false_iff.1 (Bool.eq_false_iff.2 idle)).1

/-- One axis of a doorway that is isolated. -/
def isolateAxis (r : DoorRun) (a : AxisId) : DoorRun := (r.run a (dropAxis i a)).mot a fun m => { m with want := false }

theorem offNow_eq : r.offNow i = (axesOf i.cfg i.d).foldl (isolateAxis i) r := rfl

theorem isolateAxis_here (a : AxisId) : ((isolateAxis i r a).axes[a]).mot = { (dropAxis i a ⟨r.axes[a], []⟩).ax.mot with want := false } := by
  unfold isolateAxis
  rw [mot_here, run_here]

theorem isolateAxis_others (a : AxisId) : Elsewhere a r.axes (isolateAxis i r a).axes := fun b away =>
  (mot_others _ a _ b away).trans (run_others r a _ b away)

/-- A drive that has ended is off. -/
def EndsOff (x : Axis) : Prop := x.mot.driven = false → x.mot.cmd = .off

theorem dropAxis_endsOff (a : AxisId) (q : AxRun) (holds : EndsOff q.ax) : EndsOff (dropAxis i a q).ax := by
  unfold dropAxis
  split
  · exact fun _ => (q.release_off _).2
  · exact holds

theorem isolateAxis_endsOff (a : AxisId) : Keeps EndsOff r (isolateAxis i r a) := fun b holds => by
  by_cases e : b = a
  · subst e
    unfold EndsOff
    rw [isolateAxis_here]
    exact dropAxis_endsOff i b ⟨r.axes[b], []⟩ holds
  · rw [isolateAxis_others r i a b e]
    exact holds

/-- Neither driven nor to be driven. -/
def Idle (x : Axis) : Prop := x.mot.want = false ∧ x.mot.driven = false

theorem isolateAxis_idle (a : AxisId) : Idle (isolateAxis i r a).axes[a] := by
  unfold Idle
  rw [isolateAxis_here]
  exact ⟨rfl, dropAxis_undriven i a _⟩

theorem isolateAxis_keeps_idle (a : AxisId) : Keeps Idle r (isolateAxis i r a) := fun b holds => by
  by_cases e : b = a
  · subst e
    exact isolateAxis_idle r i b
  · rw [isolateAxis_others r i a b e]
    exact holds

theorem Lasts.idle : Lasts Idle := .of_mot (Q := fun want driven _ _ => want = false ∧ driven = false)

theorem Lasts.endsOff : Lasts EndsOff := .of_mot (Q := fun _ driven cmd _ => driven = false → cmd = .off)

/-- An isolated doorway drives no axis: one that was driven has its command off (R266). -/
theorem enterIsolated_axes {a : AxisId} (member : a ∈ axesOf i.cfg i.d) :
    ((r.enterIsolated i).axes[a]).mot.want = false ∧
    ((r.axes[a]).mot.driven = true → ((r.enterIsolated i).axes[a]).mot.driven = false ∧ ((r.enterIsolated i).axes[a]).mot.cmd = .off) := by
  have enters {P : Axis → Prop} (lasts : Lasts P) : Keeps P (r.offNow i) (r.enterIsolated i) :=
    (goto_keeps _ i lasts _).trans (follow_keeps _ i lasts false)
  obtain ⟨want, driven⟩ : Idle (r.enterIsolated i).axes[a] :=
    enters .idle a (foldl_makes (f := isolateAxis i) (fun r a => isolateAxis_idle r i a) (fun r a => isolateAxis_keeps_idle r i a) _ r member)
  refine ⟨want, fun was => ⟨driven, ?_⟩⟩
  have off : EndsOff (r.enterIsolated i).axes[a] :=
    enters .endsOff a (Keeps.foldl (f := isolateAxis i) (fun r a => isolateAxis_endsOff r i a) (axesOf i.cfg i.d) r a
      fun idle => absurd (was.symm.trans idle) Bool.noConfusion)
  exact off driven

/-- The end of an isolation clears HOMED on every axis (R266). -/
theorem enterUnhomed_unhomed {a : AxisId} (member : a ∈ axesOf i.cfg i.d) : ((r.enterUnhomed i true).axes[a]).mot.home.homed = false :=
  foldl_makes (P := fun x => x.mot.home.homed = false) (f := fun r a => r.mot a fun m => { m with home := { m.home with homed := false } })
    (fun r a => congrArg (fun x : Axis => x.mot.home.homed) (mot_here r a _)) (fun r a => mot_keeps (fun _ _ => rfl) r a) _ _ member

/-! ## A press of a button (R262 to R264) -/

theorem openOnce_active (button : Bool) : (r.openOnce i button).door.active = r.door.active := by
  unfold openOnce
  split
  · split <;> rfl
  · exact openAccepted_active r i

/-- An open doorway starts to count AUTO_CLOSE_MS again. -/
def counted (r : DoorRun) (i : DoorIn) : DoorRun := if r.door.st = .opened then r.upd fun w => { w with autoTick := i.now } else r

theorem counted_frame : (r.counted i).door.st = r.door.st ∧ (r.counted i).door.active = r.door.active ∧
    (r.counted i).door.refusal = r.door.refusal ∧ (r.counted i).axes = r.axes := by
  unfold counted
  split <;> exact ⟨rfl, rfl, rfl, rfl⟩

variable {r i}

theorem button_idle (off : i.cfg.n F.buttonEnable i.d ≠ 1 ∨ r.door.blocked = true) : r.button i = r := if_pos off

theorem button_press (enabled : i.cfg.n F.buttonEnable i.d = 1) (free : r.door.blocked = false) : r.button i = (r.counted i).openOnce i true :=
  if_neg (not_or.2 ⟨not_not.2 enabled, Bool.eq_false_iff.1 free⟩)

theorem button_active : (r.button i).door.active = r.door.active := by
  unfold button
  split
  · rfl
  · exact (openOnce_active (r.counted i) i true).trans (counted_frame r i).2.1

theorem openOnce_button_opened (st : r.door.st = .opened) : r.openOnce i true = r := by
  by_cases accepted : r.openRefusal i = none
  · rw [openOnce_accepted accepted]
    unfold openAccepted
    rw [st]
  · exact openOnce_button_refused accepted

theorem button_opened (enabled : i.cfg.n F.buttonEnable i.d = 1) (free : r.door.blocked = false) (st : r.door.st = .opened) :
    r.button i = r.upd fun w => { w with autoTick := i.now } := by
  have counts : r.counted i = r.upd fun w => { w with autoTick := i.now } := if_pos st
  rw [button_press enabled free, openOnce_button_opened ((counted_frame r i).1.trans st), counts]

/-- Without its release or zero speed a press leaves the state, and is not reported. -/
theorem button_unreleased (off : i.side = false ∨ i.zero = false) :
    (r.button i).door.st = r.door.st ∧ (r.button i).door.refusal = r.door.refusal ∧ (r.button i).axes = r.axes := by
  have refused : (r.counted i).openRefusal i ≠ none := by
    cases side : i.side with
    | false => rw [openRefusal_side side]; exact Option.some_ne_none _
    | true =>
      rw [openRefusal_zero side (off.resolve_left fun no => absurd (side.symm.trans no) Bool.noConfusion)]
      exact Option.some_ne_none _
  unfold button
  split
  · exact ⟨rfl, rfl, rfl⟩
  · obtain ⟨st, -, refusal, axes⟩ := counted_frame r i
    have stays : (r.counted i).openOnce i true = r.counted i := openOnce_button_refused refused
    exact stays.symm ▸ ⟨st, refusal, axes⟩

/-- What a press of a button makes of a doorway (R262 to R264, R266). -/
structure ButtonAnswer (r q : DoorRun) (i : DoorIn) : Prop where
  /-- The buttons are off or blocked. -/
  idle : i.cfg.n F.buttonEnable i.d ≠ 1 ∨ r.door.blocked = true → q.door.st = r.door.st ∧ q.axes = r.axes
  /-- An open doorway counts anew. -/
  opened : i.cfg.n F.buttonEnable i.d = 1 → r.door.blocked = false → r.door.st = .opened →
    q.door.st = .opened ∧ q.door.autoTick = i.now ∧ q.axes = r.axes
  /-- A closed doorway, or one that locks. -/
  unlocks : i.cfg.n F.buttonEnable i.d = 1 → r.door.blocked = false → i.side = true → i.zero = true →
    r.door.st = .closedUnlocked ∨ r.door.st = .closedLocked ∨ r.door.st = .stepIn ∨ r.door.st = .locking → q.door.st = .unlocking
  /-- A doorway that closes, or that has given up closing. -/
  opens : i.cfg.n F.buttonEnable i.d = 1 → r.door.blocked = false → i.side = true → i.zero = true →
    r.door.st = .warning ∨ r.door.st = .closing ∨ r.door.st = .reopening ∨ r.door.st = .obstructedOpen → q.door.st = .opening
  /-- No release of the side, or no zero speed. -/
  unreleased : i.side = false ∨ i.zero = false → q.door.st = r.door.st ∧ q.door.refusal = r.door.refusal ∧ q.axes = r.axes

variable (r i) in
theorem button_answer : ButtonAnswer r (r.button i) i where
  idle off := by rw [button_idle off]; exact ⟨rfl, rfl⟩
  opened enabled free st := by rw [button_opened enabled free st]; exact ⟨st, rfl, rfl⟩
  unlocks enabled free side zero st := by
    rw [button_press enabled free]
    refine (openOnce_unlocks side zero true ?_).1
    rw [(counted_frame r i).1]
    exact or_left_comm.1 st
  opens enabled free side zero st := by
    rw [button_press enabled free]
    exact (openOnce_opens side zero true ((counted_frame r i).1.symm ▸ st)).1
  unreleased off := button_unreleased off

/-! ## The egress pair (R275) -/

theorem egressActive_told (st : r.door.st = .isolated ∨ r.door.st = .fault) : r.egressActive i = r.event i 1 0x3003 0 := by
  unfold egressActive
  rcases st with st | st <;> rw [st]

theorem egressActive_enters (isolated : r.door.st ≠ .isolated) (fault : r.door.st ≠ .fault) (egress : r.door.st ≠ .egress) :
    r.egressActive i = (r.enterEgress i).byEvent := by
  unfold egressActive
  split
  case h_1 st => exact absurd st isolated
  case h_2 st => exact absurd st fault
  case h_3 st => exact absurd st egress
  case h_4 => rfl

theorem egressActive_active : (r.egressActive i).door.active = r.door.active := by
  obtain ⟨-, -, -, -, active, -⟩ := enterEgress_frame r i
  unfold egressActive
  split
  · rfl
  · rfl
  · rfl
  · exact active

/-! ## The release (R266, R305) -/

/-- A doorway that opens or is open warns where its release or zero speed is lost. -/
theorem seesRelease_warns (lost : (i.side && i.zero) = false)
    (st : r.door.st = .unlocking ∨ r.door.st = .stepOut ∨ r.door.st = .opening ∨ r.door.st = .opened) :
    (r.seesRelease i).door.st = .warning ∧ (r.seesRelease i).door.warnEnd = after i.now (msTicks (i.cfg.n F.warningMs i.d)) := by
  have warns : r.releaseLost i = ((r.stopAll i).enterWarning i).byEvent := by
    unfold releaseLost
    rcases st with st | st | st | st <;> rw [st]
  unfold seesRelease
  rw [lost, if_neg Bool.false_ne_true, warns]
  simp

/-- An internal trigger that nothing holds up: its operation, and the note that the state has changed (R268). -/
theorem trigger_frame {f : DoorRun → DoorRun} (moved : r.door.moved = false) (jog : r.door.jog = none) :
    (r.trigger f).door = { (f r).door with moved := (r.trigger f).door.moved } ∧ (r.trigger f).axes = (f r).axes ∧ (r.trigger f).ev = (f r).ev := by
  have free : r.trigger f = if (f r).door.st = r.door.st then f r else (f r).byEvent := if_neg (by rw [moved, jog]; decide)
  rw [free]
  split <;> exact ⟨rfl, rfl, rfl⟩

end

end DoorRun

/-! ## The inputs as the doorway has seen them (R71, R284) -/

theorem DoorRun.sees_on {r : DoorRun} {k : Nat} (inside : k < 7) : ((r.sees k true).door.active).getLsbD k = true := by
  show (r.door.active ||| (1#7 <<< k)).getLsbD k = true
  rw [BitVec.getLsbD_or, getLsbD_bit inside, decide_eq_true rfl, Bool.or_true]

theorem DoorRun.sees_off {r : DoorRun} {k : Nat} (inside : k < 7) : ((r.sees k false).door.active).getLsbD k = false := by
  show (r.door.active &&& ~~~(1#7 <<< k)).getLsbD k = false
  rw [BitVec.getLsbD_and, BitVec.getLsbD_not, getLsbD_bit inside, decide_eq_true rfl]
  simp

/-! ## MAINTENANCE ends (R79, R83) -/

section
variable (s : State)

theorem State.unit_only (u : UnitSt) : Only [.unit] s { s with unit := u } := by
  intro p away
  cases p
  case unit => exact absurd List.mem_cons_self away
  all_goals rfl

theorem State.enterRun_changes (t : Tick) : Changes [.unit] s (s.enterRun t) := by
  have enters : Changes [.unit] s (s.enter .run t) := (s.unit_only _).changes (by decide)
  unfold State.enterRun
  dsimp only
  split
  · exact enters.trans ((State.raise_changes _ _ _ _).mono (List.nil_subset _))
  · exact enters

theorem State.enterRun_st (t : Tick) : (s.enterRun t).unit.st = .run := by
  unfold State.enterRun
  dsimp only
  split
  · simp [State.enter]
  · rfl

theorem State.leaveMaintenance_stays (other : s.unit.st ≠ .maintenance) : s.leaveMaintenance = s := if_pos (bne_iff_ne.2 other)

/-- The doorways when MAINTENANCE ends: every jog has ended. -/
def State.jogsEnded (s : State) : State := s.onDoors (fun d => (s.doors[d]).jog.isSome) fun r i => r.jogEnd i

/-- RUN in its first tick, entered from no session. -/
def State.runEntered (s : State) : State := { s.enterRun s.tick with unit := { (s.enterRun s.tick).unit with maintSess := none } }

theorem State.leaveMaintenance_eq (st : s.unit.st = .maintenance) : s.leaveMaintenance = s.jogsEnded.runEntered :=
  if_neg (by rw [st]; decide)

theorem State.leaveMaintenance_run (st : s.unit.st = .maintenance) : s.leaveMaintenance.unit.st = .run := by
  rw [s.leaveMaintenance_eq st]
  exact State.enterRun_st _ _

theorem State.leaveMaintenance_changes : Changes [.axes, .doors, .unit] s s.leaveMaintenance := by
  by_cases st : s.unit.st = .maintenance
  · rw [s.leaveMaintenance_eq st]
    exact ((s.onDoors_changes _ _).mono (by decide)).trans (((State.enterRun_changes _ _).mono (by decide)).trans
      (((State.unit_only _ _).changes (by decide)).mono (by decide)))
  · rw [s.leaveMaintenance_stays st]
    exact (Only.rfl' _ s).changes (by decide)

/-- The doorways keep state and WARN_END. -/
theorem State.leaveMaintenance_door (d : DoorId) :
    (s.leaveMaintenance.doors[d]).st = (s.doors[d]).st ∧ (s.leaveMaintenance.doors[d]).warnEnd = (s.doors[d]).warnEnd := by
  by_cases st : s.unit.st = .maintenance
  · obtain ⟨u, before, after⟩ := s.onDoors_turn (fun d => (s.doors[d]).jog.isSome) (fun r i => r.jogEnd i) d
    have door : (s.jogsEnded.runEntered.doors[d]) = (if (s.doors[d]).jog.isSome then u.onDoor d fun r i => r.jogEnd i else u).doors[d] := by
      rw [← after.door, State.runEntered, (State.enterRun_frame _ _).2.2.2.2.2.2.1]
      rfl
    rw [s.leaveMaintenance_eq st, door, ← before.door]
    split
    · unfold State.onDoor
      split
      · rw [State.runDoor_here, DoorRun.jogEnd_door]
        exact ⟨rfl, rfl⟩
      · exact ⟨rfl, rfl⟩
    · exact ⟨rfl, rfl⟩
  · rw [s.leaveMaintenance_stays st]
    exact ⟨rfl, rfl⟩

end

/-! ## The release of the module (R305) -/

section
variable (s : State) (gone : BitVec 3)

/-- The module with other signals of the release. -/
def State.withRelease (s : State) (release : BitVec 3) : State := { s with il := { s.il with release := release } }

theorem State.withRelease_changes (release : BitVec 3) : Changes [.il] s (s.withRelease release) :=
  Only.changes (fun p away => by
    cases p
    case il => exact absurd List.mem_cons_self away
    all_goals rfl) (by decide)

/-- The doorways when signals of the release are gone. -/
def State.doorsSeeLoss (s : State) (gone : BitVec 3) : State :=
  (s.withRelease (s.il.release &&& ~~~gone)).onDoors (fun _ => true) DoorRun.seesRelease

theorem State.doorsSeeLoss_il : (s.doorsSeeLoss gone).il = { s.il with release := s.il.release &&& ~~~gone } := by
  unfold State.doorsSeeLoss
  simp [State.withRelease]

theorem State.doorsSeeLoss_unit : (s.doorsSeeLoss gone).unit = s.unit := by
  unfold State.doorsSeeLoss
  simp [State.withRelease]

theorem State.doorsSeeLoss_changes : Changes [.il, .doors, .axes, .unit] s (s.doorsSeeLoss gone) :=
  ((s.withRelease_changes _).mono (by decide)).trans ((State.onDoors_changes _ _ _).mono (by decide))

/-- A doorway that opens or is open warns where its side or zero speed is gone. -/
theorem State.doorsSeeLoss_warns {d : DoorId} (runs : DoorRuns s d)
    (lost : ((s.il.release &&& ~~~gone).getLsbD (s.cfg.eff.n F.doorSide d.val) && (s.il.release &&& ~~~gone).getLsbD 2) = false)
    (st : (s.doors[d]).st = .unlocking ∨ (s.doors[d]).st = .stepOut ∨ (s.doors[d]).st = .opening ∨ (s.doors[d]).st = .opened) :
    ((s.doorsSeeLoss gone).doors[d]).st = .warning ∧
    ((s.doorsSeeLoss gone).doors[d]).warnEnd = after s.tick (msTicks (s.cfg.eff.n F.warningMs d.val)) := by
  obtain ⟨u, same, here⟩ := State.onDoors_visits (s := s.withRelease (s.il.release &&& ~~~gone)) (p := fun _ => true) (f := DoorRun.seesRelease) (d := d)
    rfl runs
  have reads : ((u.doorIn d).side && (u.doorIn d).zero) = false := by
    rw [← lost]
    show (u.il.release.getLsbD (u.cfg.eff.n F.doorSide d.val) && u.il.release.getLsbD 2) = _
    rw [same.il, same.cfg]
    rfl
  obtain ⟨warning, warnEnd⟩ := DoorRun.seesRelease_warns (r := ⟨s.doors[d], u.axes, []⟩) (i := u.doorIn d) reads st
  have now : (u.doorIn d).now = s.tick := same.tick
  have cfg : (u.doorIn d).cfg = s.cfg.eff := congrArg CfgSt.eff same.cfg
  rw [now, cfg] at warnEnd
  exact here ▸ ⟨warning, warnEnd⟩

theorem State.releaseLost_eq :
    s.releaseLost gone = if (s.il.release &&& ~~~gone).getLsbD 2 then s.doorsSeeLoss gone else (s.doorsSeeLoss gone).leaveMaintenance := by
  have zero : (s.doorsSeeLoss gone).zeroSpeed = (s.il.release &&& ~~~gone).getLsbD 2 := by rw [State.zeroSpeed, State.doorsSeeLoss_il]
  rw [← zero]
  rfl

theorem State.releaseLost_il : (s.releaseLost gone).il = { s.il with release := s.il.release &&& ~~~gone } := by
  rw [State.releaseLost_eq]
  split
  · exact s.doorsSeeLoss_il gone
  · rw [(State.leaveMaintenance_frame _).2.2.2.2.2.1]
    exact s.doorsSeeLoss_il gone

/-- The end of MAINTENANCE leaves the doorways in state. -/
theorem State.releaseLost_door (d : DoorId) : ((s.releaseLost gone).doors[d]).st = ((s.doorsSeeLoss gone).doors[d]).st ∧
    ((s.releaseLost gone).doors[d]).warnEnd = ((s.doorsSeeLoss gone).doors[d]).warnEnd := by
  rw [State.releaseLost_eq]
  split
  · exact ⟨rfl, rfl⟩
  · exact State.leaveMaintenance_door _ d

theorem State.releaseLost_changes : Changes [.il, .doors, .axes, .unit] s (s.releaseLost gone) := by
  rw [State.releaseLost_eq]
  split
  · exact s.doorsSeeLoss_changes gone
  · exact (s.doorsSeeLoss_changes gone).trans ((State.leaveMaintenance_changes _).mono (by decide))

/-- The unit stays while it has zero speed, or outside MAINTENANCE. -/
theorem State.releaseLost_unit (stays : (s.il.release &&& ~~~gone).getLsbD 2 = true ∨ s.unit.st ≠ .maintenance) : (s.releaseLost gone).unit = s.unit := by
  rw [State.releaseLost_eq]
  split
  · exact s.doorsSeeLoss_unit gone
  · next moving =>
    have other : (s.doorsSeeLoss gone).unit.st ≠ .maintenance := by
      rw [s.doorsSeeLoss_unit gone]
      exact stays.resolve_left moving
    rw [State.leaveMaintenance_stays _ other]
    exact s.doorsSeeLoss_unit gone

theorem State.releaseLost_run (moving : (s.il.release &&& ~~~gone).getLsbD 2 = false) (st : s.unit.st = .maintenance) :
    (s.releaseLost gone).unit.st = .run := by
  rw [State.releaseLost_eq, if_neg (Bool.eq_false_iff.1 moving)]
  exact State.leaveMaintenance_run _ ((congrArg UnitSt.st (s.doorsSeeLoss_unit gone)).trans st)

/-! ## Zero speed (R276) -/

/-- What a doorway does about zero speed that is present. -/
def DoorRun.seesZeroSpeed (r : DoorRun) (i : DoorIn) : DoorRun :=
  (r.upd fun w => { w with release := i.side && i.zero }).trigger fun r =>
    if r.door.st == DoorState.egress && r.door.egress == EgressStage.wait then r.egressUnlock i else r

theorem State.zeroSpeedPresent_eq : s.zeroSpeedPresent = (s.withRelease (s.il.release ||| 4)).onDoors (fun _ => true) DoorRun.seesZeroSpeed := rfl

theorem State.zeroSpeedPresent_il : s.zeroSpeedPresent.il = { s.il with release := s.il.release ||| 4 } := by
  rw [State.zeroSpeedPresent_eq]
  simp [State.withRelease]

theorem State.zeroSpeedPresent_changes : Changes [.il, .doors, .axes] s s.zeroSpeedPresent :=
  ((s.withRelease_changes _).mono (by decide)).trans ((State.onDoors_changes _ _ _).mono (by decide))

/-- A deferred egress unlocks. -/
theorem DoorRun.seesZeroSpeed_unlocks {r : DoorRun} {i : DoorIn} (st : r.door.st = .egress) (wait : r.door.egress = .wait)
    (moved : r.door.moved = false) (jog : r.door.jog = none) : (r.seesZeroSpeed i).door.st = .egress ∧ (r.seesZeroSpeed i).door.egress = .unlock := by
  unfold DoorRun.seesZeroSpeed
  rw [(DoorRun.trigger_frame (r := r.upd fun w => { w with release := i.side && i.zero }) moved jog).1]
  simp [st, wait]

theorem State.zeroSpeedPresent_unlocks {d : DoorId} (runs : DoorRuns s d) (st : (s.doors[d]).st = .egress) (wait : (s.doors[d]).egress = .wait)
    (moved : (s.doors[d]).moved = false) (jog : (s.doors[d]).jog = none) :
    (s.zeroSpeedPresent.doors[d]).st = .egress ∧ (s.zeroSpeedPresent.doors[d]).egress = .unlock := by
  obtain ⟨u, -, here⟩ := State.onDoors_visits (s := s.withRelease (s.il.release ||| 4)) (p := fun _ => true) (f := DoorRun.seesZeroSpeed) (d := d) rfl runs
  rw [State.zeroSpeedPresent_eq, here]
  exact DoorRun.seesZeroSpeed_unlocks st wait moved jog

end

end Sys2Proof.Machine
end

section
/-! The inputs of a doorway as events: one operation each, where the input is named (R260, R262, R266, R275). -/

namespace Sys2Proof.Safety
open Machine

/-- An event has made `q` of a doorway, and changed nothing but doorways and axes. -/
structure DoorEvent (s t : State) (d : DoorId) (q : DoorRun) : Prop where
  /-- The doorway and the axes. -/
  made : DoorMade s t d q
  /-- The rest. -/
  changes : Changes [.doors, .axes] s t
  /-- No axis is touched. -/
  still : q.axes = s.axes → Changes [.doors] s t

end Sys2Proof.Safety

namespace Sys2Proof.Machine
open Safety

section
variable {s : State} {d : DoorId} (runs : DoorRuns s d)
include runs

/-- An event of a doorway that the state admits comes to one operation. -/
theorem State.doorEvent {b : Bool} {f : DoorRun → DoorIn → DoorRun} {q : DoorRun} (admits : b = true)
    (makes : f ⟨s.doors[d], s.axes, []⟩ (s.doorIn d) = q) : DoorEvent s (s.live b fun s => s.onDoor d f) d q := by
  obtain ⟨running, computes, used⟩ := runs
  subst makes
  rw [State.live_pos running admits, State.onDoor_eq used computes]
  exact ⟨s.runDoor_made d _ f, (s.runDoor_changes d _ f).mono (by decide), State.runDoor_changes_doors⟩

/-- A press of a button that was not pressed. -/
theorem exec_buttonPress (outside : Bool) (named : s.cfg.eff.n (if outside then F.buttonOut else F.buttonIn) d.val ≠ 0xFF)
    (up : (s.doors[d]).active.getLsbD (if outside then 6 else 5) = false) : ∃ t, exec (.buttonPress d outside) s = .next t ∧
    DoorEvent s t d ((DoorRun.sees ⟨s.doors[d], s.axes, []⟩ (if outside then 6 else 5) true).button (s.doorIn d)) :=
  ⟨_, rfl, State.doorEvent runs (bne_iff_ne.2 named) (if_neg (Bool.eq_false_iff.1 up))⟩

theorem exec_isolationOn (named : s.cfg.eff.n F.isolatedInput d.val ≠ 0xFF) (moved : (s.doors[d]).moved = false) (st : (s.doors[d]).st ≠ .isolated)
    (stuck : (s.doors[d]).stuck = false) : ∃ t, exec (.isolationOn d) s = .next t ∧
    DoorEvent s t d ((DoorRun.sees ⟨s.doors[d], s.axes, []⟩ 2 true).enterIsolated (s.doorIn d)).byEvent := by
  have enters : ((s.doors[d]).moved || (s.doors[d]).st == DoorState.isolated || (s.doors[d]).stuck) = false := by
    rw [moved, stuck, beq_eq_false_iff_ne.2 st]
    rfl
  exact ⟨_, rfl, State.doorEvent runs (bne_iff_ne.2 named) (if_neg (Bool.eq_false_iff.1 enters))⟩

theorem exec_isolationOff (named : s.cfg.eff.n F.isolatedInput d.val ≠ 0xFF) (moved : (s.doors[d]).moved = false) (st : (s.doors[d]).st = .isolated) :
    ∃ t, exec (.isolationOff d) s = .next t ∧
    DoorEvent s t d ((DoorRun.sees ⟨s.doors[d], s.axes, []⟩ 2 false).enterUnhomed (s.doorIn d) true).byEvent := by
  have enters : ((s.doors[d]).moved || (s.doors[d]).st != DoorState.isolated) = false := by
    rw [moved, st]
    rfl
  exact ⟨_, rfl, State.doorEvent runs (bne_iff_ne.2 named) (if_neg (Bool.eq_false_iff.1 enters))⟩

/-- What the doorway reads while its egress pair is active. -/
def pairActive (i : DoorIn) : DoorIn := { i with active := i.active ||| 16#7 }

theorem exec_doorEgress (named : s.cfg.eff.n F.egressPair d.val ≠ 0xFF) (off : (s.doors[d]).active.getLsbD 4 = false) :
    ∃ t, exec (.doorEgress d) s = .next t ∧
    DoorEvent s t d ((DoorRun.sees ⟨s.doors[d], s.axes, []⟩ 4 true).egressActive (pairActive (s.doorIn d))) :=
  ⟨_, rfl, State.doorEvent runs (bne_iff_ne.2 named) (if_neg (Bool.eq_false_iff.1 off))⟩

theorem exec_egressCleared (named : s.cfg.eff.n F.egressPair d.val ≠ 0xFF) (on : (s.doors[d]).active.getLsbD 4 = true) :
    ∃ t, exec (.egressCleared d) s = .next t ∧
    DoorEvent s t d ((DoorRun.sees ⟨s.doors[d], s.axes, []⟩ 4 false).egressInactive (s.doorIn d)) :=
  ⟨_, rfl, State.doorEvent runs (bne_iff_ne.2 named) (if_pos on)⟩

end

end Sys2Proof.Machine

open Sys2Proof Sys2Proof.Machine Sys2Proof.Safety

/-- Settles O44: each input is one operation on its doorway; the release and zero speed are one on every doorway. -/
theorem doorInputs : Obligations.DoorInputs := by
  unfold Obligations.DoorInputs
  refine ⟨fun s d runs => ⟨fun outside named up => ?button, fun named moved => ⟨fun st stuck => ?isolated, fun st => ?restored⟩,
    fun named => ⟨fun off => ?egress, fun on => ?cleared⟩⟩, fun s gone running => ?loss, fun s running => ?zeroSpeed⟩
  case button =>
    obtain ⟨t, event, made, changes, -⟩ := exec_buttonPress runs outside named up
    obtain ⟨here, axes, others, -, -⟩ := made
    obtain ⟨idle, opened, unlocks, opens, unreleased⟩ :=
      DoorRun.button_answer (DoorRun.sees ⟨s.doors[d], s.axes, []⟩ (if outside then 6 else 5) true) (s.doorIn d)
    refine ⟨t, event, ?_, others, changes, fun off => ?_, fun enabled free st => ?_, fun enabled free side zero => ⟨fun st => ?_, fun st => ?_⟩,
      fun off => ?_⟩
    · rw [here, DoorRun.button_active]
      cases outside <;> rfl
    · rw [here, axes]
      exact idle off
    · rw [here, axes]
      exact opened enabled free st
    · rw [here]
      exact unlocks enabled free side zero st
    · rw [here]
      exact opens enabled free side zero st
    · rw [here, axes]
      exact unreleased off
  case isolated =>
    obtain ⟨t, event, ⟨here, axes, others, -, -⟩, changes, -⟩ := exec_isolationOn runs named moved st stuck
    obtain ⟨isolated, tick, -⟩ := DoorRun.enterIsolated_frame (DoorRun.sees ⟨s.doors[d], s.axes, []⟩ 2 true) (s.doorIn d)
    refine ⟨t, event, here ▸ isolated, here ▸ tick, fun a member => ?_, others, changes⟩
    rw [axes]
    exact DoorRun.enterIsolated_axes (DoorRun.sees ⟨s.doors[d], s.axes, []⟩ 2 true) (s.doorIn d) member
  case restored =>
    obtain ⟨t, event, ⟨here, axes, others, -, -⟩, changes, -⟩ := exec_isolationOff runs named moved st
    obtain ⟨unhomed, tick, -⟩ := DoorRun.enterUnhomed_frame (DoorRun.sees ⟨s.doors[d], s.axes, []⟩ 2 false) (s.doorIn d) true
    refine ⟨t, event, here ▸ unhomed, here ▸ tick, fun a member => ?_, others, changes⟩
    rw [axes]
    exact DoorRun.enterUnhomed_unhomed _ (s.doorIn d) member
  case egress =>
    obtain ⟨t, event, ⟨here, axes, others, tells, tellsAfter⟩, changes, -⟩ := exec_doorEgress runs named off
    refine ⟨t, event, ?_, fun st => ?_, fun isolated fault egress => ?_, others, changes⟩
    · rw [here, DoorRun.egressActive_active]
      exact DoorRun.sees_on (by decide)
    · have told := DoorRun.egressActive_told (r := DoorRun.sees ⟨s.doors[d], s.axes, []⟩ 4 true) (i := pairActive (s.doorIn d)) st
      rw [told] at here axes tells
      exact ⟨by rw [here]; rfl, axes, tells ⟨0x3003, d.val, 0⟩ rfl (by decide : (0x3003 : Code) ≠ 0x4804)⟩
    · have enters := DoorRun.egressActive_enters (r := DoorRun.sees ⟨s.doors[d], s.axes, []⟩ 4 true) (i := pairActive (s.doorIn d)) isolated fault egress
      obtain ⟨entered, tick, attempts, free, -, ev⟩ :=
        DoorRun.enterEgress_frame (DoorRun.sees ⟨s.doors[d], s.axes, []⟩ 4 true) (pairActive (s.doorIn d))
      have few := DoorRun.abortHoming_ev_length (DoorRun.sees ⟨s.doors[d], s.axes, []⟩ 4 true) (pairActive (s.doorIn d))
      rw [enters] at here tellsAfter
      have short : ((DoorRun.sees ⟨s.doors[d], s.axes, []⟩ 4 true).enterEgress (pairActive (s.doorIn d))).ev.length ≤ 16 := by
        rw [ev, List.length_cons]
        exact (Nat.succ_le_succ few).trans (show 0 + 4 + 1 ≤ 16 by decide)
      rw [here]
      exact ⟨entered, tick, attempts, free, tellsAfter ⟨0x3003, d.val, _⟩ (ev.symm ▸ List.mem_cons_self) (by decide : (0x3003 : Code) ≠ 0x4804) short⟩
  case cleared =>
    obtain ⟨t, event, ⟨here, axes, others, tells, -⟩, -, still⟩ := exec_egressCleared runs named on
    refine ⟨t, event, ?_, ?_, axes, tells ⟨0x3004, d.val, 0⟩ rfl (by decide : (0x3004 : Code) ≠ 0x4804), others, still rfl⟩
    · rw [here]
      exact DoorRun.sees_off (by decide)
    · rw [here]
      rfl
  case loss =>
    refine ⟨_, congrArg Host.Outcome.next (State.live_pos running rfl), s.releaseLost_il gone, fun d runs lost st => ?_, fun stays => ?_, fun moving => ?_,
      s.releaseLost_changes gone⟩
    · rw [s.releaseLost_il gone] at lost
      obtain ⟨warning, warnEnd⟩ := s.doorsSeeLoss_warns gone runs lost st
      obtain ⟨state, tick⟩ := s.releaseLost_door gone d
      exact ⟨state.trans warning, tick.trans warnEnd⟩
    · rw [s.releaseLost_il gone] at stays
      exact s.releaseLost_unit gone stays
    · rw [s.releaseLost_il gone] at moving
      exact s.releaseLost_run gone moving
  case zeroSpeed =>
    exact ⟨_, congrArg Host.Outcome.next (State.live_pos running rfl), s.zeroSpeedPresent_il,
      fun d runs st wait moved jog => s.zeroSpeedPresent_unlocks runs st wait moved jog, s.zeroSpeedPresent_changes⟩
end

section
/-! A jog in a compute phase: what of its clock and its axis every operation of the phase leaves, and the operation that ends it (R268, R282). -/

namespace Sys2Proof.Machine
open Safety

namespace DoorRun

/-! ## The verdict leaves a doorway but for its closing sequence (R245, R249 to R251) -/

/-- Beside what its closing sequence has shown, the doorway stays. -/
def ShowsOnly (r q : DoorRun) : Prop := q.door = { r.door with clo := q.door.clo }

section
variable {r q p : DoorRun}

theorem ShowsOnly.of_door (h : q.door = r.door) : ShowsOnly r q := by rw [ShowsOnly, h]

theorem ShowsOnly.refl (r : DoorRun) : ShowsOnly r r := rfl

theorem ShowsOnly.trans (h : ShowsOnly r q) (g : ShowsOnly q p) : ShowsOnly r p := by
  rw [ShowsOnly, g, h]

theorem ShowsOnly.ite {c : Prop} [Decidable c] (h : ShowsOnly r q) (g : ShowsOnly r p) : ShowsOnly r (if c then q else p) := by
  split <;> assumption

theorem ShowsOnly.clo (h : ShowsOnly r q) (f : Closure → Closure) : ShowsOnly r (q.clo f) := h.trans rfl

theorem ShowsOnly.cloEvent (h : ShowsOnly r q) (i : DoorIn) (bitNo : Nat) (code : Code) : ShowsOnly r (q.cloEvent i bitNo code) := h.trans rfl

theorem ShowsOnly.foldl {f : DoorRun → AxisId → DoorRun} (h : ShowsOnly r q) (l : List AxisId) (still : ∀ r a, (f r a).door = r.door) :
    ShowsOnly r (l.foldl f q) :=
  h.trans (.of_door (foldl_door still l q))

variable (r) (i : DoorIn)

theorem monitor_showsOnly : ShowsOnly r (r.monitor i) := by
  unfold monitor
  split
  · exact .refl r
  · extract_lets watched gs p failing ls counted noted gone
    have watches : ShowsOnly r watched := (ShowsOnly.refl r).foldl _ fun r a => by
      unfold liveGap
      split <;> rfl
    have notes : ShowsOnly r noted := (watches.foldl ls fun r a => (obst_frame r a _).1).clo _
    exact .ite ((notes.clo _).cloEvent i 2 0x3012) notes

theorem verdict_showsOnly : ShowsOnly r (r.verdict i) := by
  unfold verdict
  extract_lets ls k obst aband begun evaluated gs gaps decided checked watched pass stands lock inputs ports closed locked bits start started judged
  have decides : ShowsOnly r decided := ((ShowsOnly.refl r).clo _).clo _
  have checks : ShowsOnly r checked := .ite (.ite decides (decides.cloEvent i 0 0x3010)) ((ShowsOnly.refl r).clo _)
  have watches : ShowsOnly r watched := checks.trans (monitor_showsOnly checked i)
  have judges : ShowsOnly r judged := (ShowsOnly.ite (watches.foldl ls fun r a => (obst_frame r a _).1) watches).clo _
  exact .ite (judges.foldl ls fun _ _ => rfl) judges

/-! ## The clock of a jog (R282) -/

theorem ite_jogTick {t : Tick} {c : Prop} [Decidable c] (h : q.door.jogTick = t) (g : p.door.jogTick = t) : (if c then q else p).door.jogTick = t := by
  split <;> assumption

theorem foldl_jogTick {f : DoorRun → Nat → DoorRun} (h : ∀ r k, (f r k).door.jogTick = r.door.jogTick) (l : List Nat) :
    (l.foldl f r).door.jogTick = r.door.jogTick :=
  List.foldlRecOn (motive := fun q => q.door.jogTick = r.door.jogTick) l f rfl fun q same k _ => (h q k).trans same

theorem stepOut_door : (r.stepOut i).door = r.door := by
  unfold stepOut
  split
  · rfl
  · exact ite_door (follow_frame r i true).1 (ite_door (ite_door rfl rfl) rfl)

theorem enterStepOut_jogTick : (r.enterStepOut i).door.jogTick = r.door.jogTick := by
  simp [enterStepOut, stepOut_door]

theorem enterOpen_jogTick : (r.enterOpen i).door.jogTick = r.door.jogTick := by
  simp [enterOpen]

theorem enterStepIn_jogTick : (r.enterStepIn i).door.jogTick = r.door.jogTick := by
  simp [enterStepIn]

theorem enterClosedLocked_jogTick : (r.enterClosedLocked i).door.jogTick = r.door.jogTick := by
  simp [enterClosedLocked, toClosedLocked]

theorem reopenTargets_jogTick : (r.reopenTargets i).door.jogTick = r.door.jogTick := by
  refine foldl_jogTick r (fun r k => ?_) _
  split
  · rfl
  · exact ite_jogTick rfl rfl

theorem enterReopening_jogTick : (r.enterReopening i).door.jogTick = r.door.jogTick := by
  simp [enterReopening, reopenTargets_jogTick]

theorem homeFails_jogTick : (r.homeFails i).door.jogTick = r.door.jogTick := rfl

theorem homeTick_jogTick : (r.homeTick i).door.jogTick = r.door.jogTick := by
  unfold homeTick
  dsimp only
  split
  · rfl
  · exact ite_jogTick (by simp) rfl
  · exact ite_jogTick (by simp) rfl
  · exact ite_jogTick (homeFails_jogTick r i) (ite_jogTick (by rw [homeLeaves_door]) rfl)
  · exact ite_jogTick (homeFails_jogTick r i) (ite_jogTick (by rw [homeLock_door]) rfl)
  · exact ite_jogTick (homeFails_jogTick r i) (ite_jogTick (by simp) rfl)

theorem closingOutcome_jogTick : (r.closingOutcome i).door.jogTick = r.door.jogTick :=
  ite_jogTick (enterStepIn_jogTick r i) (ite_jogTick (enterReopening_jogTick (r.upd Door.attempt) i)
    (ite_jogTick (enterReopening_jogTick r i) (enterStepIn_jogTick r i)))

theorem timed_jogTick (ms : Nat) : (r.timed i ms).1.door.jogTick = r.door.jogTick := by
  unfold timed
  split <;> rfl

/-- A timer, and what its end does. -/
theorem timed_then_jogTick (ms : Nat) {f : DoorRun → DoorRun} (h : ∀ r, (f r).door.jogTick = r.door.jogTick) :
    (if (r.timed i ms).2 then f (r.timed i ms).1 else (r.timed i ms).1).door.jogTick = r.door.jogTick :=
  ite_jogTick ((h _).trans (timed_jogTick r i ms)) (timed_jogTick r i ms)

theorem pauseEnd_jogTick : (r.pauseEnd i).door.jogTick = r.door.jogTick := ite_jogTick (by simp) (by simp)

theorem openRetry_jogTick : (r.openRetry i).door.jogTick = r.door.jogTick := ite_jogTick (by simp) (by simp)

theorem stepRetry_jogTick : (r.stepRetry i).door.jogTick = r.door.jogTick := ite_jogTick (by simp) (by simp)

theorem lockUnconfirmed_jogTick : (r.lockUnconfirmed i).door.jogTick = r.door.jogTick := by
  simp [lockUnconfirmed]

theorem unproven_jogTick : (r.unproven i).door.jogTick = r.door.jogTick := by
  simp [unproven]

theorem egressAct_jogTick : (r.egressAct i).door.jogTick = r.door.jogTick := ite_jogTick (by simp) (by simp)

theorem egressTick_jogTick : (r.egressTick i).door.jogTick = r.door.jogTick := by
  unfold egressTick
  split
  · exact ite_jogTick (by simp) rfl
  · exact ite_jogTick (egressAct_jogTick r i) rfl
  · rfl

theorem internalState_jogTick : (r.internalState i).door.jogTick = r.door.jogTick := by
  have pause := timed_then_jogTick (r.reopenTargets i) i (i.cfg.n F.reopenPauseMs i.d) fun r => pauseEnd_jogTick r i
  have confirm := timed_then_jogTick r i (i.cfg.n F.lockConfirmMs i.d) fun r => lockUnconfirmed_jogTick r i
  unfold internalState
  dsimp only
  split
  · exact homeTick_jogTick r i
  · rfl
  · exact ite_jogTick rfl (unproven_jogTick r i)
  · rfl
  · exact ite_jogTick (enterStepOut_jogTick r i) rfl
  · exact ite_jogTick (by simp) rfl
  · exact ite_jogTick (ite_jogTick (timed_then_jogTick r i _ fun r => openRetry_jogTick r i) rfl) (ite_jogTick (enterOpen_jogTick r i) rfl)
  · exact ite_jogTick (by simp) rfl
  · exact ite_jogTick (enterClosing_frame r i).2.2.1 rfl
  · exact ite_jogTick (closingOutcome_jogTick r i) rfl
  · exact (ite_jogTick (q := _) (p := (r.reopenTargets i).upd _) pause rfl).trans (reopenTargets_jogTick r i)
  · rfl
  · exact ite_jogTick (ite_jogTick (timed_then_jogTick r i _ fun r => stepRetry_jogTick r i) rfl) (ite_jogTick (by simp) rfl)
  · exact ite_jogTick (enterClosedLocked_jogTick r i) (ite_jogTick (ite_jogTick (by simp) confirm) rfl)
  · exact egressTick_jogTick r i
  · exact ite_jogTick (by simp) rfl

theorem stepStopped_jogTick : (r.stepStopped i).door.jogTick = r.door.jogTick := by
  unfold stepStopped
  dsimp only
  rw [(event_frame _ i 7 _ _).1, (upd_frame _ _).1, foldl_door fun r a => (mot_frame r a _).1]

theorem stall_jogTick (k : Nat) : (r.stall i k).door.jogTick = r.door.jogTick := by
  unfold stall
  split
  · exact ite_jogTick (stepStopped_jogTick r i) rfl
  · exact ite_jogTick rfl rfl
  · exact ite_jogTick (by simp) rfl
  · rfl

/-! ## An axis that is jogged no longer -/

/-- The axis is not jogged. -/
def Unjogged (x : Axis) : Prop := x.mot.jog = false

theorem LastsHoming.unjogged : LastsHoming Unjogged where
  target x t now holds := (x.mot.setTarget_frame t now).2.2.2.2.trans holds
  unjog _ _ := rfl
  follow _ _ _ holds := holds
  homing _ _ _ holds := holds

theorem want_unjogged (ks : List Nat) (on : Bool) : Keeps Unjogged r (r.want i ks on) :=
  .foldl (fun r a => mot_keeps (f := fun m => { m with want := on }) (fun _ holds => holds) r a) _ r

theorem homeStart_unjogged : Keeps Unjogged r (r.homeStart i) :=
  (want_unjogged (r.upd _) i _ _).trans (homeStart_keeps r i .unjogged)

/-- Ended jogs that come to rest leave the jog of the doorway and its clock, and every axis that is not jogged. -/
theorem jogRest_frame :
    ((r.jogRest i).door.jog = r.door.jog ∧ (r.jogRest i).door.jogTick = r.door.jogTick) ∧ Keeps Unjogged r (r.jogRest i) := by
  refine List.foldlRecOn (motive := fun q => (q.door.jog = r.door.jog ∧ q.door.jogTick = r.door.jogTick) ∧ Keeps Unjogged r q) [0, 1, 2, 3] _
    ⟨⟨rfl, rfl⟩, .refl r⟩ fun q same k _ => ?_
  split
  · simp only [upd_frame, want_frame]
    exact ⟨same.1, (same.2.trans (want_unjogged q i [k] false)).upd _⟩
  · exact same

/-! ## Internal triggers (R268) -/

theorem internal_jogTick : (r.internal i).door.jogTick = r.door.jogTick := by
  unfold internal
  rw [(jogRest_frame _ i).1.2]
  have stalls : ([2, 3].foldl (fun r k =>
        match slotAxis i.cfg i.d k with
        | none => r
        | some a => if i.stalled.getLsbD a.val then r.stall i k else r) r).door.jogTick = r.door.jogTick := by
    refine foldl_jogTick r (fun r k => ?_) [2, 3]
    split
    · rfl
    · exact ite_jogTick (stall_jogTick r i k) rfl
  exact ite_jogTick rfl (ite_jogTick (enterIsolated_frame r i).2.2 (ite_jogTick (enterUnhomed_frame r i true).2.2.1
    (ite_jogTick rfl (ite_jogTick ((internalState_jogTick _ i).trans stalls) stalls))))

section
variable {r i} {k : Fin 4} {a : AxisId} (jog : r.door.jog = some k) (slot : slotAxis i.cfg i.d k.val = some a)
include jog slot

/-- A doorway that enters a state jogs its axis no longer. -/
theorem goto_unjogs (st : DoorState) : Unjogged ((r.goto i st).axes[a]) := (jogEnd_made i jog slot).1

theorem enterIsolated_unjogs : Unjogged ((r.enterIsolated i).axes[a]) :=
  follow_keeps _ i LastsHoming.unjogged.toLasts false a (goto_unjogs (r := r.offNow i) ((congrArg Door.jog (offNow_door r i)).trans jog) slot .isolated)

theorem enterUnhomed_unjogs : Unjogged ((r.enterUnhomed i true).axes[a]) := by
  have entered := want_unjogged _ i [0, 1, 2, 3] false a (goto_unjogs jog slot .unhomed)
  exact Keeps.foldl (P := Unjogged)
    (fun r a => mot_keeps (f := fun m => { m with home := { m.home with homed := false } }) (fun _ holds => holds) r a) (axesOf i.cfg i.d) _ a entered

/-- During a jog the internal triggers leave it to its end, or free its axis (R268). -/
theorem internal_jogs : (r.internal i).door.jog = some k ∨ Unjogged ((r.internal i).axes[a]) := by
  have rests {q : DoorRun} (h : q.door.jog = some k ∨ Unjogged q.axes[a]) :
      (q.jogRest i).door.jog = some k ∨ Unjogged (q.jogRest i).axes[a] :=
    h.imp (jogRest_frame q i).1.1.trans ((jogRest_frame q i).2 a)
  unfold internal
  refine rests ?_
  dsimp only
  split
  · exact .inl jog
  · split
    · exact .inr (enterIsolated_unjogs jog slot)
    · split
      · exact .inr (enterUnhomed_unjogs jog slot)
      · rw [if_pos (Option.isSome_iff_exists.2 ⟨k, jog⟩)]
        exact .inl jog

end

/-! ## The end of a jog in the phase (R282) -/

/-- The chime ends where its time has come. -/
def chimed (r : DoorRun) (i : DoorIn) : DoorRun :=
  match r.door.chime with
  | some t => if reached i.now t then r.upd fun w => { w with chime := none } else r
  | none => r

theorem chimed_frame : (r.chimed i).door.jog = r.door.jog ∧ (r.chimed i).door.jogTick = r.door.jogTick ∧ (r.chimed i).axes = r.axes := by
  unfold chimed
  split
  · split <;> exact ⟨rfl, rfl, rfl⟩
  · exact ⟨rfl, rfl, rfl⟩

/-- A jog whose time is over or whose switch is off ends. -/
theorem side_ends {sw11 : Bool} (due : sw11 = false ∨ reached i.now (after r.door.jogTick 4000) = true) :
    r.side i sw11 = (r.chimed i).jogEnd i := by
  have ends : (!sw11 || reached i.now (after (r.chimed i).door.jogTick 4000)) = true := by
    rw [(chimed_frame r i).2.1]
    exact due.elim (fun off => by rw [off]; rfl) fun late => by rw [late, Bool.or_true]
  show (match (r.chimed i).door.jog with
    | some _ => if !sw11 || reached i.now (after (r.chimed i).door.jogTick 4000) then (r.chimed i).jogEnd i else r.chimed i
    | none => r.chimed i) = _
  split
  · exact if_pos ends
  · next idle =>
    unfold jogEnd
    rw [idle]

/-- The phase of a doorway up to its internal triggers. -/
def triggered (r : DoorRun) (i : DoorIn) : DoorRun :=
  ((r.upd fun w => { w with active := i.active, valid := i.valid, release := i.side && i.zero }).verdict i).internal i

theorem triggered_jogTick : (r.triggered i).door.jogTick = r.door.jogTick := by
  have shows := verdict_showsOnly (r.upd fun w => { w with active := i.active, valid := i.valid, release := i.side && i.zero }) i
  unfold triggered
  rw [internal_jogTick, shows]
  rfl

theorem triggered_jogs {k : Fin 4} {a : AxisId} (jog : r.door.jog = some k) (slot : slotAxis i.cfg i.d k.val = some a) :
    (r.triggered i).door.jog = some k ∨ Unjogged (r.triggered i).axes[a] := by
  have shows := verdict_showsOnly (r.upd fun w => { w with active := i.active, valid := i.valid, release := i.side && i.zero }) i
  exact internal_jogs ((congrArg Door.jog shows).trans jog) slot

/-- What follows the triggers of a phase leaves the jog and every axis that is not jogged. -/
theorem finish_frame (sw11 home : Bool) : (r.finish i sw11 home).door.jog = ((r.triggered i).side i sw11).door.jog ∧
    Keeps Unjogged ((r.triggered i).side i sw11) (r.finish i sw11 home) := by
  unfold finish
  extract_lets seen told
  have same : told.door.jog = ((r.triggered i).side i sw11).door.jog ∧ told.axes = ((r.triggered i).side i sw11).axes := ⟨rfl, rfl⟩
  clear_value told
  obtain ⟨jog, axes⟩ := same
  split
  · exact ⟨(congrArg Door.jog (homeStart_door told i)).trans jog, (Keeps.of_axes axes).trans (homeStart_unjogged told i)⟩
  · exact ⟨jog, .of_axes axes⟩

theorem finish_ends {sw11 : Bool} (home : Bool) (due : sw11 = false ∨ reached i.now (after r.door.jogTick 4000) = true) :
    (r.finish i sw11 home).door.jog = none := by
  rw [(finish_frame r i sw11 home).1, side_ends (r.triggered i) i (by rw [triggered_jogTick]; exact due), jogEnd_door]

theorem finish_unjogs {sw11 : Bool} (home : Bool) (due : sw11 = false ∨ reached i.now (after r.door.jogTick 4000) = true) {k : Fin 4} {a : AxisId}
    (jog : r.door.jog = some k) (slot : slotAxis i.cfg i.d k.val = some a) : ((r.finish i sw11 home).axes[a]).mot.jog = false := by
  obtain ⟨sameJog, -, axes⟩ := chimed_frame (r.triggered i) i
  refine (finish_frame r i sw11 home).2 a ?_
  rw [side_ends (r.triggered i) i (by rw [triggered_jogTick]; exact due)]
  rcases triggered_jogs r i jog slot with jogs | free
  · exact (jogEnd_made i (sameJog.trans jogs) slot).1
  · exact jogEnd_keeps _ i LastsHoming.unjogged.toLasts a (Keeps.of_axes axes a free)

end

end DoorRun
end Sys2Proof.Machine
end

section
/-! The timers of a doorway as events, and the end of a jog (R266, R271, R272, R274, R282). -/

namespace Sys2Proof.Safety
open Machine

/-- A timer's end has made `q` of a doorway, but for the note that its state has changed. -/
structure DoorTrigger (s t : State) (d : DoorId) (q : DoorRun) : Prop where
  /-- The doorway. -/
  here : t.doors[d] = { q.door with moved := (t.doors[d]).moved }
  /-- The axes. -/
  axes : t.axes = q.axes
  /-- The other doorways. -/
  others : Elsewhere d s.doors t.doors
  /-- The code raised first. -/
  tells : ∀ e, q.ev.getLast? = some e → e.code ≠ 0x4804 → Tells s t e.code e.inst e.detail
  /-- The rest. -/
  changes : Changes [.doors, .axes] s t

end Sys2Proof.Safety

namespace Sys2Proof.Machine
open Safety

section
variable {s : State} {d : DoorId}

theorem State.onDoorway_event (runs : DoorRuns s d) (f : DoorRun → DoorIn → DoorRun) :
    DoorEvent s (s.onDoorway d f) d (f ⟨s.doors[d], s.axes, []⟩ (s.doorIn d)) :=
  State.doorEvent runs rfl rfl

/-- A timer's end in a tick in which the doorway has not moved comes to one operation. -/
theorem State.doorTrigger (runs : DoorRuns s d) (moved : (s.doors[d]).moved = false) (jog : (s.doors[d]).jog = none) {f : DoorRun → DoorIn → DoorRun}
    {q : DoorRun} (makes : f ⟨s.doors[d], s.axes, []⟩ (s.doorIn d) = q) : DoorTrigger s (s.onDoorway d fun r i => r.trigger fun r => f r i) d q := by
  subst makes
  obtain ⟨made, changes, -⟩ := State.onDoorway_event runs fun r i => r.trigger fun r => f r i
  obtain ⟨here, axes, others, tells, -⟩ := made
  obtain ⟨door, sameAxes, ev⟩ := DoorRun.trigger_frame (r := ⟨s.doors[d], s.axes, []⟩) (f := fun r => f r (s.doorIn d)) moved jog
  rw [ev] at tells
  refine ⟨?_, axes.trans sameAxes, others, tells, changes⟩
  have note := congrArg Door.moved here
  exact here.trans (door.trans (congrArg (fun m => { (f ⟨s.doors[d], s.axes, []⟩ (s.doorIn d)).door with moved := m }) note.symm))

end

namespace DoorRun

/-! ## What each timer's end makes of its doorway -/

section
variable {r : DoorRun} {i : DoorIn}

theorem autoClose_warns (st : r.door.st = .opened) (ms : i.cfg.n F.autoCloseMs i.d ≠ 0) : r.autoClose i = r.enterWarning i :=
  if_pos (by simp [st, ms])

theorem reopenPause_ends (st : r.door.st = .reopening) (timer : r.door.timer.isSome = true) : r.reopenPause i = r.pauseEnd i :=
  if_pos (by simp [st, timer])

theorem stepPause_retries (st : r.door.st = .stepIn) (retry : r.door.retry = true) (timer : r.door.timer.isSome = true) :
    r.stepPause i = r.stepRetry i :=
  if_pos (by simp [st, retry, timer])

theorem lockPause_unconfirmed (st : r.door.st = .locking) (timer : r.door.timer.isSome = true) (locked : r.door.clo.locked = false) :
    r.lockPause i = r.lockUnconfirmed i :=
  if_pos (by simp [st, timer, locked])

theorem lockUnconfirmed_frame : (r.lockUnconfirmed i).door.st = .closedUnlocked ∧ (r.lockUnconfirmed i).door.tick = i.now ∧
    (r.lockUnconfirmed i).ev = ⟨0x3007, i.d, 0⟩ :: r.ev := by
  simp [lockUnconfirmed]

/-- The attempts decide between a new closing and giving up. -/
theorem pauseEnd_frame :
    (r.pauseEnd i).door.st = (if i.cfg.n F.reopenAttempts i.d < r.door.attempts then .obstructedOpen else .closing) ∧
    (r.pauseEnd i).door.tick = i.now ∧
    (i.cfg.n F.reopenAttempts i.d < r.door.attempts → (r.pauseEnd i).ev = ⟨0x3005, i.d, 0⟩ :: r.ev) := by
  unfold pauseEnd
  split
  case isTrue spent =>
    obtain ⟨st, tick, -, ev⟩ := enterObstructed_frame r i
    exact ⟨st, tick, fun _ => ev⟩
  case isFalse left =>
    obtain ⟨st, tick, -⟩ := enterClosing_frame r i
    exact ⟨st, tick, fun spent => absurd spent left⟩

theorem stepRetry_gives_up (spent : i.cfg.n F.reopenAttempts i.d < r.door.attempts) :
    (r.stepRetry i).door.st = .fault ∧ (r.stepRetry i).door.cause = 0x3023 := by
  obtain ⟨st, -, cause, -⟩ := enterFault_frame r i 0x3023
  rw [show r.stepRetry i = r.enterFault i 0x3023 from if_pos spent]
  exact ⟨st, cause⟩

theorem stepRetry_retries (left : ¬ i.cfg.n F.reopenAttempts i.d < r.door.attempts) :
    (r.stepRetry i).door.st = r.door.st ∧ (r.stepRetry i).door.retry = false := by
  rw [show r.stepRetry i = _ from if_neg left, (slotTarget_frame _ i 2 _).1]
  exact ⟨rfl, rfl⟩

/-! ## A closing sequence begins with leaves not evaluated (R245) -/

/-- The leaf has not been evaluated. -/
def Unevaluated (x : Axis) : Prop := x.obst.done = false

variable (r i)

theorem closingTargets_unevaluated : Keeps Unevaluated r (r.closingTargets i) := by
  refine .foldl (fun r a => ?_) _ r
  refine Keeps.trans (.ite ?_ (.refl r)) (mot_keeps (f := fun m => m.setTarget _ i.now) (fun _ holds => holds) _ a)
  refine obst_keeps ?_ r a
  exact fun _ holds => holds

theorem beginSequence_unevaluated {a : AxisId} (leaf : a ∈ leavesOf i.cfg i.d) : Unevaluated ((r.beginSequence i).axes[a]) := by
  refine foldl_makes (f := fun r a => r.obst a fun o => { o with done := false, lossRun := 0 }) (fun r a => ?_) (fun r a => ?_) _ _ leaf
  · exact congrArg (fun x : Axis => x.obst.done) (vmod_get r.axes a _)
  · exact obst_keeps (f := fun o => { o with done := false, lossRun := 0 }) (fun _ _ => rfl) r a

theorem enterClosing_unevaluated {a : AxisId} (leaf : a ∈ leavesOf i.cfg i.d) : Unevaluated ((r.enterClosing i).axes[a]) :=
  closingTargets_unevaluated _ i a (beginSequence_unevaluated _ i leaf)

end

end DoorRun
end Sys2Proof.Machine

open Sys2Proof Sys2Proof.Machine Sys2Proof.Safety

/-- Settles O45: a phase ends a jog after its triggers; each timer's end is one operation on its doorway. -/
theorem doorTimers : Obligations.DoorTimers := by
  unfold Obligations.DoorTimers
  refine ⟨fun r i sw11 home due => ⟨r.finish_ends i home due, fun k a jog slot => r.finish_unjogs i home due jog slot⟩,
    fun s d runs => ⟨fun moved jog => ⟨fun st ms => ?autoClose, fun st => ?warning, fun st timer => ?pause, fun st retry timer => ?step,
      fun st timer locked => ?lock⟩, ?chime, fun k a jog slot => ?jogged⟩⟩
  case autoClose =>
    have event := State.doorTrigger runs moved jog (f := DoorRun.autoClose)
      (DoorRun.autoClose_warns (r := ⟨s.doors[d], s.axes, []⟩) (i := s.doorIn d) st ms)
    obtain ⟨warning, tick, -, -, -, warnEnd, ev⟩ := DoorRun.enterWarning_frame ⟨s.doors[d], s.axes, []⟩ (s.doorIn d)
    refine ⟨_, rfl, ?_, ?_, ?_, event.tells ⟨0x3001, d.val, _⟩ ?_ (by decide : (0x3001 : Code) ≠ 0x4804), event.others, event.changes⟩
    · rw [event.here]; exact warning
    · rw [event.here]; exact tick
    · rw [event.here]; exact warnEnd
    · rw [ev]; rfl
  case warning =>
    have event := State.doorTrigger runs moved jog (f := fun r i => if r.door.st == DoorState.warning then r.warningEnd i else r)
      (if_pos (beq_iff_eq.2 st))
    obtain ⟨closing, tick, -, seq, seqObst, -⟩ := DoorRun.enterClosing_frame ⟨s.doors[d], s.axes, []⟩ (s.doorIn d)
    refine ⟨_, rfl, ?_, ?_, ?_, ?_, fun a leaf => ?_, event.others, event.changes⟩
    · rw [event.here]; exact closing
    · rw [event.here]; exact tick
    · rw [event.here]; exact seq
    · rw [event.here]; exact seqObst
    · rw [event.axes]
      exact DoorRun.enterClosing_unevaluated _ (s.doorIn d) leaf
  case pause =>
    have event := State.doorTrigger runs moved jog (f := DoorRun.reopenPause)
      (DoorRun.reopenPause_ends (r := ⟨s.doors[d], s.axes, []⟩) (i := s.doorIn d) st timer)
    obtain ⟨state, tick, ev⟩ := DoorRun.pauseEnd_frame (r := ⟨s.doors[d], s.axes, []⟩) (i := s.doorIn d)
    refine ⟨_, rfl, ?_, ?_, fun spent => event.tells ⟨0x3005, d.val, 0⟩ ?_ (by decide : (0x3005 : Code) ≠ 0x4804), event.others, event.changes⟩
    · rw [event.here]; exact state
    · rw [event.here]; exact tick
    · rw [ev spent]; rfl
  case step =>
    have event := State.doorTrigger runs moved jog (f := DoorRun.stepPause)
      (DoorRun.stepPause_retries (r := ⟨s.doors[d], s.axes, []⟩) (i := s.doorIn d) st retry timer)
    refine ⟨_, rfl, fun spent => ?_, fun left => ?_, event.others, event.changes⟩
    · rw [event.here]
      exact DoorRun.stepRetry_gives_up (r := ⟨s.doors[d], s.axes, []⟩) (i := s.doorIn d) spent
    · obtain ⟨stays, again⟩ := DoorRun.stepRetry_retries (r := ⟨s.doors[d], s.axes, []⟩) (i := s.doorIn d) left
      rw [event.here]
      exact ⟨stays.trans st, again⟩
  case lock =>
    have event := State.doorTrigger runs moved jog (f := DoorRun.lockPause)
      (DoorRun.lockPause_unconfirmed (r := ⟨s.doors[d], s.axes, []⟩) (i := s.doorIn d) st timer locked)
    obtain ⟨unlocked, tick, ev⟩ := DoorRun.lockUnconfirmed_frame (r := ⟨s.doors[d], s.axes, []⟩) (i := s.doorIn d)
    refine ⟨_, rfl, ?_, ?_, event.tells ⟨0x3007, d.val, 0⟩ ?_ (by decide : (0x3007 : Code) ≠ 0x4804), event.others, event.changes⟩
    · rw [event.here]; exact unlocked
    · rw [event.here]; exact tick
    · rw [ev]; rfl
  case chime =>
    obtain ⟨made, -, still⟩ := State.onDoorway_event runs fun r _ => r.upd fun w => { w with chime := none }
    exact ⟨_, rfl, made.here, made.others, still rfl⟩
  case jogged =>
    obtain ⟨made, changes, -⟩ := State.onDoorway_event runs fun r i => r.jogEnd i
    have door := DoorRun.jogEnd_door ⟨s.doors[d], s.axes, []⟩ (s.doorIn d)
    obtain ⟨free, elsewhere⟩ := DoorRun.jogEnd_made (r := ⟨s.doors[d], s.axes, []⟩) (s.doorIn d) jog slot
    refine ⟨_, rfl, ?_, ?_, ?_, ?_, made.others, changes⟩
    · rw [made.here, door]
    · rw [made.here, door]
    · rw [made.axes]; exact free
    · rw [made.axes]; exact elsewhere
end

section
/-! Whether BOLT is driven: what no register of a host reaches (R287, R295, R320). -/

namespace Sys2Proof.Machine

/-- BOLT's latched faults and switches, and whether the module runs, are the same. -/
abbrev State.SameDrive (s t : State) : Prop :=
  t.il.bolt.latched = s.il.bolt.latched ∧ t.il.bolt.switches = s.il.bolt.switches ∧ t.unit.running = s.unit.running

@[simp] theorem State.sameDrive_iff (s t : State) : s.SameDrive t ↔
    t.il.bolt.latched = s.il.bolt.latched ∧ t.il.bolt.switches = s.il.bolt.switches ∧ t.unit.running = s.unit.running := Iff.rfl

theorem State.SameDrive.trans {a b c : State} (h : a.SameDrive b) (k : b.SameDrive c) : a.SameDrive c :=
  ⟨k.1.trans h.1, k.2.1.trans h.2.1, k.2.2.trans h.2.2⟩

@[simp] theorem State.bolt_il (s : State) (f : BoltSt → BoltSt) : (s.bolt f).il.bolt = f s.il.bolt := rfl
@[simp] theorem State.safe_il (s : State) (f : SafeSt → SafeSt) : (s.safe f).il.bolt = s.il.bolt := rfl
@[simp] theorem State.pairOf_il (s : State) (p : PairId) (f : Pair → Pair) : (s.pairOf p f).il.bolt = s.il.bolt := rfl

/-! ## The register that is found at an address -/

/-- The register that is found, if any, keeps `P`. -/
def FoundKeeps (P : State → State → Prop) (o : Option RegRow) : Prop := ∀ r, o = some r → r.Keeps P

section
variable {P : State → State → Prop}

@[simp] theorem roRow_keeps (r : Reg) : (roRow r).Keeps P := keeps_ro r
@[simp] theorem w1cRow_keeps {w m : Word} {f : Word → State → State} : (w1cRow w m f).Keeps P ↔ ∀ w s, P s (f w s) :=
  ⟨fun h => h.1 f rfl, keeps_w1c⟩
@[simp] theorem rcRow_keeps {q : State} {c : ClearRead} : (rcRow q c).Keeps P ↔ ∀ n s, P s (c.put n s) :=
  ⟨fun h => h.2.2 c rfl, keeps_rc⟩
@[simp] theorem woRow_ok_keeps {v : Bool} {m : Word} {f : Sender → Word → State → State} :
    (woRow v m fun i w s => .ok (f i w s)).Keeps P ↔ ∀ i w s, P s (f i w s) :=
  ⟨fun h i w s => h.2.1 _ rfl i w s _ rfl, keeps_ok⟩
theorem clearRow_keeps {r : Reg} {m : Word} {f : Word → State → State} :
    ({ reg := r, mask := m, clear := some f } : RegRow).Keeps P ↔ ∀ w s, P s (f w s) :=
  ⟨fun h => h.1 f rfl, keeps_clear rfl rfl rfl⟩

@[simp] theorem foundKeeps_none : FoundKeeps P none := fun _ e => nomatch e
@[simp] theorem foundKeeps_some {r : RegRow} : FoundKeeps P (some r) ↔ r.Keeps P := ⟨fun h => h r rfl, fun h _ e => keeps_some h e⟩
theorem foundKeeps_ite {c : Prop} [Decidable c] {a b : Option RegRow} (h : FoundKeeps P a) (k : FoundKeeps P b) :
    FoundKeeps P (if c then a else b) := by
  split
  · exact h
  · exact k
theorem foundKeeps_bind {α : Type} {o : Option α} {f : α → Option RegRow} (h : ∀ a, FoundKeeps P (f a)) : FoundKeeps P (o.bind f) :=
  fun _ e => keeps_bind (fun a r e => h a r e) e
theorem foundKeeps_map {α : Type} {o : Option α} {f : α → RegRow} (h : ∀ a, (f a).Keeps P) : FoundKeeps P (o.map f) :=
  fun _ e => keeps_map h e
theorem foundKeeps_atOffset {off : Nat} {l : List (Nat × RegRow)} (h : ∀ x ∈ l, x.2.Keeps P) : FoundKeeps P (atOffset off l) :=
  fun _ e => keeps_atOffset h e

end

/-! ## The registers of each block -/

theorem unitRows_drive (s : State) : ∀ x ∈ unitRows s, x.2.Keeps State.SameDrive := by
  simp [unitRows, State.clockRow, State.addressRow, State.wardRow, State.resetRow, clearRow_keeps, apply_ite]

theorem cfgRow_drive (s : State) (off : Nat) : FoundKeeps State.SameDrive (s.cfgRow off) :=
  foundKeeps_ite (foundKeeps_some.2 (keeps_ro _)) <| foundKeeps_ite (foundKeeps_map fun _ => keeps_ro _) <|
    foundKeeps_atOffset (by simp)

theorem handOver_drive (i : Sender) (w : Word) (s t : State) (e : s.handOver i w = .ok t) : s.SameDrive t := by
  unfold State.handOver at e
  split at e
  · cases e; simp
  split at e
  · cases e
  split at e
  · cases e
  dsimp only at e
  split at e
  · rw [ok_eq e]; simp
  · cases e

theorem hingeRows_drive (s : State) : ∀ x ∈ hingeRows s, x.2.Keeps State.SameDrive := by
  simp [hingeRows, hingeRc, keeps_wo handOver_drive]

theorem boltRows_drive (s : State) : ∀ x ∈ boltRows s, x.2.Keeps State.SameDrive := by simp [boltRows, safeRc]

theorem pairRow_drive (s : State) (p : PairId) (off : Nat) : FoundKeeps State.SameDrive (s.pairRow p off) :=
  foundKeeps_atOffset (by simp)

theorem obstRow_drive (s : State) (a : AxisId) (off : Nat) : FoundKeeps State.SameDrive (s.obstRow a off) :=
  foundKeeps_ite (by simp) <| foundKeeps_ite (by simp) <| foundKeeps_atOffset (by simp)

theorem learnResetWrite_drive (d : DoorId) (i : Sender) (w : Word) (s t : State) (e : s.learnResetWrite d i w = .ok t) :
    s.SameDrive t := by
  unfold State.learnResetWrite at e
  split at e
  · cases e; simp
  split at e
  · cases e
  split at e
  · cases e
  cases e; simp

theorem closureRow_drive (s : State) (d : DoorId) (off : Nat) : FoundKeeps State.SameDrive (s.closureRow d off) :=
  foundKeeps_atOffset (by simp [keeps_wo (learnResetWrite_drive d)])

theorem boltRow_drive (s : State) (off : Nat) : FoundKeeps State.SameDrive (s.boltRow off) :=
  foundKeeps_ite (foundKeeps_bind fun p => pairRow_drive s p _) <| foundKeeps_ite (foundKeeps_bind fun a => obstRow_drive s a _) <|
    foundKeeps_ite (foundKeeps_bind fun d => closureRow_drive s d _) <| foundKeeps_atOffset (boltRows_drive s)

theorem canCtrl_drive (b : BusId) (w : Word) (s t : State) (e : s.canCtrl b w = .ok t) : s.SameDrive t := by
  unfold State.canCtrl at e
  split at e
  · cases e
  · dsimp only at e
    cases e
    (repeat' split) <;> simp

theorem rxAckWrite_drive (b : BusId) (w : Word) (s t : State) (e : s.rxAckWrite b w = .ok t) : s.SameDrive t := by
  unfold State.rxAckWrite at e
  dsimp only at e
  split at e <;> cases e
  simp

theorem txCtrl_drive (b : BusId) (k : Fin 3) (w : Word) (s t : State) (e : s.txCtrl b k w = .ok t) : s.SameDrive t := by
  unfold State.txCtrl at e
  dsimp only at e
  split at e
  · cases e
  split at e
  · split at e <;> cases e
    simp
  split at e <;> cases e <;> simp

@[simp] theorem txWordRow_drive (b : BusId) (k : Fin 3) (w m : Word) (f : Word → TxBuf → TxBuf) :
    (txWordRow b k w m f).Keeps State.SameDrive :=
  keeps_act rfl rfl rfl fun _ _ s t e => by
    unfold State.txWrite at e
    split at e <;> cases e
    simp

theorem txRow_drive (s : State) (b : BusId) (k : Fin 3) (off : Nat) : FoundKeeps State.SameDrive (s.txRow b k off) := by
  unfold State.txRow
  dsimp only
  split
  · exact foundKeeps_some.2 (txWordRow_drive ..)
  · exact foundKeeps_atOffset (by simp [keeps_wo fun _ => txCtrl_drive b k])

theorem canRows_drive (s : State) (b : BusId) : ∀ x ∈ canRows s b, x.2.Keeps State.SameDrive := by
  simp [canRows, canRc, keeps_wo fun _ => canCtrl_drive b, keeps_wo fun _ => rxAckWrite_drive b]

theorem canRow_drive (s : State) (b : BusId) (off : Nat) : FoundKeeps State.SameDrive (s.canRow b off) :=
  foundKeeps_ite (by simp) <| foundKeeps_ite (foundKeeps_bind fun k => txRow_drive s b k _) <| foundKeeps_atOffset (canRows_drive s b)

theorem rxRow_drive (s : State) (b : BusId) (off : Nat) : FoundKeeps State.SameDrive (s.rxRow b off) :=
  foundKeeps_ite foundKeeps_none (by simp)

theorem fieldRow_drive (s : State) (off : Nat) : FoundKeeps State.SameDrive (s.fieldRow off) :=
  foundKeeps_ite (foundKeeps_bind fun _ => foundKeeps_atOffset (by simp)) <| foundKeeps_atOffset (by simp [fieldRows])

theorem analogueRow_drive (s : State) (off : Nat) : FoundKeeps State.SameDrive (s.analogueRow off) :=
  foundKeeps_ite (foundKeeps_ite (foundKeeps_map fun _ => keeps_ro _) foundKeeps_none) <| foundKeeps_ite (by simp) foundKeeps_none

theorem loadRow_drive (s : State) (off : Nat) : FoundKeeps State.SameDrive (s.loadRow off) :=
  foundKeeps_ite (foundKeeps_bind fun _ => foundKeeps_atOffset (by simp [apply_ite State.il, apply_ite State.unit])) <| foundKeeps_atOffset (by simp)

theorem recRow_drive (s : State) (off : Nat) : FoundKeeps State.SameDrive (s.recRow off) :=
  foundKeeps_ite (by simp) <| foundKeeps_atOffset (by simp [apply_ite State.il, apply_ite State.unit])

theorem memRow_drive (s : State) (off : Nat) : FoundKeeps State.SameDrive (s.memRow off) :=
  foundKeeps_ite (by simp) <| foundKeeps_atOffset (by simp [memRc, apply_ite State.il, apply_ite State.unit])

theorem sessionRow_drive (s : State) (i k : Nat) : FoundKeeps State.SameDrive (s.sessionRow i k) := by
  unfold State.sessionRow
  dsimp only
  split <;> simp

theorem anchorRow_drive (s : State) (j k : Nat) : FoundKeeps State.SameDrive (s.anchorRow j k) :=
  foundKeeps_ite (by simp) <| foundKeeps_ite (by simp) foundKeeps_none

theorem kwRows_drive (s : State) (me : Option SessId) : ∀ x ∈ kwRows s me, x.2.Keeps State.SameDrive := by
  simp [kwRows]
  rintro (_ | i) <;> simp

theorem kwRow_drive (s : State) (me : Option SessId) (off : Nat) : FoundKeeps State.SameDrive (s.kwRow me off) :=
  foundKeeps_ite (by simp) <| foundKeeps_ite (by simp) <| foundKeeps_ite (sessionRow_drive s _ _) <| foundKeeps_ite (by simp) <|
    foundKeeps_ite (anchorRow_drive s _ _) <| foundKeeps_ite (by simp) <| foundKeeps_atOffset (kwRows_drive s me)

theorem jogWrite_drive (d : DoorId) (i : Sender) (w : Word) (s t : State) (e : s.jogWrite d i w = .ok t) : s.SameDrive t := by
  unfold State.jogWrite at e
  dsimp only at e
  split at e
  · split at e <;> cases e
    split <;> simp
  · cases e
    split <;> simp

theorem doorRows_drive (s : State) (d : DoorId) : ∀ x ∈ doorRows s d, x.2.Keeps State.SameDrive := by
  simp [doorRows, apply_ite State.il, apply_ite State.unit, keeps_wo (jogWrite_drive d)]

theorem axisRow_drive (s : State) (a : AxisId) (off : Nat) : FoundKeeps State.SameDrive (s.axisRow a off) :=
  foundKeeps_ite (foundKeeps_some.2 (keeps_none rfl rfl rfl)) <| foundKeeps_ite (foundKeeps_ite (by simp) foundKeeps_none) <|
    foundKeeps_atOffset (by simp [axisRows])

theorem portRow_drive (s : State) (off : Nat) : FoundKeeps State.SameDrive (s.portRow off) :=
  foundKeeps_ite (foundKeeps_bind fun _ => foundKeeps_atOffset (by simp [portRows, portRc, apply_ite State.il, apply_ite State.unit])) <|
    foundKeeps_ite (by simp) <| foundKeeps_ite (by simp) foundKeeps_none

theorem traceBlock_drive (s : State) (off : Nat) : FoundKeeps State.SameDrive (s.traceBlock off) :=
  foundKeeps_ite (foundKeeps_some.2 (keeps_none rfl rfl rfl)) <| foundKeeps_atOffset (by simp)

/-! ## Any register -/

theorem ownRow_drive (s : State) (me : Sender) (addr : Nat) : FoundKeeps State.SameDrive (s.ownRow me addr) :=
  foundKeeps_ite (foundKeeps_atOffset (unitRows_drive s)) <| foundKeeps_ite (cfgRow_drive s _) <|
    foundKeeps_ite (foundKeeps_atOffset (hingeRows_drive s)) <| foundKeeps_ite (boltRow_drive s _) <|
    foundKeeps_ite (canRow_drive s 0 _) <| foundKeeps_ite (canRow_drive s 1 _) <| foundKeeps_ite foundKeeps_none <|
    foundKeeps_ite (rxRow_drive s 0 _) <| foundKeeps_ite (rxRow_drive s 1 _) <| foundKeeps_ite foundKeeps_none <|
    foundKeeps_ite (fieldRow_drive s _) <| foundKeeps_ite (analogueRow_drive s _) <| foundKeeps_ite (loadRow_drive s _) <|
    foundKeeps_ite (recRow_drive s _) <| foundKeeps_ite (memRow_drive s _) <| foundKeeps_ite (kwRow_drive s me _) <|
    foundKeeps_ite (portRow_drive s _) <| foundKeeps_ite (traceBlock_drive s _) <| by
      split
      · exact foundKeeps_atOffset (doorRows_drive s _)
      · exact axisRow_drive s _ _
      · exact foundKeeps_none

theorem liveRow_drive (s : State) (me : Sender) (addr : Nat) : FoundKeeps State.SameDrive (s.liveRow me addr) := by
  have own := ownRow_drive s me addr
  unfold State.liveRow
  split
  · exact own
  · exact foundKeeps_some.2 (keeps_none rfl rfl rfl)
  case _ g q shown found =>
    obtain ⟨clear, act, read⟩ := own q found
    exact foundKeeps_some.2 ⟨clear, act, read⟩

theorem applyRow_drive (s : State) (b : Block) : (s.applyRow b).Keeps State.SameDrive :=
  keeps_act rfl rfl rfl fun i w s t e => by
    split at e
    · cases e
    · rw [ok_eq e]
      split <;> simp [State.postApply]

theorem shadowRow_drive (s : State) (me : Sender) (live : Nat) : FoundKeeps State.SameDrive (s.shadowRow me live) :=
  foundKeeps_map fun q => by
    dsimp only
    split
    · exact keeps_ro _
    · refine keeps_act rfl rfl rfl fun i w s t e => ?_
      split at e
      · cases e
      · cases e; simp

theorem row_drive (s : State) (me : Sender) (addr : Nat) : FoundKeeps State.SameDrive (s.row me addr) := by
  unfold State.row
  split
  · exact foundKeeps_some.2 (applyRow_drive s _)
  · exact shadowRow_drive s me _
  · exact liveRow_drive s me addr

end Sys2Proof.Machine
end

section
/-! Whether BOLT is driven: reads and writes of the host address space leave it (R287, R295, R455). -/

namespace Sys2Proof.Machine

/-! ## Reads -/

@[simp] theorem State.afterRead_drive (s : State) (me : SessId) (p : Bool) (addr : Nat) : s.SameDrive (s.afterRead me p addr) := by
  unfold State.afterRead
  split
  · split
    case _ c found =>
      obtain ⟨r, row, clears⟩ := Option.bind_eq_some_iff.1 found
      simpa using (row_drive s _ _ r row).2.2 c clears (c.left (s.takenAt addr) (c.get s) (c.get s.atTick)) s
    case _ => simp
  · simp

@[simp] theorem State.memRan_drive (s : State) (r : MemRun) : s.SameDrive (s.memRan r) := by simp [State.memRan]

@[simp] theorem State.scratchRead_drive (s : State) (p : Bool) (addr : Nat) : s.SameDrive (s.scratchRead p addr).1 := by
  unfold State.scratchRead
  split <;> simp

@[simp] theorem State.scratchAll_drive (s : State) (p : Bool) (as : List Nat) : s.SameDrive (s.scratchAll p as).1 := by
  induction as generalizing s with
  | nil => simp [State.scratchAll]
  | cons a as ih =>
    unfold State.scratchAll
    dsimp only
    (repeat' split) <;> simp [ih]

@[simp] theorem State.fetchWindow_drive (s : State) (as : List Nat) : s.SameDrive (s.fetchWindow as).1 := by
  induction as generalizing s with
  | nil => simp [State.fetchWindow]
  | cons a as ih =>
    unfold State.fetchWindow
    dsimp only
    (repeat' split) <;> simp [ih]

@[simp] theorem State.readWord_drive (s : State) (me : SessId) (p : Bool) (addr : Nat) : s.SameDrive (s.readWord me p addr).1 := by
  unfold State.readWord
  dsimp only
  (repeat' split) <;> simp

@[simp] theorem State.afterReads_drive (s : State) (me : SessId) (p : Bool) (as : List Nat) :
    s.SameDrive (as.foldl (fun s a => s.afterRead me p a) s) := by
  induction as generalizing s with
  | nil => simp
  | cons a as ih => exact (s.afterRead_drive me p a).trans (ih _)

@[simp] theorem State.readWords_drive (s : State) (me : SessId) (p : Bool) (as : List Nat) : s.SameDrive (s.readWords me p as).1 := by
  unfold State.readWords
  dsimp only
  (repeat' split) <;> simp

/-! ## Writes -/

theorem State.clearBits_drive {s : State} {r : RegRow} {f : Word → State → State} (k : r.Keeps State.SameDrive)
    (found : r.clear = some f) (i : Sender) (addr : Nat) (w : Word) : s.SameDrive (s.clearBits f i addr w) := by
  unfold State.clearBits
  simpa using k.1 f found _ s

theorem State.writeRow_drive {s : State} {i : Sender} {addr : Nat} {r : RegRow} {w : Word} {x : State × Word}
    (k : r.Keeps State.SameDrive) (e : s.writeRow i addr r w = .ok x) : s.SameDrive x.1 := by
  unfold State.writeRow at e
  dsimp only at e
  split at e
  · cases e
  split at e
  · cases e
  have placed : s.SameDrive (s.writePlaces i w (r.parts.filter Part.rw)).1 := by simp
  generalize s.writePlaces i w (r.parts.filter Part.rw) = y at e placed
  have cleared : s.SameDrive (match r.clear with | some f => y.1.clearBits f i addr (w &&& r.mask) | none => y.1) := by
    split
    · exact placed.trans (State.clearBits_drive k ‹_› _ _ _)
    · exact placed
  split at e
  · cases e; exact cleared
  case _ f acts =>
    split at e
    · cases e
    · cases e; exact cleared.trans (k.2.1 f acts _ _ _ _ ‹_›)

theorem State.writeReg_drive {s : State} {me : SessId} {role : KwRole} {b : Block} {addr : Nat} {w : Word} {x : State × Word}
    (e : s.writeReg me role b addr w = .ok x) : s.SameDrive x.1 := by
  unfold State.writeReg at e
  split at e
  · cases e
  case _ r found =>
    dsimp only at e
    split at e
    · cases e
    split at e
    · cases e
    split at e
    · cases e
    split at e
    · cases e
    exact State.writeRow_drive (row_drive _ _ _ r found) e

@[simp] theorem State.scratchWrite_drive (s : State) (me : SessId) (role : KwRole) (addr : Nat) (w : Word) :
    s.SameDrive (s.scratchWrite me role addr w).1 := by
  unfold State.scratchWrite
  dsimp only
  (repeat' split) <;> simp

@[simp] theorem State.writeWord_drive (s : State) (me : SessId) (role : KwRole) (addr : Nat) (w : Word) :
    s.SameDrive (s.writeWord me role addr w).1 := by
  unfold State.writeWord
  split
  · simp
  split
  · simp
  split
  · simp
  case _ t used e => simpa using State.writeReg_drive e

@[simp] theorem State.applyWrite_drive (s : State) (addr : Nat) (w : Word) : s.SameDrive (s.applyWrite addr w) := by
  unfold State.applyWrite
  split
  · simp
  split
  · simp
  case _ r found =>
    split
    · exact State.writeRow_drive (row_drive _ _ _ r found) ‹_›
    · simp

end Sys2Proof.Machine
end

section
/-! Whether BOLT is driven: the operations that leave it (R287, R295). -/

namespace Sys2Proof.Machine

/-! ## The interlock under computation: telegrams and pairs leave BOLT -/

section
variable (r : LockRun)

@[simp] theorem LockRun.raise_il (code : Code) (inst : Nat) (detail : Word) : (r.raise code inst detail).il = r.il := rfl
@[simp] theorem LockRun.bolt_bolt (f : BoltSt → BoltSt) : (r.bolt f).il.bolt = f r.il.bolt := rfl
@[simp] theorem LockRun.safe_bolt (f : SafeSt → SafeSt) : (r.safe f).il.bolt = r.il.bolt := rfl
@[simp] theorem LockRun.safeEvent_bolt (k : Nat) (code : Code) : (r.safeEvent k code).il.bolt = r.il.bolt := rfl
@[simp] theorem LockRun.pairDiscrepancy_bolt (p : PairId) : (r.pairDiscrepancy p).il.bolt = r.il.bolt := rfl
@[simp] theorem LockRun.pairRestored_bolt (p : PairId) : (r.pairRestored p).il.bolt = r.il.bolt := rfl
@[simp] theorem LockRun.discrepancyEvent_bolt (c : Cfg) (p : PairId) : (r.discrepancyEvent c p).il.bolt = r.il.bolt := by
  unfold LockRun.discrepancyEvent
  dsimp only
  split <;> simp
@[simp] theorem LockRun.restoredEvent_bolt (c : Cfg) (p : PairId) : (r.restoredEvent c p).il.bolt = r.il.bolt := by
  unfold LockRun.restoredEvent
  dsimp only
  split <;> simp
@[simp] theorem LockRun.pairTick_bolt (c : Cfg) (chA chB : BitVec 64) (bad fieldA fieldB : Bool) (p : PairId) :
    (r.pairTick c chA chB bad fieldA fieldB p).il.bolt = r.il.bolt := by
  unfold LockRun.pairTick
  dsimp only
  (repeat' split) <;> simp
@[simp] theorem LockRun.pairsTick_bolt (c : Cfg) (chA chB : BitVec 64) (bad fieldA fieldB : Bool) :
    (r.pairsTick c chA chB bad fieldA fieldB).il.bolt = r.il.bolt := by
  unfold LockRun.pairsTick
  generalize fins 32 = ps
  induction ps generalizing r with
  | nil => rfl
  | cons p ps ih => rw [List.foldl_cons, ih, LockRun.pairTick_bolt]
@[simp] theorem LockRun.closeSingle_bolt (c : Cfg) (now : Tick) (car : Nat) : (r.closeSingle c now car).il.bolt = r.il.bolt := by
  unfold LockRun.closeSingle
  split
  · rfl
  · dsimp only
    (repeat' split) <;> simp
@[simp] theorem LockRun.openWait_bolt (c : Cfg) (now : Tick) (bus : BusId) (bs : List Byte) (off : Bool) (car : Nat) :
    (r.openWait c now bus bs off car).il.bolt = r.il.bolt := by
  unfold LockRun.openWait
  dsimp only
  split <;> simp
@[simp] theorem LockRun.copy_bolt (c : Cfg) (now : Tick) (bus : BusId) (bs : List Byte) (off : Bool) (car : Nat) :
    (r.copy c now bus bs off car).il.bolt = r.il.bolt := by
  unfold LockRun.copy
  dsimp only
  (repeat' split) <;> simp
@[simp] theorem LockRun.releaseCopy_bolt (c : Cfg) (now : Tick) (bus : BusId) (format : Bool) (bs : List Byte) (off : Bool) (car : Nat) :
    (r.releaseCopy c now bus format bs off car).il.bolt = r.il.bolt := by
  unfold LockRun.releaseCopy
  split <;> simp
@[simp] theorem LockRun.waitTick_bolt (c : Cfg) (now : Tick) (off : BitVec 2) (car : Nat) :
    (r.waitTick c now off car).il.bolt = r.il.bolt := by
  unfold LockRun.waitTick
  split
  · rfl
  · split <;> simp
@[simp] theorem LockRun.timeout_bolt : r.timeout.il.bolt = r.il.bolt := rfl
@[simp] theorem LockRun.timeoutTick_bolt (c : Cfg) (now : Tick) : (r.timeoutTick c now).il.bolt = r.il.bolt := by
  unfold LockRun.timeoutTick
  dsimp only
  split <;> simp
@[simp] theorem LockRun.releaseTick_bolt (c : Cfg) : (r.releaseTick c).il.bolt = r.il.bolt := by
  unfold LockRun.releaseTick
  dsimp only
  split <;> simp

end

/-! ## Operations -/

@[simp] theorem foldl_drive {α : Type} (f : State → α → State) (l : List α) (s : State) (h : ∀ (s : State) a, s.SameDrive (f s a)) :
    s.SameDrive (l.foldl f s) := by
  induction l generalizing s with
  | nil => exact ⟨rfl, rfl, rfl⟩
  | cons a l ih => exact (h s a).trans (ih _)

@[simp] theorem State.live_drive (s : State) (b : Bool) (f : State → State) (h : ∀ s : State, s.SameDrive (f s)) : s.SameDrive (s.live b f) :=
  ⟨State.live_keeps (fun s => s.il.bolt.latched) s b f fun s => (h s).1,
    State.live_keeps (fun s => s.il.bolt.switches) s b f fun s => (h s).2.1,
    State.live_keeps (fun s => s.unit.running) s b f fun s => (h s).2.2⟩

@[simp] theorem State.serve_drive (s : State) (r : Req) (k : Ask) (q : Form) (f : Session → State → State × Reply)
    (h : ∀ y (t : State), t.SameDrive (f y t).1) : s.SameDrive (s.serve r k q f) :=
  ⟨State.serve_keeps (fun s => s.il.bolt.latched) (fun _ _ => rfl) (by simp) s r k q f fun y t => (h y t).1,
    State.serve_keeps (fun s => s.il.bolt.switches) (fun _ _ => rfl) (by simp) s r k q f fun y t => (h y t).2.1,
    State.serve_keeps (fun s => s.unit.running) (fun _ _ => rfl) (by simp) s r k q f fun y t => (h y t).2.2⟩

@[simp] theorem State.doRead_drive (s : State) (i : SessId) (x : Session) (addr : Nat) :
    s.SameDrive ((s.doRead i x addr).1) := by unfold State.doRead; dsimp only; (repeat' split) <;> simp

@[simp] theorem State.doReadBlock_drive (s : State) (i : SessId) (x : Session) (addr n : Nat) :
    s.SameDrive ((s.doReadBlock i x addr n).1) := by unfold State.doReadBlock; dsimp only; (repeat' split) <;> simp

@[simp] theorem State.writeSome_drive (s : State) (i : SessId) (role : KwRole) (ps : List (Nat × Word)) (run : WriteRun) :
    s.SameDrive ((s.writeSome i role ps run).1) := by
  induction ps generalizing s run with
  | nil => simp [State.writeSome]
  | cons p ps ih => simp only [State.writeSome]; (repeat' split) <;> simp [ih]

@[simp] theorem State.writeRequest_drive (s : State) (i : SessId) (tag num : Nat) (role : KwRole) (form : WaitForm) (ws : List (Nat × Word)) (done : Nat) :
    s.SameDrive ((s.writeRequest i tag num role form ws done).1) := by unfold State.writeRequest; dsimp only; split <;> simp

@[simp] theorem State.doWrites_drive (s : State) (r : Req) (x : Session) (form : WaitForm) (ws : List (Nat × Word)) :
    s.SameDrive ((s.doWrites r x form ws).1) := by unfold State.doWrites; split <;> simp

@[simp] theorem State.hostWrite_drive (s : State) (r : Req) (addr : Nat) (w : Word) :
    s.SameDrive (s.hostWrite r addr w) := by simp [State.hostWrite]

@[simp] theorem State.doWriteBlock_drive (s : State) (r : Req) (x : Session) (addr n : Nat) (ws : List Word) :
    s.SameDrive ((s.doWriteBlock r x addr n ws).1) := by unfold State.doWriteBlock; (repeat' split) <;> simp

@[simp] theorem State.doApply_drive (s : State) (r : Req) (x : Session) (b : BlockReq) :
    s.SameDrive ((s.doApply r x b).1) := by unfold State.doApply; split <;> simp

@[simp] theorem State.serveWait_drive (s : State) (w : MirrorWait) :
    s.SameDrive (s.serveWait w) := by
  unfold State.serveWait
  split
  · simp
  split
  · simp
  dsimp only
  split <;> simp

@[simp] theorem State.serveWaiting_drive (s : State) (ws : List MirrorWait) :
    s.SameDrive (s.serveWaiting ws) := by
  induction ws generalizing s with
  | nil => simp [State.serveWaiting]
  | cons w ws ih => simp only [State.serveWaiting]; (repeat' split) <;> simp [ih]

@[simp] theorem State.takeSlot_drive (s : State) (slotB fallback : Bool) (o : SlotOutcome) :
    s.SameDrive (s.takeSlot slotB fallback o) := by simp [State.takeSlot, apply_ite]

@[simp] theorem State.chooseSlot_drive (s : State) :
    s.SameDrive (s.chooseSlot) := by unfold State.chooseSlot; dsimp only; (repeat' split) <;> simp

@[simp] theorem State.bootWaitOver_drive (s : State) :
    s.SameDrive (s.bootWaitOver) := by unfold State.bootWaitOver; split <;> simp

@[simp] theorem State.takeRecord_drive (s : State) (m : MirrorRec) :
    s.SameDrive (s.takeRecord m) := by
  cases m <;> simp [State.takeRecord]

@[simp] theorem State.takeHeartbeat_drive (s : State) :
    s.SameDrive (s.takeHeartbeat) := by simp [State.takeHeartbeat]

@[simp] theorem State.becomeActive_drive (s : State) :
    s.SameDrive (s.becomeActive) := by simp [State.becomeActive]

@[simp] theorem State.takeover_drive (s : State) :
    s.SameDrive (s.takeover) := by unfold State.takeover; dsimp only; (repeat' split) <;> simp

@[simp] theorem State.stepOne_drive (s : State) :
    s.SameDrive (s.stepOne) := by simp [State.stepOne]

@[simp] theorem State.parityTick_drive (s : State) (x : Snapshot) :
    s.SameDrive (s.parityTick x) := by unfold State.parityTick; split <;> simp

@[simp] theorem State.sensePairs_drive (s : State) (x : Snapshot) :
    s.SameDrive ((s.sensePairs x).1) := by simp [State.sensePairs]

@[simp] theorem State.senseMem_drive (s : State) (x : Snapshot) :
    s.SameDrive (s.senseMem x) := by simp [State.senseMem]

@[simp] theorem State.senseField_drive (s : State) (x : Snapshot) :
    s.SameDrive ((s.senseField x).1) := by simp [State.senseField]

@[simp] theorem State.hingeTick_drive (s : State) (x : Snapshot) :
    s.SameDrive ((s.hingeTick x).1) := by unfold State.hingeTick; split <;> simp

@[simp] theorem State.signalsTick_drive (s : State) :
    s.SameDrive (s.signalsTick.1) := by simp [State.signalsTick]

@[simp] theorem State.heldLevels_drive (s : State) (late : List Raised) :
    s.SameDrive (s.heldLevels late) := by unfold State.heldLevels; dsimp only; split <;> simp

@[simp] theorem State.formWords_drive (s : State) :
    s.SameDrive (s.formWords) := by simp [State.formWords]

@[simp] theorem State.urgentOrders_drive (s : State) (news : AxisNews) (rose : BitVec 4) (late : List Raised) :
    s.SameDrive (s.urgentOrders news rose late) := by unfold State.urgentOrders; dsimp only; split <;> simp

@[simp] theorem State.doorsTick_drive (s : State) (news : AxisNews) (rose : BitVec 4) (home : Bool) (late : List Raised) :
    s.SameDrive (s.doorsTick news rose home late) := by simp [State.doorsTick]

@[simp] theorem State.levels_drive (s : State) (side : BitVec 4) (late : List Raised) :
    s.SameDrive (s.levels side late) := by simp [State.levels]

@[simp] theorem State.doorStateSend_drive (s : State) :
    s.SameDrive (s.doorStateSend) := by simp [State.doorStateSend, apply_ite]

@[simp] theorem State.canTick_drive (s : State) (parity : BitVec 8) :
    s.SameDrive (s.canTick parity) := by simp [State.canTick, apply_ite]

@[simp] theorem State.releaseLost_drive (s : State) (gone : BitVec 3) :
    s.SameDrive (s.releaseLost gone) := by unfold State.releaseLost; dsimp only; split <;> simp

@[simp] theorem State.zeroSpeedPresent_drive (s : State) :
    s.SameDrive (s.zeroSpeedPresent) := by simp [State.zeroSpeedPresent]

@[simp] theorem State.releaseCopy_drive (s : State) (bus : BusId) (format : Bool) (bytes : List Byte) :
    s.SameDrive (s.releaseCopy bus format bytes) := by simp [State.releaseCopy]

@[simp] theorem State.doorStateCopy_drive (s : State) (format : Bool) (bytes : List Byte) :
    s.SameDrive (s.doorStateCopy format bytes) := by unfold State.doorStateCopy; dsimp only; (repeat' split) <;> simp

@[simp] theorem State.routeFrame_drive (s : State) (bus : BusId) (f : CanFrame) (parity : Bool) (ts : Word) :
    s.SameDrive (s.routeFrame bus f parity ts) := by unfold State.routeFrame; (repeat' split) <;> simp

@[simp] theorem State.frameIn_drive (s : State) (bus : BusId) (f : CanFrame) (parity : Bool) (ts : Word) :
    s.SameDrive (s.frameIn bus f parity ts) := by unfold State.frameIn; split <;> simp

@[simp] theorem State.attemptEnd_drive (s : State) (bus : BusId) (b : Option (Fin 3)) (sent : Bool) :
    s.SameDrive (s.attemptEnd bus b sent) := by simp [State.attemptEnd, apply_ite]

@[simp] theorem State.frameOver_drive (s : State) (bus : BusId) :
    s.SameDrive (s.frameOver bus) := by unfold State.frameOver; split <;> simp

@[simp] theorem State.attempt_drive (s : State) (bus : BusId) (b : Fin 3) (sent ends : Bool) (f : CanRun → CanRun) :
    s.SameDrive (s.attempt bus b sent ends f) := by
  unfold State.attempt State.live
  split
  · dsimp only
    (repeat' split) <;> simp
  · simp

end Sys2Proof.Machine
end

section
/-! Whether BOLT is driven: BOLT's own operations only latch faults, and beside a latched fault they switch all off (R295). -/

namespace Sys2Proof.Machine

/-- The latched faults of `a` are latched in `b`, and switches that are off beside a latched fault in `a` are so in `b`. -/
structure BoltSt.Latches (a b : BoltSt) : Prop where
  bits : ∀ k, a.latched.getLsbD k = true → b.latched.getLsbD k = true
  off : (a.latched ≠ 0 → a.switches = 0) → b.latched ≠ 0 → b.switches = 0

theorem BoltSt.Latches.of_same {a b : BoltSt} (h : b.latched = a.latched) (k : b.switches = a.switches) : a.Latches b :=
  ⟨fun _ => by rw [h]; exact id, by rw [h, k]; exact id⟩

theorem BoltSt.Latches.refl (a : BoltSt) : a.Latches a := .of_same rfl rfl

theorem BoltSt.Latches.trans {a b c : BoltSt} (h : a.Latches b) (k : b.Latches c) : a.Latches c :=
  ⟨fun n e => k.bits n (h.bits n e), fun e => k.off (h.off e)⟩

/-- An operation of the interlock that is one of BOLT's. -/
abbrev LockRun.Latches (r q : LockRun) : Prop := r.il.bolt.Latches q.il.bolt

theorem BoltSt.latch_latches (b : BoltSt) (k : Nat) : b.Latches (b.latch k) :=
  ⟨fun n e => by simp [BoltSt.latch, e], fun _ _ => rfl⟩

section
variable (r : LockRun)

theorem LockRun.latches_of_bolt (f : BoltSt → BoltSt) (h : (f r.il.bolt).latched = r.il.bolt.latched)
    (k : (f r.il.bolt).switches = r.il.bolt.switches) : r.Latches (r.bolt f) := .of_same h k

theorem LockRun.latch_latches (k : Nat) : r.Latches (r.latch k) := r.il.bolt.latch_latches k

theorem LockRun.latches_ite {r q p : LockRun} {c : Prop} [Decidable c] (h : r.Latches q) (k : r.Latches p) : r.Latches (if c then q else p) := by
  split
  · exact h
  · exact k

/-- A fault that latches on a condition, after what has gone before. -/
theorem LockRun.Latches.thenLatch {r q : LockRun} (h : r.Latches q) (c : Prop) [Decidable c] (k : Nat) : r.Latches (if c then q.latch k else q) :=
  LockRun.latches_ite (h.trans (q.latch_latches k)) h

theorem LockRun.latchOnce_latches (k : Nat) : r.Latches (r.latchOnce k) := latches_ite (.refl _) (r.latch_latches k)

theorem LockRun.testStart_latches (now : Tick) : r.Latches (r.testStart now) :=
  latches_ite (r.latches_of_bolt _ rfl rfl) (.refl _)

theorem LockRun.combine_latches (now : Tick) (comb : Bool) : r.Latches (r.combine now comb) :=
  latches_ite (.of_same rfl rfl) (latches_ite (.of_same rfl rfl) (.refl _))

theorem LockRun.compareChannels_latches (i : BoltIn) : r.Latches (r.compareChannels i) :=
  latches_ite (r.latches_of_bolt _ rfl rfl) <| latches_ite
    (LockRun.Latches.thenLatch (r.latches_of_bolt _ rfl rfl) _ 3) (r.latches_of_bolt _ rfl rfl)

theorem BoltSt.testTick_latches (b : BoltSt) (now : Tick) (period : Nat) : b.Latches (b.testTick now period) := by
  unfold BoltSt.testTick
  extract_lets b₁
  have h : b.Latches b₁ := by
    dsimp only [b₁]
    (repeat' split) <;> exact .of_same rfl rfl
  refine h.trans ?_
  split <;> exact .of_same rfl rfl

/-- Every readback check latches only. -/
theorem LockRun.readback_latches (i : BoltIn) : r.Latches (r.readback i) := by
  unfold LockRun.readback
  extract_lets b nodes r₁ k sw third fourth seen ok r₂ r₃ pulse onDue onBad r₄ r₅ offBad extBad r₆ r₇
  have h₁ : r.Latches r₁ := r.latches_of_bolt _ rfl rfl
  have h₃ : r.Latches r₃ := .thenLatch (h₁.trans (r₁.latches_of_bolt _ rfl rfl)) _ 0
  have h₅ : r.Latches r₅ := .thenLatch (h₃.trans (r₃.latches_of_bolt _ rfl rfl)) _ 0
  have h₇ : r.Latches r₇ := .thenLatch (h₅.trans (r₅.latches_of_bolt _ rfl rfl)) _ 0
  exact latches_ite (h₁.trans (r₁.latches_of_bolt _ rfl rfl)) (.thenLatch h₇ _ 2)

theorem BoltSt.command_of_latched (b : BoltSt) (now : Tick) (h : b.latched ≠ 0) : b.command now = 0 := by
  unfold BoltSt.command
  simp only [h, if_false]
  (repeat' split) <;> simp

theorem LockRun.decide40_latches (i : BoltIn) : r.Latches (r.decide40 i) := by
  unfold LockRun.decide40
  extract_lets r₁ r₂ b r₃ r₄
  have h : r.Latches r₄ :=
    (r.latches_of_bolt _ rfl rfl).trans <| (r₁.compareChannels_latches i).trans <| (r₂.combine_latches _ _).trans (r₃.il.bolt.testTick_latches _ _)
  exact ⟨h.bits, fun _ hl => r₄.il.bolt.command_of_latched i.now hl⟩

end

end Sys2Proof.Machine
end

section
/-! Whether BOLT is driven: what every step keeps (R47, R55, R287, R295). -/

namespace Sys2Proof.Machine

open Safety

/-- From `s` to `t` BOLT is driven safely: the faults latched in `s` last, and no switch that is off because the module has stopped, or
because a fault is latched, is switched on. -/
structure State.DriveSafe (s t : State) : Prop where
  bolt : s.il.bolt.Latches t.il.bolt
  stopped : StoppedBoltOff s → StoppedBoltOff t

theorem State.SameDrive.safe {s t : State} (h : s.SameDrive t) : s.DriveSafe t := by
  obtain ⟨hl, hs, hr⟩ := h
  exact ⟨.of_same hl hs, by simp only [StoppedBoltOff, BoltOff, hr, hs]; exact id⟩

theorem State.DriveSafe.refl (s : State) : s.DriveSafe s := ⟨.refl _, id⟩

theorem State.DriveSafe.trans {a b c : State} (h : a.DriveSafe b) (k : b.DriveSafe c) : a.DriveSafe c :=
  ⟨h.bolt.trans k.bolt, fun e => k.stopped (h.stopped e)⟩

/-- BOLT's own operations in a module that runs on. -/
theorem State.DriveSafe.of_running {s t : State} (h : s.il.bolt.Latches t.il.bolt) (hr : t.unit.running = true) : s.DriveSafe t :=
  ⟨h, fun _ e => by rw [hr] at e; cases e⟩

/-- All switches go off, and no latched fault is lost. -/
theorem State.DriveSafe.of_off {s t : State} (h : t.il.bolt.latched = s.il.bolt.latched) (k : t.il.bolt.switches = 0) : s.DriveSafe t :=
  ⟨⟨fun _ e => by rw [h]; exact e, fun _ _ => k⟩, fun _ _ => k⟩

theorem driveSafe_ite {s t u : State} {c : Prop} [Decidable c] (h : s.DriveSafe t) (k : s.DriveSafe u) : s.DriveSafe (if c then t else u) := by
  split
  · exact h
  · exact k

theorem foldl_driveSafe {α : Type} (f : State → α → State) (l : List α) (s : State) (h : ∀ (s : State) a, s.DriveSafe (f s a)) :
    s.DriveSafe (l.foldl f s) := by
  induction l generalizing s with
  | nil => exact .refl s
  | cons a l ih => exact (h s a).trans (ih _)

section
variable (s : State)

theorem State.live_driveSafe (b : Bool) (f : State → State) (h : s.unit.running = true → s.DriveSafe (f s)) : s.DriveSafe (s.live b f) := by
  unfold State.live
  split
  next hc => exact h (by simp only [Bool.and_eq_true] at hc; exact hc.1)
  next => exact .refl s

theorem State.keyway_driveSafe (k : Keyway) : s.DriveSafe { s with kw := k } := State.SameDrive.safe ⟨rfl, rfl, rfl⟩

theorem State.answer_driveSafe (i : SessId) (tag : Nat) (y : Reply) : s.DriveSafe (s.answer i tag y) := State.SameDrive.safe (by simp)

theorem State.take_driveSafe (r : Req) (x : Session) (k : Ask) (f : Session → State → State × Reply)
    (h : ∀ y (t : State), t.DriveSafe (f y t).1) : s.DriveSafe (s.take r x k f) := by
  unfold State.take
  extract_lets _ t y
  have hy : s.DriveSafe y.1 := by
    dsimp only [y]
    split
    · exact s.keyway_driveSafe _
    · exact (s.keyway_driveSafe _).trans (h x t)
  exact hy.trans (y.1.answer_driveSafe _ _ _)

theorem State.serve_driveSafe (r : Req) (k : Ask) (q : Form) (f : Session → State → State × Reply)
    (h : ∀ y (t : State), t.DriveSafe (f y t).1) : s.DriveSafe (s.serve r k q f) := by
  unfold State.serve
  split
  · exact .refl s
  refine driveSafe_ite (.refl s) <| driveSafe_ite (State.SameDrive.safe (by simp)) ?_
  extract_lets x _ t
  have ht : s.DriveSafe t := s.keyway_driveSafe _
  exact driveSafe_ite (ht.trans (t.answer_driveSafe _ _ _)) <| driveSafe_ite (ht.trans (t.answer_driveSafe _ _ _)) <|
    driveSafe_ite (ht.trans (t.keyway_driveSafe _)) (ht.trans (t.take_driveSafe r x k f h))

@[simp] theorem LockRun.combine_drive (r : LockRun) (now : Tick) (comb : Bool) :
    (r.combine now comb).il.bolt.latched = r.il.bolt.latched ∧ (r.combine now comb).il.bolt.switches = r.il.bolt.switches := by
  unfold LockRun.combine
  dsimp only
  (repeat' split) <;> exact ⟨rfl, rfl⟩

/-! ## The module stops (R47, R55, R459) -/

theorem State.stop_driveSafe (cause : StartCause) : s.DriveSafe (s.stop cause) := .of_off rfl rfl

theorem State.resetStop_driveSafe : s.DriveSafe s.resetStop :=
  .of_off (by simp [State.resetStop, State.lastHeartbeat, State.stop, apply_ite]) (by simp [State.resetStop, State.lastHeartbeat, State.stop, apply_ite])

theorem State.onReset_driveSafe (f : ResetIn → ResetIn) : s.DriveSafe (s.onReset f) := State.SameDrive.safe ⟨rfl, rfl, rfl⟩

theorem State.resetRelease_driveSafe : s.DriveSafe s.resetRelease :=
  have h : ∀ f, s.DriveSafe (s.onReset f) := s.onReset_driveSafe
  driveSafe_ite ((h _).trans (State.resetStop_driveSafe _)) (h _)

theorem State.resetTick_driveSafe (level : Bool) : s.DriveSafe (s.resetTick level) := by
  unfold State.resetTick
  extract_lets x t
  have h : s.DriveSafe t := State.SameDrive.safe ⟨rfl, rfl, rfl⟩
  refine driveSafe_ite (State.SameDrive.safe ⟨rfl, rfl, rfl⟩) <| driveSafe_ite (h.trans t.resetStop_driveSafe) <| h.trans <|
    driveSafe_ite (driveSafe_ite (State.SameDrive.safe ?_) (.refl t)) <| driveSafe_ite (State.SameDrive.safe ⟨rfl, rfl, rfl⟩) (.refl t)
  simp [State.resetJam]

theorem State.sensePanel_driveSafe (x : Snapshot) : s.DriveSafe (s.sensePanel x) := by
  unfold State.sensePanel
  extract_lets t
  have h : s.DriveSafe t := .trans (State.SameDrive.safe (by simp)) (State.resetTick_driveSafe _ _)
  exact driveSafe_ite (h.trans (State.SameDrive.safe (by simp))) h

/-- The fall of the status line switches BOLT off at 40.00 µs of its tick (R289). -/
theorem State.lineFall_driveSafe (late : Bool) : s.DriveSafe (s.lineFall late) := by
  unfold State.lineFall
  split
  · exact .refl s
  · exact .of_off (by simp) (by simp)

theorem State.doRestart_driveSafe (i : SessId) (x : Session) : s.DriveSafe (s.doRestart i x).1 := by
  unfold State.doRestart
  split
  · exact .refl s
  · exact s.stop_driveSafe _

theorem State.doForm_driveSafe (r : Req) (x : Session) (q : Form) : s.DriveSafe (s.doForm r x q).1 := by
  cases q with
  | restart => exact s.doRestart_driveSafe r.sess x
  | _ => exact State.SameDrive.safe (by simp [State.doForm, State.doAck])

/-! ## One tick -/

theorem State.boltTick_driveSafe (x : Snapshot) (h : s.unit.running = true) : s.DriveSafe (s.boltTick x) := by
  refine .of_running ?_ (by simp [State.boltTick, h])
  simp only [State.boltTick, State.onLock_il]
  exact (LockRun.readback_latches ⟨s.il, []⟩ _).trans (LockRun.decide40_latches _ _)

theorem State.act_driveSafe (x : Snapshot) (h : s.unit.running = true) : s.DriveSafe (s.act x) := by
  have hb : s.DriveSafe (s.boltTick x) := s.boltTick_driveSafe x h
  refine hb.trans (State.SameDrive.safe ?_)
  unfold State.act
  generalize s.boltTick x = t
  simp [apply_ite]

theorem State.serveOne_driveSafe (q : Later) : s.DriveSafe (s.serveOne q) := by
  unfold State.serveOne
  split
  · exact .refl s
  · exact driveSafe_ite (.refl s) <| driveSafe_ite (s.keyway_driveSafe _) <|
      s.take_driveSafe _ _ _ _ fun y t => t.doForm_driveSafe q.req y q.form

theorem State.serveLater_driveSafe : s.DriveSafe s.serveLater := by
  unfold State.serveLater
  exact (s.keyway_driveSafe _).trans (foldl_driveSafe _ _ _ State.serveOne_driveSafe)

theorem State.nextTick_driveSafe (retick : Option Tick) : s.DriveSafe (s.nextTick retick) := by
  exact .trans (State.SameDrive.safe (by simp)) (State.serveLater_driveSafe _)

theorem State.compute_driveSafe (x : Snapshot) : s.DriveSafe (s.compute x) := by
  unfold State.compute
  split
  · exact .refl s
  extract_lets was side t f r u
  have ht : s.DriveSafe t := (State.SameDrive.safe s.stepOne_drive).trans (State.sensePanel_driveSafe _ x)
  split
  · exact ht
  next hrun =>
    have hu : t.SameDrive (u.noteLearnt was) := by simp [u, r, f, apply_ite]
    have hr : (u.noteLearnt was).unit.running = true := by rw [hu.2.2]; simpa using hrun
    exact ht.trans <| hu.safe.trans <| (State.act_driveSafe _ x hr).trans <| State.nextTick_driveSafe _ _

/-! ## Every command -/

@[simp] theorem State.onInterlock_drive (b : Bool) (f : LockRun → LockRun) (h : (f ⟨s.il, []⟩).il.bolt = s.il.bolt) :
    s.SameDrive (s.onInterlock b f) := by
  unfold State.onInterlock State.live
  split <;> simp [h]

@[simp] theorem State.pairFails_drive (p : PairId) : s.SameDrive (s.pairFails p) := by
  unfold State.pairFails
  dsimp only
  split <;> simp

@[simp] theorem State.saveRemap_drive (n : Nat) : s.SameDrive (s.saveRemap n) := by simp [State.saveRemap, apply_ite]

@[simp] theorem State.doAck_drive (i : SessId) (seq : Word) : s.SameDrive (s.doAck i seq).1 := by simp [State.doAck]

theorem State.parityIf_drive (b : Bool) (k : Nat) : s.SameDrive (if b = true then s.parityError k else s) := by split <;> simp

theorem State.resend_drive (k : PortId) (copyGood : Bool) (f : LinkRun → LinkIn → LinkRun) :
    s.SameDrive ((if copyGood then s else s.live s.cfg.loaded fun s => s.parityError 1).onLink k f) := by
  simp [apply_ite]

theorem execCfgApply_drive (r : Req) (b : BlockReq) (t : State) (h : execCfgApply r b s = .next t) : s.SameDrive t := by
  unfold execCfgApply at h
  rw [next_inj h]
  split <;> simp

theorem State.onInterlock_driveSafe (b : Bool) (f : LockRun → LockRun) (h : LockRun.Latches ⟨s.il, []⟩ (f ⟨s.il, []⟩)) :
    s.DriveSafe (s.onInterlock b f) :=
  s.live_driveSafe b _ fun hr => .of_running (by simpa using h) (by simpa using hr)

theorem State.coreTrap_driveSafe (cause : TrapCause) (late : Bool) : s.DriveSafe (s.coreTrap cause late) := by
  unfold State.coreTrap
  refine .trans (State.SameDrive.safe ?_) (State.lineFall_driveSafe _ late)
  cases cause <;> simp [apply_ite]

end

theorem exec_driveSafe (c : Instr) (s t : State) (hc : ∀ p, c ≠ .powerOn p) (h : exec c s = .next t) : s.DriveSafe t := by
  cases c with
  | powerOn p => exact absurd rfl (hc p)
  | holdupEnd => rw [next_inj h]; exact s.live_driveSafe _ _ fun _ => s.stop_driveSafe _
  | resetReleaseAccepted => rw [next_inj h]; exact s.live_driveSafe _ _ fun _ => s.resetRelease_driveSafe
  | computePhase x => rw [next_inj h]; exact s.compute_driveSafe x
  | coreTrap cause late => rw [next_inj h]; exact s.live_driveSafe _ _ fun _ => s.coreTrap_driveSafe cause late
  | restart r => rw [next_inj h]; exact s.serve_driveSafe r _ _ _ fun y t => t.doRestart_driveSafe r.sess y
  | boltTestCycle => rw [next_inj h]; exact s.onInterlock_driveSafe _ _ (LockRun.testStart_latches _ _)
  | boltTestFail => rw [next_inj h]; exact s.onInterlock_driveSafe _ _ (LockRun.latchOnce_latches _ _)
  | boltOverload => rw [next_inj h]; exact s.onInterlock_driveSafe _ _ (LockRun.latchOnce_latches _ _)
  | boltExtDriven =>
    rw [next_inj h]
    exact s.onInterlock_driveSafe _ _ (LockRun.latches_ite (LockRun.latches_of_bolt _ _ rfl rfl) (LockRun.latchOnce_latches _ _))
  | downstreamResend k copyGood => rw [next_inj h]; exact State.SameDrive.safe (s.resend_drive k copyGood _)
  | cfgApply r b => exact State.SameDrive.safe (execCfgApply_drive s r b t h)
  | copyFrame p fin st =>
    rw [next_inj h]
    exact State.SameDrive.safe (s.live_drive _ _ fun s => (s.parityIf_drive fin.parity 2).trans (by simp))
  | safeTgTimeout => rw [next_inj h]; exact State.SameDrive.safe (s.onInterlock_drive _ _ rfl)
  | boltChannelDiffer => rw [next_inj h]; exact s.onInterlock_driveSafe _ _ (LockRun.latchOnce_latches _ _)
  | _ => rw [next_inj h]; exact State.SameDrive.safe (by simp)

/-! ## A start -/

theorem State.rebuild_boltOff (s : State) (p : PowerUp) : BoltOff (s.rebuild p) := rfl

theorem State.powerOn_boltOff (s : State) (p : PowerUp) : BoltOff (s.powerOn p) := by
  have h : (s.rebuild p).startWarnings.il.bolt.switches = 0 := by
    have h := s.rebuild_boltOff p
    generalize s.rebuild p = q at h ⊢
    simpa [BoltOff] using h
  unfold State.powerOn BoltOff
  generalize (s.rebuild p).startWarnings = u at *
  dsimp only
  split
  · simpa using h
  · split <;> simpa using h

end Sys2Proof.Machine

open Sys2Proof Sys2Proof.Machine Sys2Proof.Safety

/-- Settles O5: every command but POWER_ON drives BOLT safely. -/
theorem latchedBoltFaultLasts : Obligations.LatchedBoltFaultLasts := by
  intro c s t hs hc h
  obtain ⟨⟨hbits, hoff⟩, -⟩ := exec_driveSafe c s t hc h
  refine ⟨hbits, fun hl => hoff hs fun ht => hl ?_⟩
  ext k hk
  have := hbits k
  simp_all

/-- Settles O4: a start has the switches off, and every other command drives BOLT safely. -/
theorem stepKeepsBoltOff : Obligations.StepKeepsBoltOff := by
  intro s t hstop hlatch h
  unfold step at h
  split at h
  · rw [next_inj h]; exact ⟨hstop, hlatch⟩
  next c rest _ =>
    by_cases hc : ∃ p, c = .powerOn p
    · obtain ⟨p, rfl⟩ := hc
      rw [next_inj h]
      exact ⟨fun _ => State.powerOn_boltOff _ p, fun _ => State.powerOn_boltOff _ p⟩
    · obtain ⟨hbolt, hst⟩ := exec_driveSafe c _ t (fun p e => hc ⟨p, e⟩) h
      exact ⟨hst hstop, hbolt.off hlatch⟩

end

section
/-! One operation of the interlock; the latched BOLT faults and the input pairs (R293 to R295, R300, R301). -/

namespace Sys2Proof.Machine
open Safety

/-! ## One operation of the interlock -/

section
variable {s : State} {f : LockRun → LockRun} {l : Interlock} {c : Code} {n : Nat} {d : Word}

theorem State.onLock_changes (s : State) (f : LockRun → LockRun) : Changes [.il] s (s.onLock f) := by
  refine ⟨fun p hp => ?_, s.onLock_quiet f⟩
  cases p
  case il | recorder | kw | trace | setNow => exact absurd (by simp [codes]) hp
  all_goals simp [Piece.Same, State.onLock]

theorem State.putLock_only (s : State) (l : Interlock) : Only [.il] s { s with il := l } := by
  intro p hp
  cases p
  case il => exact absurd List.mem_cons_self hp
  all_goals rfl

/-- An operation that raises no code changes the interlock alone. -/
theorem State.onLock_puts (run : f ⟨s.il, []⟩ = ⟨l, []⟩) : s.onLock f = { s with il := l } := by
  unfold State.onLock
  rw [run]
  exact State.deliver_nil _

theorem State.onLock_silent (run : f ⟨s.il, []⟩ = ⟨l, []⟩) : (s.onLock f).il = l ∧ Only [.il] s (s.onLock f) := by
  rw [State.onLock_puts run]
  exact ⟨rfl, s.putLock_only l⟩

/-- An operation that raises one code tells it. -/
theorem State.onLock_raises (run : f ⟨s.il, []⟩ = ⟨l, [⟨c, n, d⟩]⟩) (ne : c ≠ 0x4804) :
    (s.onLock f).il = l ∧ Tells s (s.onLock f) c n d ∧ Changes [.il] s (s.onLock f) := by
  refine ⟨by rw [State.onLock_il, run], ?_, s.onLock_changes f⟩
  exact (State.deliver_tells_first { s with il := (f ⟨s.il, []⟩).il } _ ⟨c, n, d⟩ (by rw [run]; rfl) ne).of rfl rfl

theorem State.onInterlock_pos {b : Bool} (f : LockRun → LockRun) (run : s.unit.running = true) (h : b = true) : s.onInterlock b f = s.onLock f :=
  State.live_pos run h

end

/-! ## BOLT (R293 to R295) -/

section
variable {s : State}

theorem LockRun.latchOnce_clear {r : LockRun} {k : Nat} (h : r.il.bolt.latched.getLsbD k = false) : r.latchOnce k = r.latch k :=
  if_neg (by rw [h]; decide)

theorem exec_boltTestCycle (run : s.unit.running = true) : exec .boltTestCycle s = .next (s.onLock fun r => r.testStart s.tick) :=
  congrArg Host.Outcome.next (State.onInterlock_pos _ run rfl)

theorem exec_boltTestFail (run : s.unit.running = true) (valid : s.io.sup.invalid = false) :
    exec .boltTestFail s = .next (s.onLock fun r => r.latchOnce 0) :=
  congrArg Host.Outcome.next (State.onInterlock_pos _ run (by rw [valid]; rfl))

theorem exec_boltOverload (run : s.unit.running = true) : exec .boltOverload s = .next (s.onLock fun r => r.latchOnce 1) :=
  congrArg Host.Outcome.next (State.onInterlock_pos _ run rfl)

theorem exec_boltExtDriven (run : s.unit.running = true) (valid : s.io.sup.invalid = false) :
    exec .boltExtDriven s =
      .next (s.onLock fun r => if s.hingeIn.pair then r.bolt fun b => { b with extSeen := true } else r.latchOnce 2) :=
  congrArg Host.Outcome.next (State.onInterlock_pos _ run (by rw [valid]; rfl))

theorem exec_boltChannelDiffer (run : s.unit.running = true) (st : s.unit.st = .run) (line : s.unit.coreLine = true) :
    exec .boltChannelDiffer s = .next (s.onLock fun r => r.latchOnce 3) :=
  congrArg Host.Outcome.next (State.onInterlock_pos _ run (by rw [st, line]; rfl))

/-- A fault that is not latched yet is latched with its event, and its code is told. -/
theorem State.latchOnce_effect {k : Nat} (h : s.il.bolt.latched.getLsbD k = false) (f : LockRun → LockRun) (hf : ∀ r, f r = r.latchOnce k) :
    (s.onLock f).il = { s.il with bolt := s.il.bolt.latch k } ∧ Tells s (s.onLock f) (latchCode k) 0xFF 0 ∧
      Changes [.il] s (s.onLock f) :=
  State.onLock_raises ((hf _).trans (LockRun.latchOnce_clear h)) (by unfold latchCode; (repeat' split) <;> decide)

end

/-! ## Pairs (R300, R301) -/

section
variable {s : State} {p : PairId}

/-- A pair found in discrepancy. -/
def Cfg.discrepant (c : Cfg) (p : PairId) (q : Pair) : Pair :=
  let n := max q.a.c (c.pairLimit p.val)
  { q with a := ⟨c.pairSafe p.val, n, true, 0⟩, maxCount := max q.maxCount n }

/-- A pair found restored. -/
def Cfg.restored (c : Cfg) (p : PairId) (q : Pair) : Pair := { q with a := ⟨c.pairSafe p.val, 0, false, 0⟩ }

theorem LockRun.discrepancyEvent_used {r : LockRun} {c : Cfg} (used : c.pairUsed p.val = true) (fine : (r.il.pairs[p]).a.disc = false) :
    r.discrepancyEvent c p =
      LockRun.pairDiscrepancy { r with il := { r.il with pairs := r.il.pairs.set p (c.discrepant p r.il.pairs[p]) } } p :=
  if_neg (by rw [used, fine]; decide)

theorem LockRun.restoredEvent_discrepant {r : LockRun} {c : Cfg} (disc : (r.il.pairs[p]).a.disc = true) :
    r.restoredEvent c p = LockRun.pairRestored { r with il := { r.il with pairs := r.il.pairs.set p (c.restored p r.il.pairs[p]) } } p :=
  if_neg (by rw [disc]; decide)

theorem State.discrepancyEvent_effect (used : s.cfg.eff.pairUsed p.val = true) (fine : (s.il.pairs[p]).a.disc = false) :
    (s.onLock fun r => r.discrepancyEvent s.cfg.eff p).il =
        { s.il with pairs := s.il.pairs.set p (s.cfg.eff.discrepant p s.il.pairs[p]), pairEvents := s.il.pairEvents ||| BitVec.ofNat 32 (2 ^ p.val) } ∧
      Tells s (s.onLock fun r => r.discrepancyEvent s.cfg.eff p) 0x4207 p.val 0 ∧
      Changes [.il] s (s.onLock fun r => r.discrepancyEvent s.cfg.eff p) :=
  State.onLock_raises (f := fun r => r.discrepancyEvent s.cfg.eff p) (LockRun.discrepancyEvent_used (r := ⟨s.il, []⟩) used fine) (by decide)

theorem State.restoredEvent_effect (disc : (s.il.pairs[p]).a.disc = true) :
    (s.onLock fun r => r.restoredEvent s.cfg.eff p).il =
        { s.il with pairs := s.il.pairs.set p (s.cfg.eff.restored p s.il.pairs[p]), safe := { s.il.safe with events := s.il.safe.events ||| 16#32 } } ∧
      Tells s (s.onLock fun r => r.restoredEvent s.cfg.eff p) 0x4208 p.val 0 ∧
      Changes [.il] s (s.onLock fun r => r.restoredEvent s.cfg.eff p) :=
  State.onLock_raises (f := fun r => r.restoredEvent s.cfg.eff p) (LockRun.restoredEvent_discrepant (r := ⟨s.il, []⟩) disc) (by decide)

/-- What a pair's largest count takes is noted, and nothing else. -/
theorem State.pairFails_notes (s : State) (p : PairId) : Only [.taken] (s.onLock fun r => r.discrepancyEvent s.cfg.eff p) (s.pairFails p) := by
  unfold State.pairFails
  dsimp only
  generalize (s.onLock fun r => r.discrepancyEvent s.cfg.eff p) = t
  intro q hq
  cases q
  case taken => exact absurd List.mem_cons_self hq
  all_goals split <;> rfl

theorem exec_pairDiscrepancy (run : s.unit.running = true) (valid : s.io.sup.invalid = false) :
    exec (.pairDiscrepancy p) s = .next (s.pairFails p) :=
  congrArg Host.Outcome.next (State.live_pos run (by rw [valid]; rfl))

theorem exec_pairRestored (run : s.unit.running = true) (valid : s.io.sup.invalid = false) :
    exec (.pairRestored p) s = .next (s.onLock fun r => r.restoredEvent s.cfg.eff p) :=
  congrArg Host.Outcome.next (State.onInterlock_pos _ run (by rw [valid]; rfl))

end

end Sys2Proof.Machine

open Sys2Proof Sys2Proof.Machine Sys2Proof.Safety

/-- Settles O46: each fault is latched once, with its code alone; each event of a pair changes that pair alone, with its code alone. -/
theorem boltAndPairFaults : Obligations.BoltAndPairFaults := by
  unfold Obligations.BoltAndPairFaults
  refine ⟨fun s run => ⟨?cycle, ?testFail, ?overload, ?driven, ?seen, ?differ⟩, fun s p run valid => ⟨?discrepancy, ?restored⟩⟩
  case cycle =>
    intro comb idle
    exact ⟨_, exec_boltTestCycle run, State.onLock_silent (if_pos (by simp [comb, idle]))⟩
  case testFail =>
    intro valid clear
    exact ⟨_, exec_boltTestFail run valid, State.latchOnce_effect clear _ fun _ => rfl⟩
  case overload =>
    intro clear
    exact ⟨_, exec_boltOverload run, State.latchOnce_effect clear _ fun _ => rfl⟩
  case driven =>
    intro valid clear alone
    exact ⟨_, exec_boltExtDriven run valid, State.latchOnce_effect clear _ fun _ => if_neg (by rw [alone]; decide)⟩
  case seen =>
    intro valid pair
    exact ⟨_, exec_boltExtDriven run valid, State.onLock_silent (if_pos pair)⟩
  case differ =>
    intro st line clear
    exact ⟨_, exec_boltChannelDiffer run st line, State.latchOnce_effect clear _ fun _ => rfl⟩
  case discrepancy =>
    intro used fine
    obtain ⟨il, tells, changes⟩ := State.discrepancyEvent_effect used fine
    have notes := s.pairFails_notes p
    have il' : (s.pairFails p).il = _ := (notes .il (by decide)).trans il
    refine ⟨_, exec_pairDiscrepancy run valid, ?_⟩
    rw [il']
    refine ⟨?_, ?_, fun j hj => set_get_ne _ _ _ _ hj, rfl, tells.grow (.rfl' (notes .kw (by decide))), ?_⟩
    · simp [Cfg.discrepant]
    · simp [Cfg.discrepant]
    · exact (changes.mono (by simp)).trans ((notes.changes (by decide)).mono (by simp))
  case restored =>
    intro disc
    obtain ⟨il, tells, changes⟩ := State.restoredEvent_effect disc
    refine ⟨_, exec_pairRestored run valid, ?_⟩
    rw [il]
    refine ⟨?_, ?_, fun j hj => set_get_ne _ _ _ _ hj, rfl, tells, changes⟩
    · simp [Cfg.restored]
    · simp [Cfg.restored]

end

section
/-! Copies of RELEASE telegrams, their pair wait and the time-out of the connection (R311 to R315). -/

namespace Sys2Proof.Machine
open Safety

/-! ## A copy against the last accepted telegram (R312) -/

/-- SEQ of a telegram (R307). -/
def seqOf (bs : List Byte) : BitVec 32 := BitVec.ofNat 32 (leAt bs 4 4)

/-- The copy's SEQ lies 1 to 64 after that of the last accepted telegram. -/
def SafeSt.Near (f : SafeSt) (bs : List Byte) : Prop := 1 ≤ (seqOf bs - f.seq).toNat ∧ (seqOf bs - f.seq).toNat ≤ 64

/-- The copy's delay has not changed by more than SAFE_MAX_DELAY_MS. -/
def SafeSt.Timely (f : SafeSt) (c : Cfg) (now : Tick) (bs : List Byte) : Prop :=
  ((now - f.tick) - (BitVec.ofNat 32 (leAt bs 8 4) - f.stamp)).toInt.natAbs ≤ msTicks (c.n F.safeMaxDelayMs 0)

/-- The copy passes the checks against the last accepted telegram, if there is one. -/
def SafeSt.New (f : SafeSt) (c : Cfg) (now : Tick) (bs : List Byte) : Prop := f.known = true → f.Near bs ∧ f.Timely c now bs

/-- A copy counted in SAFE_STALE. -/
def SafeSt.staled (f : SafeSt) : SafeSt := { f with stales := satN (f.stales + 1) 32 }

section
variable {r : LockRun} {c : Cfg} {now : Tick} {bus : BusId} {bs : List Byte} {off : Bool} {car : Nat} {w : TgWait}

/-- The first check of a copy fails. -/
def SafeSt.far (f : SafeSt) (bs : List Byte) : Bool :=
  f.known && !(decide (1 ≤ (seqOf bs - f.seq).toNat) && decide ((seqOf bs - f.seq).toNat ≤ 64))

/-- The second check of a copy fails. -/
def SafeSt.late (f : SafeSt) (c : Cfg) (now : Tick) (bs : List Byte) : Bool :=
  f.known && decide (msTicks (c.n F.safeMaxDelayMs 0) < ((now - f.tick) - (BitVec.ofNat 32 (leAt bs 8 4) - f.stamp)).toInt.natAbs)

theorem SafeSt.far_iff {f : SafeSt} : f.far bs = true ↔ f.known = true ∧ ¬ f.Near bs := by
  rw [SafeSt.far, Bool.and_eq_true, Bool.not_eq_true', ← Bool.decide_and, decide_eq_false_iff_not]
  rfl

theorem SafeSt.late_iff {f : SafeSt} : f.late c now bs = true ↔ f.known = true ∧ ¬ f.Timely c now bs := by
  rw [SafeSt.late, Bool.and_eq_true, decide_eq_true_iff, SafeSt.Timely, Nat.not_le]

theorem SafeSt.New.not_far {f : SafeSt} (new : f.New c now bs) : ¬ f.far bs = true := fun h =>
  have ⟨known, far⟩ := SafeSt.far_iff.1 h
  far (new known).1

theorem SafeSt.New.not_late {f : SafeSt} (new : f.New c now bs) : ¬ f.late c now bs = true := fun h =>
  have ⟨known, late⟩ := SafeSt.late_iff.1 h
  late (new known).2

theorem LockRun.copy_far (known : r.il.safe.known = true) (far : ¬ r.il.safe.Near bs) : r.copy c now bus bs off car = r.safe SafeSt.staled :=
  if_pos (SafeSt.far_iff.2 ⟨known, far⟩)

theorem LockRun.copy_late (known : r.il.safe.known = true) (near : r.il.safe.Near bs) (late : ¬ r.il.safe.Timely c now bs) :
    r.copy c now bus bs off car = r.safe fun f => { f with delayed := satN (f.delayed + 1) 32 } :=
  (if_neg fun far => (SafeSt.far_iff.1 far).2 near).trans (if_pos (SafeSt.late_iff.2 ⟨known, late⟩))

/-! ## A new copy and the pair wait (R313) -/

theorem LockRun.copy_first (new : r.il.safe.New c now bs) (idle : r.il.safe.wait = none) :
    r.copy c now bus bs off car = r.openWait c now bus bs off car := by
  unfold LockRun.copy
  exact (if_neg new.not_far).trans ((if_neg new.not_late).trans (by rw [idle]))

/-- The open wait decides about a new copy. -/
theorem LockRun.copy_second (new : r.il.safe.New c now bs) (wait : r.il.safe.wait = some w) : r.copy c now bus bs off car =
    if seqOf bs = w.seq then
      if bus = w.bus then r.safe SafeSt.staled
      else if bs = w.bytes then
        r.safe fun f => { (f.accept w.bytes w.tick car) with dual := satN (f.dual + 1) 32, single := false, expired := false }
      else (r.safe fun f => { f with wait := none, differ := true, differs := satN (f.differs + 1) 32 }).safeEvent 0 0x420A
    else if 0 < (seqOf bs - w.seq).toInt then (r.closeSingle c now car).openWait c now bus bs off car
    else r.safe SafeSt.staled := by
  unfold LockRun.copy
  exact (if_neg new.not_far).trans ((if_neg new.not_late).trans (by rw [wait]; rfl))

/-! ## Single acceptance (R314) -/

theorem LockRun.closeSingle_within (wait : r.il.safe.wait = some w) (single : r.il.safe.single = true)
    (within : since now r.il.safe.singleStart < msTicks (c.n F.safeSingleMaxMs 0)) :
    r.closeSingle c now car = r.safe fun f => { (f.accept w.bytes w.tick car) with singles := satN (f.singles + 1) 32 } := by
  unfold LockRun.closeSingle
  rw [wait]
  dsimp only
  rw [if_pos single, if_pos within]

theorem LockRun.closeSingle_begins (wait : r.il.safe.wait = some w) (dual : r.il.safe.single = false) (allowed : 0 < c.n F.safeSingleMaxMs 0) :
    r.closeSingle c now car =
      ((r.safe fun f => { f with single := true, expired := false, singleStart := now }).safeEvent 1 0x420B).safe
        fun f => { (f.accept w.bytes w.tick car) with singles := satN (f.singles + 1) 32 } := by
  have within : since now now < msTicks (c.n F.safeSingleMaxMs 0) := by simp [since, msTicks, allowed]
  unfold LockRun.closeSingle
  rw [wait]
  dsimp only
  rw [if_neg (Bool.eq_false_iff.1 dual)]
  exact if_pos within

theorem LockRun.closeSingle_expires (wait : r.il.safe.wait = some w) (single : r.il.safe.single = true) (first : r.il.safe.expired = false)
    (spent : msTicks (c.n F.safeSingleMaxMs 0) ≤ since now r.il.safe.singleStart) :
    r.closeSingle c now car = ((r.safe fun f => { f with wait := none }).safe fun f => { f with expired := true }).safeEvent 2 0x420C := by
  unfold LockRun.closeSingle
  rw [wait]
  dsimp only
  rw [if_pos single, if_neg (Nat.not_lt.2 spent)]
  exact if_neg (Bool.eq_false_iff.1 first)

theorem LockRun.openWait_both (both : off = false) :
    r.openWait c now bus bs off car = r.safe fun f => { f with wait := some ⟨seqOf bs, bus, now, bs⟩ } := by
  rw [both]
  rfl

/-- With the other bus off a copy closes its own wait. -/
theorem LockRun.openWait_alone (down : off = true) (single : r.il.safe.single = true)
    (within : since now r.il.safe.singleStart < msTicks (c.n F.safeSingleMaxMs 0)) : r.openWait c now bus bs off car =
      (r.safe fun f => { f with wait := some ⟨seqOf bs, bus, now, bs⟩ }).safe
        fun f => { (f.accept bs now car) with singles := satN (f.singles + 1) 32 } := by
  rw [down]
  exact LockRun.closeSingle_within (r := r.safe fun f => { f with wait := some ⟨seqOf bs, bus, now, bs⟩ }) rfl single within

/-- A higher copy closes the wait of a lower one, and opens its own. -/
theorem LockRun.copy_higher (new : r.il.safe.New c now bs) (wait : r.il.safe.wait = some w) (high : 0 < (seqOf bs - w.seq).toInt)
    (both : off = false) (single : r.il.safe.single = true)
    (within : since now r.il.safe.singleStart < msTicks (c.n F.safeSingleMaxMs 0)) : r.copy c now bus bs off car =
      (r.safe fun f => { (f.accept w.bytes w.tick car) with singles := satN (f.singles + 1) 32 }).safe
        fun f => { f with wait := some ⟨seqOf bs, bus, now, bs⟩ } := by
  have other : seqOf bs ≠ w.seq := fun e => absurd high (by rw [e, BitVec.sub_self]; decide)
  rw [LockRun.copy_second new wait, if_neg other, if_pos high, LockRun.closeSingle_within wait single within, LockRun.openWait_both both]

end

/-! ## The commands -/

section
variable {s : State} {bus : BusId} {fdf : Bool} {bytes : List Byte}

/-- The RELEASE telegram is valid by the image in use (R306, R311). -/
def State.releaseValid (s : State) (fdf : Bool) (bytes : List Byte) : Bool :=
  telegramValid (BitVec.ofNat 32 (s.cfg.eff.n F.safeConnId 0)) fdf 1 (s.cfg.eff.n F.safeRxSrc 0) bytes

/-- A valid copy as the interlock judges it. -/
def State.validCopy (s : State) (bus : BusId) (bytes : List Byte) (r : LockRun) : LockRun :=
  r.copy s.cfg.eff s.tick bus bytes (s.busOffs.getLsbD (1 - bus.val)) s.car

theorem exec_copy_invalid (run : s.unit.running = true) (op : operating s.unit.st = true) (src : s.cfg.eff.n F.safeRxSrc 0 < 512)
    (invalid : s.releaseValid fdf bytes = false) :
    ∃ t, exec (.safeTelegramCopy bus fdf bytes) s = .next t ∧
      t.il = { s.il with safe := { s.il.safe with codeErr := satN (s.il.safe.codeErr + 1) 32 } } ∧ Only [.il] s t :=
  ⟨s.releaseCopy bus fdf bytes, congrArg Host.Outcome.next (State.live_pos run (by simp [op, src])),
    State.onLock_silent (if_neg (by unfold State.releaseValid at invalid; rw [invalid]; decide))⟩

theorem exec_copy_valid (run : s.unit.running = true) (op : operating s.unit.st = true) (src : s.cfg.eff.n F.safeRxSrc 0 < 512)
    (valid : s.releaseValid fdf bytes = true) :
    exec (.safeTelegramCopy bus fdf bytes) s = .next (s.onLock (s.validCopy bus bytes)) := by
  refine (congrArg Host.Outcome.next (State.live_pos run (by simp [op, src]))).trans (congrArg (fun f => Host.Outcome.next (s.onLock f)) ?_)
  exact funext fun r => if_pos valid

theorem exec_pairWaitDeadline (run : s.unit.running = true) :
    exec .pairWaitDeadline s = .next (s.onLock fun r => r.closeSingle s.cfg.eff s.tick s.car) :=
  congrArg Host.Outcome.next (State.onInterlock_pos _ run rfl)

theorem exec_safeTgTimeout (run : s.unit.running = true) (fresh : s.il.safe.fresh = true) :
    exec .safeTgTimeout s = .next (s.onLock LockRun.timeout) :=
  congrArg Host.Outcome.next (State.onInterlock_pos _ run fresh)

end

end Sys2Proof.Machine

open Sys2Proof Sys2Proof.Machine Sys2Proof.Safety

/-- Settles O48: the checks of a copy in their order, then the open wait, single acceptance and the time-out. -/
theorem releaseTelegrams : Obligations.ReleaseTelegrams := by
  unfold Obligations.ReleaseTelegrams
  refine ⟨fun s bus fdf bytes run op src => ?copy, fun s w run wait => ⟨fun dual allowed => ?begins, fun single first spent => ?expires⟩,
    fun s run fresh => ?timeout⟩
  case copy =>
    intro valid seq stamp f near timely new off stale
    have exec' : valid = true → _ := exec_copy_valid (bus := bus) (bytes := bytes) (fdf := fdf) run op src
    have passes : new → valid = true ∧ s.il.safe.New s.cfg.eff s.tick bytes := id
    have judged : ∀ {l}, s.validCopy bus bytes ⟨s.il, []⟩ = ⟨l, []⟩ → _ := State.onLock_silent (s := s) (f := s.validCopy bus bytes)
    refine ⟨fun invalid => exec_copy_invalid run op src invalid, fun ok known far => ⟨_, exec' ok, judged (LockRun.copy_far known far)⟩,
      fun ok known near late => ⟨_, exec' ok, judged (LockRun.copy_late known near late)⟩, ?first, ?alone, ?twin, ?unequal, ?again, ?higher⟩
    case first =>
      intro new idle both
      obtain ⟨ok, isNew⟩ := passes new
      exact ⟨_, exec' ok, judged ((LockRun.copy_first isNew idle).trans (congrArg (LockRun.openWait _ _ _ _ _ · _) both))⟩
    case alone =>
      intro new idle down single within
      obtain ⟨ok, isNew⟩ := passes new
      obtain ⟨il, only⟩ := judged ((LockRun.copy_first isNew idle).trans (LockRun.openWait_alone down single within))
      refine ⟨_, exec' ok, ?_⟩
      rw [il]
      exact ⟨rfl, rfl, rfl, rfl, rfl, rfl, rfl, only⟩
    case twin =>
      intro w new wait same bus' equal
      obtain ⟨ok, isNew⟩ := passes new
      obtain ⟨il, only⟩ := judged ((LockRun.copy_second isNew wait).trans
        ((if_pos same.symm).trans ((if_neg (Ne.symm bus')).trans (if_pos equal.symm))))
      refine ⟨_, exec' ok, ?_⟩
      rw [il]
      exact ⟨rfl, rfl, rfl, congrArg seqOf equal, congrArg (fun b => BitVec.ofNat 32 (leAt b 8 4)) equal, rfl,
        congrArg (fun b => BitVec.ofNat 3 (leAt b 12 1)) equal, rfl, rfl, rfl, rfl, rfl, only⟩
    case unequal =>
      intro w new wait same bus' unequal
      obtain ⟨ok, isNew⟩ := passes new
      exact ⟨_, exec' ok, State.onLock_raises ((LockRun.copy_second (r := ⟨s.il, []⟩) isNew wait).trans
        ((if_pos same.symm).trans ((if_neg (Ne.symm bus')).trans (if_neg (Ne.symm unequal))))) (by decide)⟩
    case again =>
      intro w new wait old
      obtain ⟨ok, isNew⟩ := passes new
      refine ⟨_, exec' ok, judged ((LockRun.copy_second isNew wait).trans ?_)⟩
      obtain ⟨same, bus'⟩ | ⟨other, low⟩ := old
      · exact (if_pos same.symm).trans (if_pos bus'.symm)
      · exact (if_neg (Ne.symm other)).trans (if_neg low)
    case higher =>
      intro w new wait _ high both single within
      obtain ⟨ok, isNew⟩ := passes new
      obtain ⟨il, only⟩ := judged (LockRun.copy_higher isNew wait high both single within)
      refine ⟨_, exec' ok, ?_⟩
      rw [il]
      exact ⟨rfl, rfl, rfl, rfl, rfl, rfl, only⟩
  case begins =>
    obtain ⟨il, tells, changes⟩ := State.onLock_raises (f := fun r => r.closeSingle s.cfg.eff s.tick s.car)
      (LockRun.closeSingle_begins (r := ⟨s.il, []⟩) wait dual allowed) (by decide)
    refine ⟨_, exec_pairWaitDeadline run, ?_⟩
    rw [il]
    exact ⟨rfl, rfl, rfl, rfl, rfl, rfl, rfl, tells, changes⟩
  case expires =>
    exact ⟨_, exec_pairWaitDeadline run, State.onLock_raises (f := fun r => r.closeSingle s.cfg.eff s.tick s.car)
      (LockRun.closeSingle_expires (r := ⟨s.il, []⟩) wait single first spent) (by decide)⟩
  case timeout => exact ⟨_, exec_safeTgTimeout run fresh, State.onLock_raises (f := LockRun.timeout) rfl (by decide)⟩

end

section
/-! DOOR_STATE telegrams: what a module sends, and what a telegram of its own address does (R306, R307, R310, R355, R391). -/

namespace Sys2Proof.Machine
open Safety

/-! ## A telegram for buffer 0 (R310, R355) -/

/-- Buffer 0 rewritten with a telegram that is to be sent. -/
def TxBuf.rewritten (x : TxBuf) (id : Nat) (brs : Bool) (bs : List Byte) : TxBuf :=
  { x with st := .pending, aborting := false, id := BitVec.ofNat 32 (id + 2 ^ 30), fmt := BitVec.ofNat 32 (13 + 16 + if brs then 32 else 0),
           data := dataWords bs }

/-- The controller with a telegram posted: it waits for the attempt in progress, or stands in buffer 0. -/
def Can.posted (c : Can) (id : Nat) (brs : Bool) (bs : List Byte) : Can :=
  if (c.tx[(0 : Fin 3)]).st = .sending then { c with next0 := some bs }
  else { c with tx := c.tx.set 0 ((c.tx[(0 : Fin 3)]).rewritten id brs bs) }

/-- A telegram that is posted replaces an unsent one. -/
def Can.replaces (c : Can) : Bool :=
  (c.tx[(0 : Fin 3)]).st == .pending || (c.tx[(0 : Fin 3)]).st == .sending && c.next0.isSome

theorem CanRun.post0_eq (c : Can) (id : Nat) (brs : Bool) (bs : List Byte) :
    (⟨c, []⟩ : CanRun).post0 id brs bs = (⟨c.posted id brs bs, []⟩, c.replaces) := by
  unfold CanRun.post0 Can.posted Can.replaces
  dsimp only
  cases (c.tx[(0 : Fin 3)]).st <;> rfl

/-- Overruns of the telegrams sent, with one more where a telegram is replaced. -/
def SafeSt.overrun (f : SafeSt) (replaced : Bool) : SafeSt := if replaced then { f with txOverrun := satN (f.txOverrun + 1) 32 } else f

theorem SafeSt.overrun_overrun (f : SafeSt) (a b : Bool) : (f.overrun a).overrun b = { f with txOverrun :=
    (if a && b then satN (satN (f.txOverrun + 1) 32 + 1) 32 else if a || b then satN (f.txOverrun + 1) 32 else f.txOverrun) } := by
  cases a <;> cases b <;> rfl

section
variable (s : State)

/-- A telegram posted on one bus. -/
def State.posts (s : State) (id : Nat) (bs : List Byte) (brs : Bool) (b : BusId) : State :=
  { s with can := s.can.set b ((s.can[b]).posted id brs bs), il := { s.il with safe := s.il.safe.overrun (s.can[b]).replaces } }

/-- The DOOR_STATE telegram that is due (R307, R309). -/
def State.doorStateBytes (s : State) : List Byte :=
  telegram (BitVec.ofNat 32 (s.cfg.eff.n F.safeConnId 0)) 2 s.addr s.il.safe.txNext s.tick s.doorStateData

/-- The next sequence number is taken. -/
def State.numbered (s : State) : State :=
  { s with il := { s.il with safe := { s.il.safe with txSeq := s.il.safe.txNext, txNext := s.il.safe.txNext + 1 } } }

theorem State.overrun_puts (replaced : Bool) :
    (if replaced then s.onLock fun r => r.safe fun f => { f with txOverrun := satN (f.txOverrun + 1) 32 } else s) =
      { s with il := { s.il with safe := s.il.safe.overrun replaced } } := by
  cases replaced with
  | true => exact State.onLock_puts (f := fun r => r.safe fun f => { f with txOverrun := satN (f.txOverrun + 1) 32 }) rfl
  | false => rfl

theorem State.doorStateSend_eq : s.doorStateSend =
    (fins 2).foldl (fun t b => t.posts (safeId (s.cfg.eff.n F.safeCanBase 0) 2 t.addr) s.doorStateBytes (busBrs s.cfg.eff b.val) b) s.numbered := by
  unfold State.doorStateSend
  refine congrArg (fun f => (fins 2).foldl f s.numbered) (funext fun t => funext fun b => ?_)
  dsimp only
  rw [CanRun.post0_eq]
  dsimp only
  rw [State.deliver_nil]
  exact State.overrun_puts _ _

theorem State.doorStateSend_posts : s.doorStateSend =
    (s.numbered.posts (safeId (s.cfg.eff.n F.safeCanBase 0) 2 s.addr) s.doorStateBytes (busBrs s.cfg.eff 0) 0).posts
      (safeId (s.cfg.eff.n F.safeCanBase 0) 2 s.addr) s.doorStateBytes (busBrs s.cfg.eff 1) 1 := s.doorStateSend_eq

theorem State.doorStateSend_can (b : BusId) : s.doorStateSend.can[b] =
    (s.can[b]).posted (safeId (s.cfg.eff.n F.safeCanBase 0) 2 s.addr) (busBrs s.cfg.eff b.val) s.doorStateBytes := by
  rw [State.doorStateSend_posts]
  revert b
  refine Fin.forall_fin_two.2 ⟨?_, ?_⟩
  · exact (set_get_ne _ 1 0 _ (by decide)).trans (by simp [State.posts, State.numbered])
  · simp [State.posts, State.numbered]

theorem State.doorStateSend_il : s.doorStateSend.il = { s.il with safe :=
    (s.numbered.il.safe.overrun (s.can[(0 : BusId)]).replaces).overrun (s.can[(1 : BusId)]).replaces } := by
  rw [State.doorStateSend_posts]
  simp [State.posts, State.numbered]

theorem State.posts_only (id : Nat) (bs : List Byte) (brs : Bool) (b : BusId) : Only [.il, .can] s (s.posts id bs brs b) := by
  intro p hp
  cases p
  case il | can => exact absurd (by simp) hp
  all_goals rfl

theorem State.doorStateSend_only : Only [.il, .can] s s.doorStateSend := by
  rw [State.doorStateSend_posts]
  exact ((s.putLock_only _).mono (by simp)).trans ((State.posts_only _ _ _ _ _).trans (State.posts_only _ _ _ _ _))

/-! ## A holder of the lease yields (R391, R460) -/

@[simp] theorem Keyway.holder_sess (k : Keyway) (x : Vector (Option Session) 8) (c : Block) : Keyway.holder { k with sess := x } c = k.holder c := by
  cases c <;> rfl

theorem Keyway.setHolder_holder (k : Keyway) (b c : Block) (h : Option SessId) : (k.setHolder b h).holder c = if c = b then h else k.holder c := by
  cases b <;> cases c <;> simp [Keyway.setHolder, Keyway.holder]
  all_goals
    rw [Vector.getElem_set]
    exact if_congr (by rw [Fin.ext_iff]; exact eq_comm) rfl rfl

theorem State.claimLost_holder (i : SessId) (b c : Block) : (s.claimLost i b).kw.holder c = s.kw.holder c := by
  have h : (s.raise 0x4804 0xFF (BitVec.ofNat 32 b.code)).kw.holder c = s.kw.holder c := by
    rw [(s.raise_quiet _ _ _).kw, Keyway.holder_sess]
  exact (Keyway.holder_sess _ _ c).trans h

/-- A claim that ends leaves every other claim. -/
theorem State.endClaim_holder (b c : Block) : (s.endClaim b).kw.holder c = if c = b then none else s.kw.holder c := by
  unfold State.endClaim
  split
  next free =>
    split
    next e => rw [e]; exact free
    next => rfl
  next i held =>
    have ends := (s.dropShadows b).kw.setHolder_holder b c none
    rw [(show (s.dropShadows b).kw = s.kw by simp)] at ends
    dsimp only
    split
    · rw [State.claimLost_holder]
      simpa using ends
    · simpa using ends

theorem State.endClaims_none (bs : List Block) (c : Block) (h : s.kw.holder c = none) : (s.endClaims bs).kw.holder c = none := by
  induction bs generalizing s with
  | nil => exact h
  | cons b bs ih => exact ih _ (by rw [State.endClaim_holder, h, ite_self])

theorem State.endClaims_holder (bs : List Block) (c : Block) (h : c ∈ bs) : (s.endClaims bs).kw.holder c = none := by
  induction bs generalizing s with
  | nil => cases h
  | cons b bs ih =>
    obtain rfl | tail := List.mem_cons.1 h
    · exact State.endClaims_none _ bs c (by rw [State.endClaim_holder, if_pos rfl])
    · exact ih _ tail

theorem mem_allBlocks (b : Block) : b ∈ allBlocks := by
  cases b <;> simp [allBlocks, mem_fins]

theorem Session.push_queue (x : Session) (t : Tick) (e : Raised) : x.queue <+: (x.push t e).queue := by
  unfold Session.push
  split
  · exact List.prefix_refl _
  · exact List.prefix_append _ _

theorem State.push_grows (i : SessId) (t : Tick) (e : Raised) :
    Grows s { s with kw := { s.kw with sess := vmod s.kw.sess i fun x => x.map fun x => x.push t e } } := by
  intro j x hx
  by_cases h : j = i
  · subst h
    exact ⟨x.push t e, (vmod_get _ _ _).trans (by rw [hx]; rfl), x.push_queue t e⟩
  · exact ⟨x, (vmod_get_ne _ _ _ _ h).trans hx, List.prefix_refl _⟩

theorem State.claimLost_grows (i : SessId) (b : Block) : Grows s (s.claimLost i b) :=
  (s.raise_grows _ _ _).trans (State.push_grows _ _ _ _)

theorem State.endClaim_grows (b : Block) : Grows s (s.endClaim b) := by
  unfold State.endClaim
  split
  · exact .rfl' rfl
  next i _ =>
    dsimp only
    have ends : Grows s { s.dropShadows b with kw := (s.dropShadows b).kw.setHolder b none } :=
      fun j x hx => ⟨x, by simpa using hx, List.prefix_refl _⟩
    split
    · exact ends.trans (State.claimLost_grows _ _ _)
    · exact ends

theorem State.endClaims_grows (bs : List Block) : Grows s (s.endClaims bs) := Grows.foldl State.endClaim_grows bs s

theorem State.yieldLease_only : Only ([.hinge, .cfg] ++ codes) s s.yieldLease := by
  intro p hp
  cases p
  case hinge | cfg | recorder | kw | trace | setNow => exact absurd (by simp [codes]) hp
  all_goals simp [Piece.Same]

theorem State.yieldLease_hinge : s.yieldLease.hinge.role = .standby ∧ s.yieldLease.hinge.lease = false := by
  have h : s.yieldLease.hinge = (s.onHinge fun r i => r.yield i).hinge := by simp [State.yieldLease]
  rw [h, State.onHinge_hinge]
  exact ⟨rfl, rfl⟩

theorem State.yieldLease_tells : TellsAfter s s.yieldLease 0x4506 0xFF 0 :=
  ((State.onHinge_tells (f := fun r i => r.yield i) rfl (by decide)).grow (State.endClaims_grows _ _)).after

theorem State.yieldLease_claims (b : Block) : s.yieldLease.kw.holder b = none := State.endClaims_holder _ _ _ (mem_allBlocks b)

end

/-! ## A telegram of the own address (R370, R391) -/

section
variable {s : State}

theorem HingeRun.yieldCause_mono {r : HingeRun} {i : HingeIn} {lost : BitVec 32} (h : r.yieldCause i lost = false) : r.yieldCause i 0 = false := by
  simp only [HingeRun.yieldCause, Bool.or_eq_false_iff] at h ⊢
  exact ⟨h.1, by simp [HingeRun.y5]⟩

theorem State.foreignDoorState_unleased (h : s.hinge.leases s.hingeIn = false) : s.foreignDoorState = s := if_pos (by rw [h]; rfl)

theorem State.foreignDoorState_yields (h : s.hinge.leases s.hingeIn = true)
    (why : s.hingeIn.heldHere s.hinge.epoch < quorum s.cfg.eff ∨ (⟨s.hinge, [], none⟩ : HingeRun).yieldCause s.hingeIn s.lostNow = true) :
    s.foreignDoorState = if s.hingeIn.pair then s.yieldLease else s :=
  (if_neg (by rw [h]; decide)).trans (if_pos (by rw [Bool.or_eq_true, decide_eq_true_iff]; exact why))

theorem State.foreignDoorState_keeps (h : s.hinge.leases s.hingeIn = true) (q : quorum s.cfg.eff ≤ s.hingeIn.heldHere s.hinge.epoch)
    (uncaused : (⟨s.hinge, [], none⟩ : HingeRun).yieldCause s.hingeIn s.lostNow = false) :
    s.foreignDoorState = s.onHinge HingeRun.doorState := by
  refine (if_neg (by rw [h]; decide)).trans (if_neg ?_)
  rw [uncaused, Bool.or_false, decide_eq_true_iff]
  exact Nat.not_lt.2 q

theorem HingeRun.doorState_splits {r : HingeRun} {i : HingeIn} (h : r.h.leases i = true) (q : quorum i.cfg ≤ i.heldHere r.h.epoch)
    (uncaused : r.yieldCause i 0 = false) : r.doorState i = (r.upd fun h => { h with split := true }).event 6 0x4507 := by
  refine (if_neg (by rw [h]; decide)).trans (if_neg ?_)
  rw [uncaused, Bool.or_false, decide_eq_true_iff]
  exact Nat.not_lt.2 q

theorem State.foreignDoorState_only : Only ([.hinge, .cfg] ++ codes) s s.foreignDoorState := by
  intro p hp
  cases p
  case hinge | cfg | recorder | kw | trace | setNow => exact absurd (by simp [codes]) hp
  all_goals simp [Piece.Same]

/-! ## The commands -/

theorem exec_doorStateSend (run : s.unit.running = true) (op : operating s.unit.st = true) (leads : s.leads = true) :
    exec .doorStateSend s = .next s.doorStateSend :=
  congrArg Host.Outcome.next (State.live_pos run (by rw [op, leads]; rfl))

theorem exec_doorStateReceived (run : s.unit.running = true) (op : operating s.unit.st = true) (fdf : Bool) (bytes : List Byte) :
    exec (.doorStateReceived fdf bytes) s = .next (s.doorStateCopy fdf bytes) :=
  congrArg Host.Outcome.next (State.live_pos run op)

/-- The DOOR_STATE telegram is valid by the image in use (R306, R311). -/
def State.doorStateValid (s : State) (fdf : Bool) (bytes : List Byte) : Bool :=
  telegramValid (BitVec.ofNat 32 (s.cfg.eff.n F.safeConnId 0)) fdf 2 s.addr bytes

/-- ROLE in a DOOR_STATE telegram is ACTIVE or ALONE (R309). -/
abbrev Leading (bytes : List Byte) : Prop :=
  leAt bytes 19 1 / 16 % 4 = Role.active.code ∨ leAt bytes 19 1 / 16 % 4 = Role.alone.code

/-- A STANDBY has noted the SEQ of a telegram (R310). -/
def State.notes (s : State) (bytes : List Byte) : State :=
  { s with il := { s.il with safe := { s.il.safe with partnerSeq := some (laterSeq s.il.safe.partnerSeq (BitVec.ofNat 32 (leAt bytes 4 4))) } } }

section
variable {fdf : Bool} {bytes : List Byte}

theorem State.doorStateCopy_invalid (invalid : s.doorStateValid fdf bytes = false) :
    s.doorStateCopy fdf bytes = s.onLock fun r => r.safe fun f => { f with codeErr := satN (f.codeErr + 1) 32 } :=
  if_neg (Bool.eq_false_iff.1 invalid)

theorem State.doorStateCopy_standby (valid : s.doorStateValid fdf bytes = true) (role : s.hinge.role = .standby) :
    s.doorStateCopy fdf bytes = if Leading bytes then (s.notes bytes).foreignDoorState else s.notes bytes := by
  have noted : (s.onLock fun r => r.safe fun f => { f with partnerSeq := some (laterSeq f.partnerSeq (BitVec.ofNat 32 (leAt bytes 4 4))) }) =
      s.notes bytes := State.onLock_puts (f := fun r => r.safe fun f => { f with partnerSeq := some (laterSeq f.partnerSeq _) }) rfl
  refine (if_pos valid).trans ?_
  dsimp only
  rw [if_pos (show s.standby = true from beq_iff_eq.2 role), noted]

theorem State.doorStateCopy_other (valid : s.doorStateValid fdf bytes = true) (role : s.hinge.role ≠ .standby) :
    s.doorStateCopy fdf bytes = if Leading bytes then s.foreignDoorState else s := by
  refine (if_pos valid).trans ?_
  dsimp only
  rw [if_neg (show ¬ s.standby = true from fun e => role (beq_iff_eq.1 e))]

/-- A telegram that does not lead, and one that reaches a module without a lease, change nothing more. -/
theorem State.foreign_still (still : s.hinge.leases s.hingeIn = false ∨ ¬ Leading bytes) :
    (if Leading bytes then s.foreignDoorState else s) = s := by
  split
  next leading => exact State.foreignDoorState_unleased (still.resolve_right (not_not_intro leading))
  next => rfl

theorem State.foreign_only (bytes : List Byte) :
    (if Leading bytes then s.foreignDoorState else s).il = s.il ∧
      Only ([.hinge, .cfg] ++ codes) s (if Leading bytes then s.foreignDoorState else s) := by
  split
  · exact ⟨State.foreignDoorState_only .il (by decide), State.foreignDoorState_only⟩
  · exact ⟨rfl, fun p _ => by cases p <;> rfl⟩

end

end

end Sys2Proof.Machine

open Sys2Proof Sys2Proof.Machine Sys2Proof.Safety

/-- Settles O49: a telegram sent is posted on one bus after the other; a telegram received is checked, noted by a STANDBY, and obeyed by
a holder of the lease. -/
theorem doorStateTelegrams : Obligations.DoorStateTelegrams := by
  unfold Obligations.DoorStateTelegrams
  refine ⟨fun s run op leads => ⟨_, exec_doorStateSend run op leads, ⟨?sentSeq, ?sentCan⟩, s.doorStateSend_only⟩, fun s idle => ?silent,
    fun s fdf bytes idle => ?deaf, fun s fdf bytes run op => ?received⟩
  case sentSeq =>
    exact s.doorStateSend_il.trans (congrArg (fun f => { s.il with safe := f }) (SafeSt.overrun_overrun _ _ _))
  case sentCan =>
    intro b
    rw [State.doorStateSend_can]
    exact ⟨fun sending => if_pos sending, fun idle => if_neg idle⟩
  case silent =>
    refine congrArg Host.Outcome.next (if_neg ?_)
    obtain h | h | h := idle <;> simp [h]
  case deaf =>
    refine congrArg Host.Outcome.next (if_neg ?_)
    obtain h | h := idle <;> simp [h]
  case received =>
    have exec' := exec_doorStateReceived run op fdf bytes
    refine ⟨fun invalid => ?invalid, fun valid role => ?standby, fun valid role leases leading why => ⟨fun pair => ?yields, fun alone => ?single⟩,
      fun valid role leases leading held uncaused => ?split, fun valid role still => ?still⟩
    case invalid =>
      rw [exec', State.doorStateCopy_invalid invalid]
      exact ⟨_, rfl, State.onLock_silent rfl⟩
    case standby =>
      rw [exec', State.doorStateCopy_standby valid role]
      obtain ⟨il, only⟩ := (s.notes bytes).foreign_only bytes
      have noted : Only [.il] s (s.notes bytes) := s.putLock_only _
      refine ⟨_, rfl, il, fun still => ?_, (noted.mono (by simp)).trans (only.mono fun p hp => List.mem_cons_of_mem _ hp)⟩
      rw [State.foreign_still (s := s.notes bytes) still]
      exact noted
    case yields =>
      rw [exec', State.doorStateCopy_other valid role, if_pos leading, State.foreignDoorState_yields leases why, if_pos pair]
      exact ⟨_, rfl, s.yieldLease_hinge.1, s.yieldLease_hinge.2, s.yieldLease_claims, s.yieldLease_tells, s.yieldLease_only⟩
    case single =>
      rw [exec', State.doorStateCopy_other valid role, if_pos leading, State.foreignDoorState_yields leases why, if_neg (Bool.eq_false_iff.1 alone)]
    case split =>
      rw [exec', State.doorStateCopy_other valid role, if_pos leading, State.foreignDoorState_keeps leases held uncaused]
      have run := HingeRun.doorState_splits (r := ⟨s.hinge, [], none⟩) (i := s.hingeIn) leases held (HingeRun.yieldCause_mono uncaused)
      exact ⟨_, rfl, State.onHinge_becomes run, State.onHinge_tells (congrArg HingeRun.ev run) (by decide), s.onHinge_changes _⟩
    case still =>
      rw [exec', State.doorStateCopy_other valid role, State.foreign_still still]

end
